-- ==== Sys2Proof/Word.lean ====
section
/-! DEFINITION.  The word types of the block (R223, R246: everything a packet carries is a
32-bit word) and the two sparse containers the state is built from: a table of like things
indexed by number, and the ring arithmetic of wrapping counters. -/

namespace Sys2Proof

/-- A 32-bit word of a packet, of a parameter element or of a harness frame (R5, R223). -/
abbrev Word := BitVec 32

/-- One octet. -/
abbrev Byte := BitVec 8

/-- A number as a 32-bit word, modulo 2³². -/
abbrev word (n : Nat) : Word := BitVec.ofNat 32 n

/-- A signed number as a 32-bit word, two's complement (R246: signed formats travel
sign-extended). -/
abbrev wordI (n : Int) : Word := BitVec.ofInt 32 n

/-- A table of like things indexed by number: every index holds `dflt` but those listed.
The list is kept in rising index order and lists no entry equal to `dflt`, so that equal
tables are equal data. -/
structure Tab (α : Type) where
  dflt : α
  cells : List (Nat × α)
  deriving DecidableEq, Repr

/-- The entry listed under `k`, if any. -/
def Tab.look {α : Type} (k : Nat) : List (Nat × α) → Option α
  | [] => none
  | (j, a) :: rest => if j = k then some a else Tab.look k rest

/-- The list without an entry under `k`. -/
def Tab.drop {α : Type} (k : Nat) : List (Nat × α) → List (Nat × α)
  | [] => []
  | (j, a) :: rest => if j = k then Tab.drop k rest else (j, a) :: Tab.drop k rest

/-- Place `a` under `k`, in rising index order. -/
def Tab.place {α : Type} (k : Nat) (a : α) : List (Nat × α) → List (Nat × α)
  | [] => [(k, a)]
  | (j, b) :: rest =>
    if k < j then (k, a) :: (j, b) :: rest
    else if j = k then (k, a) :: rest
    else (j, b) :: Tab.place k a rest

/-- A table with the same entry at every index. -/
def Tab.const {α : Type} (a : α) : Tab α := ⟨a, []⟩

/-- The entry at index `k`. -/
def Tab.get {α : Type} (t : Tab α) (k : Nat) : α := (Tab.look k t.cells).getD t.dflt

/-- The table with entry `a` at index `k`; writing the default removes the entry. -/
def Tab.set {α : Type} [DecidableEq α] (t : Tab α) (k : Nat) (a : α) : Tab α :=
  if a = t.dflt then { t with cells := Tab.drop k t.cells }
  else { t with cells := Tab.place k a t.cells }

/-- The table with `f` applied to the entry at index `k`. -/
def Tab.modify {α : Type} [DecidableEq α] (t : Tab α) (k : Nat) (f : α → α) : Tab α :=
  t.set k (f (t.get k))

/-- The canonical form: indexes strictly rising, no entry equal to the default. -/
def Tab.wf {α : Type} [DecidableEq α] (t : Tab α) : Bool :=
  (t.cells.zip t.cells.tail).all (fun p => p.1.1 < p.2.1) && t.cells.all (fun p => p.2 ≠ t.dflt)

end Sys2Proof
end

