-- ==== Sys2Proof/Syntax.lean ====
section
/-! DEFINITION.  The commands of the block: the one inductive `Instr`, one constructor per row
of the command table, and the types of their operands.  A command is an event the spec names
(a boundary, a deadline, an edge on a pin, a frame on a bus) or the interpretation of the
bridle packet that waits at the front of a transport's inbound queue. -/

namespace Sys2Proof

/-- The four transports of bridle packets, in the order of R22 and R248. -/
inductive Transport where
  | host | service | uplink | relay
  deriving DecidableEq, Repr

/-- One octet on SV_RXD and whether its framing was good (R227). -/
structure LineOctet where
  octet : Byte
  framed : Bool
  deriving DecidableEq, Repr

/-! ### Cassettes (R341) -/

/-- The maker part of a cassette's identity block (R341, words 1 to 26). -/
structure MakerPart where
  dies : Nat
  serialHi : Word
  serialLo : Word
  pageKiB : Nat
  spareOctets : Nat
  tlcPages : Nat
  pslcPages : Nat
  blocksPerDie : Nat
  hasTemperature : Bool
  highestMode : Nat
  largestOffset : Nat
  tlcEndurance : Nat
  pslcEndurance : Nat
  pslcProgramUs : Nat
  tlcProgramUs : Nat
  activationMeV : Nat
  crossShift : Int
  /-- the eight retry vectors of seven signed octets -/
  retry : List (List Int)
  deriving DecidableEq, Repr

/-- The set part of a cassette's identity block (R341, words 33 to 38). -/
structure SetPart where
  setId : Word
  generation : Nat
  formatter : Word × Word
  formatTime : Nat
  deriving DecidableEq, Repr

/-- What a cassette shows when it is identified (R339, R341, R354): its identity block, the
NV-DDR2 mode agreed (0xFF SDR), its temperature in 0.01 °C, and the factory bad blocks found per
kind. -/
structure CassetteReport where
  maker : Option MakerPart
  set : Option SetPart
  mode : Nat
  temperature : Int
  factoryBadPslc : Nat
  factoryBadTlc : Nat
  deriving DecidableEq, Repr


/-! ### Relay frames (R321, R325) -/

/-- A frame received from a node: the radio that heard it (0 RFA, 1 RFB), the sender's short address,
frame counter, key index, the key it was secured under, the start of its first preamble bit against
the start expected without drift in µs, and its octets from the relay header on. -/
structure RadioFrame where
  radio : Nat
  source : Nat
  counter : Nat
  keyIndex : Nat
  key : Nat
  arrivalUs : Int
  payload : List Nat
  deriving DecidableEq, Repr

/-- A hitch request (R324 type 0x4): extended address, the key it was secured under, kind, relays,
channel count, requested period, node nonce, and whether it came flooded. -/
structure HitchRequest where
  eui : Nat
  key : Nat
  kind : Nat
  relays : Bool
  channels : Nat
  period : Nat
  nonce : Nat
  flooded : Bool
  deriving DecidableEq, Repr

/-! ### Ethernet frames (R269 to R276, R288) -/

/-- The data set of an Announce message (R288: default data set comparison). -/
structure AnnounceFields where
  priority1 : Nat
  clockClass : Nat
  accuracy : Nat
  variance : Nat
  priority2 : Nat
  grandmaster : Nat
  stepsRemoved : Nat
  utcOffset : Int
  utcValid : Bool
  leap61 : Bool
  deriving DecidableEq, Repr

/-- A PTP message (R288): messageType, version, domain, two-step flag, correctionField in 2⁻¹⁶ ns,
sourcePortIdentity, sequenceId, logMessageInterval, its timestamp in ns, whether it is a response to a
request of this module, and the fields of an Announce. -/
structure PtpMessage where
  messageType : Nat
  version : Nat
  domain : Nat
  twoStep : Bool
  correction : Int
  source : Nat
  sequence : Nat
  interval : Int
  timeNs : Int
  toMe : Bool
  announce : Option AnnounceFields
  annexC : Bool
  deriving DecidableEq, Repr

/-- The IEEE 802.3 EEE TLV of an LLDPDU, in 0.1 µs (R268): the transmit Tw the sender advertises, the receive Tw it
requests, what it grants of its partner's request, and the partner's values echoed. -/
structure EeeTlv where
  transmit : Nat
  receive : Nat
  granted : Nat
  echoTransmit : Nat
  echoReceive : Nat
  deriving DecidableEq, Repr

/-- What a frame carries, as far as the module looks into it (R268 to R271, R273, R276). -/
inductive FrameBody where
  | ptp (m : PtpMessage)
  /-- supervision frame of IEC 62439-3: the source it announces -/
  | supervision (mac : Nat)
  /-- LLDPDU: time-to-live in s, chassis ID and port ID as MAC addresses, the system name in words of four octets,
  and the EEE TLV -/
  | lldp (ttl chassis portId : Nat) (name : List Word) (eee : Option EeeTlv)
  /-- ARP: operation 1 request, 2 reply; sender and target addresses -/
  | arp (op senderIp senderMac targetIp : Nat)
  /-- ICMP echo: operation 8 request, 0 reply; addresses and octets of data -/
  | icmp (op source dest : Nat) (octets : List Nat)
  /-- UDP datagram: addresses and ports, payload words, octets beyond the last whole word -/
  | udp (source sourcePort dest destPort : Nat) (words : List Word) (extra : Nat)
  /-- an IPv4 datagram of another protocol -/
  | ipOther
  /-- an IPv4 fragment, or a datagram whose IP or UDP checksum fails -/
  | ipBad
  /-- IEEE 802.3 Annex 31B PAUSE -/
  | pause
  | other
  deriving DecidableEq, Repr

/-- An Ethernet frame (R269): addresses, length in octets with FCS, whether its FCS is good, VLAN
identifier and priority, HSR tag sequence, PRP trailer sequence and LAN (0 A, 1 B). -/
structure Frame where
  dest : Nat
  source : Nat
  length : Nat
  fcsGood : Bool
  vlan : Option (Nat × Nat)
  hsr : Option Nat
  prp : Option (Nat × Nat)
  body : FrameBody
  deriving DecidableEq, Repr


/-! ### Sense bitstreams (R59 to R66) -/

/-- A stretch of a lane's bitstream in the order of its bits, as runs of one value: the value and how many bits
(R59, R60).  Bit i of n is sampled n − i bit times before the instant of the command. -/
abbrev LaneBits := List (Bool × Nat)
/-! ### Tandem link (R420 to R429) -/

/-- What every link message carries before its body, and the outcome of its tag check (R392, R420). -/
structure LinkHead where
  counter : Nat
  tagGood : Bool
  octets : Nat
  deriving DecidableEq, Repr

/-- A hello, or an answer that echoes the partner's nonce (R421, R429). -/
structure HelloMessage where
  answer : Bool
  nonce : Nat
  serial : Nat
  precedence : Bool
  leads : Bool
  lit : Bool
  variant : Nat
  /-- tandem copy format it sends, and the oldest it reads -/
  sends : Nat
  reads : Nat
  ip : Nat
  imageCrc : Word
  deriving DecidableEq, Repr

/-- A commit block (R424): commit count; the targets of teams with their rung, as 5 words (R246); the rung-5
value and fade time of channels; the targets of remote teams; latched θ_f in 2⁻³² of 0.01 °C and trim of
channels; derating factors of teams; proving grants with the count from which they hold. -/
structure CommitBlock where
  count : Nat
  teams : List (Nat × Nat × List Word)
  channels : List (Nat × Option (Nat × Option Nat))
  remotes : List (Nat × Nat × List Word)
  latched : List (Nat × Int × Nat)
  derates : List (Nat × Nat)
  grants : List (Nat × Nat × Bool)
  deriving DecidableEq, Repr

/-- One item of a state copy (R425). -/
inductive CopyItem where
  /-- outputs with qualities, and state words (R510), of the cell of a stable identifier -/
  | cell (sid : Nat) (outs : List (Int × Nat)) (state : List Word)
  /-- all forces: stable identifier, port, expiry count, value words -/
  | forces (fs : List (Nat × Nat × Option Nat × List Word))
  | channelOverride (ch : Nat) (o : Option (Nat × Option Nat))
  | teamOverride (team : Nat) (words : Option (List Word))
  /-- the journal in order: stable identifier, type constant, index, value of each entry -/
  | journal (es : List (Nat × Bool × Nat × Int))
  /-- an element of a parameter -/
  | element (id e : Nat) (w : Word)
  /-- a fade in flight: λ, λ₀, λ₁, s, S, and its colours as a form and quotients -/
  | fade (team lam lam0 lam1 step steps : Nat) (colours : List (Option (Nat × List (Int × Nat))))
  /-- residue and gather count of a channel at the period start of the last commit -/
  | residue (ch : Nat) (res : Int) (gather : Nat)
  /-- acceptance outcome of a bank's scan in the slot at a free-running count, and whether it was a repeat -/
  | acceptance (bank slot : Nat) (accepted repeated : Bool)
  /-- prediction entry of a team, in spine steps of the count -/
  | prediction (team : Nat) (p : Option (Int × Int))
  | nodeCounters (node : Nat) (counters : List (Nat × Nat))
  /-- queued target of a remote team -/
  | queued (rt : Nat) (form2 : Bool) (q : Option (Nat × List Nat))
  /-- words of a program image, for the active image or for staging; the last ones complete it -/
  | chunk (active last : Bool) (offset : Nat) (ws : List Word)
  /-- the staged image of this CRC became the active one at the cycle's boundary -/
  | swap (crc : Word)
  /-- words of a firmware image under its digest (R412); the last ones complete it -/
  | firmware (offset : Nat) (last : Bool) (digest ws : List Word)
  /-- a resynchronisation begins: every item follows in full, in this copy and the next ones (R425) -/
  | full
  deriving DecidableEq, Repr

/-- A key transfer (R396): a load by slot, attribute word, key and check value, or an invalidation. -/
inductive KeyTransfer where
  | load (slot : Nat) (attributes : Word) (key : Nat) (check : Word)
  | invalidate (slot : Nat)
  /-- the wheeler's confirmation -/
  | confirm
  deriving DecidableEq, Repr

/-- The commands of the block, one constructor per row of the command table.  `t` is the
instant of the command in spine steps of 1.25 ns (R14). -/
inductive Instr where
  /-- CYCLE_BOUNDARY, R18: at each cycle boundary the module freezes the snapshot, applies boundary commands and starts the rein graph. -/
  | cycleBoundary (t : Nat)
  /-- CELL_COMPLETE, R161: A draught core completes a cell, raises the flags of its out-edges and requests the next ready cell. -/
  | cellComplete (t : Nat) (core : Nat)
  /-- BACK_PRESSURE_WAIT, R164: A source waiting on a full ready list places its raise once room appears. -/
  | backPressureWait (t : Nat) (source : Nat)
  /-- CELL_OVERLONG, R167: A cell run beyond 2 ms completes with invalid outputs and its core is reset. -/
  | cellOverlong (t : Nat) (core : Nat)
  /-- CELL_PARITY_ERROR, R167: A parity error completes the cell with outputs unchanged and invalid and records a fault. -/
  | cellParityError (t : Nat) (core : Nat)
  /-- COMMIT, R24: when the graph is quiescent the module commits targets to the drive engine and relay and makes outputs visible. -/
  | commit (t : Nat) (speed : Nat)
  /-- OVERRUN, R25: A boundary falls due while steps 1 to 4 are still running, counting an overrun. -/
  | overrun (t : Nat)
  /-- HOUSEKEEPING, R18: the service core transfers metering, stages waybill records and schedules archive writes for a committed record. -/
  | housekeeping (t : Nat)
  /-- SPINE_UNLOCK, R14: A spine error above 0.3 ns for 16 periods stops DRV generation at period ends and records a critical event. -/
  | spineUnlock (t : Nat) (error : Nat)
  /-- SPINE_RELOCK, R14: after 1,024 locked periods each bank is set to resume with a state request. -/
  | spineRelock (t : Nat)
  /-- TCXO_LOSS, R15: absence of TCXO edges for 2 µs stops DRV generation as for an unlock. -/
  | tcxoLoss (t : Nat)
  /-- TCXO_RETURN, R15: the return of the TCXO causes a cold restart. -/
  | tcxoReturn (t : Nat)
  /-- BANK_PERIOD_START, R35: at a bank period start targets apply, fades step, the colour stage runs and a period mark is sent. -/
  | bankPeriodStart (t : Nat) (bank : Nat)
  /-- LANE_PULSE_START, R36: at a lane period start the split decides the lane's on-time for the period. -/
  | lanePulseStart (t : Nat) (ch : Nat)
  /-- EXTRA_PERIOD_MARK, R37: marks at old-period instants are sent until the card acknowledges the new period. -/
  | extraPeriodMark (t : Nat) (bank : Nat)
  /-- AMPLITUDE_EPOCH, R43: at a lane's amplitude epoch the drive engine switches to the new commanded amplitude. -/
  | amplitudeEpoch (t : Nat) (ch : Nat)
  /-- EMLT_RISE, R52: A rising EMLT edge sets every DRV pad to its emergency state within 5 ns and puts rung 1 in force. -/
  | emltRise (t : Nat)
  /-- EMLT_FALL, R54: EMLT going low starts the release count. -/
  | emltFall (t : Nat)
  /-- EMLT_RELEASE, R54: after EMLT has stayed low for the release time rung 1 ends and banks resume without fade. -/
  | emltRelease (t : Nat)
  /-- PRIMARY_TRANSACTION, R125: every 1 ms at the bank offset the module opens a primary transaction and sends the setpoint frame. -/
  | primaryTransaction (t : Nat) (bank : Nat) (lanes : List LaneBits) (din : List Bool)
  /-- ACKNOWLEDGEMENT, R137: the card's acknowledgement word decides whether new amplitudes apply or a repeat runs. -/
  | acknowledgement (t : Nat) (bank : Nat) (w : Word)
  /-- REPEAT_TRANSACTION, R137: at t_s + 500 µs the module repeats the setpoint frame after a failed acknowledgement or readback. -/
  | repeatTransaction (t : Nat) (bank : Nat) (din : List Bool)
  /-- READBACK_FRAME, R130: at HBSELn_N rising the readback frame completes the card scan record. -/
  | readbackFrame (t : Nat) (bank : Nat) (words : List Word)
  /-- DECIMATOR_SAMPLE, R63: each sinc3 decimator delivers a current sample. -/
  | decimatorSample (t : Nat) (ch : Nat) (bits : LaneBits)
  /-- STREAM_STUCK, R62: 64 identical sense bits mark the stream stuck and invalid. -/
  | streamStuck (t : Nat) (ch : Nat)
  /-- STREAM_VALID_AGAIN, R62: 1,024 bits without a run above 16 make the stream valid again. -/
  | streamValidAgain (t : Nat) (ch : Nat)
  /-- ZERO_STALE, R66: 600 s without a zero update sets zero_stale. -/
  | zeroStale (t : Nat) (ch : Nat)
  /-- LOOP_LIMIT_WARNING, R69: A channel held in DAC or card limit for 10 s causes a warning record. -/
  | loopLimitWarning (t : Nat) (ch : Nat)
  /-- MINUTE_CLOSE, R76: every 60 s the module closes the minute block of all channels into the buffer. -/
  | minuteClose (t : Nat)
  /-- METER_TOTALS_RECORD, R79: energy totals are recorded in the settings generation at most hourly. -/
  | meterTotalsRecord (t : Nat)
  /-- SETTINGS_RECORD, R259: marked persistent elements are recorded in the active settings generation within 10 s. -/
  | settingsRecord (t : Nat)
  /-- PROVING_WINDOW_EXPIRY, R83: A channel without evidence within its window reads unproven. -/
  | provingWindowExpiry (t : Nat) (ch : Nat)
  /-- CARD_FAULT_STATE, R88: FLTn_N low for 10 ms without lane marks sets the bank's channels unproven and stops proving. -/
  | cardFaultState (t : Nat) (bank : Nat)
  /-- DERATE_BLIND, R100: 10 s without a valid team temperature limits the derating target to the blind factor. -/
  | derateBlind (t : Nat) (team : Nat)
  /-- NO_TEMP_TIMEOUT, R107: 10 s without a valid temperature holds the filtered temperature and sets no_temp. -/
  | noTempTimeout (t : Nat) (team : Nat)
  /-- TRIM_UPDATE, R117: once per trim period the service core updates the team's sensor trims. -/
  | trimUpdate (t : Nat) (team : Nat)
  /-- TRIM_LIMITED_WARNING, R117: A team trim-limited for 10 min causes a warning record. -/
  | trimLimitedWarning (t : Nat) (team : Nat)
  /-- FAULT_LINE_CHANGE, R142: A change on FLTn_N of a bank with a card is recognised and acted on. -/
  | faultLineChange (t : Nat) (bank : Nat) (high : Bool)
  /-- CARD_ENUMERATION, R145: FLTn_N high for 10 ms starts training, identification, configuration and enabling of a card. -/
  | cardEnumeration (t : Nat) (bank : Nat) (passes : List Bool) (ident : List Nat)
  /-- ENUMERATION_RETRY, R144: A refused card is enumerated again every 10 s. -/
  | enumerationRetry (t : Nat) (bank : Nat)
  /-- CARD_LOST, R138: consecutive primaries without a valid readback make the card lost or removed. -/
  | cardLost (t : Nat) (bank : Nat)
  /-- BANK_RESUME, R140: after the state readback a stopped bank resumes marks and DRV from the reported light. -/
  | bankResume (t : Nat) (bank : Nat)
  /-- POLE_CONFLICT, R436: ten primaries of pole_conflict while the partner is lost release POLE. -/
  | poleConflict (t : Nat)
  /-- FORCE_EXPIRY, R187: A force whose hold time has passed is released at the next boundary. -/
  | forceExpiry (t : Nat)
  /-- WARM_RESTART_READY, R202: after a warm restart the runtime is ready and the next boundary runs the graph. -/
  | warmRestartReady (t : Nat)
  /-- COLD_RESTART_RESET, R202: after the ride-through wait D5 restarts with cold parameters and enumeration begins. -/
  | coldRestartReset (t : Nat) (vin : Nat) (failed : List Nat)
  /-- ENUMERATION_WAIT_END, R202: 500 ms after reset the first boundary is taken even if banks are still enumerating. -/
  | enumerationWaitEnd (t : Nat)
  /-- PACKET_DISCARD, R226: A packet failing check 1 is discarded without reply. -/
  | packetDiscard (t : Nat) (tr : Transport)
  /-- UNASSIGNED_OPCODE, R246: A packet with an unassigned opcode is answered ST_UNKNOWN_OP. -/
  | unassignedOpcode (t : Nat) (tr : Transport)
  /-- SESSION_OPEN, R237: opens a provisional session with a role, key slot and nonces. -/
  | sessionOpen (t : Nat) (tr : Transport) (nonce : List Word)
  /-- SESSION_PROVE, R237: proves a provisional session with a key-derived proof. -/
  | sessionProve (t : Nat) (tr : Transport)
  /-- SESSION_CLOSE, R238: closes the session and discards its tickets and replay cache. -/
  | sessionClose (t : Nat) (tr : Transport)
  /-- RESULT, R244: reads the result held under a ticket. -/
  | result (t : Nat) (tr : Transport)
  /-- PING, R247: echoes its words with role, tandem role and build. -/
  | ping (t : Nat) (tr : Transport)
  /-- SESSION_LIST, R247: lists open sessions with transport, role and tickets. -/
  | sessionList (t : Nat) (tr : Transport)
  /-- GET, R255: returns a run of parameter elements taken at one instant. -/
  | get (t : Nat) (tr : Transport)
  /-- SET, R246: writes a run of elements of a parameter with no behaviour of its own, all or nothing. -/
  | set (t : Nat) (tr : Transport)
  /-- FORCE, R187: forces an output port of a cell to a value with a hold time. -/
  | force (t : Nat) (tr : Transport)
  /-- RELEASE, R190: releases a force or every force. -/
  | release (t : Nat) (tr : Transport)
  /-- DESCRIBE, R257: returns a parameter's format, access, count, flags and mnemonic. -/
  | describe (t : Nat) (tr : Transport)
  /-- CHANNEL_SET, R247: holds channels at rung 5 with given levels. -/
  | channelSet (t : Nat) (tr : Transport)
  /-- CHANNEL_CLEAR, R247: clears channel overrides of rung 5. -/
  | channelClear (t : Nat) (tr : Transport)
  /-- TEAM_SET, R247: holds a team at rung 5 with a team target. -/
  | teamSet (t : Nat) (tr : Transport)
  /-- TEAM_CLEAR, R247: clears team overrides of rung 5. -/
  | teamClear (t : Nat) (tr : Transport)
  /-- TEAM_READ, R247: returns level, colour, rung and fade state of teams. -/
  | teamRead (t : Nat) (tr : Transport)
  /-- PROG_LOAD, R509: writes a chunk of a graph image into staging and validates it at the last chunk. -/
  | progLoad (t : Nat) (tr : Transport)
  /-- PROG_SWAP, R191: replaces the active graph with the validated staged image at a boundary. -/
  | progSwap (t : Nat) (tr : Transport)
  /-- PROG_REVERT, R191: copies the previous image into staging. -/
  | progRevert (t : Nat) (tr : Transport)
  /-- PROG_CONST, R183: changes one port or type constant of a cell and journals it. -/
  | progConst (t : Nat) (tr : Transport)
  /-- PROG_STATE, R183: changes one state item of a timer, PI or HYST cell. -/
  | progState (t : Nat) (tr : Transport)
  /-- PROG_READ, R510: returns a cell's outputs, forced values and state words. -/
  | progRead (t : Nat) (tr : Transport)
  /-- PROG_RESTART, R201: restarts the graph warm or cold at its place in the acceptance order. -/
  | progRestart (t : Nat) (tr : Transport)
  /-- PROG_UPLOAD, R247: returns words of the active, staged or previous image. -/
  | progUpload (t : Nat) (tr : Transport)
  /-- TIME_READ, R247: returns local clock, time quality and calendar. -/
  | timeRead (t : Nat) (tr : Transport)
  /-- TIME_SET, R293: steps or slews the local clock to a commanded time. -/
  | timeSet (t : Nat) (tr : Transport)
  /-- SCHED_LOAD, R303: writes a schedule table. -/
  | schedLoad (t : Nat) (tr : Transport)
  /-- SCHED_READ, R247: returns a schedule table's entries. -/
  | schedRead (t : Nat) (tr : Transport)
  /-- WAKE_SET, R300: sets the wake timer period. -/
  | wakeSet (t : Nat) (tr : Transport)
  /-- WB_READ, R371: returns whole waybill records in index order. -/
  | wbRead (t : Nat) (tr : Transport)
  /-- WB_FREEZE, R369: freezes or releases the waybill. -/
  | wbFreeze (t : Nat) (tr : Transport)
  /-- WB_CLEAR, R372: empties the waybill and stores a WB_CLEARED record. -/
  | wbClear (t : Nat) (tr : Transport)
  /-- WB_SNAPSET, R365: writes one whole snapshot set. -/
  | wbSnapset (t : Nat) (tr : Transport)
  /-- ARCHIVE_INFO, R247: returns the archive's oldest and newest block times and count. -/
  | archiveInfo (t : Nat) (tr : Transport)
  /-- ARCHIVE_READ, R352: returns the archived minute block whose span contains a time. -/
  | archiveRead (t : Nat) (tr : Transport)
  /-- METER_TOTALS, R247: returns both halves of channel energy totals read together. -/
  | meterTotals (t : Nat) (tr : Transport)
  /-- RELAY_NODES, R247: returns address, kind, state and age of node contexts. -/
  | relayNodes (t : Nat) (tr : Transport)
  /-- RELAY_PERMIT, R325: opens the joining window for unknown nodes. -/
  | relayPermit (t : Nat) (tr : Transport)
  /-- RELAY_EVICT, R326: sends a leave message and frees a node context. -/
  | relayEvict (t : Nat) (tr : Transport)
  /-- KEY_INFO, R247: returns a key slot's attributes, state and check value. -/
  | keyInfo (t : Nat) (tr : Transport)
  /-- KEY_LOAD, R387: unwraps a key blob into a slot's inactive half. -/
  | keyLoad (t : Nat) (tr : Transport)
  /-- KEY_INVALIDATE, R389: invalidates a slot and orphans its descendants. -/
  | keyInvalidate (t : Nat) (tr : Transport)
  /-- LIFECYCLE, R393: moves the module between life-cycle states. -/
  | lifecycle (t : Nat) (tr : Transport)
  /-- UPD_OPEN, R403: opens an update session and erases the staging region. -/
  | updOpen (t : Nat) (tr : Transport)
  /-- UPD_DATA, R405: writes image words into staging at the expected offset. -/
  | updData (t : Nat) (tr : Transport)
  /-- UPD_COMMIT, R406: checks the staged image and copies it into the waiting slot. -/
  | updCommit (t : Nat) (tr : Transport)
  /-- UPD_ABORT, R408: closes the update session. -/
  | updAbort (t : Nat) (tr : Transport)
  /-- UPD_STATUS, R247: returns update state, source, digest and words received. -/
  | updStatus (t : Nat) (tr : Transport)
  /-- TANDEM_STATUS, R439: returns role, partner state, heartbeat age and copy size. -/
  | tandemStatus (t : Nat) (tr : Transport)
  /-- TANDEM_YIELD, R437: hands the lead to the wheeler at a boundary. -/
  | tandemYield (t : Nat) (tr : Transport)
  /-- POWER_TOLERANCE, R454: writes the host latency tolerance and returns the chosen power state. -/
  | powerTolerance (t : Nat) (tr : Transport)
  /-- POWER_STATUS, R247: returns power state, shed step, VIN and core voltage. -/
  | powerStatus (t : Nat) (tr : Transport)
  /-- TEST_START, R474: starts a pattern test on a link instance at a boundary. -/
  | testStart (t : Nat) (tr : Transport)
  /-- TEST_READ, R469: returns the bit, bit-error and word-error counts of a link. -/
  | testRead (t : Nat) (tr : Transport)
  /-- TEST_STOP, R475: ends a pattern test and returns its final counts. -/
  | testStop (t : Nat) (tr : Transport)
  /-- PERIOD_WRITE, R37: A SET of drv.period_ns changes a bank's PWM period at the boundary. -/
  | periodWrite (t : Nat) (tr : Transport)
  /-- STAGGER_WRITE, R35: A SET of drv.stagger_mode changes bank offset and lane phases at the boundary. -/
  | staggerWrite (t : Nat) (tr : Transport)
  /-- TEAM_SIZE_WRITE, R50: A SET of drv.team_size redefines teams at the boundary. -/
  | teamSizeWrite (t : Nat) (tr : Transport)
  /-- DIM_MODE_WRITE, R45: A SET of drv.dim_mode changes a team's dimming mode at its next epoch. -/
  | dimModeWrite (t : Nat) (tr : Transport)
  /-- DECIM_RATIO_WRITE, R63: A SET of sns.decim_ratio restarts the bank's decimators at the new ratio. -/
  | decimRatioWrite (t : Nat) (tr : Transport)
  /-- GAIN_EST_WRITE, R256: A SET of sns.gain_est is clamped and applied between loop updates. -/
  | gainEstWrite (t : Nat) (tr : Transport)
  /-- VF_REF_WRITE, R86: A SET of diag.vf_ref_mv installs a baseline or starts relearning. -/
  | vfRefWrite (t : Nat) (tr : Transport)
  /-- COLOUR_METHOD_WRITE, R105: A SET of colour.method changes the correction at the boundary. -/
  | colourMethodWrite (t : Nat) (tr : Transport)
  /-- FLUX_REFERENCE_RECOMPUTE, R109: A change of a flux, profile, headroom or CCT-range input recomputes Y_ref. -/
  | fluxReferenceRecompute (t : Nat) (tr : Transport)
  /-- SENSOR_CAL_WRITE, R116: A write of 1 to colour.sensor_cal arms a calibration. -/
  | sensorCalWrite (t : Nat) (tr : Transport)
  /-- CYCLE_TIME_WRITE, R181: A SET of prog.cycle_ms moves the next boundary to the new cycle time. -/
  | cycleTimeWrite (t : Nat) (tr : Transport)
  /-- POD_ZONE_WRITE, R206: A SET of pres.pod_zone places a pod in a zone at the boundary. -/
  | podZoneWrite (t : Nat) (tr : Transport)
  /-- EDGE_ENDPOINT_WRITE, R212: A SET of an edge's from or to team resets its learned time at the boundary. -/
  | edgeEndpointWrite (t : Nat) (tr : Transport)
  /-- EDGE_BOUNDS_WRITE, R212: A SET of transit bounds moves a learned time into the new bounds. -/
  | edgeBoundsWrite (t : Nat) (tr : Transport)
  /-- EDGE_HEADING_WRITE, R212: A SET of out.edge_heading changes an edge's heading mask at the boundary. -/
  | edgeHeadingWrite (t : Nat) (tr : Transport)
  /-- EDGE_TAU_WRITE, R212: A SET of out.edge_tau_us seeds or unlearns an edge. -/
  | edgeTauWrite (t : Nat) (tr : Transport)
  /-- HP_EVENT_CLEAR, R249: A write of 1 clears bits of cmd.hp_event. -/
  | hpEventClear (t : Nat) (tr : Transport)
  /-- RING_MODE_WRITE, R279: A SET of net.ring_mode flushes queues, clears tables and restarts both PHYs. -/
  | ringModeWrite (t : Nat) (tr : Transport)
  /-- IP_ADDRESS_WRITE, R270: A SET of address, mask or gateway takes effect after its reply. -/
  | ipAddressWrite (t : Nat) (tr : Transport)
  /-- CALENDAR_WRITE, R297: A SET of time.cal adjusts the clock to a real date or runs an irregular calendar. -/
  | calendarWrite (t : Nat) (tr : Transport)
  /-- TZ_OFFSET_WRITE, R296: A SET of time.tz_offset_min rewrites the calendar. -/
  | tzOffsetWrite (t : Nat) (tr : Transport)
  /-- WAKE_PERIOD_WRITE, R300: A SET of time.wake_period restarts the wake timer. -/
  | wakePeriodWrite (t : Nat) (tr : Transport)
  /-- ALARM_WRITE, R301: A write of an alarm's target, period or armed bit re-arms it and fires it late if passed. -/
  | alarmWrite (t : Nat) (tr : Transport)
  /-- RELAY_CONFIG_WRITE, R335: A SET of rate, PAN, exclusions, slotframe or shared slots is announced and applied at an ASN. -/
  | relayConfigWrite (t : Nat) (tr : Transport)
  /-- RT_FALLBACK_WRITE, R328: A SET of a remote team's fallback queues a form-2 target. -/
  | rtFallbackWrite (t : Nat) (tr : Transport)
  /-- TANDEM_ENABLE_WRITE, R418: A SET of tdm.enable changes the tandem role at the boundary. -/
  | tandemEnableWrite (t : Nat) (tr : Transport)
  /-- TOLERANCE_WRITE, R454: A SET of pwr.tolerance_us re-evaluates the power state. -/
  | toleranceWrite (t : Nat) (tr : Transport)
  /-- EJECT_WRITE, R356: A write of 1 to sb.eject removes a cassette in an orderly way. -/
  | ejectWrite (t : Nat) (tr : Transport)
  /-- ADOPT_WRITE, R353: A write of 1 to sb.adopt formats and resilvers a foreign cassette. -/
  | adoptWrite (t : Nat) (tr : Transport)
  /-- SNAPSET_WRITE, R365: A SET of wb.snapset writes single snapshot entry words. -/
  | snapsetWrite (t : Nat) (tr : Transport)
  /-- TAMPER_CFG_WRITE, R393: A SET of key.tamper_cfg changes tamper enables and levels. -/
  | tamperCfgWrite (t : Nat) (tr : Transport)
  /-- TAMPER_LATCH_CLEAR, R398: A write of 1 clears a tamper latch while its input is inactive. -/
  | tamperLatchClear (t : Nat) (tr : Transport)
  /-- UPD_CONFIRM_WRITE, R409: A write of 1 to upd.confirm confirms the image on probation. -/
  | updConfirmWrite (t : Nat) (tr : Transport)
  /-- UPD_FALLBACK_WRITE, R410: A write of 1 to upd.fallback falls back to the previous image. -/
  | updFallbackWrite (t : Nat) (tr : Transport)
  /-- SWITCH_NOW_WRITE, R407: A write of 1 to upd.switch_now releases a deferred image switch. -/
  | switchNowWrite (t : Nat) (tr : Transport)
  /-- ENTER_FARRIER_WRITE, R414: A write of 1 to upd.enter_farrier cold-restarts into farrier mode. -/
  | enterFarrierWrite (t : Nat) (tr : Transport)
  /-- SPI_NOP, R228: A host-port transaction that only returns the status word. -/
  | spiNop (t : Nat) (octet : Nat)
  /-- SPI_WRITE, R228: A host-port transaction writes 40-bit words into the inbound queue. -/
  | spiWrite (t : Nat) (count : Nat) (words : List (BitVec 40)) (cut : Bool)
  /-- SPI_READ, R228: A host-port transaction reads words from the outbound queue. -/
  | spiRead (t : Nat) (count : Nat) (clocked : Nat) (cut : Bool)
  /-- FLUSH_IN, R234: discards the inbound queue and may enter drain-to-end. -/
  | flushIn (t : Nat)
  /-- FLUSH_OUT, R234: discards the outbound queue and may enter drain-to-end. -/
  | flushOut (t : Nat)
  /-- REPLY_ENQUEUE, R236: A waiting reply is written whole once the outbound queue has room. -/
  | replyEnqueue (t : Nat) (tr : Transport)
  /-- REPLY_DROP, R236: A reply waiting 60 s is dropped and its result kept under its ticket. -/
  | replyDrop (t : Nat) (tr : Transport)
  /-- TICKET_EXPIRY, R245: A ticket is retired 60 s after its result became ready. -/
  | ticketExpiry (t : Nat) (sid ticket : Nat)
  /-- SESSION_IDLE_CLOSE, R238: A session without an accepted packet for the idle time closes. -/
  | sessionIdleClose (t : Nat) (sid : Nat)
  /-- PROVISIONAL_TIMEOUT, R237: A provisional session not proved within 5 s closes. -/
  | provisionalTimeout (t : Nat) (sid : Nat)
  /-- PROOF_LOCKOUT_END, R237: the 60 s refusal of SESSION_OPEN after three failed proofs ends. -/
  | proofLockoutEnd (t : Nat) (tr : Transport)
  /-- REVOKED_IDENTIFIER_RELEASE, R238: the kept identifier of a session closed by orphaning is released after the idle time. -/
  | revokedIdentifierRelease (t : Nat) (sid : Nat)
  /-- FRAME_RECEIVE, R276: A received Ethernet frame ends in one outcome and is delivered, forwarded or dropped. -/
  | frameReceive (t : Nat) (port sfd : Nat) (f : Frame) (overflow busy : Bool)
  /-- DISCOVERY_REPLY, R271: A broadcast PING is answered by unicast after a random delay. -/
  | discoveryReply (t : Nat)
  /-- FRAME_TRANSMIT, R278: A port sends the next frame from its high or normal queue. -/
  | frameTransmit (t : Nat) (port : Nat)
  /-- ORIGINATED_FRAME_QUEUE, R278: an originated frame is queued once the normal queue has room. -/
  | originatedFrameQueue (t : Nat)
  /-- LINK_UP, R266: A port's link comes up after auto-negotiation. -/
  | linkUp (t : Nat) (port speed : Nat) (halfDuplex partnerEee : Bool)
  /-- LINK_DOWN, R266: A port's link goes down and queued frames for it are dropped. -/
  | linkDown (t : Nat) (port : Nat)
  /-- HALF_DUPLEX_RETRY, R266: A link held down for half duplex renegotiates every 2 s. -/
  | halfDuplexRetry (t : Nat) (port : Nat)
  /-- LPI_ENTRY, R267: A port with empty queues for the idle time enters low-power idle. -/
  | lpiEntry (t : Nat) (port : Nat)
  /-- LLDP_SEND, R268: an LLDPDU is sent on each port every interval. -/
  | lldpSend (t : Nat) (port : Nat)
  /-- LLDP_NEIGHBOUR_EXPIRY, R268: A neighbour's time-to-live expires and the PHY minimum wake time is used. -/
  | lldpNeighbourExpiry (t : Nat) (port : Nat)
  /-- SUPERVISION_SEND, R274: supervision frames are sent on both ports every life-check interval. -/
  | supervisionSend (t : Nat)
  /-- NODE_FORGET, R274: A node table entry silent for the forget time is removed. -/
  | nodeForget (t : Nat) (source : Nat)
  /-- DUPLICATE_ENTRY_FORGET, R275: A duplicate entry expires and a frame without its other copy counts as single path. -/
  | duplicateEntryForget (t : Nat) (source seq : Nat)
  /-- REDUCED_UPLINK_STEP, R280: A kept-port link up or 5 s timeout advances the uplink reduction or restore. -/
  | reducedUplinkStep (t : Nat)
  /-- LOCAL_STEER, R290: every 125 ms the local clock is steered toward the selected slot's model. -/
  | localSteer (t : Nat)
  /-- SYNC_TIMEOUT, R289: no Sync for the timeout makes a slot lost. -/
  | syncTimeout (t : Nat) (slot : Nat)
  /-- ANNOUNCE_TIMEOUT, R289: no Announce within the receipt timeout makes a slot lost. -/
  | announceTimeout (t : Nat) (slot : Nat)
  /-- DOMAIN_REVERT, R291: slot 0 locked for revert_s is selected again. -/
  | domainRevert (t : Nat)
  /-- HOLDOVER_EXPIRY, R292: holdover past its limit makes time quality free-running. -/
  | holdoverExpiry (t : Nat)
  /-- PTP_REQUEST_SEND, R288: the module sends its own Delay_Req or Pdelay exchange messages. -/
  | ptpRequestSend (t : Nat) (slot port : Nat)
  /-- TX_TIMESTAMP, R295: an egress stamp enters the transmit queue or is lost when it is full. -/
  | txTimestamp (t : Nat)
  /-- CALENDAR_SECOND, R296: at each second the calendar is compared with the local clock and rewritten if needed. -/
  | calendarSecond (t : Nat)
  /-- RTC_TRIM_WINDOW, R298: each 1,024 s window corrects the calendar trim. -/
  | rtcTrimWindow (t : Nat) (ticks : Nat)
  /-- WAKE_TIMER_EXPIRY, R300: the wake timer expires and raises the wake request. -/
  | wakeTimerExpiry (t : Nat)
  /-- ALARM_FIRE, R302: an alarm fires when the clock crosses its target. -/
  | alarmFire (t : Nat) (alarm : Nat)
  /-- RETENTION_LOSS, R299: D0 falls below retention and the continuity latch is lost. -/
  | retentionLoss (t : Nat)
  /-- RELAY_SLOT, R313: at each 10 ms slot the relay MAC sends or receives per its slot use. -/
  | relaySlot (t : Nat)
  /-- UPLINK_FRAME, R330: A received node frame is checked, its drift learned and its message taken. -/
  | uplinkFrame (t : Nat) (f : RadioFrame)
  /-- HITCH_REQUEST, R325: A node's hitch request is accepted, refused or unanswered. -/
  | hitchRequest (t : Nat) (h : HitchRequest)
  /-- FLOOD_RECEIVE, R332: A flooded frame is delivered and relayed unless already seen. -/
  | floodReceive (t : Nat) (f : RadioFrame)
  /-- FRAGMENT_TIMEOUT, R323: an incomplete fragmented message is discarded. -/
  | fragmentTimeout (t : Nat) (node : Nat)
  /-- JOIN_WINDOW_CLOSE, R325: the joining window expires. -/
  | joinWindowClose (t : Nat)
  /-- CONTEXT_FORGET, R326: A context silent for forget_days is freed. -/
  | contextForget (t : Nat) (node : Nat)
  /-- NODE_SILENT, R20: A node silent for 8 periods reads silent and its report invalid. -/
  | nodeSilent (t : Nat) (node : Nat)
  /-- PARENT_BEACON, R330: A time parent's beacon corrects the slot timing. -/
  | parentBeacon (t : Nat) (node pan free : Nat) (offsetUs : Int)
  /-- PARENT_BEACONS_MISSED, R331: eight missed parent beacons make the module its own time root. -/
  | parentBeaconsMissed (t : Nat)
  /-- KEY_GENERATION_CHANGE, R322: A counter passing 2^31 announces and moves to the next network key generation. -/
  | keyGenerationChange (t : Nat)
  /-- RELAY_CONFIG_APPLY, R335: at the announced ASN cells are reallocated under the new configuration. -/
  | relayConfigApply (t : Nat)
  /-- CASSETTE_DETECT, R340: DET_N falling starts the 100 ms debounce. -/
  | cassetteDetect (t : Nat) (c : Nat)
  /-- CASSETTE_POWER_ON, R354: after debounce PEN rises and the cassette is identified and placed in membership. -/
  | cassettePowerOn (t : Nat) (c : Nat) (report : CassetteReport)
  /-- CASSETTE_REMOVED, R356: DET_N rising ends every operation on the cassette and starts the dirty map. -/
  | cassetteRemoved (t : Nat) (c : Nat)
  /-- RESILVER_UNIT_COPY, R355: the copier completes one logical unit and takes the next. -/
  | resilverUnitCopy (t : Nat) (c : Nat)
  /-- WRITE_COMPLETE, R344: A mirrored write completes on every target cassette. -/
  | writeComplete (t : Nat) (number c : Nat)
  /-- PROGRAM_FAILURE, R351: A program or erase failure retires the block and rewrites the data. -/
  | programFailure (t : Nat) (c block : Nat)
  /-- READ_COMPLETE, R345: A page read finishes the decoding ladder or fails over to the mirror. -/
  | readComplete (t : Nat) (c region block step corrected : Nat) (offsets : List Int) (mirror : Bool)
  /-- MAP_CHECKPOINT, R343: every 10 min the map is checkpointed. -/
  | mapCheckpoint (t : Nat) (c : Nat)
  /-- PATROL_SCRUB, R350: scrub reads occupied pages and tracks read thresholds. -/
  | patrolScrub (t : Nat) (c family : Nat) (bits : List (Nat × Nat × Nat))
  /-- RETENTION_AGE_UPDATE, R350: hourly each block's retention age advances. -/
  | retentionAgeUpdate (t : Nat) (temps : List Int)
  /-- WEAR_MOVE, R349: at most every 10 min data moves to level erase counts. -/
  | wearMove (t : Nat) (c source target : Nat)
  /-- FOLD, R352: 1,533 landing blocks are folded into one TLC archive block. -/
  | fold (t : Nat)
  /-- HELD_WRITES_RELEASE, R358: when a hold cause ends held writes go out oldest first. -/
  | heldWritesRelease (t : Nat)
  /-- FREEZE_AUTO_RELEASE, R369: the waybill freeze ends after freeze_max_s. -/
  | freezeAutoRelease (t : Nat)
  /-- KEY_COMMIT, R387: A key load's commit cell write completes and descendants refresh. -/
  | keyCommit (t : Nat)
  /-- INVALIDATION_COMMIT, R389: the invalidation record commits and keys become unusable at the next operation boundary. -/
  | invalidationCommit (t : Nat)
  /-- TAMPER_DETECT, R394: A tamper input active for 4 ticks zeroises the vault. -/
  | tamperDetect (t : Nat) (input : Nat) (level : Bool)
  /-- STAGING_ERASE_DONE, R403: the staging erase of UPD_OPEN completes and the session is open. -/
  | stagingEraseDone (t : Nat)
  /-- COMMIT_VERIFY_DONE, R406: checks and copy of UPD_COMMIT complete and the slot is valid. -/
  | commitVerifyDone (t : Nat)
  /-- IMAGE_SWITCH, R407: at an eligible boundary the module warm-restarts into the new image. -/
  | imageSwitch (t : Nat)
  /-- WHEELER_IMAGE_VALID, R412: the wheeler reports the carried image valid. -/
  | wheelerImageValid (t : Nat) (h : LinkHead)
  /-- PROBATION_END, R409: probation ends and the image is confirmed. -/
  | probationEnd (t : Nat)
  /-- FIRST_COMMIT_TIMEOUT, R410: no first commit 2 s after the switch triggers a fallback. -/
  | firstCommitTimeout (t : Nat)
  /-- WATCHDOG_RESET, R410: A service-core watchdog reset restarts warm and may trigger a fallback. -/
  | watchdogReset (t : Nat)
  /-- UPDATE_IDLE_ABORT, R408: an open session without UPD_DATA for idle_s is aborted. -/
  | updateIdleAbort (t : Nat)
  /-- HEARTBEAT_SEND, R420: A heartbeat is sent on the tandem link every 50 µs. -/
  | heartbeatSend (t : Nat)
  /-- RING_HEARTBEAT_SEND, R430: A ring heartbeat datagram is sent every hb_ring_ms. -/
  | ringHeartbeatSend (t : Nat)
  /-- HEARTBEAT_RECEIVE, R430: A valid partner heartbeat keeps its path alive. -/
  | heartbeatReceive (t : Nat) (h : LinkHead) (role state status cycles : Nat)
  /-- LINK_PATH_LOST, R431: no link heartbeat for hb_link_us loses the link path. -/
  | linkPathLost (t : Nat)
  /-- RING_PATH_LOST, R431: missed ring heartbeats lose the ring path. -/
  | ringPathLost (t : Nat)
  /-- WITNESS_REQUEST_SEND, R432: witness requests are sent halfway through the contest. -/
  | witnessRequestSend (t : Nat)
  /-- CONTEST_END, R434: at the end of the contest each module decides its role. -/
  | contestEnd (t : Nat)
  /-- TAKEOVER_POLE_RAISE, R435: after state readbacks the new lead drives POLE high and resumes banks. -/
  | takeoverPoleRaise (t : Nat)
  /-- TIME_MARK, R422: A wheeler compares the lead's time mark with its count and updates lock. -/
  | timeMark (t : Nat) (h : LinkHead) (count : Nat) (residualPs : Int)
  /-- LINK_DELAY_MEASURE, R422: every 1 s the wheeler measures the link delay. -/
  | linkDelayMeasure (t : Nat) (roundTripNs : Nat)
  /-- BOUNDARY_MARK, R423: A wheeler takes a cycle boundary from the lead's mark. -/
  | boundaryMark (t : Nat) (h : LinkHead) (stamp : Nat)
  /-- COMMIT_BLOCK_RECEIVE, R424: A wheeler applies the lead's commit block at the commit count. -/
  | commitBlockReceive (t : Nat) (h : LinkHead) (block : CommitBlock)
  /-- STATE_COPY_RECEIVE, R425: A wheeler applies the state copy and acknowledges it. -/
  | stateCopyReceive (t : Nat) (h : LinkHead) (number backlog : Nat) (items : List CopyItem)
  /-- COPY_ACK, R427: the lead receives the wheeler's copy acknowledgement. -/
  | copyAck (t : Nat) (h : LinkHead) (number : Nat)
  /-- HELLO, R421: A hello or its answer resets link counters and starts pairing. -/
  | hello (t : Nat) (h : LinkHead) (m : HelloMessage)
  /-- LANES_TRAINED, R429: both tandem lanes trained start the hello exchange. -/
  | lanesTrained (t : Nat)
  /-- PAIRING_COMPLETE, R429: locked with no backlog, the pair reads paired. -/
  | pairingComplete (t : Nat)
  /-- KEY_TRANSFER_RECEIVE, R396: A wheeler commits a key transfer and confirms. -/
  | keyTransferReceive (t : Nat) (h : LinkHead) (k : KeyTransfer)
  /-- KEY_TRANSFER_TIMEOUT, R396: without confirmation in 100 ms the lead commits alone. -/
  | keyTransferTimeout (t : Nat)
  /-- YIELD_RELEASE, R437: the release message makes the new lead drive POLE high. -/
  | yieldRelease (t : Nat) (h : LinkHead)
  /-- POWER_ON, R462: VIN rising starts D0, then D1 after the hold, and the cold start. -/
  | powerOn (t : Nat) (vin : Nat) (strap : Bool) (failed : List Nat)
  /-- POWER_RETURN, R463: after a stand-down the warm-restart image is checked and the restart is warm or cold. -/
  | powerReturn (t : Nat) (vin : Nat) (strap crcGood formatRead : Bool) (failed : List Nat)
  /-- SHED_STEP_ENTER, R459: the VIN mean below a threshold enters that shed step. -/
  | shedStepEnter (t : Nat) (vin : Nat)
  /-- STAND_DOWN, R460: the step-6 commit completes and D2 to D9 power down. -/
  | standDown (t : Nat)
  /-- SHED_STEP_LEAVE, R459: VIN above threshold plus hysteresis for 100 ms leaves the deepest step. -/
  | shedStepLeave (t : Nat) (vin : Nat)
  /-- BROWNOUT_RESET, R448: VIN below 12.0 V for 2 µs resets the module as a brownout or stand-down. -/
  | brownoutReset (t : Nat)
  /-- WAKE_REQUEST, R456: A wake source powers the domains of the state and interprets waiting packets. -/
  | wakeRequest (t : Nat) (failed : List Nat)
  /-- SLEEP_DEADLINE, R455: the sleep deadline wakes the module. -/
  | sleepDeadline (t : Nat) (failed : List Nat)
  /-- FLUSH_WAKE, R457: D5 and D8 power up to store held data and go off again. -/
  | flushWake (t : Nat)
  /-- CORE_FLOOR_RAISE, R452: the replica monitor raises the rail when it falls below v_floor. -/
  | coreFloorRaise (t : Nat) (floor : Nat)
  /-- RST_N_LOW, R486: RST_N low for 10 µs starts a cold restart and holds D2 to D9 in reset. -/
  | rstNLow (t : Nat)
  /-- RST_N_HIGH, R486: RST_N rising continues the start from step 3 of the cold start. -/
  | rstNHigh (t : Nat) (vin : Nat) (failed : List Nat)
  /-- TEST_SYNC_TIMEOUT, R470: A harness test without sync in 100 ms ends. -/
  | testSyncTimeout (t : Nat) (bank : Nat)
  /-- TEST_FRAME_TIMEOUT, R469: A class 4 frame not returned within 1 ms counts as errors. -/
  | testFrameTimeout (t : Nat) (port : Nat)
  /-- STORAGE_TEST_PASS, R472: A storage test pass erases, programs and reads back a test block. -/
  | storageTestPass (t : Nat) (c bits errors words : Nat)
  /-- TAP_RESET, R476: TRST_N low resets the TAP. -/
  | tapReset (t : Nat)
  /-- BYPASS, R476: the TAP selects the bypass register. -/
  | bypass (t : Nat) (tdi : List Bool)
  /-- IDCODE, R476: the TAP returns the IDCODE. -/
  | idcode (t : Nat) (tdi : List Bool)
  /-- SAMPLE_PRELOAD, R476: the TAP samples or preloads the boundary cells. -/
  | samplePreload (t : Nat) (lands tdi : List Bool)
  /-- EXTEST, R476: the boundary cells drive the lands in Blank or Service. -/
  | extest (t : Nat) (lands tdi : List Bool)
  /-- CLAMP, R476: the boundary cells hold the lands with bypass selected. -/
  | clamp (t : Nat) (tdi : List Bool)
  /-- HIGHZ, R476: the outputs go to high impedance in Blank or Service. -/
  | highz (t : Nat) (tdi : List Bool)
  /-- SERVICE_PORT_RECEIVE, R227: octets arriving on SV_RXD are SLIP-decoded and assembled into words in the service-port inbound queue, with framing errors poisoning words and the END octet marking a packet's last word. -/
  | servicePortReceive (t : Nat) (octets : List LineOctet)
  /-- SERVICE_PORT_TRANSMIT, R227: the UART sends the next words of the service-port outbound queue on SV_TXD at 3 Mbaud and frees their room. -/
  | servicePortTransmit (t : Nat) (count : Nat)
  /-- TANDEM_LANE_LOSS, R475: A tandem lane loses training, so link_up clears and a class 6 test ends with cause 6. -/
  | tandemLaneLoss (t : Nat) (lane : Nat)
  /-- PATTERN_CHECKER_SYNC, R469: A continuous-pattern checker on a bank, pcs or tandem link becomes in sync after 64 predicted bits or four aligned user words, and starts counting. -/
  | patternCheckerSync (t : Nat) (link lane : Nat) (bs : List Bool)
  /-- PATTERN_CHECKER_SYNC_LOSS, R469: A continuous-pattern checker that sees more than 100 errors in a 1,024-bit block loses sync and searches again. -/
  | patternCheckerSyncLoss (t : Nat) (link lane : Nat) (bs : List Bool)
  /-- LINK_LOCAL_PROBE, R270: with net.ip_addr at 0, the RFC 3927 claim sends its timed ARP probes and announcements and takes the link-local address into use. -/
  | linkLocalProbe (t : Nat)
  /-- D0_SUPPLY_CHANGEOVER, R299: VIN crossing 10.0 V moves D0 between its VIN supply and its VBAT or VSCAP backup supply. -/
  | d0SupplyChangeover (t : Nat) (onVin : Bool)
  /-- RNG_HEALTH_FAILURE, R391: the die's random source fails, so key.rng_status reads failed and SESSION_OPEN is answered ST_AUTH with detail 6. -/
  | rngHealthFailure (t : Nat)
  deriving DecidableEq, Repr

end Sys2Proof
end

