-- ==== Sys2Proof/Decode.lean ====
section
/-! DEFINITION.  The table of commands gives no row any bits: a command is an event at the block's pins, clocks
and buses, or the interpretation of a packet that already waits in a transport's queue, and packets are read
by the bridle's own rules (R223, R224, `Machine/Bridle.lean`). -/

namespace Sys2Proof

/-- The command that a word spells by the table's bits: no row of the table has bits, so a word of any length
spells none. -/
def decodeTableWord (nbits w : Nat) : Option Instr :=
  match nbits, w with
  | _, _ => none

end Sys2Proof
end

