-- ==== Sys2Proof/Config.lean ====
section
/-! DEFINITION.  What the spec leaves to a published standard or leaves open: constants with no
body, so that no proof can see a value of them.  Every statement about the block holds for
every choice of them. -/

namespace Sys2Proof.Config

/-- A fresh free value: the spec gives no value here.  Applied to the draw counter of the state
(assumption 2). -/
opaque freeWord : Nat → Word

/-- A fresh free number (assumption 2). -/
opaque freeNat : Nat → Nat

/-- One AES block encryption (R379): key, then block, both as numbers (assumption 3). -/
opaque aesBlock : Nat → Nat → Nat

/-- AES-CMAC of NIST SP 800-38B (R383, R391): key, then message octets, the tag as a 128-bit
number (assumption 3). -/
opaque cmac : Nat → List Nat → Nat

/-- The RFC 3394 unwrap (R384): wrapping key, then the wrapped words; the key and its octet
count when the integrity check holds (assumption 3). -/
opaque aesUnwrap : Nat → List Word → Option Nat

/-- The fused 256-bit device secret combined with the vault seed (R382, K00) (assumption 3). -/
opaque rootKey : Nat → Nat

/-- What a node kind number stands for, modulo 4: 0 pod, 1 luminaire, 2 peer module, 3 commissioning
device.  The spec numbers the kinds nowhere (assumption 11). -/
opaque nodeKind : Nat → Nat

/-- AF of R350 in units of 1/1,000, for an activation energy in meV and a temperature in 0.01 °C: the exponential
is not stated as a number (assumption 10). -/
opaque arrhenius : Nat → Int → Nat

/-- The channel offset of a dedicated cell (R314): relay.node_cell carries none and no rule gives it, so it is
a function of that word (assumption 105). -/
opaque cellOffset : Nat → Nat

/-- RFC 3394 wrap of a 128-bit key under a key (R325): the 24 octets (assumption 3). -/
opaque aesWrap : Nat → Nat → List Nat

/-- The Planckian locus of R109 at a reciprocal temperature in mired: u and v of CIE 1960 in units of
2⁻⁴⁰.  The spec gives its definition and a tolerance of the internal table, not the table
(assumption 13). -/
opaque locus : Nat → Int × Int

/-- Which port of a dual-input card a bank's cable is wired to: true for port B.  The installation decides
it (assumption 14). -/
opaque cardPort : Nat → Bool

/-- SHA-256 of FIPS 180-4 over words sent most significant octet first (R402): the digest as a number
(assumption 3). -/
opaque sha256 : List Word → Nat

/-- An ECDSA signature over P-256 (FIPS 186-5) of a digest passes under the vendor image key (R402): digest,
r and s (assumption 3). -/
opaque ecdsaPasses : Nat → Nat → Nat → Bool

/-- Header words of the image that the module runs as delivered, whose words the spec does not give (assumption
32). -/
opaque deliveredHeader : Nat → Word

/-- What a 64-bit intermediate holds of an exact value that does not fit (R153) (assumption 26). -/
opaque wideOverflow : Int → Int

/-- Build and digest of the farrier ROM, which runs in farrier mode (R260, R401) (assumption 98). -/
opaque romBuild : Nat
opaque romDigest : Nat → Word

/-- Daxxiette's manufacturer identity of the IDCODE, 11 bits, which stands in the module's BSDL description alone
(assumption 34). -/
opaque jtagMaker : Nat

/-- The mnemonics of the relay matrix, which R338 names by no rule (assumption 8). -/
opaque relayMatrixName : Nat → Nat

/-- A physical quantity that the module measures and that no command carries: parameter identifier, element and
instant (assumption 36). -/
opaque measured : Nat → Nat → Nat → Nat

/-- Where the exit latency of a power state lies between its fast and slow figures of R453: state and core rail
in mV (assumption 36). -/
opaque exitCorner : Nat → Nat → Nat

end Sys2Proof.Config
end

