-- ==== Sys2Proof/Machine/Num.lean ====
section
/-! DEFINITION.  The small arithmetic the spec's formulas use: bit fields, saturation, rounding,
CRC-32 (R128), CRC-8, CRC-16 and the unit of time. -/

namespace Sys2Proof.Machine

open Sys2Proof

/-! #### Time in spine steps of 1.25 ns (R14) -/

/-- One TCXO period of 40 ns. -/
abbrev tcxoPeriod : Nat := 32
/-- One microsecond. -/
abbrev us : Nat := 800
/-- One millisecond. -/
abbrev ms : Nat := 800000
/-- One second. -/
abbrev sec : Nat := 800000000

/-- Nanoseconds as spine steps, rounded down (a step is 5/4 ns). -/
def ofNs (n : Nat) : Nat := n * 4 / 5

/-- Spine steps as nanoseconds, rounded down. -/
def toNs (n : Nat) : Nat := n * 5 / 4

/-! #### Bit fields (R4: written [msb:lsb]) -/

/-- Bits [hi:lo] of a word, as a number. -/
def bits (w : Word) (hi lo : Nat) : Nat := (w.toNat >>> lo) % 2 ^ (hi - lo + 1)

/-- Bit k of a word. -/
def bit (w : Word) (k : Nat) : Bool := w.toNat.testBit k

/-- Bits [hi:lo] read as a two's-complement number. -/
def sbits (w : Word) (hi lo : Nat) : Int :=
  let n := bits w hi lo
  let m := hi - lo + 1
  if 2 ^ (m - 1) ≤ n then (n : Int) - (2 ^ m : Nat) else n

/-- Two 16-bit halves as a word, upper half first. -/
def pair (hi lo : Nat) : Word := word ((hi % 65536) * 65536 + lo % 65536)

/-- A number with bit k set. -/
def setBit (n k : Nat) : Nat := n ||| (1 <<< k)

/-- Numbers as a bit set. -/
def bitSet (ks : List Nat) : Nat := ks.foldl setBit 0

/-- A number with bit k clear. -/
def clearBit (n k : Nat) : Nat := if n.testBit k then n - 2 ^ k else n

/-- A number with bit k as told. -/
def putBit (n k : Nat) (b : Bool) : Nat := if b then setBit n k else clearBit n k

/-- The number of ones among the low m bits. -/
def onesBelow (n : Nat) : Nat → Nat
  | 0 => 0
  | m + 1 => onesBelow n m + (if n.testBit m then 1 else 0)

/-- A boolean as 0 or 1. -/
def flag (b : Bool) : Nat := if b then 1 else 0

/-! #### Saturation, clamping and rounding -/

/-- Not above `cap`. -/
def satN (cap n : Nat) : Nat := min cap n

/-- The largest 32-bit unsigned number. -/
abbrev u32max : Nat := 4294967295

/-- Saturate a number at 32 bits unsigned. -/
def satU32 (n : Nat) : Nat := min u32max n

/-- Saturate a signed number at 32 bits. -/
def satS32 (n : Int) : Int := max (-2147483648) (min 2147483647 n)

/-- Saturate a signed number at 16 bits. -/
def satS16 (n : Int) : Int := max (-32768) (min 32767 n)

/-- Clamp a number to a range. -/
def clampN (lo hi n : Nat) : Nat := max lo (min hi n)

/-- Clamp a signed number to a range. -/
def clampI (lo hi n : Int) : Int := max lo (min hi n)

/-- n / d rounded half up, for natural n. -/
def divRound (n d : Nat) : Nat := (2 * n + d) / (2 * d)

/-- n / d rounded up. -/
def divUp (n d : Nat) : Nat := (n + d - 1) / d

/-- n / d rounded half up toward plus infinity, for signed n and positive d. -/
def divRoundI (n d : Int) : Int := Int.fdiv (2 * n + d) (2 * d)

/-- The least number whose square reaches n, by trial from the top bit: the integer square
root, rounded down. -/
def isqrtGo (n : Nat) : Nat → Nat → Nat
  | 0, r => r
  | k + 1, r => let c := r + 2 ^ k; if c * c ≤ n then isqrtGo n k c else isqrtGo n k r

/-- The integer square root of a number below 2¹²⁸, rounded down. -/
def isqrt (n : Nat) : Nat := isqrtGo n 64 0

/-! #### Cyclic redundancy checks (R128) -/

/-- One bit of a CRC of width `m`, most significant bit first, no reflection. -/
def crcBit (m poly c : Nat) (b : Bool) : Nat :=
  let top := c.testBit (m - 1)
  let c' := (c <<< 1) % 2 ^ m
  if top != b then c' ^^^ poly else c'

/-- The low `k` bits of `v`, most significant first, through a CRC. -/
def crcBits (m poly : Nat) : Nat → Nat → Nat → Nat
  | 0, _, c => c
  | k + 1, v, c => crcBits m poly k v (crcBit m poly c (v.testBit k))

/-- CRC-32 over a list of words: polynomial 0x04C11DB7, initial value 0xFFFFFFFF, bits most
significant first, no final inversion (R128). -/
def crc32 (ws : List Word) : Word :=
  word (ws.foldl (fun c w => crcBits 32 0x04C11DB7 32 w.toNat c) 0xFFFFFFFF)

/-- CRC-32 over octets (R128). -/
def crc32Octets (bs : List Nat) : Word :=
  word (bs.foldl (fun c b => crcBits 32 0x04C11DB7 8 b c) 0xFFFFFFFF)

/-- CRC-8 over `k` bits of `v`: polynomial 0x07, initial value 0 (R128). -/
def crc8 (k v : Nat) : Nat := crcBits 8 0x07 k v 0

/-- CRC-16 over octets: polynomial 0x1021, initial value 0xFFFF (R128). -/
def crc16Octets (bs : List Nat) : Nat :=
  bs.foldl (fun c b => crcBits 16 0x1021 8 b c) 0xFFFF

/-- The four octets of a word, most significant first (R5). -/
def octetsOf (w : Word) : List Nat := [bits w 31 24, bits w 23 16, bits w 15 8, bits w 7 0]

/-- The n octets of a number, most significant first. -/
def octetsOfNat : Nat → Nat → List Nat
  | 0, _ => []
  | n + 1, v => (v >>> (8 * n)) % 256 :: octetsOfNat n v

/-- A number from words, the first most significant. -/
def natOfWords (ws : List Word) : Nat := ws.foldl (fun a w => a * 2 ^ 32 + w.toNat) 0

/-- n words of a number, the first most significant. -/
def wordsOfNat : Nat → Nat → List Word
  | 0, _ => []
  | n + 1, v => word ((v >>> (32 * n)) % 2 ^ 32) :: wordsOfNat n v

/-- Two BCD digits of a number below 100. -/
def bcd (n : Nat) : Nat := (n / 10) % 10 * 16 + n % 10

/-- The number two BCD digits spell. -/
def unbcd (n : Nat) : Nat := (n / 16) * 10 + n % 16

/-- The k-th word of a payload, 0 beyond its end. -/
def nth (ws : List Word) (k : Nat) : Word := ws.getD k 0

/-- Sum of a list of numbers. -/
def sumN (xs : List Nat) : Nat := xs.foldl (· + ·) 0

/-- Sum of a list of signed numbers. -/
def sumI (xs : List Int) : Int := xs.foldl (· + ·) 0

end Sys2Proof.Machine
end

