-- ==== Sys2Proof/Machine/ParamIds.lean ====
section
/-! DEFINITION.  The 16-bit identifiers of the parameters that the spec lists one by one
(R250, R261 to R265 and the parameter table of each chapter), by their mnemonics. -/

namespace Sys2Proof.Machine.Pid

/-- `id.vendor` (R261). -/
abbrev idVendor : Nat := 0x0000
/-- `id.part` (R261). -/
abbrev idPart : Nat := 0x0001
/-- `id.variant` (R261). -/
abbrev idVariant : Nat := 0x0002
/-- `id.serial` (R261). -/
abbrev idSerial : Nat := 0x0003
/-- `id.die_rev` (R261). -/
abbrev idDieRev : Nat := 0x0004
/-- `id.module_rev` (R261). -/
abbrev idModuleRev : Nat := 0x0005
/-- `id.mfg_date` (R261). -/
abbrev idMfgDate : Nat := 0x0006
/-- `id.lifecycle` (R261). -/
abbrev idLifecycle : Nat := 0x0007
/-- `id.fw_slot` (R261). -/
abbrev idFwSlot : Nat := 0x0008
/-- `id.fw_build` (R261). -/
abbrev idFwBuild : Nat := 0x0009
/-- `id.fw_digest` (R261). -/
abbrev idFwDigest : Nat := 0x000A
/-- `id.rom_version` (R261). -/
abbrev idRomVersion : Nat := 0x000B
/-- `id.mac` (R261). -/
abbrev idMac : Nat := 0x000C
/-- `id.eui64` (R261). -/
abbrev idEui64 : Nat := 0x000D
/-- `id.channels` (R261). -/
abbrev idChannels : Nat := 0x000E
/-- `id.param_count` (R261). -/
abbrev idParamCount : Nat := 0x000F
/-- `sys.name` (R262). -/
abbrev sysName : Nat := 0x0100
/-- `sys.site_id` (R262). -/
abbrev sysSiteId : Nat := 0x0101
/-- `sys.segment_id` (R262). -/
abbrev sysSegmentId : Nat := 0x0102
/-- `sys.health` (R262). -/
abbrev sysHealth : Nat := 0x0103
/-- `sys.uptime_s` (R262). -/
abbrev sysUptimeS : Nat := 0x0104
/-- `sys.hours` (R262). -/
abbrev sysHours : Nat := 0x0105
/-- `sys.cold_restarts` (R262). -/
abbrev sysColdRestarts : Nat := 0x0106
/-- `sys.warm_restarts` (R262). -/
abbrev sysWarmRestarts : Nat := 0x0107
/-- `sys.counter_hi` (R262). -/
abbrev sysCounterHi : Nat := 0x0108
/-- `sys.counter_lo` (R262). -/
abbrev sysCounterLo : Nat := 0x0109
/-- `sys.temp_die` (R262). -/
abbrev sysTempDie : Nat := 0x010A
/-- `sys.temp_die_max` (R262). -/
abbrev sysTempDieMax : Nat := 0x010B
/-- `sys.temp_module` (R262). -/
abbrev sysTempModule : Nat := 0x010C
/-- `sys.spine_err_ps` (R262). -/
abbrev sysSpineErrPs : Nat := 0x010D
/-- `sys.spine_unlocks` (R262). -/
abbrev sysSpineUnlocks : Nat := 0x010E
/-- `sys.tcxo_losses` (R262). -/
abbrev sysTcxoLosses : Nat := 0x010F
/-- `sys.owner_lock` (R262). -/
abbrev sysOwnerLock : Nat := 0x0110
/-- `sys.settings_gen` (R262). -/
abbrev sysSettingsGen : Nat := 0x0111
/-- `sys.settings_state` (R262). -/
abbrev sysSettingsState : Nat := 0x0112
/-- `sys.settings_pending` (R262). -/
abbrev sysSettingsPending : Nat := 0x0113
/-- `sys.settings_writes` (R262). -/
abbrev sysSettingsWrites : Nat := 0x0114
/-- `sys.param_sets` (R262). -/
abbrev sysParamSets : Nat := 0x0115
/-- `sys.service_load` (R262). -/
abbrev sysServiceLoad : Nat := 0x0116
/-- `sys.fw_fallbacks` (R262). -/
abbrev sysFwFallbacks : Nat := 0x0117
/-- `drv.period_ns` (R57). -/
abbrev drvPeriodNs : Nat := 0x1000
/-- `drv.stagger_mode` (R57). -/
abbrev drvStaggerMode : Nat := 0x1001
/-- `drv.min_pulse_ns` (R57). -/
abbrev drvMinPulseNs : Nat := 0x1002
/-- `drv.gather_max` (R57). -/
abbrev drvGatherMax : Nat := 0x1003
/-- `drv.emlt_mask` (R57). -/
abbrev drvEmltMask : Nat := 0x1004
/-- `drv.emlt_amp` (R57). -/
abbrev drvEmltAmp : Nat := 0x1005
/-- `drv.emlt_release_us` (R57). -/
abbrev drvEmltReleaseUs : Nat := 0x1006
/-- `drv.ride_mode` (R57). -/
abbrev drvRideMode : Nat := 0x1007
/-- `drv.ride_duty` (R57). -/
abbrev drvRideDuty : Nat := 0x1008
/-- `drv.team_size` (R57). -/
abbrev drvTeamSize : Nat := 0x1010
/-- `drv.dim_mode` (R57). -/
abbrev drvDimMode : Nat := 0x1011
/-- `drv.xover` (R57). -/
abbrev drvXover : Nat := 0x1012
/-- `drv.pwm_amp` (R57). -/
abbrev drvPwmAmp : Nat := 0x1013
/-- `drv.fade_up_ms` (R57). -/
abbrev drvFadeUpMs : Nat := 0x1014
/-- `drv.fade_down_ms` (R57). -/
abbrev drvFadeDownMs : Nat := 0x1015
/-- `drv.fade_release_ms` (R57). -/
abbrev drvFadeReleaseMs : Nat := 0x1016
/-- `drv.fade_curve` (R57). -/
abbrev drvFadeCurve : Nat := 0x1017
/-- `drv.out_frac` (R57). -/
abbrev drvOutFrac : Nat := 0x1020
/-- `drv.out_amp` (R57). -/
abbrev drvOutAmp : Nat := 0x1021
/-- `drv.out_ticks` (R57). -/
abbrev drvOutTicks : Nat := 0x1022
/-- `drv.rung` (R57). -/
abbrev drvRung : Nat := 0x1023
/-- `drv.status` (R57). -/
abbrev drvStatus : Nat := 0x1024
/-- `drv.sat_count` (R57). -/
abbrev drvSatCount : Nat := 0x1025
/-- `sns.decim_ratio` (R80). -/
abbrev snsDecimRatio : Nat := 0x1800
/-- `sns.delay_ns` (R80). -/
abbrev snsDelayNs : Nat := 0x1801
/-- `sns.cable_ns` (R80). -/
abbrev snsCableNs : Nat := 0x1802
/-- `sns.isfs_ua` (R80). -/
abbrev snsIsfsUa : Nat := 0x1803
/-- `sns.iafs_ua` (R80). -/
abbrev snsIafsUa : Nat := 0x1804
/-- `sns.card_acc` (R80). -/
abbrev snsCardAcc : Nat := 0x1805
/-- `sns.settle_ns` (R80). -/
abbrev snsSettleNs : Nat := 0x1806
/-- `sns.loop_enable` (R80). -/
abbrev snsLoopEnable : Nat := 0x1807
/-- `sns.loop_gain` (R80). -/
abbrev snsLoopGain : Nat := 0x1808
/-- `sns.loop_min_on_us` (R80). -/
abbrev snsLoopMinOnUs : Nat := 0x1809
/-- `sns.trim_span` (R80). -/
abbrev snsTrimSpan : Nat := 0x180A
/-- `sns.fault_span` (R80). -/
abbrev snsFaultSpan : Nat := 0x180B
/-- `sns.i_inst` (R80). -/
abbrev snsIInst : Nat := 0x1810
/-- `sns.i_pulse` (R80). -/
abbrev snsIPulse : Nat := 0x1811
/-- `sns.gain_est` (R80). -/
abbrev snsGainEst : Nat := 0x1812
/-- `sns.setpoint` (R80). -/
abbrev snsSetpoint : Nat := 0x1813
/-- `sns.loop_limit` (R80). -/
abbrev snsLoopLimit : Nat := 0x1814
/-- `sns.loop_status` (R80). -/
abbrev snsLoopStatus : Nat := 0x1815
/-- `sns.zero_density` (R80). -/
abbrev snsZeroDensity : Nat := 0x1816
/-- `sns.vf_mv` (R80). -/
abbrev snsVfMv : Nat := 0x1817
/-- `sns.lamp_temp` (R80). -/
abbrev snsLampTemp : Nat := 0x1818
/-- `meter.minute_energy` (R80). -/
abbrev meterMinuteEnergy : Nat := 0x1820
/-- `meter.total_mwh_hi` (R80). -/
abbrev meterTotalMwhHi : Nat := 0x1821
/-- `meter.total_mwh_lo` (R80). -/
abbrev meterTotalMwhLo : Nat := 0x1822
/-- `meter.power_mw` (R80). -/
abbrev meterPowerMw : Nat := 0x1823
/-- `meter.flags` (R80). -/
abbrev meterFlags : Nat := 0x1824
/-- `meter.buffered_min` (R80). -/
abbrev meterBufferedMin : Nat := 0x1825
/-- `meter.merged_count` (R80). -/
abbrev meterMergedCount : Nat := 0x1826
/-- `meter.class` (R80). -/
abbrev meterClass : Nat := 0x1827
/-- `diag.policy` (R102). -/
abbrev diagPolicy : Nat := 0x2000
/-- `diag.prove_width_ns` (R102). -/
abbrev diagProveWidthNs : Nat := 0x2001
/-- `diag.prove_window_s` (R102). -/
abbrev diagProveWindowS : Nat := 0x2002
/-- `diag.confirm` (R102). -/
abbrev diagConfirm : Nat := 0x2003
/-- `diag.open_pct` (R102). -/
abbrev diagOpenPct : Nat := 0x2004
/-- `diag.short_pct` (R102). -/
abbrev diagShortPct : Nat := 0x2005
/-- `diag.degrade_pct` (R102). -/
abbrev diagDegradePct : Nat := 0x2006
/-- `diag.vf_tc_ppm` (R102). -/
abbrev diagVfTcPpm : Nat := 0x2007
/-- `diag.state` (R102). -/
abbrev diagState : Nat := 0x2010
/-- `diag.cause` (R102). -/
abbrev diagCause : Nat := 0x2011
/-- `diag.last_verdict` (R102). -/
abbrev diagLastVerdict : Nat := 0x2012
/-- `diag.vf_ref_mv` (R102). -/
abbrev diagVfRefMv : Nat := 0x2013
/-- `diag.vf_ref_temp` (R102). -/
abbrev diagVfRefTemp : Nat := 0x2014
/-- `diag.evidence_age_ms` (R102). -/
abbrev diagEvidenceAgeMs : Nat := 0x2015
/-- `diag.last_i_on_ua` (R102). -/
abbrev diagLastIOnUa : Nat := 0x2016
/-- `diag.prove_count` (R102). -/
abbrev diagProveCount : Nat := 0x2017
/-- `diag.unbalanced_count` (R102). -/
abbrev diagUnbalancedCount : Nat := 0x2018
/-- `diag.derate_knee_c` (R102). -/
abbrev diagDerateKneeC : Nat := 0x2020
/-- `diag.derate_slope` (R102). -/
abbrev diagDerateSlope : Nat := 0x2021
/-- `diag.derate_floor` (R102). -/
abbrev diagDerateFloor : Nat := 0x2022
/-- `diag.derate_off_c` (R102). -/
abbrev diagDerateOffC : Nat := 0x2023
/-- `diag.derate_blind` (R102). -/
abbrev diagDerateBlind : Nat := 0x2024
/-- `diag.derate_factor` (R102). -/
abbrev diagDerateFactor : Nat := 0x2025
/-- `diag.team_temp` (R102). -/
abbrev diagTeamTemp : Nat := 0x2026
/-- `diag.derate_status` (R102). -/
abbrev diagDerateStatus : Nat := 0x2027
/-- `colour.method` (R121). -/
abbrev colourMethod : Nat := 0x2400
/-- `colour.team_flux` (R121). -/
abbrev colourTeamFlux : Nat := 0x2401
/-- `colour.headroom` (R121). -/
abbrev colourHeadroom : Nat := 0x2402
/-- `colour.cct_min` (R121). -/
abbrev colourCctMin : Nat := 0x2403
/-- `colour.cct_max` (R121). -/
abbrev colourCctMax : Nat := 0x2404
/-- `colour.w_lane` (R121). -/
abbrev colourWLane : Nat := 0x2405
/-- `colour.w_share` (R121). -/
abbrev colourWShare : Nat := 0x2406
/-- `colour.gamut_tol` (R121). -/
abbrev colourGamutTol : Nat := 0x2407
/-- `colour.temp_tau_ms` (R121). -/
abbrev colourTempTauMs : Nat := 0x2408
/-- `colour.flux_lm` (R121). -/
abbrev colourFluxLm : Nat := 0x2410
/-- `colour.profile` (R121). -/
abbrev colourProfile : Nat := 0x2411
/-- `colour.prof_flux` (R121). -/
abbrev colourProfFlux : Nat := 0x2420
/-- `colour.prof_x` (R121). -/
abbrev colourProfX : Nat := 0x2421
/-- `colour.prof_y` (R121). -/
abbrev colourProfY : Nat := 0x2422
/-- `colour.sensor_gain` (R121). -/
abbrev colourSensorGain : Nat := 0x2430
/-- `colour.sensor_cal` (R121). -/
abbrev colourSensorCal : Nat := 0x2431
/-- `colour.trim_limit` (R121). -/
abbrev colourTrimLimit : Nat := 0x2432
/-- `colour.trim_step` (R121). -/
abbrev colourTrimStep : Nat := 0x2433
/-- `colour.trim_period_s` (R121). -/
abbrev colourTrimPeriodS : Nat := 0x2434
/-- `colour.sensor_min_level` (R121). -/
abbrev colourSensorMinLevel : Nat := 0x2435
/-- `colour.sensor_max_age_ms` (R121). -/
abbrev colourSensorMaxAgeMs : Nat := 0x2436
/-- `colour.trim` (R121). -/
abbrev colourTrim : Nat := 0x2440
/-- `colour.flux_factor` (R121). -/
abbrev colourFluxFactor : Nat := 0x2441
/-- `colour.temp_filt` (R121). -/
abbrev colourTempFilt : Nat := 0x2442
/-- `colour.achieved_cct` (R121). -/
abbrev colourAchievedCct : Nat := 0x2443
/-- `colour.achieved_duv` (R121). -/
abbrev colourAchievedDuv : Nat := 0x2444
/-- `colour.status` (R121). -/
abbrev colourStatus : Nat := 0x2445
/-- `harness.enable` (R150). -/
abbrev harnessEnable : Nat := 0x2800
/-- `harness.state` (R150). -/
abbrev harnessState : Nat := 0x2801
/-- `harness.enum_error` (R150). -/
abbrev harnessEnumError : Nat := 0x2802
/-- `harness.rx_delay` (R150). -/
abbrev harnessRxDelay : Nat := 0x2803
/-- `harness.eye_ticks` (R150). -/
abbrev harnessEyeTicks : Nat := 0x2804
/-- `harness.lost_limit` (R150). -/
abbrev harnessLostLimit : Nat := 0x2805
/-- `harness.card_serial` (R150). -/
abbrev harnessCardSerial : Nat := 0x2806
/-- `harness.card_maker` (R150). -/
abbrev harnessCardMaker : Nat := 0x2807
/-- `harness.card_caps` (R150). -/
abbrev harnessCardCaps : Nat := 0x2808
/-- `harness.card_umax` (R150). -/
abbrev harnessCardUmax : Nat := 0x2809
/-- `harness.card_vf_acc` (R150). -/
abbrev harnessCardVfAcc : Nat := 0x280A
/-- `harness.card_ride_us` (R150). -/
abbrev harnessCardRideUs : Nat := 0x280B
/-- `harness.card_status` (R150). -/
abbrev harnessCardStatus : Nat := 0x280C
/-- `harness.lane_open` (R150). -/
abbrev harnessLaneOpen : Nat := 0x280D
/-- `harness.lane_short` (R150). -/
abbrev harnessLaneShort : Nat := 0x280E
/-- `harness.lane_climit` (R150). -/
abbrev harnessLaneClimit : Nat := 0x280F
/-- `harness.card_supply` (R150). -/
abbrev harnessCardSupply : Nat := 0x2810
/-- `harness.card_temp` (R150). -/
abbrev harnessCardTemp : Nat := 0x2811
/-- `harness.crc_errors` (R150). -/
abbrev harnessCrcErrors : Nat := 0x2812
/-- `harness.rejects` (R150). -/
abbrev harnessRejects : Nat := 0x2813
/-- `harness.repeats` (R150). -/
abbrev harnessRepeats : Nat := 0x2814
/-- `harness.missing` (R150). -/
abbrev harnessMissing : Nat := 0x2815
/-- `harness.ack_lost` (R150). -/
abbrev harnessAckLost : Nat := 0x2816
/-- `harness.enum_count` (R150). -/
abbrev harnessEnumCount : Nat := 0x2817
/-- `harness.sensor_records` (R150). -/
abbrev harnessSensorRecords : Nat := 0x2818
/-- `harness.sensor_discards` (R150). -/
abbrev harnessSensorDiscards : Nat := 0x2819
/-- `harness.follows_me` (R150). -/
abbrev harnessFollowsMe : Nat := 0x281A
/-- `prog.cycle_ms` (R182). -/
abbrev progCycleMs : Nat := 0x3000
/-- `prog.state` (R182). -/
abbrev progState : Nat := 0x3001
/-- `prog.cells` (R182). -/
abbrev progCells : Nat := 0x3002
/-- `prog.edges` (R182). -/
abbrev progEdges : Nat := 0x3003
/-- `prog.image_crc` (R182). -/
abbrev progImageCrc : Nat := 0x3004
/-- `prog.load_error` (R182). -/
abbrev progLoadError : Nat := 0x3005
/-- `prog.load_error_cell` (R182). -/
abbrev progLoadErrorCell : Nat := 0x3006
/-- `prog.cores_active` (R182). -/
abbrev progCoresActive : Nat := 0x3007
/-- `prog.overruns` (R182). -/
abbrev progOverruns : Nat := 0x3008
/-- `prog.cycle_max_us` (R182). -/
abbrev progCycleMaxUs : Nat := 0x3009
/-- `prog.cycle_last_us` (R182). -/
abbrev progCycleLastUs : Nat := 0x300A
/-- `prog.graph_last_us` (R182). -/
abbrev progGraphLastUs : Nat := 0x300B
/-- `prog.graph_nom_us` (R182). -/
abbrev progGraphNomUs : Nat := 0x300C
/-- `prog.slow_proj_us` (R182). -/
abbrev progSlowProjUs : Nat := 0x300D
/-- `prog.bp_waits` (R182). -/
abbrev progBpWaits : Nat := 0x300E
/-- `prog.bp_us` (R182). -/
abbrev progBpUs : Nat := 0x300F
/-- `prog.deferred` (R182). -/
abbrev progDeferred : Nat := 0x3010
/-- `prog.list_peak` (R182). -/
abbrev progListPeak : Nat := 0x3011
/-- `prog.cells_run` (R182). -/
abbrev progCellsRun : Nat := 0x3012
/-- `prog.cells_skipped` (R182). -/
abbrev progCellsSkipped : Nat := 0x3013
/-- `prog.cycle_count` (R182). -/
abbrev progCycleCount : Nat := 0x3014
/-- `prog.cell_faults` (R182). -/
abbrev progCellFaults : Nat := 0x3015
/-- `prog.hk_lag` (R182). -/
abbrev progHkLag : Nat := 0x3016
/-- `prog.pub` (R182). -/
abbrev progPub : Nat := 0x3017
/-- `prog.pub_qual` (R182). -/
abbrev progPubQual : Nat := 0x3018
/-- `prog.restart_kind` (R204). -/
abbrev progRestartKind : Nat := 0x3020
/-- `prog.restart_cause` (R204). -/
abbrev progRestartCause : Nat := 0x3021
/-- `prog.warm_refuse` (R204). -/
abbrev progWarmRefuse : Nat := 0x3022
/-- `prog.restart_gap_ms` (R204). -/
abbrev progRestartGapMs : Nat := 0x3023
/-- `prog.warm_gap_cap_ms` (R204). -/
abbrev progWarmGapCapMs : Nat := 0x3024
/-- `prog.warm_max_gap_s` (R204). -/
abbrev progWarmMaxGapS : Nat := 0x3025
/-- `prog.forces` (R204). -/
abbrev progForces : Nat := 0x3026
/-- `prog.force_drops` (R204). -/
abbrev progForceDrops : Nat := 0x3027
/-- `prog.online_changes` (R204). -/
abbrev progOnlineChanges : Nat := 0x3028
/-- `prog.journal_entries` (R204). -/
abbrev progJournalEntries : Nat := 0x3029
/-- `prog.journal_pending` (R204). -/
abbrev progJournalPending : Nat := 0x302A
/-- `prog.staged_crc` (R204). -/
abbrev progStagedCrc : Nat := 0x302B
/-- `prog.previous_crc` (R204). -/
abbrev progPreviousCrc : Nat := 0x302C
/-- `prog.swap_count` (R204). -/
abbrev progSwapCount : Nat := 0x302D
/-- `prog.orphan_teams` (R204). -/
abbrev progOrphanTeams : Nat := 0x302E
/-- `pres.pod_zone` (R221). -/
abbrev presPodZone : Nat := 0x3800
/-- `pres.pod_team` (R221). -/
abbrev presPodTeam : Nat := 0x3801
/-- `pres.pod_lux` (R221). -/
abbrev presPodLux : Nat := 0x3802
/-- `pres.pod_wake` (R221). -/
abbrev presPodWake : Nat := 0x3803
/-- `pres.max_age_ms` (R221). -/
abbrev presMaxAgeMs : Nat := 0x3804
/-- `pres.conf_min` (R221). -/
abbrev presConfMin : Nat := 0x3805
/-- `pres.quorum` (R221). -/
abbrev presQuorum : Nat := 0x3806
/-- `pres.lux_mode` (R221). -/
abbrev presLuxMode : Nat := 0x3807
/-- `pres.pod_data` (R221). -/
abbrev presPodData : Nat := 0x3810
/-- `pres.pod_age_ms` (R221). -/
abbrev presPodAgeMs : Nat := 0x3811
/-- `pres.pod_status` (R221). -/
abbrev presPodStatus : Nat := 0x3812
/-- `pres.pod_seq_gaps` (R221). -/
abbrev presPodSeqGaps : Nat := 0x3813
/-- `pres.zone_occ` (R221). -/
abbrev presZoneOcc : Nat := 0x3814
/-- `pres.zone_stale` (R221). -/
abbrev presZoneStale : Nat := 0x3815
/-- `out.team_zone` (R221). -/
abbrev outTeamZone : Nat := 0x3820
/-- `out.edge_from` (R221). -/
abbrev outEdgeFrom : Nat := 0x3821
/-- `out.edge_to` (R221). -/
abbrev outEdgeTo : Nat := 0x3822
/-- `out.edge_tmin_ms` (R221). -/
abbrev outEdgeTminMs : Nat := 0x3823
/-- `out.edge_tmax_ms` (R221). -/
abbrev outEdgeTmaxMs : Nat := 0x3824
/-- `out.edge_heading` (R221). -/
abbrev outEdgeHeading : Nat := 0x3825
/-- `out.edge_tau_us` (R221). -/
abbrev outEdgeTauUs : Nat := 0x3826
/-- `out.edge_samples` (R221). -/
abbrev outEdgeSamples : Nat := 0x3827
/-- `out.edge_rejects` (R221). -/
abbrev outEdgeRejects : Nat := 0x3828
/-- `out.learn_min` (R221). -/
abbrev outLearnMin : Nat := 0x3829
/-- `out.learn_shift` (R221). -/
abbrev outLearnShift : Nat := 0x382A
/-- `out.reject_pct` (R221). -/
abbrev outRejectPct : Nat := 0x382B
/-- `out.hops` (R221). -/
abbrev outHops : Nat := 0x382C
/-- `out.hold_ms` (R221). -/
abbrev outHoldMs : Nat := 0x382D
/-- `out.entries` (R221). -/
abbrev outEntries : Nat := 0x382E
/-- `out.chain_cut` (R221). -/
abbrev outChainCut : Nat := 0x382F
/-- `out.crowd_skips` (R221). -/
abbrev outCrowdSkips : Nat := 0x3830
/-- `out.frozen` (R221). -/
abbrev outFrozen : Nat := 0x3831
/-- `day.level` (R221). -/
abbrev dayLevel : Nat := 0x3840
/-- `day.limited` (R221). -/
abbrev dayLimited : Nat := 0x3841
/-- `cmd.sessions` (R248). -/
abbrev cmdSessions : Nat := 0x4000
/-- `cmd.session_idle_s` (R248). -/
abbrev cmdSessionIdleS : Nat := 0x4001
/-- `cmd.udp_port` (R248). -/
abbrev cmdUdpPort : Nat := 0x4002
/-- `cmd.auth_required` (R248). -/
abbrev cmdAuthRequired : Nat := 0x4003
/-- `cmd.max_role` (R248). -/
abbrev cmdMaxRole : Nat := 0x4004
/-- `cmd.hp_hi_wm` (R248). -/
abbrev cmdHpHiWm : Nat := 0x4010
/-- `cmd.hp_lo_wm` (R248). -/
abbrev cmdHpLoWm : Nat := 0x4011
/-- `cmd.hp_in_fill` (R248). -/
abbrev cmdHpInFill : Nat := 0x4012
/-- `cmd.hp_out_fill` (R248). -/
abbrev cmdHpOutFill : Nat := 0x4013
/-- `cmd.hp_in_packets` (R248). -/
abbrev cmdHpInPackets : Nat := 0x4014
/-- `cmd.hp_out_packets` (R248). -/
abbrev cmdHpOutPackets : Nat := 0x4015
/-- `cmd.hp_drain` (R248). -/
abbrev cmdHpDrain : Nat := 0x4016
/-- `cmd.hp_drained_in` (R248). -/
abbrev cmdHpDrainedIn : Nat := 0x4017
/-- `cmd.hp_drained_out` (R248). -/
abbrev cmdHpDrainedOut : Nat := 0x4018
/-- `cmd.hp_flushed` (R248). -/
abbrev cmdHpFlushed : Nat := 0x4019
/-- `cmd.hp_overflow` (R248). -/
abbrev cmdHpOverflow : Nat := 0x401A
/-- `cmd.hp_partial` (R248). -/
abbrev cmdHpPartial : Nat := 0x401B
/-- `cmd.hp_bad_cmd` (R248). -/
abbrev cmdHpBadCmd : Nat := 0x401C
/-- `cmd.hp_event` (R248). -/
abbrev cmdHpEvent : Nat := 0x401D
/-- `cmd.hp_event_mask` (R248). -/
abbrev cmdHpEventMask : Nat := 0x401E
/-- `cmd.rx_packets` (R248). -/
abbrev cmdRxPackets : Nat := 0x4020
/-- `cmd.discards` (R248). -/
abbrev cmdDiscards : Nat := 0x4021
/-- `cmd.too_long` (R248). -/
abbrev cmdTooLong : Nat := 0x4022
/-- `cmd.bad_length` (R248). -/
abbrev cmdBadLength : Nat := 0x4023
/-- `cmd.poisoned` (R248). -/
abbrev cmdPoisoned : Nat := 0x4024
/-- `cmd.bad_crc` (R248). -/
abbrev cmdBadCrc : Nat := 0x4025
/-- `cmd.auth_fails` (R248). -/
abbrev cmdAuthFails : Nat := 0x4026
/-- `cmd.replays` (R248). -/
abbrev cmdReplays : Nat := 0x4027
/-- `cmd.seq_gaps` (R248). -/
abbrev cmdSeqGaps : Nat := 0x4028
/-- `cmd.seq_refused` (R248). -/
abbrev cmdSeqRefused : Nat := 0x4029
/-- `cmd.tickets_expired` (R248). -/
abbrev cmdTicketsExpired : Nat := 0x402A
/-- `cmd.replies_dropped` (R248). -/
abbrev cmdRepliesDropped : Nat := 0x402B
/-- `cmd.sv_overflow` (R248). -/
abbrev cmdSvOverflow : Nat := 0x402C
/-- `net.ring_mode` (R282). -/
abbrev netRingMode : Nat := 0x4800
/-- `net.ip_addr` (R282). -/
abbrev netIpAddr : Nat := 0x4801
/-- `net.ip_mask` (R282). -/
abbrev netIpMask : Nat := 0x4802
/-- `net.ip_gateway` (R282). -/
abbrev netIpGateway : Nat := 0x4803
/-- `net.ip_in_use` (R282). -/
abbrev netIpInUse : Nat := 0x4804
/-- `net.vlan_id` (R282). -/
abbrev netVlanId : Nat := 0x4805
/-- `net.vlan_pcp` (R282). -/
abbrev netVlanPcp : Nat := 0x4806
/-- `net.speed` (R282). -/
abbrev netSpeed : Nat := 0x4807
/-- `net.link` (R282). -/
abbrev netLink : Nat := 0x4808
/-- `net.eee_enable` (R282). -/
abbrev netEeeEnable : Nat := 0x4809
/-- `net.eee_idle_us` (R282). -/
abbrev netEeeIdleUs : Nat := 0x480A
/-- `net.eee_tw` (R282). -/
abbrev netEeeTw : Nat := 0x480B
/-- `net.lldp_interval_s` (R282). -/
abbrev netLldpIntervalS : Nat := 0x480C
/-- `net.lldp_partner_tw` (R282). -/
abbrev netLldpPartnerTw : Nat := 0x480D
/-- `net.eee_lpi_ms` (R282). -/
abbrev netEeeLpiMs : Nat := 0x480E
/-- `net.shed_port` (R282). -/
abbrev netShedPort : Nat := 0x480F
/-- `net.entry_forget_ms` (R282). -/
abbrev netEntryForgetMs : Nat := 0x4810
/-- `net.node_forget_s` (R282). -/
abbrev netNodeForgetS : Nat := 0x4811
/-- `net.life_check_ms` (R282). -/
abbrev netLifeCheckMs : Nat := 0x4812
/-- `net.sup_addr_lsb` (R282). -/
abbrev netSupAddrLsb : Nat := 0x4813
/-- `net.node_count` (R282). -/
abbrev netNodeCount : Nat := 0x4814
/-- `net.arp_entries` (R282). -/
abbrev netArpEntries : Nat := 0x4815
/-- `net.rx_buffer_drops` (R282). -/
abbrev netRxBufferDrops : Nat := 0x4840
/-- `net.rx_overflow` (R282). -/
abbrev netRxOverflow : Nat := 0x4841
/-- `net.rx_runts` (R282). -/
abbrev netRxRunts : Nat := 0x4842
/-- `net.rx_oversize` (R282). -/
abbrev netRxOversize : Nat := 0x4843
/-- `net.rx_fcs` (R282). -/
abbrev netRxFcs : Nat := 0x4844
/-- `net.rx_own_removed` (R282). -/
abbrev netRxOwnRemoved : Nat := 0x4845
/-- `net.rx_wrong_lan` (R282). -/
abbrev netRxWrongLan : Nat := 0x4846
/-- `net.rx_dup_discards` (R282). -/
abbrev netRxDupDiscards : Nat := 0x4847
/-- `net.single_path` (R282). -/
abbrev netSinglePath : Nat := 0x4848
/-- `net.fwd_drops` (R282). -/
abbrev netFwdDrops : Nat := 0x4849
/-- `net.tx_drops` (R282). -/
abbrev netTxDrops : Nat := 0x484A
/-- `net.link_downs` (R282). -/
abbrev netLinkDowns : Nat := 0x484B
/-- `net.node_evictions` (R282). -/
abbrev netNodeEvictions : Nat := 0x484C
/-- `net.ip_discards` (R282). -/
abbrev netIpDiscards : Nat := 0x484D
/-- `time.quality` (R307). -/
abbrev timeQuality : Nat := 0x5000
/-- `time.selected` (R307). -/
abbrev timeSelected : Nat := 0x5001
/-- `time.offset_ns` (R307). -/
abbrev timeOffsetNs : Nat := 0x5002
/-- `time.rate_ppb` (R307). -/
abbrev timeRatePpb : Nat := 0x5003
/-- `time.holdover_s` (R307). -/
abbrev timeHoldoverS : Nat := 0x5004
/-- `time.holdover_elapsed_s` (R307). -/
abbrev timeHoldoverElapsedS : Nat := 0x5005
/-- `time.step_ns` (R307). -/
abbrev timeStepNs : Nat := 0x5006
/-- `time.slew_ppb` (R307). -/
abbrev timeSlewPpb : Nat := 0x5007
/-- `time.jump_ms` (R307). -/
abbrev timeJumpMs : Nat := 0x5008
/-- `time.utc_offset_s` (R307). -/
abbrev timeUtcOffsetS : Nat := 0x5009
/-- `time.tz_offset_min` (R307). -/
abbrev timeTzOffsetMin : Nat := 0x500A
/-- `time.adjustments` (R307). -/
abbrev timeAdjustments : Nat := 0x500B
/-- `time.last_adjust_ms` (R307). -/
abbrev timeLastAdjustMs : Nat := 0x500C
/-- `time.switches` (R307). -/
abbrev timeSwitches : Nat := 0x500D
/-- `time.lock_ns` (R307). -/
abbrev timeLockNs : Nat := 0x500E
/-- `time.revert_s` (R307). -/
abbrev timeRevertS : Nat := 0x500F
/-- `time.dom_enable` (R307). -/
abbrev timeDomEnable : Nat := 0x5010
/-- `time.dom_number` (R307). -/
abbrev timeDomNumber : Nat := 0x5011
/-- `time.dom_transport` (R307). -/
abbrev timeDomTransport : Nat := 0x5012
/-- `time.dom_delay_mech` (R307). -/
abbrev timeDomDelayMech : Nat := 0x5013
/-- `time.dom_state` (R307). -/
abbrev timeDomState : Nat := 0x5014
/-- `time.dom_offset_ns` (R307). -/
abbrev timeDomOffsetNs : Nat := 0x5015
/-- `time.dom_path_ns` (R307). -/
abbrev timeDomPathNs : Nat := 0x5016
/-- `time.dom_gm_id` (R307). -/
abbrev timeDomGmId : Nat := 0x5017
/-- `time.dom_steps` (R307). -/
abbrev timeDomSteps : Nat := 0x5018
/-- `time.dom_rate_ppb` (R307). -/
abbrev timeDomRatePpb : Nat := 0x5019
/-- `time.announce_timeout` (R307). -/
abbrev timeAnnounceTimeout : Nat := 0x501A
/-- `time.sync_timeout_ms` (R307). -/
abbrev timeSyncTimeoutMs : Nat := 0x501B
/-- `time.servo_gain` (R307). -/
abbrev timeServoGain : Nat := 0x501C
/-- `time.tc_enable` (R307). -/
abbrev timeTcEnable : Nat := 0x5020
/-- `time.tc_res_max_ns` (R307). -/
abbrev timeTcResMaxNs : Nat := 0x5021
/-- `time.phy_delay_ns` (R307). -/
abbrev timePhyDelayNs : Nat := 0x5022
/-- `time.asym_ns` (R307). -/
abbrev timeAsymNs : Nat := 0x5023
/-- `time.pdelay_ns` (R307). -/
abbrev timePdelayNs : Nat := 0x5024
/-- `time.ts_missed` (R307). -/
abbrev timeTsMissed : Nat := 0x5030
/-- `time.ts_overflows` (R307). -/
abbrev timeTsOverflows : Nat := 0x5031
/-- `time.ts_queue_peak` (R307). -/
abbrev timeTsQueuePeak : Nat := 0x5032
/-- `time.cal` (R307). -/
abbrev timeCal : Nat := 0x5040
/-- `time.cal_status` (R307). -/
abbrev timeCalStatus : Nat := 0x5041
/-- `time.continuity` (R307). -/
abbrev timeContinuity : Nat := 0x5042
/-- `time.rtc_ticks` (R307). -/
abbrev timeRtcTicks : Nat := 0x5043
/-- `time.rtc_trim_ppb` (R307). -/
abbrev timeRtcTrimPpb : Nat := 0x5044
/-- `time.wake_period` (R307). -/
abbrev timeWakePeriod : Nat := 0x5045
/-- `time.wake_count` (R307). -/
abbrev timeWakeCount : Nat := 0x5046
/-- `time.alarm_s` (R307). -/
abbrev timeAlarmS : Nat := 0x5050
/-- `time.alarm_nf` (R307). -/
abbrev timeAlarmNf : Nat := 0x5051
/-- `time.alarm_period_ms` (R307). -/
abbrev timeAlarmPeriodMs : Nat := 0x5052
/-- `time.alarm_ctrl` (R307). -/
abbrev timeAlarmCtrl : Nat := 0x5053
/-- `time.alarm_status` (R307). -/
abbrev timeAlarmStatus : Nat := 0x5054
/-- `time.sched_entries` (R307). -/
abbrev timeSchedEntries : Nat := 0x5060
/-- `time.sched_excess` (R307). -/
abbrev timeSchedExcess : Nat := 0x5061
/-- `time.jumps` (R307). -/
abbrev timeJumps : Nat := 0x5062
/-- `relay.enable` (R336). -/
abbrev relayEnable : Nat := 0x5800
/-- `relay.slotframe` (R336). -/
abbrev relaySlotframe : Nat := 0x5801
/-- `relay.rate` (R336). -/
abbrev relayRate : Nat := 0x5802
/-- `relay.pan_id` (R336). -/
abbrev relayPanId : Nat := 0x5803
/-- `relay.chan_exclude` (R336). -/
abbrev relayChanExclude : Nat := 0x5804
/-- `relay.hop_count` (R336). -/
abbrev relayHopCount : Nat := 0x5805
/-- `relay.shared_slots` (R336). -/
abbrev relaySharedSlots : Nat := 0x5806
/-- `relay.beacon_every` (R336). -/
abbrev relayBeaconEvery : Nat := 0x5807
/-- `relay.tx_dbm` (R336). -/
abbrev relayTxDbm : Nat := 0x5808
/-- `relay.time_role` (R336). -/
abbrev relayTimeRole : Nat := 0x5809
/-- `relay.time_parent` (R336). -/
abbrev relayTimeParent : Nat := 0x580A
/-- `relay.guard_us` (R336). -/
abbrev relayGuardUs : Nat := 0x580B
/-- `relay.ttl` (R336). -/
abbrev relayTtl : Nat := 0x580C
/-- `relay.module_relays` (R336). -/
abbrev relayModuleRelays : Nat := 0x580D
/-- `relay.pod_period` (R336). -/
abbrev relayPodPeriod : Nat := 0x580E
/-- `relay.rt_period` (R336). -/
abbrev relayRtPeriod : Nat := 0x580F
/-- `relay.shed_radio` (R336). -/
abbrev relayShedRadio : Nat := 0x5810
/-- `relay.frag_timeout_ms` (R336). -/
abbrev relayFragTimeoutMs : Nat := 0x5811
/-- `relay.forget_days` (R336). -/
abbrev relayForgetDays : Nat := 0x5812
/-- `relay.permit_s` (R336). -/
abbrev relayPermitS : Nat := 0x5813
/-- `relay.nodes` (R336). -/
abbrev relayNodes : Nat := 0x5814
/-- `relay.asn` (R336). -/
abbrev relayAsn : Nat := 0x5815
/-- `relay.fc_out` (R336). -/
abbrev relayFcOut : Nat := 0x5816
/-- `relay.key_gen` (R336). -/
abbrev relayKeyGen : Nat := 0x5817
/-- `relay.coord_eui` (R336). -/
abbrev relayCoordEui : Nat := 0x5818
/-- `relay.unbound_fallback` (R336). -/
abbrev relayUnboundFallback : Nat := 0x5819
/-- `relay.rt_fallback` (R336). -/
abbrev relayRtFallback : Nat := 0x5820
/-- `relay.rt_fallback_fade_ms` (R336). -/
abbrev relayRtFallbackFadeMs : Nat := 0x5821
/-- `relay.rt_node` (R336). -/
abbrev relayRtNode : Nat := 0x5822
/-- `relay.rt_status` (R336). -/
abbrev relayRtStatus : Nat := 0x5823
/-- `relay.node_eui` (R336). -/
abbrev relayNodeEui : Nat := 0x5830
/-- `relay.node_kind` (R336). -/
abbrev relayNodeKind : Nat := 0x5831
/-- `relay.node_state` (R336). -/
abbrev relayNodeState : Nat := 0x5832
/-- `relay.node_cell` (R336). -/
abbrev relayNodeCell : Nat := 0x5833
/-- `relay.node_drift_ppb` (R336). -/
abbrev relayNodeDriftPpb : Nat := 0x5834
/-- `relay.node_fc_in` (R336). -/
abbrev relayNodeFcIn : Nat := 0x5835
/-- `relay.node_age_ms` (R336). -/
abbrev relayNodeAgeMs : Nat := 0x5836
/-- `relay.refused` (R336). -/
abbrev relayRefused : Nat := 0x5840
/-- `relay.replays` (R336). -/
abbrev relayReplays : Nat := 0x5841
/-- `relay.yoke_dups` (R336). -/
abbrev relayYokeDups : Nat := 0x5842
/-- `relay.seen_drops` (R336). -/
abbrev relaySeenDrops : Nat := 0x5843
/-- `relay.air_defers` (R336). -/
abbrev relayAirDefers : Nat := 0x5844
/-- `relay.air_used_ms` (R336). -/
abbrev relayAirUsedMs : Nat := 0x5845
/-- `relay.missed_beacons` (R336). -/
abbrev relayMissedBeacons : Nat := 0x5846
/-- `relay.desyncs` (R336). -/
abbrev relayDesyncs : Nat := 0x5847
/-- `relay.frag_drops` (R336). -/
abbrev relayFragDrops : Nat := 0x5848
/-- `relay.rt_resends` (R336). -/
abbrev relayRtResends : Nat := 0x5849
/-- `relay.window_misses` (R336). -/
abbrev relayWindowMisses : Nat := 0x584A
/-- `relay.cell_stretch` (R336). -/
abbrev relayCellStretch : Nat := 0x584B
/-- `sb.state` (R360). -/
abbrev sbState : Nat := 0x6000
/-- `sb.flags` (R360). -/
abbrev sbFlags : Nat := 0x6001
/-- `sb.eject` (R360). -/
abbrev sbEject : Nat := 0x6002
/-- `sb.adopt` (R360). -/
abbrev sbAdopt : Nat := 0x6003
/-- `sb.serial` (R360). -/
abbrev sbSerial : Nat := 0x6004
/-- `sb.set_id` (R360). -/
abbrev sbSetId : Nat := 0x6005
/-- `sb.mirror_gen` (R360). -/
abbrev sbMirrorGen : Nat := 0x6006
/-- `sb.bus_mode` (R360). -/
abbrev sbBusMode : Nat := 0x6007
/-- `sb.max_mode` (R360). -/
abbrev sbMaxMode : Nat := 0x6008
/-- `sb.temp` (R360). -/
abbrev sbTemp : Nat := 0x6009
/-- `sb.resilver_pct` (R360). -/
abbrev sbResilverPct : Nat := 0x6010
/-- `sb.resilver_eta_s` (R360). -/
abbrev sbResilverEtaS : Nat := 0x6011
/-- `sb.resilver_kind` (R360). -/
abbrev sbResilverKind : Nat := 0x6012
/-- `sb.hold` (R360). -/
abbrev sbHold : Nat := 0x6013
/-- `sb.scrub_days` (R360). -/
abbrev sbScrubDays : Nat := 0x6014
/-- `sb.refresh_days` (R360). -/
abbrev sbRefreshDays : Nat := 0x6015
/-- `sb.refresh_pct` (R360). -/
abbrev sbRefreshPct : Nat := 0x6016
/-- `sb.spare_warn` (R360). -/
abbrev sbSpareWarn : Nat := 0x6017
/-- `sb.prog_temp_min` (R360). -/
abbrev sbProgTempMin : Nat := 0x6018
/-- `sb.prog_temp_max` (R360). -/
abbrev sbProgTempMax : Nat := 0x6019
/-- `sb.spare` (R360). -/
abbrev sbSpare : Nat := 0x6020
/-- `sb.bad_blocks` (R360). -/
abbrev sbBadBlocks : Nat := 0x6021
/-- `sb.factory_bad` (R360). -/
abbrev sbFactoryBad : Nat := 0x6022
/-- `sb.erase_max` (R360). -/
abbrev sbEraseMax : Nat := 0x6023
/-- `sb.erase_mean` (R360). -/
abbrev sbEraseMean : Nat := 0x6024
/-- `sb.life_pct` (R360). -/
abbrev sbLifePct : Nat := 0x6025
/-- `sb.families` (R360). -/
abbrev sbFamilies : Nat := 0x6026
/-- `sb.uncorrectable` (R360). -/
abbrev sbUncorrectable : Nat := 0x6027
/-- `sb.lost_units` (R360). -/
abbrev sbLostUnits : Nat := 0x6028
/-- `sb.archive_blocks` (R360). -/
abbrev sbArchiveBlocks : Nat := 0x6029
/-- `wb.records` (R375). -/
abbrev wbRecords : Nat := 0x6800
/-- `wb.frozen` (R375). -/
abbrev wbFrozen : Nat := 0x6801
/-- `wb.staged` (R375). -/
abbrev wbStaged : Nat := 0x6802
/-- `wb.next_index` (R375). -/
abbrev wbNextIndex : Nat := 0x6803
/-- `wb.oldest_index` (R375). -/
abbrev wbOldestIndex : Nat := 0x6804
/-- `wb.held` (R375). -/
abbrev wbHeld : Nat := 0x6805
/-- `wb.freeze_max_s` (R375). -/
abbrev wbFreezeMaxS : Nat := 0x6806
/-- `wb.stage_lost` (R375). -/
abbrev wbStageLost : Nat := 0x6807
/-- `wb.crit_dropped` (R375). -/
abbrev wbCritDropped : Nat := 0x6808
/-- `wb.no_room` (R375). -/
abbrev wbNoRoom : Nat := 0x6809
/-- `wb.clears` (R375). -/
abbrev wbClears : Nat := 0x680A
/-- `wb.code_snap` (R375). -/
abbrev wbCodeSnap : Nat := 0x6810
/-- `wb.rate_burst` (R375). -/
abbrev wbRateBurst : Nat := 0x6811
/-- `wb.rate_per_h` (R375). -/
abbrev wbRatePerH : Nat := 0x6812
/-- `wb.suppressed` (R375). -/
abbrev wbSuppressed : Nat := 0x6813
/-- `wb.snapset` (R375). -/
abbrev wbSnapset : Nat := 0x6814
/-- `wb.alarm_stats` (R375). -/
abbrev wbAlarmStats : Nat := 0x6815
/-- `key.slot_state` (R397). -/
abbrev keySlotState : Nat := 0x7000
/-- `key.slot_attr` (R397). -/
abbrev keySlotAttr : Nat := 0x7001
/-- `key.slot_check` (R397). -/
abbrev keySlotCheck : Nat := 0x7002
/-- `key.slot_gen` (R397). -/
abbrev keySlotGen : Nat := 0x7003
/-- `key.slot_half` (R397). -/
abbrev keySlotHalf : Nat := 0x7004
/-- `key.slot_uses` (R397). -/
abbrev keySlotUses : Nat := 0x7005
/-- `key.vault_wear_pct` (R397). -/
abbrev keyVaultWearPct : Nat := 0x7006
/-- `key.lifecycle_changes` (R397). -/
abbrev keyLifecycleChanges : Nat := 0x7007
/-- `key.tamper_cfg` (R397). -/
abbrev keyTamperCfg : Nat := 0x7008
/-- `key.tamper_status` (R397). -/
abbrev keyTamperStatus : Nat := 0x7009
/-- `key.tamper_events` (R397). -/
abbrev keyTamperEvents : Nat := 0x700A
/-- `key.zeroisations` (R397). -/
abbrev keyZeroisations : Nat := 0x700B
/-- `key.orphan_events` (R397). -/
abbrev keyOrphanEvents : Nat := 0x700C
/-- `key.rng_status` (R397). -/
abbrev keyRngStatus : Nat := 0x700D
/-- `key.vault_commits` (R397). -/
abbrev keyVaultCommits : Nat := 0x700E
/-- `key.load_fails` (R397). -/
abbrev keyLoadFails : Nat := 0x700F
/-- `key.attr_refusals` (R397). -/
abbrev keyAttrRefusals : Nat := 0x7010
/-- `key.root_check` (R397). -/
abbrev keyRootCheck : Nat := 0x7011
/-- `key.aes_ops` (R397). -/
abbrev keyAesOps : Nat := 0x7020
/-- `key.revoked_replies` (R397). -/
abbrev keyRevokedReplies : Nat := 0x7021
/-- `upd.state` (R416). -/
abbrev updState : Nat := 0x7800
/-- `upd.holder` (R416). -/
abbrev updHolder : Nat := 0x7801
/-- `upd.source` (R416). -/
abbrev updSource : Nat := 0x7802
/-- `upd.digest` (R416). -/
abbrev updDigest : Nat := 0x7803
/-- `upd.size_words` (R416). -/
abbrev updSizeWords : Nat := 0x7804
/-- `upd.words_rx` (R416). -/
abbrev updWordsRx : Nat := 0x7805
/-- `upd.idle_s` (R416). -/
abbrev updIdleS : Nat := 0x7806
/-- `upd.defer_switch` (R416). -/
abbrev updDeferSwitch : Nat := 0x7807
/-- `upd.switch_now` (R416). -/
abbrev updSwitchNow : Nat := 0x7808
/-- `upd.probation_s` (R416). -/
abbrev updProbationS : Nat := 0x7809
/-- `upd.probation_left_s` (R416). -/
abbrev updProbationLeftS : Nat := 0x780A
/-- `upd.confirm` (R416). -/
abbrev updConfirm : Nat := 0x780B
/-- `upd.fallback` (R416). -/
abbrev updFallback : Nat := 0x780C
/-- `upd.min_build` (R416). -/
abbrev updMinBuild : Nat := 0x780D
/-- `upd.slot_state` (R416). -/
abbrev updSlotState : Nat := 0x780E
/-- `upd.slot_build` (R416). -/
abbrev updSlotBuild : Nat := 0x780F
/-- `upd.refusals` (R416). -/
abbrev updRefusals : Nat := 0x7810
/-- `upd.last_refusal` (R416). -/
abbrev updLastRefusal : Nat := 0x7811
/-- `upd.slot_digest` (R416). -/
abbrev updSlotDigest : Nat := 0x7812
/-- `upd.enter_farrier` (R416). -/
abbrev updEnterFarrier : Nat := 0x7813
/-- `upd.wait_cause` (R416). -/
abbrev updWaitCause : Nat := 0x7814
/-- `upd.pair_state` (R416). -/
abbrev updPairState : Nat := 0x7815
/-- `tdm.role` (R444). -/
abbrev tdmRole : Nat := 0x8000
/-- `tdm.enable` (R444). -/
abbrev tdmEnable : Nat := 0x8001
/-- `tdm.state` (R444). -/
abbrev tdmState : Nat := 0x8002
/-- `tdm.status` (R444). -/
abbrev tdmStatus : Nat := 0x8003
/-- `tdm.partner_serial` (R444). -/
abbrev tdmPartnerSerial : Nat := 0x8004
/-- `tdm.partner_ip` (R444). -/
abbrev tdmPartnerIp : Nat := 0x8005
/-- `tdm.precedence` (R444). -/
abbrev tdmPrecedence : Nat := 0x8006
/-- `tdm.hb_link_us` (R444). -/
abbrev tdmHbLinkUs : Nat := 0x8007
/-- `tdm.hb_ring_ms` (R444). -/
abbrev tdmHbRingMs : Nat := 0x8008
/-- `tdm.hb_ring_miss` (R444). -/
abbrev tdmHbRingMiss : Nat := 0x8009
/-- `tdm.contest_ms` (R444). -/
abbrev tdmContestMs : Nat := 0x800A
/-- `tdm.witness_addr` (R444). -/
abbrev tdmWitnessAddr : Nat := 0x800B
/-- `tdm.witness_port` (R444). -/
abbrev tdmWitnessPort : Nat := 0x800C
/-- `tdm.lock_ps` (R444). -/
abbrev tdmLockPs : Nat := 0x800D
/-- `tdm.link_delay_ns` (R444). -/
abbrev tdmLinkDelayNs : Nat := 0x800E
/-- `tdm.commit_octets` (R444). -/
abbrev tdmCommitOctets : Nat := 0x800F
/-- `tdm.copy_octets` (R444). -/
abbrev tdmCopyOctets : Nat := 0x8010
/-- `tdm.copy_backlog` (R444). -/
abbrev tdmCopyBacklog : Nat := 0x8011
/-- `tdm.copy_us` (R444). -/
abbrev tdmCopyUs : Nat := 0x8012
/-- `tdm.contest_own` (R444). -/
abbrev tdmContestOwn : Nat := 0x8013
/-- `tdm.contest_partner` (R444). -/
abbrev tdmContestPartner : Nat := 0x8014
/-- `tdm.contest_result` (R444). -/
abbrev tdmContestResult : Nat := 0x8015
/-- `tdm.switchovers` (R444). -/
abbrev tdmSwitchovers : Nat := 0x8016
/-- `tdm.contests` (R444). -/
abbrev tdmContests : Nat := 0x8017
/-- `tdm.ack_mismatch` (R444). -/
abbrev tdmAckMismatch : Nat := 0x8018
/-- `tdm.realigns` (R444). -/
abbrev tdmRealigns : Nat := 0x8019
/-- `tdm.pole_conflicts` (R444). -/
abbrev tdmPoleConflicts : Nat := 0x801A
/-- `tdm.role_since_s` (R444). -/
abbrev tdmRoleSinceS : Nat := 0x801B
/-- `pwr.state` (R264). -/
abbrev pwrState : Nat := 0x8800
/-- `pwr.tolerance_us` (R264). -/
abbrev pwrToleranceUs : Nat := 0x8801
/-- `pwr.state_floor` (R264). -/
abbrev pwrStateFloor : Nat := 0x8802
/-- `pwr.exit_us` (R264). -/
abbrev pwrExitUs : Nat := 0x8803
/-- `pwr.shed_step` (R264). -/
abbrev pwrShedStep : Nat := 0x8804
/-- `pwr.shed_max` (R264). -/
abbrev pwrShedMax : Nat := 0x8805
/-- `pwr.shed_thresh_mv` (R264). -/
abbrev pwrShedThreshMv : Nat := 0x8806
/-- `pwr.shed_hyst_mv` (R264). -/
abbrev pwrShedHystMv : Nat := 0x8807
/-- `pwr.reset_mv` (R264). -/
abbrev pwrResetMv : Nat := 0x8808
/-- `pwr.shed_entries` (R264). -/
abbrev pwrShedEntries : Nat := 0x8809
/-- `pwr.vin_mv` (R264). -/
abbrev pwrVinMv : Nat := 0x880A
/-- `pwr.vin_min_mv` (R264). -/
abbrev pwrVinMinMv : Nat := 0x880B
/-- `pwr.vbat_mv` (R264). -/
abbrev pwrVbatMv : Nat := 0x880C
/-- `pwr.supercap_mv` (R264). -/
abbrev pwrSupercapMv : Nat := 0x880D
/-- `pwr.core_mv` (R264). -/
abbrev pwrCoreMv : Nat := 0x880E
/-- `pwr.avs_enable` (R264). -/
abbrev pwrAvsEnable : Nat := 0x880F
/-- `pwr.avs_margin_pct` (R264). -/
abbrev pwrAvsMarginPct : Nat := 0x8810
/-- `pwr.domain_on` (R264). -/
abbrev pwrDomainOn : Nat := 0x8811
/-- `pwr.domain_mw` (R264). -/
abbrev pwrDomainMw : Nat := 0x8812
/-- `pwr.module_mw` (R264). -/
abbrev pwrModuleMw : Nat := 0x8813
/-- `pwr.state_time_s` (R264). -/
abbrev pwrStateTimeS : Nat := 0x8814
/-- `pwr.wake_cause` (R264). -/
abbrev pwrWakeCause : Nat := 0x8815
/-- `pwr.brownouts` (R264). -/
abbrev pwrBrownouts : Nat := 0x8816
/-- `pwr.standdowns` (R264). -/
abbrev pwrStanddowns : Nat := 0x8817
/-- `test.banks` (R477). -/
abbrev testBanks : Nat := 0x9000
/-- `test.sessions` (R477). -/
abbrev testSessions : Nat := 0x9001
/-- `test.state` (R477). -/
abbrev testState : Nat := 0x9002
/-- `test.pattern` (R477). -/
abbrev testPattern : Nat := 0x9003
/-- `test.end_cause` (R477). -/
abbrev testEndCause : Nat := 0x9004
/-- `test.bits` (R477). -/
abbrev testBits : Nat := 0x9005
/-- `test.bit_errors` (R477). -/
abbrev testBitErrors : Nat := 0x9006
/-- `test.word_errors` (R477). -/
abbrev testWordErrors : Nat := 0x9007
/-- `test.lane_errors` (R477). -/
abbrev testLaneErrors : Nat := 0x9008

end Sys2Proof.Machine.Pid
end

