-- ==== Sys2Proof/Machine/ParamRows.lean ====
section
/-! DEFINITION.  The parameter map of the spec as data: one row per listed parameter, with its
identifier, element count, format, reading and writing role (15 where no SET is permitted,
R10), cold and warm reset value (R9), range (R12), boundary mark (R258), record mark (R258)
and its mnemonic as the number its ASCII octets spell. -/

namespace Sys2Proof.Machine

/-- The format column of a parameter table (Reading parameter maps). -/
inductive Format where
  | u8 | u16 | u32 | s16 | s32 | bcd8 | bool | enum
  | bits (n : Nat)
  deriving DecidableEq, Repr

/-- The cold column of a parameter table (R9).  A list of one number stands for every
element. -/
inductive ColdReset where
  /-- a number: the parameter takes it at a cold reset -/
  | fresh (values : List Int)
  /-- *stored*: loaded from the active settings generation, else the default in parentheses -/
  | stored (values : List Int)
  /-- *kept* through a cold reset: fuses, vault, D0 or a strap -/
  | kept
  deriving DecidableEq, Repr

/-- The warm column of a parameter table (R9). -/
inductive WarmReset where
  | kept
  | fixed (value : Int)
  deriving DecidableEq, Repr

/-- What a SET may write (R12). -/
inductive Range where
  /-- no W entry -/
  | none
  /-- every value of the format -/
  | free
  /-- the stated range -/
  | span (lo hi : Int)
  /-- a write of 0 clears and every other value is out of range -/
  | clear0
  /-- a field map with these bits assigned and the others reserved (R11) -/
  | mask (assigned : Nat)
  /-- a range that depends on other parameters or has holes: `elementInRange` states it -/
  | special
  deriving DecidableEq, Repr

/-- The record-bound mark of R258. -/
inductive RecordMark where
  | no | scan | measurement | pod
  deriving DecidableEq, Repr

/-- One row of a parameter table. -/
structure ParamRow where
  id : Nat
  count : Nat
  format : Format
  readRole : Nat
  writeRole : Nat
  cold : ColdReset
  warm : WarmReset
  range : Range
  boundary : Bool
  record : RecordMark
  /-- the mnemonic's ASCII octets, the first most significant -/
  mnemonic : Nat
  deriving DecidableEq, Repr

/-- Rows of the `id.` tables. -/
def rowsId : List ParamRow := [
  -- id.vendor, 11 R261
  ⟨0x0000, 1, .u32, 0, 15, (.fresh [1145133144]), (.fixed 1145133144), .none, false, .no, 0x69642E76656E646F72⟩,
  -- id.part, 11 R261
  ⟨0x0001, 1, .u16, 0, 15, (.fresh [1298]), (.fixed 1298), .none, false, .no, 0x69642E70617274⟩,
  -- id.variant, 11 R261
  ⟨0x0002, 1, .enum, 0, 15, .kept, .kept, .none, false, .no, 0x69642E76617269616E74⟩,
  -- id.serial[half], 11 R261
  ⟨0x0003, 2, .u32, 0, 15, .kept, .kept, .none, false, .no, 0x69642E73657269616C⟩,
  -- id.die_rev, 11 R261
  ⟨0x0004, 1, .u16, 0, 15, .kept, .kept, .none, false, .no, 0x69642E6469655F726576⟩,
  -- id.module_rev, 11 R261
  ⟨0x0005, 1, .u16, 0, 15, .kept, .kept, .none, false, .no, 0x69642E6D6F64756C655F726576⟩,
  -- id.mfg_date, 11 R261
  ⟨0x0006, 4, .bcd8, 0, 15, .kept, .kept, .none, false, .no, 0x69642E6D66675F64617465⟩,
  -- id.lifecycle, 11 R261
  ⟨0x0007, 1, .enum, 0, 15, .kept, .kept, .none, false, .no, 0x69642E6C6966656379636C65⟩,
  -- id.fw_slot, 11 R261
  ⟨0x0008, 1, .enum, 0, 15, .kept, .kept, .none, false, .no, 0x69642E66775F736C6F74⟩,
  -- id.fw_build, 11 R261
  ⟨0x0009, 1, .u16, 0, 15, .kept, .kept, .none, false, .no, 0x69642E66775F6275696C64⟩,
  -- id.fw_digest, 11 R261
  ⟨0x000A, 8, .u32, 0, 15, .kept, .kept, .none, false, .no, 0x69642E66775F646967657374⟩,
  -- id.rom_version, 11 R261
  ⟨0x000B, 1, .u16, 0, 15, .kept, .kept, .none, false, .no, 0x69642E726F6D5F76657273696F6E⟩,
  -- id.mac[port], 11 R261
  ⟨0x000C, 4, .u32, 0, 15, .kept, .kept, .none, false, .no, 0x69642E6D6163⟩,
  -- id.eui64[half], 11 R261
  ⟨0x000D, 2, .u32, 0, 15, .kept, .kept, .none, false, .no, 0x69642E6575693634⟩,
  -- id.channels, 11 R261
  ⟨0x000E, 1, .u16, 0, 15, (.fresh [512]), (.fixed 512), .none, false, .no, 0x69642E6368616E6E656C73⟩,
  -- id.param_count, 11 R261
  ⟨0x000F, 1, .u16, 0, 15, (.fresh [2824]), (.fixed 2824), .none, false, .no, 0x69642E706172616D5F636F756E74⟩]

/-- Rows of the `sys.` tables. -/
def rowsSys1 : List ParamRow := [
  -- sys.name, 11 R262
  ⟨0x0100, 8, .u32, 0, 3, (.stored [0]), .kept, .free, false, .no, 0x7379732E6E616D65⟩,
  -- sys.site_id, 11 R262
  ⟨0x0101, 1, .u32, 0, 3, (.stored [0]), .kept, .free, false, .no, 0x7379732E736974655F6964⟩,
  -- sys.segment_id, 11 R262
  ⟨0x0102, 1, .u16, 0, 3, (.stored [0]), .kept, .free, false, .no, 0x7379732E7365676D656E745F6964⟩,
  -- sys.health, 11 R262
  ⟨0x0103, 1, (.bits 16), 0, 15, (.fresh [0]), .kept, .none, false, .no, 0x7379732E6865616C7468⟩,
  -- sys.uptime_s, 11 R262
  ⟨0x0104, 1, .u32, 0, 15, (.fresh [0]), .kept, .none, false, .no, 0x7379732E757074696D655F73⟩,
  -- sys.hours, 11 R262
  ⟨0x0105, 1, .u32, 0, 15, (.stored [0]), .kept, .none, false, .no, 0x7379732E686F757273⟩,
  -- sys.cold_restarts, 11 R262
  ⟨0x0106, 1, .u32, 0, 15, (.stored [0]), .kept, .none, false, .no, 0x7379732E636F6C645F7265737461727473⟩,
  -- sys.warm_restarts, 11 R262
  ⟨0x0107, 1, .u32, 0, 15, (.stored [0]), .kept, .none, false, .no, 0x7379732E7761726D5F7265737461727473⟩,
  -- sys.counter_hi, 11 R262
  ⟨0x0108, 1, .u32, 0, 15, (.fresh [0]), .kept, .none, false, .no, 0x7379732E636F756E7465725F6869⟩,
  -- sys.counter_lo, 11 R262
  ⟨0x0109, 1, .u32, 0, 15, (.fresh [0]), .kept, .none, false, .no, 0x7379732E636F756E7465725F6C6F⟩,
  -- sys.temp_die, 11 R262
  ⟨0x010A, 1, .s16, 0, 15, (.fresh [0]), .kept, .none, false, .no, 0x7379732E74656D705F646965⟩,
  -- sys.temp_die_max, 11 R262
  ⟨0x010B, 1, .s16, 0, 2, (.stored [(-4000)]), .kept, .clear0, false, .no, 0x7379732E74656D705F6469655F6D6178⟩,
  -- sys.temp_module, 11 R262
  ⟨0x010C, 1, .s16, 0, 15, (.fresh [0]), .kept, .none, false, .no, 0x7379732E74656D705F6D6F64756C65⟩,
  -- sys.spine_err_ps, 11 R262
  ⟨0x010D, 1, .u16, 0, 15, (.fresh [0]), .kept, .none, false, .no, 0x7379732E7370696E655F6572725F7073⟩,
  -- sys.spine_unlocks, 11 R262
  ⟨0x010E, 1, .u32, 0, 2, (.fresh [0]), .kept, .clear0, false, .no, 0x7379732E7370696E655F756E6C6F636B73⟩,
  -- sys.tcxo_losses, 11 R262
  ⟨0x010F, 1, .u32, 0, 2, (.stored [0]), .kept, .clear0, false, .no, 0x7379732E7463786F5F6C6F73736573⟩,
  -- sys.owner_lock, 11 R262
  ⟨0x0110, 1, .bool, 0, 3, (.stored [0]), .kept, (.span 0 1), false, .no, 0x7379732E6F776E65725F6C6F636B⟩,
  -- sys.settings_gen, 11 R262
  ⟨0x0111, 1, .u32, 0, 15, (.stored [0]), .kept, .none, false, .no, 0x7379732E73657474696E67735F67656E⟩,
  -- sys.settings_state, 11 R262
  ⟨0x0112, 1, .enum, 0, 15, (.fresh [0]), .kept, .none, false, .no, 0x7379732E73657474696E67735F7374617465⟩,
  -- sys.settings_pending, 11 R262
  ⟨0x0113, 1, .u16, 0, 15, (.fresh [0]), .kept, .none, false, .no, 0x7379732E73657474696E67735F70656E64696E67⟩]

/-- Rows of the `sys.` tables. -/
def rowsSys2 : List ParamRow := [
  -- sys.settings_writes, 11 R262
  ⟨0x0114, 1, .u32, 0, 15, (.stored [0]), .kept, .none, false, .no, 0x7379732E73657474696E67735F777269746573⟩,
  -- sys.param_sets, 11 R262
  ⟨0x0115, 1, .u32, 0, 15, (.fresh [0]), .kept, .none, false, .no, 0x7379732E706172616D5F73657473⟩,
  -- sys.service_load, 11 R262
  ⟨0x0116, 1, .u8, 0, 15, (.fresh [0]), .kept, .none, false, .no, 0x7379732E736572766963655F6C6F6164⟩,
  -- sys.fw_fallbacks, 11 R262
  ⟨0x0117, 1, .u32, 0, 15, (.stored [0]), .kept, .none, false, .no, 0x7379732E66775F66616C6C6261636B73⟩]

/-- Rows of the `drv.` tables. -/
def rowsDrv1 : List ParamRow := [
  -- drv.period_ns[bank], 02 R57
  ⟨0x1000, 16, .u32, 0, 2, (.stored [40000]), .kept, .special, true, .no, 0x6472762E706572696F645F6E73⟩,
  -- drv.stagger_mode[bank], 02 R57
  ⟨0x1001, 16, .enum, 0, 2, (.stored [2]), .kept, (.span 0 2), true, .no, 0x6472762E737461676765725F6D6F6465⟩,
  -- drv.min_pulse_ns[bank], 02 R57
  ⟨0x1002, 16, .u16, 0, 15, (.fresh [0]), .kept, .none, false, .no, 0x6472762E6D696E5F70756C73655F6E73⟩,
  -- drv.gather_max[bank], 02 R57
  ⟨0x1003, 16, .u8, 0, 2, (.stored [64]), .kept, (.span 1 64), false, .no, 0x6472762E6761746865725F6D6178⟩,
  -- drv.emlt_mask[bank], 02 R57
  ⟨0x1004, 16, (.bits 32), 0, 3, (.stored [4294967295]), .kept, (.mask 0xFFFFFFFF), false, .no, 0x6472762E656D6C745F6D61736B⟩,
  -- drv.emlt_amp[channel], 02 R57
  ⟨0x1005, 512, .u16, 0, 3, (.stored [4095]), .kept, (.span 0 4095), false, .no, 0x6472762E656D6C745F616D70⟩,
  -- drv.emlt_release_us, 02 R57
  ⟨0x1006, 1, .u32, 0, 3, (.stored [1000]), .kept, (.span 100 60000000), false, .no, 0x6472762E656D6C745F72656C656173655F7573⟩,
  -- drv.ride_mode[bank], 02 R57
  ⟨0x1007, 16, .enum, 0, 2, (.stored [0]), .kept, (.span 0 1), false, .no, 0x6472762E726964655F6D6F6465⟩,
  -- drv.ride_duty[channel], 02 R57
  ⟨0x1008, 512, .u16, 0, 2, (.stored [0]), .kept, .free, false, .no, 0x6472762E726964655F64757479⟩,
  -- drv.team_size[team], 02 R57
  ⟨0x1010, 512, .u8, 0, 2, (.stored [1]), .kept, .special, true, .no, 0x6472762E7465616D5F73697A65⟩,
  -- drv.dim_mode[team], 02 R57
  ⟨0x1011, 512, .enum, 0, 2, (.stored [2]), .kept, (.span 0 2), true, .no, 0x6472762E64696D5F6D6F6465⟩,
  -- drv.xover[team], 02 R57
  ⟨0x1012, 512, .u16, 0, 2, (.stored [16384]), .kept, (.span 64 65535), false, .no, 0x6472762E786F766572⟩,
  -- drv.pwm_amp[team], 02 R57
  ⟨0x1013, 512, .u16, 0, 2, (.stored [4095]), .kept, (.span 1 4095), false, .no, 0x6472762E70776D5F616D70⟩,
  -- drv.fade_up_ms[team], 02 R57
  ⟨0x1014, 512, .u32, 0, 1, (.stored [500]), .kept, (.span 0 600000), false, .no, 0x6472762E666164655F75705F6D73⟩,
  -- drv.fade_down_ms[team], 02 R57
  ⟨0x1015, 512, .u32, 0, 1, (.stored [2000]), .kept, (.span 0 600000), false, .no, 0x6472762E666164655F646F776E5F6D73⟩,
  -- drv.fade_release_ms[team], 02 R57
  ⟨0x1016, 512, .u32, 0, 1, (.stored [1000]), .kept, (.span 0 600000), false, .no, 0x6472762E666164655F72656C656173655F6D73⟩,
  -- drv.fade_curve[team], 02 R57
  ⟨0x1017, 512, .enum, 0, 1, (.stored [1]), .kept, (.span 0 1), false, .no, 0x6472762E666164655F6375727665⟩,
  -- drv.out_frac[channel], 02 R57
  ⟨0x1020, 512, .u32, 0, 15, (.fresh [0]), .kept, .none, false, .no, 0x6472762E6F75745F66726163⟩,
  -- drv.out_amp[channel], 02 R57
  ⟨0x1021, 512, .u16, 0, 15, (.fresh [0]), .kept, .none, false, .no, 0x6472762E6F75745F616D70⟩,
  -- drv.out_ticks[channel], 02 R57
  ⟨0x1022, 512, .u32, 0, 15, (.fresh [0]), .kept, .none, false, .no, 0x6472762E6F75745F7469636B73⟩]

/-- Rows of the `drv.` tables. -/
def rowsDrv2 : List ParamRow := [
  -- drv.rung[channel], 02 R57
  ⟨0x1023, 512, .u8, 0, 15, (.fresh [0]), .kept, .none, false, .no, 0x6472762E72756E67⟩,
  -- drv.status[bank], 02 R57
  ⟨0x1024, 16, (.bits 16), 0, 2, (.fresh [0]), .kept, .special, false, .no, 0x6472762E737461747573⟩,
  -- drv.sat_count[team], 02 R57
  ⟨0x1025, 512, .u32, 0, 2, (.fresh [0]), .kept, .clear0, false, .no, 0x6472762E7361745F636F756E74⟩]

/-- Rows of the `sns.` tables. -/
def rowsSns1 : List ParamRow := [
  -- sns.decim_ratio[bank], 03 R80
  ⟨0x1800, 16, .enum, 0, 2, (.stored [1]), .kept, (.span 0 4), true, .no, 0x736E732E646563696D5F726174696F⟩,
  -- sns.delay_ns[bank], 03 R80
  ⟨0x1801, 16, .u16, 0, 15, (.fresh [0]), .kept, .none, false, .no, 0x736E732E64656C61795F6E73⟩,
  -- sns.cable_ns[bank], 03 R80
  ⟨0x1802, 16, .u16, 0, 2, (.stored [0]), .kept, (.span 0 40), false, .no, 0x736E732E6361626C655F6E73⟩,
  -- sns.isfs_ua[bank], 03 R80
  ⟨0x1803, 16, .u32, 0, 15, (.fresh [0]), .kept, .none, false, .no, 0x736E732E697366735F7561⟩,
  -- sns.iafs_ua[bank], 03 R80
  ⟨0x1804, 16, .u32, 0, 15, (.fresh [0]), .kept, .none, false, .no, 0x736E732E696166735F7561⟩,
  -- sns.card_acc[bank], 03 R80
  ⟨0x1805, 16, .u16, 0, 15, (.fresh [0]), .kept, .none, false, .no, 0x736E732E636172645F616363⟩,
  -- sns.settle_ns[bank], 03 R80
  ⟨0x1806, 16, .u16, 0, 2, (.stored [2000]), .kept, (.span 200 20000), false, .no, 0x736E732E736574746C655F6E73⟩,
  -- sns.loop_enable[bank], 03 R80
  ⟨0x1807, 16, .bool, 0, 2, (.stored [1]), .kept, (.span 0 1), false, .no, 0x736E732E6C6F6F705F656E61626C65⟩,
  -- sns.loop_gain[bank], 03 R80
  ⟨0x1808, 16, .u16, 0, 2, (.stored [128]), .kept, (.span 16 256), false, .no, 0x736E732E6C6F6F705F6761696E⟩,
  -- sns.loop_min_on_us[bank], 03 R80
  ⟨0x1809, 16, .u32, 0, 2, (.stored [400]), .kept, (.span 100 100000), false, .no, 0x736E732E6C6F6F705F6D696E5F6F6E5F7573⟩,
  -- sns.trim_span[bank], 03 R80
  ⟨0x180A, 16, .u16, 0, 2, (.stored [1000]), .kept, (.span 100 2500), false, .no, 0x736E732E7472696D5F7370616E⟩,
  -- sns.fault_span[bank], 03 R80
  ⟨0x180B, 16, .u16, 0, 2, (.stored [1000]), .kept, (.span 100 5000), false, .no, 0x736E732E6661756C745F7370616E⟩,
  -- sns.i_inst[channel], 03 R80
  ⟨0x1810, 512, .s32, 0, 15, (.fresh [0]), .kept, .none, false, .measurement, 0x736E732E695F696E7374⟩,
  -- sns.i_pulse[channel], 03 R80
  ⟨0x1811, 512, .s32, 0, 15, (.fresh [0]), .kept, .none, false, .measurement, 0x736E732E695F70756C7365⟩,
  -- sns.gain_est[channel], 03 R80
  ⟨0x1812, 512, .u16, 0, 2, (.fresh [16384]), .kept, .free, false, .no, 0x736E732E6761696E5F657374⟩,
  -- sns.setpoint[channel], 03 R80
  ⟨0x1813, 512, .u16, 0, 15, (.fresh [0]), .kept, .none, false, .measurement, 0x736E732E736574706F696E74⟩,
  -- sns.loop_limit[channel], 03 R80
  ⟨0x1814, 512, .enum, 0, 15, (.fresh [0]), .kept, .none, false, .measurement, 0x736E732E6C6F6F705F6C696D6974⟩,
  -- sns.loop_status[channel], 03 R80
  ⟨0x1815, 512, (.bits 8), 0, 2, (.fresh [0]), .kept, .special, false, .measurement, 0x736E732E6C6F6F705F737461747573⟩,
  -- sns.zero_density[channel], 03 R80
  ⟨0x1816, 512, .u16, 0, 15, (.fresh [8192]), .kept, .none, false, .no, 0x736E732E7A65726F5F64656E73697479⟩,
  -- sns.vf_mv[channel], 03 R80
  ⟨0x1817, 512, .u16, 0, 15, (.fresh [0]), .kept, .none, false, .measurement, 0x736E732E76665F6D76⟩]

/-- Rows of the `sns.` tables. -/
def rowsSns2 : List ParamRow := [
  -- sns.lamp_temp[channel], 03 R80
  ⟨0x1818, 512, .s16, 0, 15, (.fresh [0]), .kept, .none, false, .measurement, 0x736E732E6C616D705F74656D70⟩]

/-- Rows of the `meter.` tables. -/
def rowsMeter : List ParamRow := [
  -- meter.minute_energy[channel], 03 R80
  ⟨0x1820, 512, .u32, 0, 15, (.fresh [0]), .kept, .none, false, .no, 0x6D657465722E6D696E7574655F656E65726779⟩,
  -- meter.total_mwh_hi[channel], 03 R80
  ⟨0x1821, 512, .u32, 0, 15, (.stored [0]), .kept, .none, false, .no, 0x6D657465722E746F74616C5F6D77685F6869⟩,
  -- meter.total_mwh_lo[channel], 03 R80
  ⟨0x1822, 512, .u32, 0, 15, (.stored [0]), .kept, .none, false, .no, 0x6D657465722E746F74616C5F6D77685F6C6F⟩,
  -- meter.power_mw[channel], 03 R80
  ⟨0x1823, 512, .u32, 0, 15, (.fresh [0]), .kept, .none, false, .measurement, 0x6D657465722E706F7765725F6D77⟩,
  -- meter.flags[channel], 03 R80
  ⟨0x1824, 512, (.bits 16), 0, 15, (.fresh [0]), .kept, .none, false, .no, 0x6D657465722E666C616773⟩,
  -- meter.buffered_min, 03 R80
  ⟨0x1825, 1, .u16, 0, 15, (.fresh [0]), .kept, .none, false, .no, 0x6D657465722E62756666657265645F6D696E⟩,
  -- meter.merged_count, 03 R80
  ⟨0x1826, 1, .u32, 0, 3, (.stored [0]), .kept, .clear0, false, .no, 0x6D657465722E6D65726765645F636F756E74⟩,
  -- meter.class[bank], 03 R80
  ⟨0x1827, 16, .enum, 0, 15, (.fresh [1]), .kept, .none, false, .no, 0x6D657465722E636C617373⟩]

/-- Rows of the `diag.` tables. -/
def rowsDiag1 : List ParamRow := [
  -- diag.policy[team], 04 R102
  ⟨0x2000, 512, .enum, 0, 2, (.stored [0]), .kept, (.span 0 2), false, .no, 0x646961672E706F6C696379⟩,
  -- diag.prove_width_ns[bank], 04 R102
  ⟨0x2001, 16, .u32, 0, 2, (.stored [20000]), .kept, (.span 20000 200000), false, .no, 0x646961672E70726F76655F77696474685F6E73⟩,
  -- diag.prove_window_s[team], 04 R102
  ⟨0x2002, 512, .u8, 0, 2, (.stored [60]), .kept, (.span 1 60), false, .no, 0x646961672E70726F76655F77696E646F775F73⟩,
  -- diag.confirm[bank], 04 R102
  ⟨0x2003, 16, .u8, 0, 2, (.stored [3]), .kept, (.span 1 15), false, .no, 0x646961672E636F6E6669726D⟩,
  -- diag.open_pct[bank], 04 R102
  ⟨0x2004, 16, .u16, 0, 2, (.stored [1000]), .kept, (.span 100 5000), false, .no, 0x646961672E6F70656E5F706374⟩,
  -- diag.short_pct[bank], 04 R102
  ⟨0x2005, 16, .u16, 0, 2, (.stored [5000]), .kept, (.span 1000 9000), false, .no, 0x646961672E73686F72745F706374⟩,
  -- diag.degrade_pct[bank], 04 R102
  ⟨0x2006, 16, .u16, 0, 2, (.stored [800]), .kept, (.span 100 5000), false, .no, 0x646961672E646567726164655F706374⟩,
  -- diag.vf_tc_ppm[team], 04 R102
  ⟨0x2007, 512, .s16, 0, 2, (.stored [(-700)]), .kept, (.span (-5000) 0), false, .no, 0x646961672E76665F74635F70706D⟩,
  -- diag.state[channel], 04 R102
  ⟨0x2010, 512, .enum, 0, 15, (.fresh [0]), .kept, .none, false, .measurement, 0x646961672E7374617465⟩,
  -- diag.cause[channel], 04 R102
  ⟨0x2011, 512, (.bits 8), 0, 15, (.fresh [0]), .kept, .none, false, .measurement, 0x646961672E6361757365⟩,
  -- diag.last_verdict[channel], 04 R102
  ⟨0x2012, 512, .enum, 0, 15, (.fresh [0]), .kept, .none, false, .no, 0x646961672E6C6173745F76657264696374⟩,
  -- diag.vf_ref_mv[channel], 04 R102
  ⟨0x2013, 512, .u16, 0, 2, (.fresh [0]), .kept, .free, false, .no, 0x646961672E76665F7265665F6D76⟩,
  -- diag.vf_ref_temp[channel], 04 R102
  ⟨0x2014, 512, .s16, 0, 15, (.fresh [0]), .kept, .none, false, .no, 0x646961672E76665F7265665F74656D70⟩,
  -- diag.evidence_age_ms[channel], 04 R102
  ⟨0x2015, 512, .u32, 0, 15, (.fresh [4294967295]), .kept, .none, false, .no, 0x646961672E65766964656E63655F6167655F6D73⟩,
  -- diag.last_i_on_ua[channel], 04 R102
  ⟨0x2016, 512, .s32, 0, 15, (.fresh [0]), .kept, .none, false, .measurement, 0x646961672E6C6173745F695F6F6E5F7561⟩,
  -- diag.prove_count[channel], 04 R102
  ⟨0x2017, 512, .u32, 0, 2, (.fresh [0]), .kept, .clear0, false, .no, 0x646961672E70726F76655F636F756E74⟩,
  -- diag.unbalanced_count[channel], 04 R102
  ⟨0x2018, 512, .u32, 0, 2, (.fresh [0]), .kept, .clear0, false, .no, 0x646961672E756E62616C616E6365645F636F756E74⟩,
  -- diag.derate_knee_c[team], 04 R102
  ⟨0x2020, 512, .s16, 0, 2, (.stored [8500]), .kept, (.span 2000 15000), false, .no, 0x646961672E6465726174655F6B6E65655F63⟩,
  -- diag.derate_slope[team], 04 R102
  ⟨0x2021, 512, .u16, 0, 2, (.stored [400]), .kept, (.span 10 10000), false, .no, 0x646961672E6465726174655F736C6F7065⟩,
  -- diag.derate_floor[team], 04 R102
  ⟨0x2022, 512, .u16, 0, 2, (.stored [6554]), .kept, (.span 0 32768), false, .no, 0x646961672E6465726174655F666C6F6F72⟩]

/-- Rows of the `diag.` tables. -/
def rowsDiag2 : List ParamRow := [
  -- diag.derate_off_c[team], 04 R102
  ⟨0x2023, 512, .s16, 0, 2, (.stored [0]), .kept, .special, false, .no, 0x646961672E6465726174655F6F66665F63⟩,
  -- diag.derate_blind[team], 04 R102
  ⟨0x2024, 512, .u16, 0, 2, (.stored [22938]), .kept, (.span 0 32768), false, .no, 0x646961672E6465726174655F626C696E64⟩,
  -- diag.derate_factor[team], 04 R102
  ⟨0x2025, 512, .u16, 0, 15, (.fresh [32768]), .kept, .none, false, .measurement, 0x646961672E6465726174655F666163746F72⟩,
  -- diag.team_temp[team], 04 R102
  ⟨0x2026, 512, .s16, 0, 15, (.fresh [0]), .kept, .none, false, .measurement, 0x646961672E7465616D5F74656D70⟩,
  -- diag.derate_status[team], 04 R102
  ⟨0x2027, 512, (.bits 8), 0, 15, (.fresh [0]), .kept, .none, false, .no, 0x646961672E6465726174655F737461747573⟩]

/-- Rows of the `colour.` tables. -/
def rowsColour1 : List ParamRow := [
  -- colour.method[team], 05 R121
  ⟨0x2400, 512, .enum, 0, 2, (.stored [0]), .kept, (.span 0 3), true, .no, 0x636F6C6F75722E6D6574686F64⟩,
  -- colour.team_flux[team], 05 R121
  ⟨0x2401, 512, .u16, 0, 2, (.stored [0]), .kept, .free, false, .no, 0x636F6C6F75722E7465616D5F666C7578⟩,
  -- colour.headroom[team], 05 R121
  ⟨0x2402, 512, .u16, 0, 2, (.stored [29491]), .kept, (.span 16384 32768), false, .no, 0x636F6C6F75722E68656164726F6F6D⟩,
  -- colour.cct_min[team], 05 R121
  ⟨0x2403, 512, .u16, 0, 2, (.stored [1800]), .kept, .special, false, .no, 0x636F6C6F75722E6363745F6D696E⟩,
  -- colour.cct_max[team], 05 R121
  ⟨0x2404, 512, .u16, 0, 2, (.stored [10000]), .kept, .special, false, .no, 0x636F6C6F75722E6363745F6D6178⟩,
  -- colour.w_lane[team], 05 R121
  ⟨0x2405, 512, .u8, 0, 2, (.stored [3]), .kept, (.span 0 3), false, .no, 0x636F6C6F75722E775F6C616E65⟩,
  -- colour.w_share[team], 05 R121
  ⟨0x2406, 512, .u16, 0, 2, (.stored [32768]), .kept, (.span 0 32768), false, .no, 0x636F6C6F75722E775F7368617265⟩,
  -- colour.gamut_tol[team], 05 R121
  ⟨0x2407, 512, .u16, 0, 2, (.stored [60]), .kept, (.span 1 500), false, .no, 0x636F6C6F75722E67616D75745F746F6C⟩,
  -- colour.temp_tau_ms[bank], 05 R121
  ⟨0x2408, 16, .u16, 0, 2, (.stored [2000]), .kept, (.span 100 60000), false, .no, 0x636F6C6F75722E74656D705F7461755F6D73⟩,
  -- colour.flux_lm[channel], 05 R121
  ⟨0x2410, 512, .u16, 0, 2, (.stored [1000]), .kept, (.span 1 65535), false, .no, 0x636F6C6F75722E666C75785F6C6D⟩,
  -- colour.profile[channel], 05 R121
  ⟨0x2411, 512, .u8, 0, 2, (.stored [0]), .kept, (.span 0 63), false, .no, 0x636F6C6F75722E70726F66696C65⟩,
  -- colour.prof_flux[profile], 05 R121
  ⟨0x2420, 576, .u16, 0, 2, (.stored [32768]), .kept, .special, false, .no, 0x636F6C6F75722E70726F665F666C7578⟩,
  -- colour.prof_x[profile], 05 R121
  ⟨0x2421, 576, .u16, 0, 2, (.stored [24937]), .kept, .special, false, .no, 0x636F6C6F75722E70726F665F78⟩,
  -- colour.prof_y[profile], 05 R121
  ⟨0x2422, 576, .u16, 0, 2, (.stored [24694]), .kept, .special, false, .no, 0x636F6C6F75722E70726F665F79⟩,
  -- colour.sensor_gain[team], 05 R121
  ⟨0x2430, 1536, .u32, 0, 2, (.stored [0]), .kept, .free, false, .no, 0x636F6C6F75722E73656E736F725F6761696E⟩,
  -- colour.sensor_cal[team], 05 R121
  ⟨0x2431, 512, .bool, 0, 2, (.fresh [0]), .kept, (.span 0 1), false, .no, 0x636F6C6F75722E73656E736F725F63616C⟩,
  -- colour.trim_limit[team], 05 R121
  ⟨0x2432, 512, .u16, 0, 2, (.stored [1000]), .kept, (.span 100 3000), false, .no, 0x636F6C6F75722E7472696D5F6C696D6974⟩,
  -- colour.trim_step[team], 05 R121
  ⟨0x2433, 512, .u16, 0, 2, (.stored [50]), .kept, (.span 5 200), false, .no, 0x636F6C6F75722E7472696D5F73746570⟩,
  -- colour.trim_period_s[team], 05 R121
  ⟨0x2434, 512, .u8, 0, 2, (.stored [10]), .kept, (.span 2 255), false, .no, 0x636F6C6F75722E7472696D5F706572696F645F73⟩,
  -- colour.sensor_min_level[team], 05 R121
  ⟨0x2435, 512, .u16, 0, 2, (.stored [3277]), .kept, (.span 0 65535), false, .no, 0x636F6C6F75722E73656E736F725F6D696E5F6C6576656C⟩]

/-- Rows of the `colour.` tables. -/
def rowsColour2 : List ParamRow := [
  -- colour.sensor_max_age_ms, 05 R121
  ⟨0x2436, 1, .u16, 0, 2, (.stored [2000]), .kept, (.span 100 60000), false, .no, 0x636F6C6F75722E73656E736F725F6D61785F6167655F6D73⟩,
  -- colour.trim[channel], 05 R121
  ⟨0x2440, 512, .u16, 0, 2, (.fresh [32768]), .kept, .free, false, .no, 0x636F6C6F75722E7472696D⟩,
  -- colour.flux_factor[channel], 05 R121
  ⟨0x2441, 512, .u16, 0, 15, (.fresh [32768]), .kept, .none, false, .no, 0x636F6C6F75722E666C75785F666163746F72⟩,
  -- colour.temp_filt[channel], 05 R121
  ⟨0x2442, 512, .s16, 0, 15, (.fresh [2500]), .kept, .none, false, .no, 0x636F6C6F75722E74656D705F66696C74⟩,
  -- colour.achieved_cct[team], 05 R121
  ⟨0x2443, 512, .u16, 0, 15, (.fresh [0]), .kept, .none, false, .no, 0x636F6C6F75722E61636869657665645F636374⟩,
  -- colour.achieved_duv[team], 05 R121
  ⟨0x2444, 512, .s16, 0, 15, (.fresh [0]), .kept, .none, false, .no, 0x636F6C6F75722E61636869657665645F647576⟩,
  -- colour.status[team], 05 R121
  ⟨0x2445, 512, (.bits 8), 0, 15, (.fresh [0]), .kept, .none, false, .no, 0x636F6C6F75722E737461747573⟩]

/-- Rows of the `harness.` tables. -/
def rowsHarness1 : List ParamRow := [
  -- harness.enable[bank], 06 R150
  ⟨0x2800, 16, .bool, 0, 2, (.stored [1]), .kept, (.span 0 1), false, .no, 0x6861726E6573732E656E61626C65⟩,
  -- harness.state[bank], 06 R150
  ⟨0x2801, 16, .enum, 0, 15, (.fresh [0]), .kept, .none, false, .no, 0x6861726E6573732E7374617465⟩,
  -- harness.enum_error[bank], 06 R150
  ⟨0x2802, 16, .enum, 0, 15, (.fresh [0]), .kept, .none, false, .no, 0x6861726E6573732E656E756D5F6572726F72⟩,
  -- harness.rx_delay[bank], 06 R150
  ⟨0x2803, 16, .u8, 0, 15, (.fresh [0]), .kept, .none, false, .no, 0x6861726E6573732E72785F64656C6179⟩,
  -- harness.eye_ticks[bank], 06 R150
  ⟨0x2804, 16, .u8, 0, 15, (.fresh [0]), .kept, .none, false, .no, 0x6861726E6573732E6579655F7469636B73⟩,
  -- harness.lost_limit[bank], 06 R150
  ⟨0x2805, 16, .u8, 0, 2, (.stored [16]), .kept, (.span 4 255), false, .no, 0x6861726E6573732E6C6F73745F6C696D6974⟩,
  -- harness.card_serial[bank], 06 R150
  ⟨0x2806, 32, .u32, 0, 15, (.fresh [0]), .kept, .none, false, .no, 0x6861726E6573732E636172645F73657269616C⟩,
  -- harness.card_maker[bank], 06 R150
  ⟨0x2807, 16, .u32, 0, 15, (.fresh [0]), .kept, .none, false, .no, 0x6861726E6573732E636172645F6D616B6572⟩,
  -- harness.card_caps[bank], 06 R150
  ⟨0x2808, 16, .u16, 0, 15, (.fresh [0]), .kept, .none, false, .no, 0x6861726E6573732E636172645F63617073⟩,
  -- harness.card_umax[bank], 06 R150
  ⟨0x2809, 16, .u16, 0, 15, (.fresh [0]), .kept, .none, false, .no, 0x6861726E6573732E636172645F756D6178⟩,
  -- harness.card_vf_acc[bank], 06 R150
  ⟨0x280A, 16, .u16, 0, 15, (.fresh [0]), .kept, .none, false, .no, 0x6861726E6573732E636172645F76665F616363⟩,
  -- harness.card_ride_us[bank], 06 R150
  ⟨0x280B, 16, .u16, 0, 15, (.fresh [0]), .kept, .none, false, .no, 0x6861726E6573732E636172645F726964655F7573⟩,
  -- harness.card_status[bank], 06 R150
  ⟨0x280C, 16, (.bits 12), 0, 15, (.fresh [0]), .kept, .none, false, .scan, 0x6861726E6573732E636172645F737461747573⟩,
  -- harness.lane_open[bank], 06 R150
  ⟨0x280D, 16, (.bits 32), 0, 15, (.fresh [0]), .kept, .none, false, .scan, 0x6861726E6573732E6C616E655F6F70656E⟩,
  -- harness.lane_short[bank], 06 R150
  ⟨0x280E, 16, (.bits 32), 0, 15, (.fresh [0]), .kept, .none, false, .scan, 0x6861726E6573732E6C616E655F73686F7274⟩,
  -- harness.lane_climit[bank], 06 R150
  ⟨0x280F, 16, (.bits 32), 0, 15, (.fresh [0]), .kept, .none, false, .scan, 0x6861726E6573732E6C616E655F636C696D6974⟩,
  -- harness.card_supply[bank], 06 R150
  ⟨0x2810, 16, .u16, 0, 15, (.fresh [0]), .kept, .none, false, .scan, 0x6861726E6573732E636172645F737570706C79⟩,
  -- harness.card_temp[bank], 06 R150
  ⟨0x2811, 16, .s16, 0, 15, (.fresh [0]), .kept, .none, false, .scan, 0x6861726E6573732E636172645F74656D70⟩,
  -- harness.crc_errors[bank], 06 R150
  ⟨0x2812, 16, .u32, 0, 2, (.fresh [0]), .kept, .clear0, false, .no, 0x6861726E6573732E6372635F6572726F7273⟩,
  -- harness.rejects[bank], 06 R150
  ⟨0x2813, 16, .u32, 0, 2, (.fresh [0]), .kept, .clear0, false, .no, 0x6861726E6573732E72656A65637473⟩]

/-- Rows of the `harness.` tables. -/
def rowsHarness2 : List ParamRow := [
  -- harness.repeats[bank], 06 R150
  ⟨0x2814, 16, .u32, 0, 2, (.fresh [0]), .kept, .clear0, false, .no, 0x6861726E6573732E72657065617473⟩,
  -- harness.missing[bank], 06 R150
  ⟨0x2815, 16, .u32, 0, 2, (.fresh [0]), .kept, .clear0, false, .no, 0x6861726E6573732E6D697373696E67⟩,
  -- harness.ack_lost[bank], 06 R150
  ⟨0x2816, 16, .u32, 0, 2, (.fresh [0]), .kept, .clear0, false, .no, 0x6861726E6573732E61636B5F6C6F7374⟩,
  -- harness.enum_count[bank], 06 R150
  ⟨0x2817, 16, .u32, 0, 15, (.fresh [0]), .kept, .none, false, .no, 0x6861726E6573732E656E756D5F636F756E74⟩,
  -- harness.sensor_records[bank], 06 R150
  ⟨0x2818, 16, .u32, 0, 15, (.fresh [0]), .kept, .none, false, .no, 0x6861726E6573732E73656E736F725F7265636F726473⟩,
  -- harness.sensor_discards[bank], 06 R150
  ⟨0x2819, 16, .u32, 0, 2, (.fresh [0]), .kept, .clear0, false, .no, 0x6861726E6573732E73656E736F725F6469736361726473⟩,
  -- harness.follows_me[bank], 06 R150
  ⟨0x281A, 16, .bool, 0, 15, (.fresh [0]), .kept, .none, false, .no, 0x6861726E6573732E666F6C6C6F77735F6D65⟩]

/-- Rows of the `prog.` tables. -/
def rowsProg1 : List ParamRow := [
  -- prog.cycle_ms, 07 R182
  ⟨0x3000, 1, .u16, 0, 2, (.stored [10]), .kept, (.span 2 100), true, .no, 0x70726F672E6379636C655F6D73⟩,
  -- prog.state, 07 R182
  ⟨0x3001, 1, .enum, 0, 15, (.fresh [0]), .kept, .none, false, .no, 0x70726F672E7374617465⟩,
  -- prog.cells, 07 R182
  ⟨0x3002, 1, .u16, 0, 15, (.fresh [0]), .kept, .none, false, .no, 0x70726F672E63656C6C73⟩,
  -- prog.edges, 07 R182
  ⟨0x3003, 1, .u16, 0, 15, (.fresh [0]), .kept, .none, false, .no, 0x70726F672E6564676573⟩,
  -- prog.image_crc, 07 R182
  ⟨0x3004, 1, .u32, 0, 15, (.fresh [0]), .kept, .none, false, .no, 0x70726F672E696D6167655F637263⟩,
  -- prog.load_error, 07 R182
  ⟨0x3005, 1, .enum, 0, 15, (.fresh [0]), .kept, .none, false, .no, 0x70726F672E6C6F61645F6572726F72⟩,
  -- prog.load_error_cell, 07 R182
  ⟨0x3006, 1, .u16, 0, 15, (.fresh [0]), .kept, .none, false, .no, 0x70726F672E6C6F61645F6572726F725F63656C6C⟩,
  -- prog.cores_active, 07 R182
  ⟨0x3007, 1, .u8, 0, 15, (.fresh [8]), .kept, .none, false, .no, 0x70726F672E636F7265735F616374697665⟩,
  -- prog.overruns, 07 R182
  ⟨0x3008, 1, .u32, 0, 2, (.fresh [0]), .kept, .clear0, false, .no, 0x70726F672E6F76657272756E73⟩,
  -- prog.cycle_max_us, 07 R182
  ⟨0x3009, 1, .u32, 0, 2, (.fresh [0]), .kept, .clear0, false, .no, 0x70726F672E6379636C655F6D61785F7573⟩,
  -- prog.cycle_last_us, 07 R182
  ⟨0x300A, 1, .u32, 0, 15, (.fresh [0]), .kept, .none, false, .no, 0x70726F672E6379636C655F6C6173745F7573⟩,
  -- prog.graph_last_us, 07 R182
  ⟨0x300B, 1, .u32, 0, 15, (.fresh [0]), .kept, .none, false, .no, 0x70726F672E67726170685F6C6173745F7573⟩,
  -- prog.graph_nom_us, 07 R182
  ⟨0x300C, 1, .u32, 0, 15, (.fresh [0]), .kept, .none, false, .no, 0x70726F672E67726170685F6E6F6D5F7573⟩,
  -- prog.slow_proj_us, 07 R182
  ⟨0x300D, 1, .u32, 0, 15, (.fresh [0]), .kept, .none, false, .no, 0x70726F672E736C6F775F70726F6A5F7573⟩,
  -- prog.bp_waits, 07 R182
  ⟨0x300E, 1, .u32, 0, 2, (.fresh [0]), .kept, .clear0, false, .no, 0x70726F672E62705F7761697473⟩,
  -- prog.bp_us, 07 R182
  ⟨0x300F, 1, .u32, 0, 2, (.fresh [0]), .kept, .clear0, false, .no, 0x70726F672E62705F7573⟩,
  -- prog.deferred, 07 R182
  ⟨0x3010, 1, .u32, 0, 2, (.fresh [0]), .kept, .clear0, false, .no, 0x70726F672E6465666572726564⟩,
  -- prog.list_peak[prio], 07 R182
  ⟨0x3011, 4, .u16, 0, 2, (.fresh [0]), .kept, .clear0, false, .no, 0x70726F672E6C6973745F7065616B⟩,
  -- prog.cells_run, 07 R182
  ⟨0x3012, 1, .u16, 0, 15, (.fresh [0]), .kept, .none, false, .no, 0x70726F672E63656C6C735F72756E⟩,
  -- prog.cells_skipped, 07 R182
  ⟨0x3013, 1, .u16, 0, 15, (.fresh [0]), .kept, .none, false, .no, 0x70726F672E63656C6C735F736B6970706564⟩]

/-- Rows of the `prog.` tables. -/
def rowsProg2 : List ParamRow := [
  -- prog.cycle_count, 07 R182
  ⟨0x3014, 1, .u32, 0, 15, (.fresh [0]), .kept, .none, false, .no, 0x70726F672E6379636C655F636F756E74⟩,
  -- prog.cell_faults, 07 R182
  ⟨0x3015, 1, .u32, 0, 2, (.fresh [0]), .kept, .clear0, false, .no, 0x70726F672E63656C6C5F6661756C7473⟩,
  -- prog.hk_lag, 07 R182
  ⟨0x3016, 1, .u32, 0, 2, (.fresh [0]), .kept, .clear0, false, .no, 0x70726F672E686B5F6C6167⟩,
  -- prog.pub[index], 07 R182
  ⟨0x3017, 256, .s32, 0, 15, (.fresh [0]), .kept, .none, false, .no, 0x70726F672E707562⟩,
  -- prog.pub_qual[index], 07 R182
  ⟨0x3018, 256, (.bits 8), 0, 15, (.fresh [0]), .kept, .none, false, .no, 0x70726F672E7075625F7175616C⟩,
  -- prog.restart_kind, 08 R204
  ⟨0x3020, 1, .enum, 0, 15, (.fresh [0]), (.fixed 1), .none, false, .no, 0x70726F672E726573746172745F6B696E64⟩,
  -- prog.restart_cause, 08 R204
  ⟨0x3021, 1, .enum, 0, 15, (.fresh [0]), .kept, .none, false, .no, 0x70726F672E726573746172745F6361757365⟩,
  -- prog.warm_refuse, 08 R204
  ⟨0x3022, 1, .enum, 0, 15, (.fresh [0]), .kept, .none, false, .no, 0x70726F672E7761726D5F726566757365⟩,
  -- prog.restart_gap_ms, 08 R204
  ⟨0x3023, 1, .u32, 0, 15, (.fresh [0]), .kept, .none, false, .no, 0x70726F672E726573746172745F6761705F6D73⟩,
  -- prog.warm_gap_cap_ms, 08 R204
  ⟨0x3024, 1, .u32, 0, 2, (.stored [60000]), .kept, (.span 0 86400000), false, .no, 0x70726F672E7761726D5F6761705F6361705F6D73⟩,
  -- prog.warm_max_gap_s, 08 R204
  ⟨0x3025, 1, .u32, 0, 2, (.stored [86400]), .kept, (.span 0 2592000), false, .no, 0x70726F672E7761726D5F6D61785F6761705F73⟩,
  -- prog.forces, 08 R204
  ⟨0x3026, 1, .u16, 0, 15, (.fresh [0]), .kept, .none, false, .no, 0x70726F672E666F72636573⟩,
  -- prog.force_drops, 08 R204
  ⟨0x3027, 1, .u32, 0, 2, (.fresh [0]), .kept, .clear0, false, .no, 0x70726F672E666F7263655F64726F7073⟩,
  -- prog.online_changes, 08 R204
  ⟨0x3028, 1, .u32, 0, 15, (.fresh [0]), .kept, .none, false, .no, 0x70726F672E6F6E6C696E655F6368616E676573⟩,
  -- prog.journal_entries, 08 R204
  ⟨0x3029, 1, .u16, 0, 15, (.stored [0]), .kept, .none, false, .no, 0x70726F672E6A6F75726E616C5F656E7472696573⟩,
  -- prog.journal_pending, 08 R204
  ⟨0x302A, 1, .u16, 0, 15, (.fresh [0]), .kept, .none, false, .no, 0x70726F672E6A6F75726E616C5F70656E64696E67⟩,
  -- prog.staged_crc, 08 R204
  ⟨0x302B, 1, .u32, 0, 15, (.stored [0]), .kept, .none, false, .no, 0x70726F672E7374616765645F637263⟩,
  -- prog.previous_crc, 08 R204
  ⟨0x302C, 1, .u32, 0, 15, (.stored [0]), .kept, .none, false, .no, 0x70726F672E70726576696F75735F637263⟩,
  -- prog.swap_count, 08 R204
  ⟨0x302D, 1, .u32, 0, 15, (.stored [0]), .kept, .none, false, .no, 0x70726F672E737761705F636F756E74⟩,
  -- prog.orphan_teams, 08 R204
  ⟨0x302E, 1, .u16, 0, 15, (.fresh [0]), .kept, .none, false, .no, 0x70726F672E6F727068616E5F7465616D73⟩]

/-- Rows of the `pres.` tables. -/
def rowsPres : List ParamRow := [
  -- pres.pod_zone[pod], 09 R221
  ⟨0x3800, 1536, .u16, 0, 2, (.stored [65535]), .kept, .special, true, .no, 0x707265732E706F645F7A6F6E65⟩,
  -- pres.pod_team[pod], 09 R221
  ⟨0x3801, 1536, .u16, 0, 2, (.stored [65535]), .kept, .special, false, .no, 0x707265732E706F645F7465616D⟩,
  -- pres.pod_lux[pod], 09 R221
  ⟨0x3802, 1536, .bool, 0, 2, (.stored [0]), .kept, (.span 0 1), false, .no, 0x707265732E706F645F6C7578⟩,
  -- pres.pod_wake[pod], 09 R221
  ⟨0x3803, 1536, .bool, 0, 2, (.stored [1]), .kept, (.span 0 1), false, .no, 0x707265732E706F645F77616B65⟩,
  -- pres.max_age_ms[zone], 09 R221
  ⟨0x3804, 512, .u16, 0, 2, (.stored [5000]), .kept, (.span 200 60000), false, .no, 0x707265732E6D61785F6167655F6D73⟩,
  -- pres.conf_min[zone], 09 R221
  ⟨0x3805, 512, .u8, 0, 2, (.stored [128]), .kept, (.span 0 255), false, .no, 0x707265732E636F6E665F6D696E⟩,
  -- pres.quorum[zone], 09 R221
  ⟨0x3806, 512, .u8, 0, 2, (.stored [1]), .kept, (.span 1 64), false, .no, 0x707265732E71756F72756D⟩,
  -- pres.lux_mode[zone], 09 R221
  ⟨0x3807, 512, .enum, 0, 2, (.stored [1]), .kept, (.span 0 2), false, .no, 0x707265732E6C75785F6D6F6465⟩,
  -- pres.pod_data[pod], 09 R221
  ⟨0x3810, 3072, .u32, 0, 15, (.fresh [0]), .kept, .none, false, .pod, 0x707265732E706F645F64617461⟩,
  -- pres.pod_age_ms[pod], 09 R221
  ⟨0x3811, 1536, .u32, 0, 15, (.fresh [4294967295]), .kept, .none, false, .pod, 0x707265732E706F645F6167655F6D73⟩,
  -- pres.pod_status[pod], 09 R221
  ⟨0x3812, 1536, (.bits 8), 0, 15, (.fresh [17]), .kept, .none, false, .pod, 0x707265732E706F645F737461747573⟩,
  -- pres.pod_seq_gaps[pod], 09 R221
  ⟨0x3813, 1536, .u32, 0, 2, (.fresh [0]), .kept, .clear0, false, .no, 0x707265732E706F645F7365715F67617073⟩,
  -- pres.zone_occ[zone], 09 R221
  ⟨0x3814, 512, .bool, 0, 15, (.fresh [0]), .kept, .none, false, .no, 0x707265732E7A6F6E655F6F6363⟩,
  -- pres.zone_stale[zone], 09 R221
  ⟨0x3815, 512, .u8, 0, 15, (.fresh [0]), .kept, .none, false, .no, 0x707265732E7A6F6E655F7374616C65⟩]

/-- Rows of the `out.` tables. -/
def rowsOut : List ParamRow := [
  -- out.team_zone[team], 09 R221
  ⟨0x3820, 768, .u16, 0, 2, (.stored [65535]), .kept, .special, false, .no, 0x6F75742E7465616D5F7A6F6E65⟩,
  -- out.edge_from[edge], 09 R221
  ⟨0x3821, 4096, .u16, 0, 2, (.stored [65535]), .kept, .special, true, .no, 0x6F75742E656467655F66726F6D⟩,
  -- out.edge_to[edge], 09 R221
  ⟨0x3822, 4096, .u16, 0, 2, (.stored [65535]), .kept, .special, true, .no, 0x6F75742E656467655F746F⟩,
  -- out.edge_tmin_ms[edge], 09 R221
  ⟨0x3823, 4096, .u32, 0, 2, (.stored [500]), .kept, .special, true, .no, 0x6F75742E656467655F746D696E5F6D73⟩,
  -- out.edge_tmax_ms[edge], 09 R221
  ⟨0x3824, 4096, .u32, 0, 2, (.stored [30000]), .kept, .special, true, .no, 0x6F75742E656467655F746D61785F6D73⟩,
  -- out.edge_heading[edge], 09 R221
  ⟨0x3825, 4096, (.bits 16), 0, 2, (.stored [65535]), .kept, (.mask 0xFFFF), true, .no, 0x6F75742E656467655F68656164696E67⟩,
  -- out.edge_tau_us[edge], 09 R221
  ⟨0x3826, 4096, .u32, 0, 2, (.fresh [0]), .kept, .special, true, .no, 0x6F75742E656467655F7461755F7573⟩,
  -- out.edge_samples[edge], 09 R221
  ⟨0x3827, 4096, .u16, 0, 15, (.fresh [0]), .kept, .none, false, .no, 0x6F75742E656467655F73616D706C6573⟩,
  -- out.edge_rejects[edge], 09 R221
  ⟨0x3828, 4096, .u16, 0, 2, (.fresh [0]), .kept, .clear0, false, .no, 0x6F75742E656467655F72656A65637473⟩,
  -- out.learn_min, 09 R221
  ⟨0x3829, 1, .u8, 0, 2, (.stored [4]), .kept, (.span 1 32), false, .no, 0x6F75742E6C6561726E5F6D696E⟩,
  -- out.learn_shift, 09 R221
  ⟨0x382A, 1, .u8, 0, 2, (.stored [3]), .kept, (.span 1 8), false, .no, 0x6F75742E6C6561726E5F7368696674⟩,
  -- out.reject_pct, 09 R221
  ⟨0x382B, 1, .u16, 0, 2, (.stored [5000]), .kept, (.span 500 10000), false, .no, 0x6F75742E72656A6563745F706374⟩,
  -- out.hops, 09 R221
  ⟨0x382C, 1, .u8, 0, 2, (.stored [2]), .kept, (.span 1 4), false, .no, 0x6F75742E686F7073⟩,
  -- out.hold_ms[zone], 09 R221
  ⟨0x382D, 512, .u32, 0, 2, (.stored [5000]), .kept, (.span 0 600000), false, .no, 0x6F75742E686F6C645F6D73⟩,
  -- out.entries, 09 R221
  ⟨0x382E, 1, .u16, 0, 15, (.fresh [0]), .kept, .none, false, .no, 0x6F75742E656E7472696573⟩,
  -- out.chain_cut, 09 R221
  ⟨0x382F, 1, .u32, 0, 2, (.fresh [0]), .kept, .clear0, false, .no, 0x6F75742E636861696E5F637574⟩,
  -- out.crowd_skips, 09 R221
  ⟨0x3830, 1, .u32, 0, 2, (.fresh [0]), .kept, .clear0, false, .no, 0x6F75742E63726F77645F736B697073⟩,
  -- out.frozen, 09 R221
  ⟨0x3831, 1, .bool, 0, 15, (.fresh [0]), .kept, .none, false, .no, 0x6F75742E66726F7A656E⟩]

/-- Rows of the `day.` tables. -/
def rowsDay : List ParamRow := [
  -- day.level[zone], 09 R221
  ⟨0x3840, 512, .u16, 0, 15, (.fresh [0]), .kept, .none, false, .no, 0x6461792E6C6576656C⟩,
  -- day.limited[zone], 09 R221
  ⟨0x3841, 512, .bool, 0, 15, (.fresh [0]), .kept, .none, false, .no, 0x6461792E6C696D69746564⟩]

/-- Rows of the `cmd.` tables. -/
def rowsCmd1 : List ParamRow := [
  -- cmd.sessions, 10 R248
  ⟨0x4000, 1, .u8, 0, 15, (.fresh [0]), .kept, .none, false, .no, 0x636D642E73657373696F6E73⟩,
  -- cmd.session_idle_s, 10 R248
  ⟨0x4001, 1, .u16, 0, 3, (.stored [600]), .kept, (.span 10 43200), false, .no, 0x636D642E73657373696F6E5F69646C655F73⟩,
  -- cmd.udp_port, 10 R248
  ⟨0x4002, 1, .u16, 0, 3, (.stored [47031]), .kept, (.span 1024 65535), false, .no, 0x636D642E7564705F706F7274⟩,
  -- cmd.auth_required[transport], 10 R248
  ⟨0x4003, 4, .bool, 0, 3, (.stored [0, 0, 1, 1]), .kept, .special, false, .no, 0x636D642E617574685F7265717569726564⟩,
  -- cmd.max_role[transport], 10 R248
  ⟨0x4004, 4, .enum, 0, 3, (.stored [3, 3, 3, 2]), .kept, .special, false, .no, 0x636D642E6D61785F726F6C65⟩,
  -- cmd.hp_hi_wm, 10 R248
  ⟨0x4010, 1, .u16, 0, 2, (.stored [7168]), .kept, (.span 1024 7168), false, .no, 0x636D642E68705F68695F776D⟩,
  -- cmd.hp_lo_wm, 10 R248
  ⟨0x4011, 1, .u16, 0, 2, (.stored [4096]), .kept, .special, false, .no, 0x636D642E68705F6C6F5F776D⟩,
  -- cmd.hp_in_fill, 10 R248
  ⟨0x4012, 1, .u16, 0, 15, (.fresh [0]), .kept, .none, false, .no, 0x636D642E68705F696E5F66696C6C⟩,
  -- cmd.hp_out_fill, 10 R248
  ⟨0x4013, 1, .u16, 0, 15, (.fresh [0]), .kept, .none, false, .no, 0x636D642E68705F6F75745F66696C6C⟩,
  -- cmd.hp_in_packets, 10 R248
  ⟨0x4014, 1, .u16, 0, 15, (.fresh [0]), .kept, .none, false, .no, 0x636D642E68705F696E5F7061636B657473⟩,
  -- cmd.hp_out_packets, 10 R248
  ⟨0x4015, 1, .u16, 0, 15, (.fresh [0]), .kept, .none, false, .no, 0x636D642E68705F6F75745F7061636B657473⟩,
  -- cmd.hp_drain, 10 R248
  ⟨0x4016, 1, (.bits 8), 0, 15, (.fresh [0]), .kept, .none, false, .no, 0x636D642E68705F647261696E⟩,
  -- cmd.hp_drained_in, 10 R248
  ⟨0x4017, 1, .u32, 0, 2, (.fresh [0]), .kept, .clear0, false, .no, 0x636D642E68705F647261696E65645F696E⟩,
  -- cmd.hp_drained_out, 10 R248
  ⟨0x4018, 1, .u32, 0, 2, (.fresh [0]), .kept, .clear0, false, .no, 0x636D642E68705F647261696E65645F6F7574⟩,
  -- cmd.hp_flushed, 10 R248
  ⟨0x4019, 1, .u32, 0, 2, (.fresh [0]), .kept, .clear0, false, .no, 0x636D642E68705F666C7573686564⟩,
  -- cmd.hp_overflow, 10 R248
  ⟨0x401A, 1, .u32, 0, 2, (.fresh [0]), .kept, .clear0, false, .no, 0x636D642E68705F6F766572666C6F77⟩,
  -- cmd.hp_partial, 10 R248
  ⟨0x401B, 1, .u32, 0, 2, (.fresh [0]), .kept, .clear0, false, .no, 0x636D642E68705F7061727469616C⟩,
  -- cmd.hp_bad_cmd, 10 R248
  ⟨0x401C, 1, .u32, 0, 2, (.fresh [0]), .kept, .clear0, false, .no, 0x636D642E68705F6261645F636D64⟩,
  -- cmd.hp_event, 10 R248
  ⟨0x401D, 1, (.bits 8), 0, 1, (.fresh [0]), .kept, (.mask 0xF), false, .no, 0x636D642E68705F6576656E74⟩,
  -- cmd.hp_event_mask, 10 R248
  ⟨0x401E, 1, (.bits 8), 0, 1, (.stored [15]), .kept, (.mask 0xF), false, .no, 0x636D642E68705F6576656E745F6D61736B⟩]

/-- Rows of the `cmd.` tables. -/
def rowsCmd2 : List ParamRow := [
  -- cmd.rx_packets[transport], 10 R248
  ⟨0x4020, 4, .u32, 0, 15, (.fresh [0]), .kept, .none, false, .no, 0x636D642E72785F7061636B657473⟩,
  -- cmd.discards[transport], 10 R248
  ⟨0x4021, 4, .u32, 0, 2, (.fresh [0]), .kept, .clear0, false, .no, 0x636D642E6469736361726473⟩,
  -- cmd.too_long[transport], 10 R248
  ⟨0x4022, 4, .u32, 0, 2, (.fresh [0]), .kept, .clear0, false, .no, 0x636D642E746F6F5F6C6F6E67⟩,
  -- cmd.bad_length[transport], 10 R248
  ⟨0x4023, 4, .u32, 0, 2, (.fresh [0]), .kept, .clear0, false, .no, 0x636D642E6261645F6C656E677468⟩,
  -- cmd.poisoned[transport], 10 R248
  ⟨0x4024, 4, .u32, 0, 2, (.fresh [0]), .kept, .clear0, false, .no, 0x636D642E706F69736F6E6564⟩,
  -- cmd.bad_crc[transport], 10 R248
  ⟨0x4025, 4, .u32, 0, 2, (.fresh [0]), .kept, .clear0, false, .no, 0x636D642E6261645F637263⟩,
  -- cmd.auth_fails[transport], 10 R248
  ⟨0x4026, 4, .u32, 0, 2, (.fresh [0]), .kept, .clear0, false, .no, 0x636D642E617574685F6661696C73⟩,
  -- cmd.replays[transport], 10 R248
  ⟨0x4027, 4, .u32, 0, 2, (.fresh [0]), .kept, .clear0, false, .no, 0x636D642E7265706C617973⟩,
  -- cmd.seq_gaps[transport], 10 R248
  ⟨0x4028, 4, .u32, 0, 2, (.fresh [0]), .kept, .clear0, false, .no, 0x636D642E7365715F67617073⟩,
  -- cmd.seq_refused[transport], 10 R248
  ⟨0x4029, 4, .u32, 0, 2, (.fresh [0]), .kept, .clear0, false, .no, 0x636D642E7365715F72656675736564⟩,
  -- cmd.tickets_expired, 10 R248
  ⟨0x402A, 1, .u32, 0, 2, (.fresh [0]), .kept, .clear0, false, .no, 0x636D642E7469636B6574735F65787069726564⟩,
  -- cmd.replies_dropped, 10 R248
  ⟨0x402B, 1, .u32, 0, 2, (.fresh [0]), .kept, .clear0, false, .no, 0x636D642E7265706C6965735F64726F70706564⟩,
  -- cmd.sv_overflow, 10 R248
  ⟨0x402C, 1, .u32, 0, 2, (.fresh [0]), .kept, .clear0, false, .no, 0x636D642E73765F6F766572666C6F77⟩]

/-- Rows of the `net.` tables. -/
def rowsNet1 : List ParamRow := [
  -- net.ring_mode, 12 R282
  ⟨0x4800, 1, .enum, 0, 3, (.stored [0]), .kept, (.span 0 3), false, .no, 0x6E65742E72696E675F6D6F6465⟩,
  -- net.ip_addr, 12 R282
  ⟨0x4801, 1, .u32, 0, 3, (.stored [0]), .kept, .free, false, .no, 0x6E65742E69705F61646472⟩,
  -- net.ip_mask, 12 R282
  ⟨0x4802, 1, .u32, 0, 3, (.stored [4294967040]), .kept, .special, false, .no, 0x6E65742E69705F6D61736B⟩,
  -- net.ip_gateway, 12 R282
  ⟨0x4803, 1, .u32, 0, 3, (.stored [0]), .kept, .free, false, .no, 0x6E65742E69705F67617465776179⟩,
  -- net.ip_in_use, 12 R282
  ⟨0x4804, 1, .u32, 0, 15, (.fresh [0]), .kept, .none, false, .no, 0x6E65742E69705F696E5F757365⟩,
  -- net.vlan_id, 12 R282
  ⟨0x4805, 1, .u16, 0, 3, (.stored [0]), .kept, (.span 0 4094), false, .no, 0x6E65742E766C616E5F6964⟩,
  -- net.vlan_pcp, 12 R282
  ⟨0x4806, 1, .u8, 0, 3, (.stored [5]), .kept, (.span 0 7), false, .no, 0x6E65742E766C616E5F706370⟩,
  -- net.speed[port], 12 R282
  ⟨0x4807, 2, .enum, 0, 3, (.stored [0]), .kept, (.span 0 3), false, .no, 0x6E65742E7370656564⟩,
  -- net.link[port], 12 R282
  ⟨0x4808, 2, (.bits 8), 0, 15, (.fresh [0]), .kept, .none, false, .no, 0x6E65742E6C696E6B⟩,
  -- net.eee_enable[port], 12 R282
  ⟨0x4809, 2, .bool, 0, 2, (.stored [1]), .kept, (.span 0 1), false, .no, 0x6E65742E6565655F656E61626C65⟩,
  -- net.eee_idle_us, 12 R282
  ⟨0x480A, 1, .u16, 0, 2, (.stored [100]), .kept, (.span 10 10000), false, .no, 0x6E65742E6565655F69646C655F7573⟩,
  -- net.eee_tw[port], 12 R282
  ⟨0x480B, 2, .u16, 0, 15, (.fresh [0]), .kept, .none, false, .no, 0x6E65742E6565655F7477⟩,
  -- net.lldp_interval_s, 12 R282
  ⟨0x480C, 1, .u16, 0, 2, (.stored [30]), .kept, (.span 5 3600), false, .no, 0x6E65742E6C6C64705F696E74657276616C5F73⟩,
  -- net.lldp_partner_tw[port], 12 R282
  ⟨0x480D, 2, .u16, 0, 15, (.fresh [0]), .kept, .none, false, .no, 0x6E65742E6C6C64705F706172746E65725F7477⟩,
  -- net.eee_lpi_ms[port], 12 R282
  ⟨0x480E, 2, .u32, 0, 15, (.fresh [0]), .kept, .none, false, .no, 0x6E65742E6565655F6C70695F6D73⟩,
  -- net.shed_port, 12 R282
  ⟨0x480F, 1, .enum, 0, 2, (.stored [0]), .kept, (.span 0 1), false, .no, 0x6E65742E736865645F706F7274⟩,
  -- net.entry_forget_ms, 12 R282
  ⟨0x4810, 1, .u16, 0, 2, (.stored [400]), .kept, (.span 10 10000), false, .no, 0x6E65742E656E7472795F666F726765745F6D73⟩,
  -- net.node_forget_s, 12 R282
  ⟨0x4811, 1, .u16, 0, 2, (.stored [60]), .kept, (.span 1 3600), false, .no, 0x6E65742E6E6F64655F666F726765745F73⟩,
  -- net.life_check_ms, 12 R282
  ⟨0x4812, 1, .u16, 0, 2, (.stored [2000]), .kept, (.span 100 10000), false, .no, 0x6E65742E6C6966655F636865636B5F6D73⟩,
  -- net.sup_addr_lsb, 12 R282
  ⟨0x4813, 1, .u8, 0, 2, (.stored [0]), .kept, .free, false, .no, 0x6E65742E7375705F616464725F6C7362⟩]

/-- Rows of the `net.` tables. -/
def rowsNet2 : List ParamRow := [
  -- net.node_count, 12 R282
  ⟨0x4814, 1, .u16, 0, 15, (.fresh [0]), .kept, .none, false, .no, 0x6E65742E6E6F64655F636F756E74⟩,
  -- net.arp_entries, 12 R282
  ⟨0x4815, 1, .u8, 0, 15, (.fresh [0]), .kept, .none, false, .no, 0x6E65742E6172705F656E7472696573⟩,
  -- net.rx_buffer_drops[port], 12 R282
  ⟨0x4840, 2, .u32, 0, 2, (.fresh [0]), .kept, .clear0, false, .no, 0x6E65742E72785F6275666665725F64726F7073⟩,
  -- net.rx_overflow[port], 12 R282
  ⟨0x4841, 2, .u32, 0, 2, (.fresh [0]), .kept, .clear0, false, .no, 0x6E65742E72785F6F766572666C6F77⟩,
  -- net.rx_runts[port], 12 R282
  ⟨0x4842, 2, .u32, 0, 2, (.fresh [0]), .kept, .clear0, false, .no, 0x6E65742E72785F72756E7473⟩,
  -- net.rx_oversize[port], 12 R282
  ⟨0x4843, 2, .u32, 0, 2, (.fresh [0]), .kept, .clear0, false, .no, 0x6E65742E72785F6F76657273697A65⟩,
  -- net.rx_fcs[port], 12 R282
  ⟨0x4844, 2, .u32, 0, 2, (.fresh [0]), .kept, .clear0, false, .no, 0x6E65742E72785F666373⟩,
  -- net.rx_own_removed[port], 12 R282
  ⟨0x4845, 2, .u32, 0, 2, (.fresh [0]), .kept, .clear0, false, .no, 0x6E65742E72785F6F776E5F72656D6F766564⟩,
  -- net.rx_wrong_lan[port], 12 R282
  ⟨0x4846, 2, .u32, 0, 2, (.fresh [0]), .kept, .clear0, false, .no, 0x6E65742E72785F77726F6E675F6C616E⟩,
  -- net.rx_dup_discards[port], 12 R282
  ⟨0x4847, 2, .u32, 0, 2, (.fresh [0]), .kept, .clear0, false, .no, 0x6E65742E72785F6475705F6469736361726473⟩,
  -- net.single_path[port], 12 R282
  ⟨0x4848, 2, .u32, 0, 2, (.fresh [0]), .kept, .clear0, false, .no, 0x6E65742E73696E676C655F70617468⟩,
  -- net.fwd_drops[port], 12 R282
  ⟨0x4849, 2, .u32, 0, 2, (.fresh [0]), .kept, .clear0, false, .no, 0x6E65742E6677645F64726F7073⟩,
  -- net.tx_drops[port], 12 R282
  ⟨0x484A, 2, .u32, 0, 2, (.fresh [0]), .kept, .clear0, false, .no, 0x6E65742E74785F64726F7073⟩,
  -- net.link_downs[port], 12 R282
  ⟨0x484B, 2, .u32, 0, 2, (.fresh [0]), .kept, .clear0, false, .no, 0x6E65742E6C696E6B5F646F776E73⟩,
  -- net.node_evictions, 12 R282
  ⟨0x484C, 1, .u32, 0, 2, (.fresh [0]), .kept, .clear0, false, .no, 0x6E65742E6E6F64655F6576696374696F6E73⟩,
  -- net.ip_discards, 12 R282
  ⟨0x484D, 1, .u32, 0, 2, (.fresh [0]), .kept, .clear0, false, .no, 0x6E65742E69705F6469736361726473⟩]

/-- Rows of the `time.` tables. -/
def rowsTime1 : List ParamRow := [
  -- time.quality, 13 R307
  ⟨0x5000, 1, .enum, 0, 15, (.fresh [4]), .kept, .none, false, .no, 0x74696D652E7175616C697479⟩,
  -- time.selected, 13 R307
  ⟨0x5001, 1, .enum, 0, 15, (.fresh [2]), .kept, .none, false, .no, 0x74696D652E73656C6563746564⟩,
  -- time.offset_ns, 13 R307
  ⟨0x5002, 1, .s32, 0, 15, (.fresh [0]), .kept, .none, false, .no, 0x74696D652E6F66667365745F6E73⟩,
  -- time.rate_ppb, 13 R307
  ⟨0x5003, 1, .s32, 0, 15, (.fresh [0]), .kept, .none, false, .no, 0x74696D652E726174655F707062⟩,
  -- time.holdover_s, 13 R307
  ⟨0x5004, 1, .u32, 0, 2, (.stored [3600]), .kept, (.span 60 604800), false, .no, 0x74696D652E686F6C646F7665725F73⟩,
  -- time.holdover_elapsed_s, 13 R307
  ⟨0x5005, 1, .u32, 0, 15, (.fresh [0]), .kept, .none, false, .no, 0x74696D652E686F6C646F7665725F656C61707365645F73⟩,
  -- time.step_ns, 13 R307
  ⟨0x5006, 1, .u32, 0, 2, (.stored [1000000]), .kept, (.span 1000 1000000000), false, .no, 0x74696D652E737465705F6E73⟩,
  -- time.slew_ppb, 13 R307
  ⟨0x5007, 1, .u32, 0, 2, (.stored [10000]), .kept, (.span 1000 500000), false, .no, 0x74696D652E736C65775F707062⟩,
  -- time.jump_ms, 13 R307
  ⟨0x5008, 1, .u16, 0, 2, (.stored [1000]), .kept, (.span 100 60000), false, .no, 0x74696D652E6A756D705F6D73⟩,
  -- time.utc_offset_s, 13 R307
  ⟨0x5009, 1, .s16, 0, 3, (.stored [37]), .kept, .free, false, .no, 0x74696D652E7574635F6F66667365745F73⟩,
  -- time.tz_offset_min, 13 R307
  ⟨0x500A, 1, .s16, 0, 3, (.stored [0]), .kept, (.span (-840) 840), false, .no, 0x74696D652E747A5F6F66667365745F6D696E⟩,
  -- time.adjustments, 13 R307
  ⟨0x500B, 1, .u32, 0, 2, (.fresh [0]), .kept, .clear0, false, .no, 0x74696D652E61646A7573746D656E7473⟩,
  -- time.last_adjust_ms, 13 R307
  ⟨0x500C, 1, .s32, 0, 15, (.fresh [0]), .kept, .none, false, .no, 0x74696D652E6C6173745F61646A7573745F6D73⟩,
  -- time.switches, 13 R307
  ⟨0x500D, 1, .u32, 0, 2, (.fresh [0]), .kept, .clear0, false, .no, 0x74696D652E7377697463686573⟩,
  -- time.lock_ns, 13 R307
  ⟨0x500E, 1, .u32, 0, 2, (.stored [1000]), .kept, (.span 100 1000000), false, .no, 0x74696D652E6C6F636B5F6E73⟩,
  -- time.revert_s, 13 R307
  ⟨0x500F, 1, .u16, 0, 2, (.stored [60]), .kept, (.span 0 3600), false, .no, 0x74696D652E7265766572745F73⟩,
  -- time.dom_enable[dom], 13 R307
  ⟨0x5010, 2, .bool, 0, 2, (.stored [1, 0]), .kept, (.span 0 1), false, .no, 0x74696D652E646F6D5F656E61626C65⟩,
  -- time.dom_number[dom], 13 R307
  ⟨0x5011, 2, .u8, 0, 2, (.stored [0, 1]), .kept, .special, false, .no, 0x74696D652E646F6D5F6E756D626572⟩,
  -- time.dom_transport[dom], 13 R307
  ⟨0x5012, 2, .enum, 0, 2, (.stored [0]), .kept, (.span 0 1), false, .no, 0x74696D652E646F6D5F7472616E73706F7274⟩,
  -- time.dom_delay_mech[dom], 13 R307
  ⟨0x5013, 2, .enum, 0, 2, (.stored [1]), .kept, (.span 0 1), false, .no, 0x74696D652E646F6D5F64656C61795F6D656368⟩]

/-- Rows of the `time.` tables.  time.phy_delay_ns is stored at the factory with no figure given: 0 (DESIGN CHOICE,
assumption 110). -/
def rowsTime2 : List ParamRow := [
  -- time.dom_state[dom], 13 R307
  ⟨0x5014, 2, .enum, 0, 15, (.fresh [0]), .kept, .none, false, .no, 0x74696D652E646F6D5F7374617465⟩,
  -- time.dom_offset_ns[dom], 13 R307
  ⟨0x5015, 2, .s32, 0, 15, (.fresh [0]), .kept, .none, false, .no, 0x74696D652E646F6D5F6F66667365745F6E73⟩,
  -- time.dom_path_ns[dom], 13 R307
  ⟨0x5016, 2, .u32, 0, 15, (.fresh [0]), .kept, .none, false, .no, 0x74696D652E646F6D5F706174685F6E73⟩,
  -- time.dom_gm_id[dom], 13 R307
  ⟨0x5017, 4, .u32, 0, 15, (.fresh [0]), .kept, .none, false, .no, 0x74696D652E646F6D5F676D5F6964⟩,
  -- time.dom_steps[dom], 13 R307
  ⟨0x5018, 2, .u16, 0, 15, (.fresh [0]), .kept, .none, false, .no, 0x74696D652E646F6D5F7374657073⟩,
  -- time.dom_rate_ppb[dom], 13 R307
  ⟨0x5019, 2, .s32, 0, 15, (.fresh [0]), .kept, .none, false, .no, 0x74696D652E646F6D5F726174655F707062⟩,
  -- time.announce_timeout, 13 R307
  ⟨0x501A, 1, .u8, 0, 2, (.stored [3]), .kept, (.span 2 10), false, .no, 0x74696D652E616E6E6F756E63655F74696D656F7574⟩,
  -- time.sync_timeout_ms, 13 R307
  ⟨0x501B, 1, .u16, 0, 2, (.stored [3000]), .kept, (.span 100 60000), false, .no, 0x74696D652E73796E635F74696D656F75745F6D73⟩,
  -- time.servo_gain, 13 R307
  ⟨0x501C, 1, .u16, 0, 2, (.stored [64]), .kept, (.span 8 256), false, .no, 0x74696D652E736572766F5F6761696E⟩,
  -- time.tc_enable, 13 R307
  ⟨0x5020, 1, .bool, 0, 2, (.stored [1]), .kept, (.span 0 1), false, .no, 0x74696D652E74635F656E61626C65⟩,
  -- time.tc_res_max_ns, 13 R307
  ⟨0x5021, 1, .u32, 0, 2, (.fresh [0]), .kept, .clear0, false, .no, 0x74696D652E74635F7265735F6D61785F6E73⟩,
  -- time.phy_delay_ns[port], 13 R307
  ⟨0x5022, 4, .u16, 0, 4, (.stored [0]), .kept, .free, false, .no, 0x74696D652E7068795F64656C61795F6E73⟩,
  -- time.asym_ns[port], 13 R307
  ⟨0x5023, 2, .s16, 0, 2, (.stored [0]), .kept, (.span (-10000) 10000), false, .no, 0x74696D652E6173796D5F6E73⟩,
  -- time.pdelay_ns[port], 13 R307
  ⟨0x5024, 2, .u32, 0, 15, (.fresh [0]), .kept, .none, false, .no, 0x74696D652E7064656C61795F6E73⟩,
  -- time.ts_missed[half], 13 R307
  ⟨0x5030, 2, .u32, 0, 15, (.fresh [0]), .kept, .none, false, .no, 0x74696D652E74735F6D6973736564⟩,
  -- time.ts_overflows, 13 R307
  ⟨0x5031, 1, .u32, 0, 2, (.fresh [0]), .kept, .clear0, false, .no, 0x74696D652E74735F6F766572666C6F7773⟩,
  -- time.ts_queue_peak, 13 R307
  ⟨0x5032, 1, .u8, 0, 2, (.fresh [0]), .kept, .clear0, false, .no, 0x74696D652E74735F71756575655F7065616B⟩,
  -- time.cal, 13 R307
  ⟨0x5040, 8, .bcd8, 0, 3, .kept, .kept, .special, false, .no, 0x74696D652E63616C⟩,
  -- time.cal_status, 13 R307
  ⟨0x5041, 1, (.bits 8), 0, 15, .kept, .kept, .none, false, .no, 0x74696D652E63616C5F737461747573⟩,
  -- time.continuity, 13 R307
  ⟨0x5042, 1, .bool, 0, 15, .kept, .kept, .none, false, .no, 0x74696D652E636F6E74696E75697479⟩]

/-- Rows of the `time.` tables. -/
def rowsTime3 : List ParamRow := [
  -- time.rtc_ticks[half], 13 R307
  ⟨0x5043, 2, .u32, 4, 15, .kept, .kept, .none, false, .no, 0x74696D652E7274635F7469636B73⟩,
  -- time.rtc_trim_ppb, 13 R307
  ⟨0x5044, 1, .s32, 0, 4, (.stored [0]), .kept, (.span (-200000) 200000), false, .no, 0x74696D652E7274635F7472696D5F707062⟩,
  -- time.wake_period, 13 R307
  ⟨0x5045, 1, .u32, 0, 2, .kept, .kept, .special, false, .no, 0x74696D652E77616B655F706572696F64⟩,
  -- time.wake_count, 13 R307
  ⟨0x5046, 1, .u32, 0, 15, (.fresh [0]), .kept, .none, false, .no, 0x74696D652E77616B655F636F756E74⟩,
  -- time.alarm_s[alarm], 13 R307
  ⟨0x5050, 16, .u32, 0, 2, (.fresh [0]), .kept, .free, false, .no, 0x74696D652E616C61726D5F73⟩,
  -- time.alarm_nf[alarm], 13 R307
  ⟨0x5051, 8, .u32, 0, 2, (.fresh [0]), .kept, .special, false, .no, 0x74696D652E616C61726D5F6E66⟩,
  -- time.alarm_period_ms[alarm], 13 R307
  ⟨0x5052, 8, .u32, 0, 2, (.fresh [0]), .kept, .special, false, .no, 0x74696D652E616C61726D5F706572696F645F6D73⟩,
  -- time.alarm_ctrl[alarm], 13 R307
  ⟨0x5053, 8, (.bits 8), 0, 2, (.fresh [0]), .kept, (.mask 0x3), false, .no, 0x74696D652E616C61726D5F6374726C⟩,
  -- time.alarm_status[alarm], 13 R307
  ⟨0x5054, 8, (.bits 8), 0, 2, (.fresh [0]), .kept, (.mask 0x3), false, .no, 0x74696D652E616C61726D5F737461747573⟩,
  -- time.sched_entries[table], 13 R307
  ⟨0x5060, 256, .u8, 0, 15, .kept, .kept, .none, false, .no, 0x74696D652E73636865645F656E7472696573⟩,
  -- time.sched_excess[table], 13 R307
  ⟨0x5061, 256, .u32, 0, 2, (.fresh [0]), .kept, .clear0, false, .no, 0x74696D652E73636865645F657863657373⟩,
  -- time.jumps, 13 R307
  ⟨0x5062, 1, .u32, 0, 2, (.fresh [0]), .kept, .clear0, false, .no, 0x74696D652E6A756D7073⟩]

/-- Rows of the `relay.` tables. -/
def rowsRelay1 : List ParamRow := [
  -- relay.enable, 14 R336
  ⟨0x5800, 1, .bool, 0, 2, (.stored [1]), .kept, (.span 0 1), false, .no, 0x72656C61792E656E61626C65⟩,
  -- relay.slotframe, 14 R336
  ⟨0x5801, 1, .u16, 0, 2, (.stored [101]), .kept, (.span 16 1021), true, .no, 0x72656C61792E736C6F746672616D65⟩,
  -- relay.rate, 14 R336
  ⟨0x5802, 1, .enum, 0, 2, (.stored [1]), .kept, .special, true, .no, 0x72656C61792E72617465⟩,
  -- relay.pan_id, 14 R336
  ⟨0x5803, 1, .u16, 0, 2, (.stored [0]), .kept, (.span 0 65533), true, .no, 0x72656C61792E70616E5F6964⟩,
  -- relay.chan_exclude[word], 14 R336
  ⟨0x5804, 5, (.bits 32), 0, 2, (.stored [0]), .kept, .special, true, .no, 0x72656C61792E6368616E5F6578636C756465⟩,
  -- relay.hop_count, 14 R336
  ⟨0x5805, 1, .u8, 0, 15, (.fresh [0]), .kept, .none, false, .no, 0x72656C61792E686F705F636F756E74⟩,
  -- relay.shared_slots, 14 R336
  ⟨0x5806, 1, .u8, 0, 2, (.stored [6]), .kept, (.span 1 16), true, .no, 0x72656C61792E7368617265645F736C6F7473⟩,
  -- relay.beacon_every, 14 R336
  ⟨0x5807, 1, .u8, 0, 2, (.stored [4]), .kept, (.span 1 8), false, .no, 0x72656C61792E626561636F6E5F6576657279⟩,
  -- relay.tx_dbm, 14 R336
  ⟨0x5808, 1, .s16, 0, 2, (.stored [14]), .kept, .special, false, .no, 0x72656C61792E74785F64626D⟩,
  -- relay.time_role, 14 R336
  ⟨0x5809, 1, .enum, 0, 2, (.stored [0]), .kept, (.span 0 1), false, .no, 0x72656C61792E74696D655F726F6C65⟩,
  -- relay.time_parent[i], 14 R336
  ⟨0x580A, 2, .u16, 0, 2, (.stored [65535]), .kept, .free, false, .no, 0x72656C61792E74696D655F706172656E74⟩,
  -- relay.guard_us, 14 R336
  ⟨0x580B, 1, .u16, 0, 2, (.stored [500]), .kept, (.span 100 1400), false, .no, 0x72656C61792E67756172645F7573⟩,
  -- relay.ttl, 14 R336
  ⟨0x580C, 1, .u8, 0, 2, (.stored [4]), .kept, (.span 1 15), false, .no, 0x72656C61792E74746C⟩,
  -- relay.module_relays, 14 R336
  ⟨0x580D, 1, .bool, 0, 2, (.stored [1]), .kept, (.span 0 1), false, .no, 0x72656C61792E6D6F64756C655F72656C617973⟩,
  -- relay.pod_period, 14 R336
  ⟨0x580E, 1, .u8, 0, 2, (.stored [4]), .kept, .special, false, .no, 0x72656C61792E706F645F706572696F64⟩,
  -- relay.rt_period, 14 R336
  ⟨0x580F, 1, .u8, 0, 2, (.stored [1]), .kept, .special, false, .no, 0x72656C61792E72745F706572696F64⟩,
  -- relay.shed_radio, 14 R336
  ⟨0x5810, 1, .enum, 0, 2, (.stored [0]), .kept, (.span 0 1), false, .no, 0x72656C61792E736865645F726164696F⟩,
  -- relay.frag_timeout_ms, 14 R336
  ⟨0x5811, 1, .u16, 0, 2, (.stored [5000]), .kept, (.span 100 60000), false, .no, 0x72656C61792E667261675F74696D656F75745F6D73⟩,
  -- relay.forget_days, 14 R336
  ⟨0x5812, 1, .u16, 0, 3, (.stored [0]), .kept, (.span 0 3650), false, .no, 0x72656C61792E666F726765745F64617973⟩,
  -- relay.permit_s, 14 R336
  ⟨0x5813, 1, .u16, 0, 15, (.fresh [0]), .kept, .none, false, .no, 0x72656C61792E7065726D69745F73⟩]

/-- Rows of the `relay.` tables. -/
def rowsRelay2 : List ParamRow := [
  -- relay.nodes, 14 R336
  ⟨0x5814, 1, .u16, 0, 15, (.stored [0]), .kept, .none, false, .no, 0x72656C61792E6E6F646573⟩,
  -- relay.asn[half], 14 R336
  ⟨0x5815, 2, .u32, 0, 15, (.fresh [0]), .kept, .none, false, .no, 0x72656C61792E61736E⟩,
  -- relay.fc_out, 14 R336
  ⟨0x5816, 1, .u32, 0, 15, (.stored [0]), .kept, .none, false, .no, 0x72656C61792E66635F6F7574⟩,
  -- relay.key_gen, 14 R336
  ⟨0x5817, 1, .u8, 0, 15, (.stored [0]), .kept, .none, false, .no, 0x72656C61792E6B65795F67656E⟩,
  -- relay.coord_eui[half], 14 R336
  ⟨0x5818, 2, .u32, 0, 15, (.stored [0]), .kept, .none, false, .no, 0x72656C61792E636F6F72645F657569⟩,
  -- relay.unbound_fallback, 14 R336
  ⟨0x5819, 1, .u16, 0, 2, (.stored [65535]), .kept, .free, false, .no, 0x72656C61792E756E626F756E645F66616C6C6261636B⟩,
  -- relay.rt_fallback[rt], 14 R336
  ⟨0x5820, 256, .u16, 0, 2, (.stored [65535]), .kept, .free, false, .no, 0x72656C61792E72745F66616C6C6261636B⟩,
  -- relay.rt_fallback_fade_ms[rt], 14 R336
  ⟨0x5821, 256, .u32, 0, 2, (.stored [1000]), .kept, (.span 0 600000), false, .no, 0x72656C61792E72745F66616C6C6261636B5F666164655F6D73⟩,
  -- relay.rt_node[rt], 14 R336
  ⟨0x5822, 256, .u16, 0, 2, (.stored [65535]), .kept, .free, false, .no, 0x72656C61792E72745F6E6F6465⟩,
  -- relay.rt_status[rt], 14 R336
  ⟨0x5823, 256, (.bits 16), 0, 15, (.fresh [0]), .kept, .none, false, .no, 0x72656C61792E72745F737461747573⟩,
  -- relay.node_eui[node], 14 R336
  ⟨0x5830, 2048, .u32, 0, 15, (.stored [0]), .kept, .none, false, .no, 0x72656C61792E6E6F64655F657569⟩,
  -- relay.node_kind[node], 14 R336
  ⟨0x5831, 1024, .enum, 0, 15, (.stored [0]), .kept, .none, false, .no, 0x72656C61792E6E6F64655F6B696E64⟩,
  -- relay.node_state[node], 14 R336
  ⟨0x5832, 1024, .enum, 0, 15, (.fresh [0]), .kept, .none, false, .no, 0x72656C61792E6E6F64655F7374617465⟩,
  -- relay.node_cell[node], 14 R336
  ⟨0x5833, 1024, (.bits 32), 0, 15, (.stored [0]), .kept, .none, false, .no, 0x72656C61792E6E6F64655F63656C6C⟩,
  -- relay.node_drift_ppb[node], 14 R336
  ⟨0x5834, 1024, .s32, 0, 15, (.fresh [0]), .kept, .none, false, .no, 0x72656C61792E6E6F64655F64726966745F707062⟩,
  -- relay.node_fc_in[node], 14 R336
  ⟨0x5835, 1024, .u32, 0, 15, (.stored [0]), .kept, .none, false, .no, 0x72656C61792E6E6F64655F66635F696E⟩,
  -- relay.node_age_ms[node], 14 R336
  ⟨0x5836, 1024, .u32, 0, 15, (.fresh [4294967295]), .kept, .none, false, .no, 0x72656C61792E6E6F64655F6167655F6D73⟩,
  -- relay.refused, 14 R336
  ⟨0x5840, 1, .u32, 0, 2, (.fresh [0]), .kept, .clear0, false, .no, 0x72656C61792E72656675736564⟩,
  -- relay.replays, 14 R336
  ⟨0x5841, 1, .u32, 0, 2, (.fresh [0]), .kept, .clear0, false, .no, 0x72656C61792E7265706C617973⟩,
  -- relay.yoke_dups, 14 R336
  ⟨0x5842, 1, .u32, 0, 2, (.fresh [0]), .kept, .clear0, false, .no, 0x72656C61792E796F6B655F64757073⟩]

/-- Rows of the `relay.` tables. -/
def rowsRelay3 : List ParamRow := [
  -- relay.seen_drops, 14 R336
  ⟨0x5843, 1, .u32, 0, 2, (.fresh [0]), .kept, .clear0, false, .no, 0x72656C61792E7365656E5F64726F7073⟩,
  -- relay.air_defers[band], 14 R336
  ⟨0x5844, 7, .u32, 0, 2, (.fresh [0]), .kept, .clear0, false, .no, 0x72656C61792E6169725F646566657273⟩,
  -- relay.air_used_ms[band], 14 R336
  ⟨0x5845, 7, .u32, 0, 15, (.fresh [0]), .kept, .none, false, .no, 0x72656C61792E6169725F757365645F6D73⟩,
  -- relay.missed_beacons, 14 R336
  ⟨0x5846, 1, .u32, 0, 2, (.fresh [0]), .kept, .clear0, false, .no, 0x72656C61792E6D69737365645F626561636F6E73⟩,
  -- relay.desyncs, 14 R336
  ⟨0x5847, 1, .u32, 0, 2, (.fresh [0]), .kept, .clear0, false, .no, 0x72656C61792E646573796E6373⟩,
  -- relay.frag_drops, 14 R336
  ⟨0x5848, 1, .u32, 0, 2, (.fresh [0]), .kept, .clear0, false, .no, 0x72656C61792E667261675F64726F7073⟩,
  -- relay.rt_resends, 14 R336
  ⟨0x5849, 1, .u32, 0, 2, (.fresh [0]), .kept, .clear0, false, .no, 0x72656C61792E72745F726573656E6473⟩,
  -- relay.window_misses, 14 R336
  ⟨0x584A, 1, .u32, 0, 2, (.fresh [0]), .kept, .clear0, false, .no, 0x72656C61792E77696E646F775F6D6973736573⟩,
  -- relay.cell_stretch, 14 R336
  ⟨0x584B, 1, .u32, 0, 2, (.fresh [0]), .kept, .clear0, false, .no, 0x72656C61792E63656C6C5F73747265746368⟩]

/-- Rows of the `sb.` tables. -/
def rowsSb1 : List ParamRow := [
  -- sb.state[cassette], 15 R360
  ⟨0x6000, 2, .enum, 0, 15, (.fresh [0]), .kept, .none, false, .no, 0x73622E7374617465⟩,
  -- sb.flags[cassette], 15 R360
  ⟨0x6001, 2, (.bits 8), 0, 15, (.fresh [0]), .kept, .none, false, .no, 0x73622E666C616773⟩,
  -- sb.eject[cassette], 15 R360
  ⟨0x6002, 2, .bool, 0, 2, (.fresh [0]), .kept, (.span 0 1), false, .no, 0x73622E656A656374⟩,
  -- sb.adopt[cassette], 15 R360
  ⟨0x6003, 2, .bool, 0, 3, (.fresh [0]), .kept, (.span 0 1), false, .no, 0x73622E61646F7074⟩,
  -- sb.serial[cassette], 15 R360
  ⟨0x6004, 4, .u32, 0, 15, (.fresh [0]), .kept, .none, false, .no, 0x73622E73657269616C⟩,
  -- sb.set_id, 15 R360
  ⟨0x6005, 1, .u32, 0, 15, .kept, .kept, .none, false, .no, 0x73622E7365745F6964⟩,
  -- sb.mirror_gen, 15 R360
  ⟨0x6006, 1, .u32, 0, 15, (.fresh [0]), .kept, .none, false, .no, 0x73622E6D6972726F725F67656E⟩,
  -- sb.bus_mode[cassette], 15 R360
  ⟨0x6007, 2, .u8, 0, 15, (.fresh [255]), .kept, .none, false, .no, 0x73622E6275735F6D6F6465⟩,
  -- sb.max_mode, 15 R360
  ⟨0x6008, 1, .u8, 0, 2, (.stored [7]), .kept, (.span 0 7), false, .no, 0x73622E6D61785F6D6F6465⟩,
  -- sb.temp[cassette], 15 R360
  ⟨0x6009, 2, .s16, 0, 15, (.fresh [0]), .kept, .none, false, .no, 0x73622E74656D70⟩,
  -- sb.resilver_pct[cassette], 15 R360
  ⟨0x6010, 2, .u8, 0, 15, (.fresh [0]), .kept, .none, false, .no, 0x73622E726573696C7665725F706374⟩,
  -- sb.resilver_eta_s[cassette], 15 R360
  ⟨0x6011, 2, .u32, 0, 15, (.fresh [0]), .kept, .none, false, .no, 0x73622E726573696C7665725F6574615F73⟩,
  -- sb.resilver_kind[cassette], 15 R360
  ⟨0x6012, 2, .enum, 0, 15, (.fresh [0]), .kept, .none, false, .no, 0x73622E726573696C7665725F6B696E64⟩,
  -- sb.hold, 15 R360
  ⟨0x6013, 1, (.bits 8), 0, 15, (.fresh [0]), .kept, .none, false, .no, 0x73622E686F6C64⟩,
  -- sb.scrub_days, 15 R360
  ⟨0x6014, 1, .u16, 0, 2, (.stored [30]), .kept, (.span 1 365), false, .no, 0x73622E73637275625F64617973⟩,
  -- sb.refresh_days, 15 R360
  ⟨0x6015, 1, .u16, 0, 2, (.stored [365]), .kept, (.span 30 3650), false, .no, 0x73622E726566726573685F64617973⟩,
  -- sb.refresh_pct, 15 R360
  ⟨0x6016, 1, .u8, 0, 2, (.stored [50]), .kept, (.span 20 90), false, .no, 0x73622E726566726573685F706374⟩,
  -- sb.spare_warn, 15 R360
  ⟨0x6017, 1, .u16, 0, 2, (.stored [64]), .kept, (.span 8 512), false, .no, 0x73622E73706172655F7761726E⟩,
  -- sb.prog_temp_min, 15 R360
  ⟨0x6018, 1, .s16, 0, 2, (.stored [0]), .kept, (.span (-4000) 2500), false, .no, 0x73622E70726F675F74656D705F6D696E⟩,
  -- sb.prog_temp_max, 15 R360
  ⟨0x6019, 1, .s16, 0, 2, (.stored [7000]), .kept, (.span 4000 8500), false, .no, 0x73622E70726F675F74656D705F6D6178⟩]

/-- Rows of the `sb.` tables. -/
def rowsSb2 : List ParamRow := [
  -- sb.spare[cassette], 15 R360
  ⟨0x6020, 4, .u16, 0, 15, (.fresh [0]), .kept, .none, false, .no, 0x73622E7370617265⟩,
  -- sb.bad_blocks[cassette], 15 R360
  ⟨0x6021, 2, .u16, 0, 15, (.fresh [0]), .kept, .none, false, .no, 0x73622E6261645F626C6F636B73⟩,
  -- sb.factory_bad[cassette], 15 R360
  ⟨0x6022, 2, .u16, 0, 15, (.fresh [0]), .kept, .none, false, .no, 0x73622E666163746F72795F626164⟩,
  -- sb.erase_max[cassette], 15 R360
  ⟨0x6023, 4, .u32, 0, 15, (.fresh [0]), .kept, .none, false, .no, 0x73622E65726173655F6D6178⟩,
  -- sb.erase_mean[cassette], 15 R360
  ⟨0x6024, 4, .u32, 0, 15, (.fresh [0]), .kept, .none, false, .no, 0x73622E65726173655F6D65616E⟩,
  -- sb.life_pct[cassette], 15 R360
  ⟨0x6025, 2, .u8, 0, 15, (.fresh [0]), .kept, .none, false, .no, 0x73622E6C6966655F706374⟩,
  -- sb.families[cassette], 15 R360
  ⟨0x6026, 2, .u16, 0, 15, (.fresh [0]), .kept, .none, false, .no, 0x73622E66616D696C696573⟩,
  -- sb.uncorrectable[cassette], 15 R360
  ⟨0x6027, 2, .u32, 0, 2, (.fresh [0]), .kept, .clear0, false, .no, 0x73622E756E636F727265637461626C65⟩,
  -- sb.lost_units, 15 R360
  ⟨0x6028, 1, .u32, 0, 2, (.fresh [0]), .kept, .clear0, false, .no, 0x73622E6C6F73745F756E697473⟩,
  -- sb.archive_blocks, 15 R360
  ⟨0x6029, 1, .u16, 0, 15, (.fresh [0]), .kept, .none, false, .no, 0x73622E617263686976655F626C6F636B73⟩]

/-- Rows of the `wb.` tables. -/
def rowsWb : List ParamRow := [
  -- wb.records, 16 R375
  ⟨0x6800, 1, .u32, 0, 15, (.stored [0]), .kept, .none, false, .no, 0x77622E7265636F726473⟩,
  -- wb.frozen, 16 R375
  ⟨0x6801, 1, .bool, 0, 15, (.fresh [0]), .kept, .none, false, .no, 0x77622E66726F7A656E⟩,
  -- wb.staged, 16 R375
  ⟨0x6802, 1, .u16, 0, 15, (.fresh [0]), .kept, .none, false, .no, 0x77622E737461676564⟩,
  -- wb.next_index, 16 R375
  ⟨0x6803, 1, .u32, 0, 15, (.stored [0]), .kept, .none, false, .no, 0x77622E6E6578745F696E646578⟩,
  -- wb.oldest_index, 16 R375
  ⟨0x6804, 1, .u32, 0, 15, (.stored [0]), .kept, .none, false, .no, 0x77622E6F6C646573745F696E646578⟩,
  -- wb.held, 16 R375
  ⟨0x6805, 1, .u16, 0, 15, (.stored [0]), .kept, .none, false, .no, 0x77622E68656C64⟩,
  -- wb.freeze_max_s, 16 R375
  ⟨0x6806, 1, .u16, 0, 1, (.stored [600]), .kept, (.span 10 3600), false, .no, 0x77622E667265657A655F6D61785F73⟩,
  -- wb.stage_lost, 16 R375
  ⟨0x6807, 1, .u32, 0, 2, (.fresh [0]), .kept, .clear0, false, .no, 0x77622E73746167655F6C6F7374⟩,
  -- wb.crit_dropped, 16 R375
  ⟨0x6808, 1, .u32, 0, 2, (.stored [0]), .kept, .clear0, false, .no, 0x77622E637269745F64726F70706564⟩,
  -- wb.no_room, 16 R375
  ⟨0x6809, 1, .u32, 0, 2, (.stored [0]), .kept, .clear0, false, .no, 0x77622E6E6F5F726F6F6D⟩,
  -- wb.clears, 16 R375
  ⟨0x680A, 1, .u32, 0, 15, (.stored [0]), .kept, .none, false, .no, 0x77622E636C65617273⟩,
  -- wb.code_snap[code], 16 R375
  ⟨0x6810, 256, .u8, 0, 2, (.stored [0]), .kept, (.span 0 63), false, .no, 0x77622E636F64655F736E6170⟩,
  -- wb.rate_burst[code], 16 R375
  ⟨0x6811, 256, .u8, 0, 2, (.stored [10]), .kept, .special, false, .no, 0x77622E726174655F6275727374⟩,
  -- wb.rate_per_h[code], 16 R375
  ⟨0x6812, 256, .u16, 0, 2, (.stored [60]), .kept, .special, false, .no, 0x77622E726174655F7065725F68⟩,
  -- wb.suppressed[code], 16 R375
  ⟨0x6813, 256, .u16, 0, 15, (.fresh [0]), .kept, .none, false, .no, 0x77622E73757070726573736564⟩,
  -- wb.snapset[set], 16 R375
  ⟨0x6814, 2048, .u32, 0, 2, (.stored [4294967295]), .kept, .special, false, .no, 0x77622E736E6170736574⟩,
  -- wb.alarm_stats[code], 16 R375
  ⟨0x6815, 640, .u32, 0, 2, (.fresh [0]), .kept, .clear0, false, .no, 0x77622E616C61726D5F7374617473⟩]

/-- Rows of the `key.` tables. -/
def rowsKey : List ParamRow := [
  -- key.slot_state[slot], 17 R397
  ⟨0x7000, 64, .enum, 2, 15, .kept, .kept, .none, false, .no, 0x6B65792E736C6F745F7374617465⟩,
  -- key.slot_attr[slot], 17 R397
  ⟨0x7001, 64, (.bits 32), 2, 15, .kept, .kept, .none, false, .no, 0x6B65792E736C6F745F61747472⟩,
  -- key.slot_check[slot], 17 R397
  ⟨0x7002, 64, .u32, 2, 15, .kept, .kept, .none, false, .no, 0x6B65792E736C6F745F636865636B⟩,
  -- key.slot_gen[slot], 17 R397
  ⟨0x7003, 64, .u32, 2, 15, .kept, .kept, .none, false, .no, 0x6B65792E736C6F745F67656E⟩,
  -- key.slot_half[slot], 17 R397
  ⟨0x7004, 64, .enum, 2, 15, .kept, .kept, .none, false, .no, 0x6B65792E736C6F745F68616C66⟩,
  -- key.slot_uses[slot], 17 R397
  ⟨0x7005, 64, .u32, 2, 15, (.fresh [0]), .kept, .none, false, .no, 0x6B65792E736C6F745F75736573⟩,
  -- key.vault_wear_pct, 17 R397
  ⟨0x7006, 1, .u8, 0, 15, .kept, .kept, .none, false, .no, 0x6B65792E7661756C745F776561725F706374⟩,
  -- key.lifecycle_changes, 17 R397
  ⟨0x7007, 1, .u32, 0, 15, .kept, .kept, .none, false, .no, 0x6B65792E6C6966656379636C655F6368616E676573⟩,
  -- key.tamper_cfg, 17 R397
  ⟨0x7008, 1, (.bits 8), 0, 3, .kept, .kept, .special, false, .no, 0x6B65792E74616D7065725F636667⟩,
  -- key.tamper_status, 17 R397
  ⟨0x7009, 1, (.bits 8), 0, 3, .kept, .kept, .special, false, .no, 0x6B65792E74616D7065725F737461747573⟩,
  -- key.tamper_events, 17 R397
  ⟨0x700A, 1, .u32, 0, 15, .kept, .kept, .none, false, .no, 0x6B65792E74616D7065725F6576656E7473⟩,
  -- key.zeroisations, 17 R397
  ⟨0x700B, 1, .u32, 0, 15, .kept, .kept, .none, false, .no, 0x6B65792E7A65726F69736174696F6E73⟩,
  -- key.orphan_events, 17 R397
  ⟨0x700C, 1, .u32, 0, 2, (.fresh [0]), .kept, .clear0, false, .no, 0x6B65792E6F727068616E5F6576656E7473⟩,
  -- key.rng_status, 17 R397
  ⟨0x700D, 1, .enum, 0, 15, (.fresh [0]), .kept, .none, false, .no, 0x6B65792E726E675F737461747573⟩,
  -- key.vault_commits, 17 R397
  ⟨0x700E, 1, .u32, 0, 15, .kept, .kept, .none, false, .no, 0x6B65792E7661756C745F636F6D6D697473⟩,
  -- key.load_fails, 17 R397
  ⟨0x700F, 1, .u32, 0, 2, (.fresh [0]), .kept, .clear0, false, .no, 0x6B65792E6C6F61645F6661696C73⟩,
  -- key.attr_refusals[master], 17 R397
  ⟨0x7010, 5, .u32, 0, 2, (.fresh [0]), .kept, .clear0, false, .no, 0x6B65792E617474725F7265667573616C73⟩,
  -- key.root_check, 17 R397
  ⟨0x7011, 1, .u32, 0, 15, .kept, .kept, .none, false, .no, 0x6B65792E726F6F745F636865636B⟩,
  -- key.aes_ops[master], 17 R397
  ⟨0x7020, 5, .u32, 0, 15, (.fresh [0]), .kept, .none, false, .no, 0x6B65792E6165735F6F7073⟩,
  -- key.revoked_replies, 17 R397
  ⟨0x7021, 1, .u32, 0, 2, (.fresh [0]), .kept, .clear0, false, .no, 0x6B65792E7265766F6B65645F7265706C696573⟩]

/-- Rows of the `upd.` tables. -/
def rowsUpd1 : List ParamRow := [
  -- upd.state, 18 R416
  ⟨0x7800, 1, .enum, 0, 15, (.fresh [0]), .kept, .none, false, .no, 0x7570642E7374617465⟩,
  -- upd.holder, 18 R416
  ⟨0x7801, 1, .u16, 0, 15, (.fresh [0]), .kept, .none, false, .no, 0x7570642E686F6C646572⟩,
  -- upd.source, 18 R416
  ⟨0x7802, 1, .enum, 0, 15, (.fresh [0]), .kept, .none, false, .no, 0x7570642E736F75726365⟩,
  -- upd.digest[i], 18 R416
  ⟨0x7803, 8, .u32, 0, 15, (.fresh [0]), .kept, .none, false, .no, 0x7570642E646967657374⟩,
  -- upd.size_words, 18 R416
  ⟨0x7804, 1, .u32, 0, 15, (.fresh [0]), .kept, .none, false, .no, 0x7570642E73697A655F776F726473⟩,
  -- upd.words_rx, 18 R416
  ⟨0x7805, 1, .u32, 0, 15, (.fresh [0]), .kept, .none, false, .no, 0x7570642E776F7264735F7278⟩,
  -- upd.idle_s, 18 R416
  ⟨0x7806, 1, .u16, 0, 3, (.stored [600]), .kept, (.span 30 3600), false, .no, 0x7570642E69646C655F73⟩,
  -- upd.defer_switch, 18 R416
  ⟨0x7807, 1, .bool, 0, 3, (.stored [0]), .kept, (.span 0 1), false, .no, 0x7570642E64656665725F737769746368⟩,
  -- upd.switch_now, 18 R416
  ⟨0x7808, 1, .bool, 0, 3, (.fresh [0]), .kept, (.span 0 1), false, .no, 0x7570642E7377697463685F6E6F77⟩,
  -- upd.probation_s, 18 R416
  ⟨0x7809, 1, .u32, 0, 3, (.stored [600]), .kept, (.span 60 604800), false, .no, 0x7570642E70726F626174696F6E5F73⟩,
  -- upd.probation_left_s, 18 R416
  ⟨0x780A, 1, .u32, 0, 15, (.fresh [0]), .kept, .none, false, .no, 0x7570642E70726F626174696F6E5F6C6566745F73⟩,
  -- upd.confirm, 18 R416
  ⟨0x780B, 1, .bool, 0, 3, (.fresh [0]), .kept, (.span 0 1), false, .no, 0x7570642E636F6E6669726D⟩,
  -- upd.fallback, 18 R416
  ⟨0x780C, 1, .bool, 0, 3, (.fresh [0]), .kept, (.span 0 1), false, .no, 0x7570642E66616C6C6261636B⟩,
  -- upd.min_build, 18 R416
  ⟨0x780D, 1, .u16, 0, 15, (.stored [0]), .kept, .none, false, .no, 0x7570642E6D696E5F6275696C64⟩,
  -- upd.slot_state[slot], 18 R416
  ⟨0x780E, 2, .enum, 0, 15, (.stored [0]), .kept, .none, false, .no, 0x7570642E736C6F745F7374617465⟩,
  -- upd.slot_build[slot], 18 R416
  ⟨0x780F, 2, .u16, 0, 15, (.stored [0]), .kept, .none, false, .no, 0x7570642E736C6F745F6275696C64⟩,
  -- upd.refusals, 18 R416
  ⟨0x7810, 1, .u32, 0, 2, (.fresh [0]), .kept, .clear0, false, .no, 0x7570642E7265667573616C73⟩,
  -- upd.last_refusal, 18 R416
  ⟨0x7811, 1, .enum, 0, 15, (.fresh [0]), .kept, .none, false, .no, 0x7570642E6C6173745F7265667573616C⟩,
  -- upd.slot_digest[slot], 18 R416
  ⟨0x7812, 16, .u32, 0, 15, (.stored [0]), .kept, .none, false, .no, 0x7570642E736C6F745F646967657374⟩,
  -- upd.enter_farrier, 18 R416
  ⟨0x7813, 1, .bool, 0, 3, (.fresh [0]), .kept, (.span 0 1), false, .no, 0x7570642E656E7465725F66617272696572⟩]

/-- Rows of the `upd.` tables. -/
def rowsUpd2 : List ParamRow := [
  -- upd.wait_cause, 18 R416
  ⟨0x7814, 1, (.bits 8), 0, 15, (.fresh [0]), .kept, .none, false, .no, 0x7570642E776169745F6361757365⟩,
  -- upd.pair_state, 18 R416
  ⟨0x7815, 1, .enum, 0, 15, (.fresh [0]), .kept, .none, false, .no, 0x7570642E706169725F7374617465⟩]

/-- Rows of the `tdm.` tables. -/
def rowsTdm1 : List ParamRow := [
  -- tdm.role, 19 R444
  ⟨0x8000, 1, .enum, 0, 15, (.fresh [0]), .kept, .none, false, .no, 0x74646D2E726F6C65⟩,
  -- tdm.enable, 19 R444
  ⟨0x8001, 1, .bool, 0, 3, (.stored [0]), .kept, (.span 0 1), true, .no, 0x74646D2E656E61626C65⟩,
  -- tdm.state, 19 R444
  ⟨0x8002, 1, .enum, 0, 15, (.fresh [0]), .kept, .none, false, .no, 0x74646D2E7374617465⟩,
  -- tdm.status, 19 R444
  ⟨0x8003, 1, (.bits 16), 0, 15, (.fresh [0]), .kept, .none, false, .no, 0x74646D2E737461747573⟩,
  -- tdm.partner_serial[half], 19 R444
  ⟨0x8004, 2, .u32, 0, 15, (.fresh [0]), .kept, .none, false, .no, 0x74646D2E706172746E65725F73657269616C⟩,
  -- tdm.partner_ip, 19 R444
  ⟨0x8005, 1, .u32, 0, 2, (.stored [0]), .kept, .free, false, .no, 0x74646D2E706172746E65725F6970⟩,
  -- tdm.precedence, 19 R444
  ⟨0x8006, 1, .bool, 0, 15, .kept, .kept, .none, false, .no, 0x74646D2E707265636564656E6365⟩,
  -- tdm.hb_link_us, 19 R444
  ⟨0x8007, 1, .u16, 0, 2, (.stored [500]), .kept, (.span 200 5000), false, .no, 0x74646D2E68625F6C696E6B5F7573⟩,
  -- tdm.hb_ring_ms, 19 R444
  ⟨0x8008, 1, .u16, 0, 2, (.stored [10]), .kept, (.span 5 100), false, .no, 0x74646D2E68625F72696E675F6D73⟩,
  -- tdm.hb_ring_miss, 19 R444
  ⟨0x8009, 1, .u8, 0, 2, (.stored [3]), .kept, (.span 2 10), false, .no, 0x74646D2E68625F72696E675F6D697373⟩,
  -- tdm.contest_ms, 19 R444
  ⟨0x800A, 1, .u16, 0, 2, (.stored [50]), .kept, (.span 20 1000), false, .no, 0x74646D2E636F6E746573745F6D73⟩,
  -- tdm.witness_addr[i], 19 R444
  ⟨0x800B, 8, .u32, 0, 2, (.stored [0]), .kept, .free, false, .no, 0x74646D2E7769746E6573735F61646472⟩,
  -- tdm.witness_port, 19 R444
  ⟨0x800C, 1, .u16, 0, 3, (.stored [47032]), .kept, (.span 1024 65535), false, .no, 0x74646D2E7769746E6573735F706F7274⟩,
  -- tdm.lock_ps, 19 R444
  ⟨0x800D, 1, .s32, 0, 15, (.fresh [0]), .kept, .none, false, .no, 0x74646D2E6C6F636B5F7073⟩,
  -- tdm.link_delay_ns, 19 R444
  ⟨0x800E, 1, .u16, 0, 15, (.fresh [0]), .kept, .none, false, .no, 0x74646D2E6C696E6B5F64656C61795F6E73⟩,
  -- tdm.commit_octets, 19 R444
  ⟨0x800F, 1, .u32, 0, 15, (.fresh [0]), .kept, .none, false, .no, 0x74646D2E636F6D6D69745F6F6374657473⟩,
  -- tdm.copy_octets, 19 R444
  ⟨0x8010, 1, .u32, 0, 15, (.fresh [0]), .kept, .none, false, .no, 0x74646D2E636F70795F6F6374657473⟩,
  -- tdm.copy_backlog, 19 R444
  ⟨0x8011, 1, .u32, 0, 15, (.fresh [0]), .kept, .none, false, .no, 0x74646D2E636F70795F6261636B6C6F67⟩,
  -- tdm.copy_us, 19 R444
  ⟨0x8012, 1, .u32, 0, 15, (.fresh [0]), .kept, .none, false, .no, 0x74646D2E636F70795F7573⟩,
  -- tdm.contest_own[i], 19 R444
  ⟨0x8013, 2, .u16, 0, 15, (.fresh [0]), .kept, .none, false, .no, 0x74646D2E636F6E746573745F6F776E⟩]

/-- Rows of the `tdm.` tables. -/
def rowsTdm2 : List ParamRow := [
  -- tdm.contest_partner, 19 R444
  ⟨0x8014, 1, .u16, 0, 15, (.fresh [65535]), .kept, .none, false, .no, 0x74646D2E636F6E746573745F706172746E6572⟩,
  -- tdm.contest_result, 19 R444
  ⟨0x8015, 1, .enum, 0, 15, (.fresh [0]), .kept, .none, false, .no, 0x74646D2E636F6E746573745F726573756C74⟩,
  -- tdm.switchovers, 19 R444
  ⟨0x8016, 1, .u32, 0, 2, (.fresh [0]), .kept, .clear0, false, .no, 0x74646D2E7377697463686F76657273⟩,
  -- tdm.contests, 19 R444
  ⟨0x8017, 1, .u32, 0, 2, (.fresh [0]), .kept, .clear0, false, .no, 0x74646D2E636F6E7465737473⟩,
  -- tdm.ack_mismatch, 19 R444
  ⟨0x8018, 1, .u32, 0, 2, (.fresh [0]), .kept, .clear0, false, .no, 0x74646D2E61636B5F6D69736D61746368⟩,
  -- tdm.realigns, 19 R444
  ⟨0x8019, 1, .u32, 0, 2, (.fresh [0]), .kept, .clear0, false, .no, 0x74646D2E7265616C69676E73⟩,
  -- tdm.pole_conflicts, 19 R444
  ⟨0x801A, 1, .u32, 0, 2, (.fresh [0]), .kept, .clear0, false, .no, 0x74646D2E706F6C655F636F6E666C69637473⟩,
  -- tdm.role_since_s, 19 R444
  ⟨0x801B, 1, .u32, 0, 15, (.fresh [0]), .kept, .none, false, .no, 0x74646D2E726F6C655F73696E63655F73⟩]

/-- Rows of the `pwr.` tables. -/
def rowsPwr1 : List ParamRow := [
  -- pwr.state, 11 R264
  ⟨0x8800, 1, .enum, 0, 15, (.fresh [0]), .kept, .none, false, .no, 0x7077722E7374617465⟩,
  -- pwr.tolerance_us, 11 R264
  ⟨0x8801, 1, .u32, 0, 1, (.fresh [0]), .kept, .free, false, .no, 0x7077722E746F6C6572616E63655F7573⟩,
  -- pwr.state_floor, 11 R264
  ⟨0x8802, 1, .enum, 0, 2, (.stored [4]), .kept, (.span 0 4), false, .no, 0x7077722E73746174655F666C6F6F72⟩,
  -- pwr.exit_us[state], 11 R264
  ⟨0x8803, 5, .u32, 0, 15, (.fresh [0]), .kept, .none, false, .no, 0x7077722E657869745F7573⟩,
  -- pwr.shed_step, 11 R264
  ⟨0x8804, 1, .u8, 0, 15, (.fresh [0]), .kept, .none, false, .no, 0x7077722E736865645F73746570⟩,
  -- pwr.shed_max, 11 R264
  ⟨0x8805, 1, .u8, 0, 2, (.fresh [0]), .kept, .clear0, false, .no, 0x7077722E736865645F6D6178⟩,
  -- pwr.shed_thresh_mv[step], 11 R264
  ⟨0x8806, 6, .u16, 0, 15, (.fresh [21000, 19500, 18000, 16500, 15000, 13500]), .kept, .none, false, .no, 0x7077722E736865645F7468726573685F6D76⟩,
  -- pwr.shed_hyst_mv, 11 R264
  ⟨0x8807, 1, .u16, 0, 15, (.fresh [400]), .kept, .none, false, .no, 0x7077722E736865645F687973745F6D76⟩,
  -- pwr.reset_mv, 11 R264
  ⟨0x8808, 1, .u16, 0, 15, (.fresh [12000]), .kept, .none, false, .no, 0x7077722E72657365745F6D76⟩,
  -- pwr.shed_entries[step], 11 R264
  ⟨0x8809, 6, .u32, 0, 2, (.stored [0]), .kept, .clear0, false, .no, 0x7077722E736865645F656E7472696573⟩,
  -- pwr.vin_mv, 11 R264
  ⟨0x880A, 1, .u16, 0, 15, (.fresh [0]), .kept, .none, false, .no, 0x7077722E76696E5F6D76⟩,
  -- pwr.vin_min_mv, 11 R264
  ⟨0x880B, 1, .u16, 0, 2, (.fresh [65535]), .kept, .clear0, false, .no, 0x7077722E76696E5F6D696E5F6D76⟩,
  -- pwr.vbat_mv, 11 R264
  ⟨0x880C, 1, .u16, 0, 15, (.fresh [0]), .kept, .none, false, .no, 0x7077722E766261745F6D76⟩,
  -- pwr.supercap_mv, 11 R264
  ⟨0x880D, 1, .u16, 0, 15, (.fresh [0]), .kept, .none, false, .no, 0x7077722E73757065726361705F6D76⟩,
  -- pwr.core_mv, 11 R264
  ⟨0x880E, 1, .u16, 0, 15, (.fresh [900]), .kept, .none, false, .no, 0x7077722E636F72655F6D76⟩,
  -- pwr.avs_enable, 11 R264
  ⟨0x880F, 1, .bool, 0, 2, (.stored [1]), .kept, (.span 0 1), false, .no, 0x7077722E6176735F656E61626C65⟩,
  -- pwr.avs_margin_pct, 11 R264
  ⟨0x8810, 1, .u8, 0, 2, (.stored [20]), .kept, (.span 10 40), false, .no, 0x7077722E6176735F6D617267696E5F706374⟩,
  -- pwr.domain_on, 11 R264
  ⟨0x8811, 1, (.bits 10), 0, 15, (.fresh [3]), .kept, .none, false, .no, 0x7077722E646F6D61696E5F6F6E⟩,
  -- pwr.domain_mw[domain], 11 R264
  ⟨0x8812, 10, .u16, 0, 15, (.fresh [0]), .kept, .none, false, .no, 0x7077722E646F6D61696E5F6D77⟩,
  -- pwr.module_mw, 11 R264
  ⟨0x8813, 1, .u16, 0, 15, (.fresh [0]), .kept, .none, false, .no, 0x7077722E6D6F64756C655F6D77⟩]

/-- Rows of the `pwr.` tables. -/
def rowsPwr2 : List ParamRow := [
  -- pwr.state_time_s[state], 11 R264
  ⟨0x8814, 5, .u32, 0, 15, (.fresh [0]), .kept, .none, false, .no, 0x7077722E73746174655F74696D655F73⟩,
  -- pwr.wake_cause, 11 R264
  ⟨0x8815, 1, .enum, 0, 15, (.fresh [0]), .kept, .none, false, .no, 0x7077722E77616B655F6361757365⟩,
  -- pwr.brownouts, 11 R264
  ⟨0x8816, 1, .u32, 0, 15, (.stored [0]), .kept, .none, false, .no, 0x7077722E62726F776E6F757473⟩,
  -- pwr.standdowns, 11 R264
  ⟨0x8817, 1, .u32, 0, 15, (.stored [0]), .kept, .none, false, .no, 0x7077722E7374616E64646F776E73⟩]

/-- Rows of the `test.` tables. -/
def rowsTest : List ParamRow := [
  -- test.banks, 21 R477
  ⟨0x9000, 1, (.bits 16), 0, 15, (.fresh [0]), .kept, .none, false, .no, 0x746573742E62616E6B73⟩,
  -- test.sessions, 21 R477
  ⟨0x9001, 1, .u8, 0, 15, (.fresh [0]), .kept, .none, false, .no, 0x746573742E73657373696F6E73⟩,
  -- test.state[link], 21 R477
  ⟨0x9002, 42, .enum, 0, 15, (.fresh [0]), .kept, .none, false, .no, 0x746573742E7374617465⟩,
  -- test.pattern[link], 21 R477
  ⟨0x9003, 42, .u8, 0, 15, (.fresh [0]), .kept, .none, false, .no, 0x746573742E7061747465726E⟩,
  -- test.end_cause[link], 21 R477
  ⟨0x9004, 42, .enum, 0, 15, (.fresh [0]), .kept, .none, false, .no, 0x746573742E656E645F6361757365⟩,
  -- test.bits[link], 21 R477
  ⟨0x9005, 84, .u32, 0, 15, (.fresh [0]), .kept, .none, false, .no, 0x746573742E62697473⟩,
  -- test.bit_errors[link], 21 R477
  ⟨0x9006, 84, .u32, 0, 15, (.fresh [0]), .kept, .none, false, .no, 0x746573742E6269745F6572726F7273⟩,
  -- test.word_errors[link], 21 R477
  ⟨0x9007, 84, .u32, 0, 15, (.fresh [0]), .kept, .none, false, .no, 0x746573742E776F72645F6572726F7273⟩,
  -- test.lane_errors[channel], 21 R477
  ⟨0x9008, 512, .u32, 0, 15, (.fresh [0]), .kept, .none, false, .no, 0x746573742E6C616E655F6572726F7273⟩]

/-- Every listed `sys.` row. -/
def rowsSys : List ParamRow :=
  rowsSys1 ++ rowsSys2

/-- Every listed `drv.` row. -/
def rowsDrv : List ParamRow :=
  rowsDrv1 ++ rowsDrv2

/-- Every listed `sns.` row. -/
def rowsSns : List ParamRow :=
  rowsSns1 ++ rowsSns2

/-- Every listed `diag.` row. -/
def rowsDiag : List ParamRow :=
  rowsDiag1 ++ rowsDiag2

/-- Every listed `colour.` row. -/
def rowsColour : List ParamRow :=
  rowsColour1 ++ rowsColour2

/-- Every listed `harness.` row. -/
def rowsHarness : List ParamRow :=
  rowsHarness1 ++ rowsHarness2

/-- Every listed `prog.` row. -/
def rowsProg : List ParamRow :=
  rowsProg1 ++ rowsProg2

/-- Every listed `cmd.` row. -/
def rowsCmd : List ParamRow :=
  rowsCmd1 ++ rowsCmd2

/-- Every listed `net.` row. -/
def rowsNet : List ParamRow :=
  rowsNet1 ++ rowsNet2

/-- Every listed `time.` row. -/
def rowsTime : List ParamRow :=
  rowsTime1 ++ rowsTime2 ++ rowsTime3

/-- Every listed `relay.` row. -/
def rowsRelay : List ParamRow :=
  rowsRelay1 ++ rowsRelay2 ++ rowsRelay3

/-- Every listed `sb.` row. -/
def rowsSb : List ParamRow :=
  rowsSb1 ++ rowsSb2

/-- Every listed `upd.` row. -/
def rowsUpd : List ParamRow :=
  rowsUpd1 ++ rowsUpd2

/-- Every listed `tdm.` row. -/
def rowsTdm : List ParamRow :=
  rowsTdm1 ++ rowsTdm2

/-- Every listed `pwr.` row. -/
def rowsPwr : List ParamRow :=
  rowsPwr1 ++ rowsPwr2

end Sys2Proof.Machine
end

