-- ==== Sys2Proof/Machine/ParamMap.lean ====
section
/-! DEFINITION.  The whole parameter map: the listed rows and the statistics matrices (R284,
R308, R338, R362, R376, R399, R417, R446, R478), found by identifier, with formats, reset
values and ranges read out of a row. -/

namespace Sys2Proof.Machine

open Sys2Proof

/-- The row with identifier `id` in a list of rows. -/
def findRow (id : Nat) : List ParamRow → Option ParamRow
  | [] => none
  | r :: rest => if r.id = id then some r else findRow id rest

/-- A row of a statistics matrix: an engineer's counter that wraps, cleared by a write of 0. -/
def matrixRow (id count mnemonic : Nat) : ParamRow :=
  ⟨id, count, .u32, 0, 2, .fresh [0], .kept, .clear0, false, .no, mnemonic⟩

/-- The number of ASCII octets a mnemonic spells. -/
def nameLength (n : Nat) : Nat := (Nat.log2 n) / 8 + 1

/-- Two mnemonic parts joined. -/
def nameJoin (a b : Nat) : Nat := a * 256 ^ (nameLength b) + b

/-- Two mnemonic parts joined by an underscore. -/
def nameUnder (a b : Nat) : Nat := nameJoin (a * 256 + 0x5F) b

/-- Names of the `net` statistics matrix (R284): directions or operations, kinds, measures. -/
def namesNet : List Nat × List Nat × List Nat :=
  ([0x7278, 0x7478, 0x667764],
   [0x627269646C65, 0x7074705F6576, 0x7074705F67656E, 0x6C6C6470, 0x737570, 0x617270, 0x69636D70, 0x756470, 0x6970, 0x6C32, 0x7061757365, 0x626164],
   [0x6672616D6573, 0x6F6374657473, 0x746167676564, 0x733634, 0x73313237, 0x73323535, 0x73353131, 0x7331303233, 0x7331353336, 0x64726F7073, 0x64757073, 0x6C706977616974])

/-- Names of the `time` statistics matrix (R308): directions or operations, kinds, measures. -/
def namesTime : List Nat × List Nat × List Nat :=
  ([0x7278, 0x7478, 0x667764],
   [0x73796E63, 0x64726571, 0x7064726571, 0x706472657370, 0x667570, 0x6472657370, 0x7064667570, 0x616E6E6F756E6365, 0x7369676E616C, 0x6D676D74],
   [0x6672616D6573, 0x736C6F7430, 0x736C6F7431, 0x6F74686572, 0x6F6E6573746570, 0x74776F73746570, 0x626164, 0x64726F7073, 0x6C617465, 0x636F72726563746564])

/-- Names of the `sb` statistics matrix (R362): directions or operations, kinds, measures. -/
def namesSb : List Nat × List Nat × List Nat :=
  ([0x72656164, 0x70726F6772616D, 0x6572617365, 0x72656672657368],
   [0x66775F61, 0x66775F62, 0x73746167696E67, 0x73657474696E6773, 0x70726F6772616D, 0x7761726D, 0x77617962696C6C, 0x6B657973, 0x61726368697665],
   [0x6F7073, 0x6B6962, 0x72657472696573, 0x736F6674, 0x6D6972726F72, 0x6661696C73, 0x627573795F6D73, 0x636F6C64])

/-- Names of the `wb` statistics matrix (R376): directions or operations, kinds, measures. -/
def namesWb : List Nat × List Nat × List Nat :=
  ([],
   [0x77625F636C6561726564, 0x77625F6C6F7374, 0x72657374617274, 0x7761726D5F72656675736564, 0x666F726365735F636C6561726564, 0x6D6F64655F61646A7573746564, 0x7370696E655F756E6C6F636B, 0x7463786F5F6C6F7373, 0x656D6C74, 0x6F76657272756E, 0x63656C6C5F6661756C74, 0x636F72655F77697468647261776E, 0x666F7263655F65787069726564, 0x67726170685F73776170, 0x6C616D705F6661756C74, 0x6C616D705F6465677261646564, 0x6C616D705F756E70726F76656E, 0x6C616D705F676F6F64, 0x646572617465, 0x6465726174655F73687574646F776E, 0x6C6F6F705F6C696D6974, 0x7472696D5F6C696D69746564, 0x636172645F6661756C74, 0x636172645F6C6F7374, 0x636172645F72656675736564, 0x636172645F6368616E6765, 0x6D657465725F676170, 0x617263686976655F77726170, 0x74696D655F61646A757374, 0x74696D655F7175616C697479, 0x636F6E74696E756974795F6C6F7374, 0x74735F6F766572666C6F77, 0x6E65745F6368616E6765, 0x68697463685F72656675736564, 0x73746F726167655F6368616E6765, 0x73706172655F6C6F77, 0x73746F726167655F6C6F7374, 0x736865645F73746570, 0x6B65795F6576656E74, 0x757064617465, 0x74616E64656D5F726F6C65, 0x73657474696E67735F64656661756C74],
   [0x726169736564, 0x73757070726573736564, 0x73746F726564, 0x6C6F7374, 0x6F7665727772697474656E])

/-- Names of the `key` statistics matrix (R399): directions or operations, kinds, measures. -/
def namesKey : List Nat × List Nat × List Nat :=
  ([],
   [0x6F70656E, 0x70726F7665, 0x7461675F636865636B, 0x7461675F6D616B65, 0x63636D5F646563, 0x63636D5F656E63, 0x626561636F6E, 0x6869746368, 0x6B6466, 0x77726170, 0x756E77726170, 0x6C6F6164, 0x696E76616C6964617465, 0x6C6966656379636C65, 0x74646D5F6672616D65, 0x696D616765],
   [0x6F7073, 0x696E74656772697479, 0x6D6173746572, 0x776F726C64, 0x7374617465, 0x6F727068616E6564, 0x656D707479, 0x7761697473, 0x627573795F7573])

/-- Names of the `upd` statistics matrix (R417): directions or operations, kinds, measures. -/
def namesUpd : List Nat × List Nat × List Nat :=
  ([],
   [0x6F70656E, 0x62757379, 0x726566757365645F656D6C74, 0x726566757365645F73686564, 0x726566757365645F7377697463686F766572, 0x726566757365645F6C6F636B, 0x726566757365645F6B6579, 0x726566757365645F776865656C6572, 0x64617461, 0x72616E6765, 0x636F6D6D6974, 0x7665726966795F6661696C, 0x61626F7274, 0x737769746368, 0x66616C6C6261636B],
   [0x686F7374, 0x73657276696365, 0x75706C696E6B, 0x72656C6179, 0x666172726965725F73657276696365, 0x666172726965725F75706C696E6B])

/-- Names of the `tdm` statistics matrix (R446): directions or operations, kinds, measures. -/
def namesTdm : List Nat × List Nat × List Nat :=
  ([],
   [0x686561727462656174, 0x74696D655F6D61726B, 0x626F756E64617279, 0x636F6D6D6974, 0x636F7079, 0x636F70795F61636B, 0x6B6579, 0x696D616765, 0x636F6E74726F6C, 0x72696E675F6862, 0x7769746E6573735F726571, 0x7769746E6573735F616E73],
   [0x7478, 0x7278, 0x74785F6F6374, 0x72785F6F6374, 0x7461675F6661696C, 0x636F756E746572, 0x6C617465, 0x64726F70706564, 0x726573656E74, 0x6D61785F6C61745F6E73])

/-- Names of the `test` statistics matrix (R478): link classes of R467, patterns of R468,
measures.  The spec spells no mnemonic for the user-word pattern; "user" is deduced
(assumption 8). -/
def namesTest : List Nat × List Nat × List Nat :=
  ([0x62616E6B, 0x6861726E657373, 0x7362, 0x706373, 0x6D6163, 0x726164696F, 0x74616E64656D],
   [0x7072627337, 0x707262733135, 0x707262733233, 0x707262733331, 0x75736572, 0x706E395F7478, 0x6377, 0x6D6F64, 0x706E395F7278],
   [0x72756E73, 0x706173736564, 0x6572726F726564, 0x656E646564, 0x73796E635F6C6F73736573])

/-- The mnemonic of entry (d, k, m) of a matrix with prefix `pre`. -/
def matrixName (pre : Nat) (names : List Nat × List Nat × List Nat) (d k m : Nat) : Nat :=
  let km := nameUnder (names.2.1.getD k 0) (names.2.2.getD m 0)
  nameJoin pre (if names.1.isEmpty then km else nameUnder (names.1.getD d 0) km)

/-- The row of identifier `id` in a matrix based at `base` with `dirs` × `kinds` × `measures`
entries (16 identifiers per pair of direction and kind). -/
def inMatrix (id base dirs kinds measures count pre : Nat) (names : List Nat × List Nat × List Nat) :
    Option ParamRow :=
  if id < base then none
  else
    let q := (id - base) / 16
    let m := (id - base) % 16
    if q < dirs * kinds && m < measures then
      some (matrixRow id count (matrixName pre names (q / kinds) (q % kinds) m))
    else none

/-- The row of a parameter, or none where the running image has no parameter of that
identifier (R250, R251). -/
def paramRow (id : Nat) : Option ParamRow :=
  if id < 0x0100 then findRow id rowsId
  else if id < 0x1000 then findRow id rowsSys
  else if id < 0x1800 then findRow id rowsDrv
  else if id < 0x2000 then if id < 0x1820 then findRow id rowsSns else findRow id rowsMeter
  else if id < 0x2400 then findRow id rowsDiag
  else if id < 0x2800 then findRow id rowsColour
  else if id < 0x3000 then findRow id rowsHarness
  else if id < 0x3800 then findRow id rowsProg
  else if id < 0x3820 then findRow id rowsPres
  else if id < 0x3840 then findRow id rowsOut
  else if id < 0x4000 then findRow id rowsDay
  else if id < 0x4800 then findRow id rowsCmd
  else if id < 0x4900 then findRow id rowsNet
  else if id < 0x5000 then inMatrix id 0x4900 3 12 12 2 0x6E65742E namesNet
  else if id < 0x5100 then findRow id rowsTime
  else if id < 0x5800 then inMatrix id 0x5100 3 10 10 2 0x74696D652E namesTime
  else if id < 0x5900 then findRow id rowsRelay
  else if id < 0x6000 then
    if (inMatrix id 0x5900 3 12 10 2 0 ([], [], [])).isSome then
      some (matrixRow id 2 (Config.relayMatrixName id))
    else none
  else if id < 0x6100 then findRow id rowsSb
  else if id < 0x6800 then inMatrix id 0x6100 4 9 8 2 0x73622E namesSb
  else if id < 0x6900 then findRow id rowsWb
  else if id < 0x7000 then inMatrix id 0x6900 1 42 5 1 0x77622E namesWb
  else if id < 0x7100 then findRow id rowsKey
  else if id < 0x7800 then inMatrix id 0x7100 1 16 9 5 0x6B65792E namesKey
  else if id < 0x7900 then findRow id rowsUpd
  else if id < 0x8000 then inMatrix id 0x7900 1 15 6 1 0x7570642E namesUpd
  else if id < 0x8100 then findRow id rowsTdm
  else if id < 0x8800 then inMatrix id 0x8100 1 12 10 1 0x74646D2E namesTdm
  else if id < 0x9000 then findRow id rowsPwr
  else if id < 0x9100 then findRow id rowsTest
  else if id < 0x9800 then inMatrix id 0x9100 7 9 5 1 0x746573742E namesTest
  else none

/-- The lowest and highest value of a format (R10, R246). -/
def Format.bounds : Format → Int × Int
  | .u8 => (0, 255)
  | .u16 => (0, 65535)
  | .u32 => (0, 4294967295)
  | .s16 => (-32768, 32767)
  | .s32 => (-2147483648, 2147483647)
  | .bcd8 => (0, 255)
  | .bool => (0, 1)
  | .enum => (0, 255)
  | .bits n => (0, 2 ^ n - 1)

/-- Signed formats travel sign-extended (R246). -/
def Format.signed : Format → Bool
  | .s16 | .s32 => true
  | _ => false

/-- The format code of DESCRIBE (R257). -/
def Format.code : Format → Nat
  | .u8 => 0x01
  | .u16 => 0x02
  | .u32 => 0x03
  | .s16 => 0x12
  | .s32 => 0x13
  | .bcd8 => 0x21
  | .bool => 0x30
  | .enum => 0x40
  | .bits n => 0x80 + n - 1

/-- The value a word travels for in a format (R246). -/
def Format.value (f : Format) (w : Word) : Int := if f.signed then w.toInt else w.toNat

/-- The word lies within the format (R246); two BCD digits are each 0 to 9. -/
def Format.fits (f : Format) (w : Word) : Bool :=
  let v := f.value w
  let b := f.bounds
  decide (b.1 ≤ v) && decide (v ≤ b.2) &&
    (match f with
     | .bcd8 => decide (w.toNat % 16 ≤ 9) && decide (w.toNat / 16 ≤ 9)
     | _ => true)

/-- The entry of a default list for element `e`: a list of one number stands for every
element. -/
def listValue (vs : List Int) (e : Nat) : Int :=
  match vs with
  | [v] => v
  | _ => vs.getD e 0

/-- The value an unlisted element of the parameter store reads as: the cold reset value of its
row; 0 where the cold column says *kept* (assumption 5). -/
def coldWord (r : ParamRow) (e : Nat) : Word :=
  match r.cold with
  | .fresh vs => wordI (listValue vs e)
  | .stored vs => wordI (listValue vs e)
  | .kept => 0

/-- A parameter is persistent exactly when its cold column reads *stored* (R259). -/
def ParamRow.persistent (r : ParamRow) : Bool :=
  match r.cold with
  | .stored _ => true
  | _ => false

/-- The key of one element in the parameter store. -/
def paramKey (id e : Nat) : Nat := id * 65536 + e

/-- What one element of the parameter store reads as when nothing is listed for it. -/
def defaultWord (id e : Nat) : Word :=
  match paramRow id with
  | some r => coldWord r e
  | none => 0

end Sys2Proof.Machine
end

