-- ==== Sys2Proof/Machine/Exact.lean ====
section
/-! DEFINITION.  Exact rational arithmetic, for the values that the spec computes without rounding
(R67, R110, R113): a quotient in lowest terms with a positive denominator. -/

namespace Sys2Proof.Machine

open Sys2Proof

/-- An exact quotient in lowest terms. -/
structure Q where
  num : Int
  den : Nat
  deriving DecidableEq, Repr

/-- The quotient of two integers; 0 where the divisor is 0. -/
def Q.mk' (n d : Int) : Q :=
  if d = 0 then ⟨0, 1⟩
  else
    let g : Int := Int.gcd n d
    let n := if d < 0 then -n else n
    let d := if d < 0 then -d else d
    ⟨n / g, (d / g).toNat⟩

/-- A whole number. -/
def Q.ofInt (n : Int) : Q := ⟨n, 1⟩

/-- A whole number. -/
def Q.ofNat (n : Nat) : Q := ⟨n, 1⟩

def Q.add (a b : Q) : Q := Q.mk' (a.num * b.den + b.num * a.den) ((a.den : Int) * b.den)

def Q.neg (a : Q) : Q := ⟨-a.num, a.den⟩

def Q.sub (a b : Q) : Q := a.add b.neg

def Q.mul (a b : Q) : Q := Q.mk' (a.num * b.num) ((a.den : Int) * b.den)

def Q.div (a b : Q) : Q := Q.mk' (a.num * b.den) ((a.den : Int) * b.num)

/-- Multiply by a whole number. -/
def Q.scale (a : Q) (n : Int) : Q := Q.mk' (a.num * n) a.den

/-- Divide by a whole number. -/
def Q.over_ (a : Q) (n : Int) : Q := Q.mk' a.num ((a.den : Int) * n)

def Q.lt (a b : Q) : Bool := decide (a.num * b.den < b.num * a.den)

def Q.le (a b : Q) : Bool := decide (a.num * b.den ≤ b.num * a.den)

def Q.max (a b : Q) : Q := if a.lt b then b else a

def Q.min (a b : Q) : Q := if b.lt a then b else a

def Q.abs (a : Q) : Q := ⟨(a.num.natAbs : Int), a.den⟩

/-- The greatest whole number at most `a`. -/
def Q.floor (a : Q) : Int := Int.fdiv a.num a.den

/-- Rounded half up. -/
def Q.round (a : Q) : Int := divRoundI a.num a.den

/-- `a` held between two limits. -/
def Q.clamp (a lo hi : Q) : Q := (a.max lo).min hi

abbrev Q.zero : Q := ⟨0, 1⟩
abbrev Q.one : Q := ⟨1, 1⟩

/-- The sum of a list. -/
def Q.sum (l : List Q) : Q := l.foldl Q.add Q.zero

/-- The greatest of a list, 0 where it is empty. -/
def Q.maxOf (l : List Q) : Q := match l with
  | [] => Q.zero
  | a :: rest => rest.foldl Q.max a

/-- The least of a list, 0 where it is empty. -/
def Q.minOf (l : List Q) : Q := match l with
  | [] => Q.zero
  | a :: rest => rest.foldl Q.min a

/-- Element `k` of a list, 0 beyond its end. -/
def Q.at_ (l : List Q) (k : Nat) : Q := l.getD k Q.zero

/-- The nearest whole number to the square root of a non-negative quotient times `scale`. -/
def Q.sqrtScaled (a : Q) (scale : Nat) : Nat :=
  let n := (a.scale (scale * scale)).floor.toNat
  let r := isqrt n
  if r * r + r < n then r + 1 else r

end Sys2Proof.Machine
end

