-- ==== Sys2Proof/Machine/State.lean ====
section
/-! DEFINITION.  The state of the block: everything the spec names that a command reads or
writes.  The parameters are one sparse store over the parameter map; what the spec gives the
machine beside its parameters stands in one structure per chapter.  Each field's docstring
gives its width, the rule that names it and its value at reset. -/

namespace Sys2Proof.Machine

open Sys2Proof

/-- No command of the block ends in a fault: every effect the spec gives is modelled, and the
block has no address that does not exist.  Raised by nobody; safe. -/
inductive Fault where
  deriving DecidableEq, Repr

/-- Why a command is refused. -/
inductive Refusal where
  /-- The command has no meaning yet: raised by the arms of `exec` alone.  Safe. -/
  | notModelled (mnemonic : String)
  deriving DecidableEq, Repr


/-! ### Drive engine (R34 to R58, R508) -/

/-- A team target (R246): level, form, CCT and duv, four ratios, fade time, and whether its CCT or duv was
clamped as it arrived (R104, R176). -/
structure Target where
  level : Nat
  ratio : Bool
  cct : Nat
  duv : Int
  ratios : List Nat
  fade : Option Nat
  outside : Bool
  deriving DecidableEq, Repr

/-- A team's colour (R104, R113): reciprocal temperature in mired and duv in 10⁻⁴, kept unrounded; four
ratios; or the gains of a fade between the two forms. -/
inductive Colour where
  | cct (mired duv : Q)
  | ratio (r : List Nat)
  | gains (g : List Q)
  deriving DecidableEq, Repr

/-- A team in the drive engine. -/
structure TeamDrive where
  /-- channels of the team in force, 0 to 4; R50; 1 -/
  size : Nat
  /-- last rung-7 target; R176, R195; none -/
  program : Option Target
  /-- rung-5 target of TEAM_SET; R246; none -/
  override_ : Option Target
  /-- committed target that waits for the bank's next period start, with its rung; R24; none -/
  waiting : Option (Nat × Target)
  /-- target and rung taken last; R46; none (the initial target of R50) -/
  taken : Option (Nat × Target)
  /-- colour target held back by shed step 2; R119; none -/
  heldColour : Option Target
  /-- present fraction λ, 2⁻²⁴; R39; 0 -/
  lam : Nat
  /-- present colour; R113; none (the initial target's) -/
  colour : Option Colour
  /-- start and end of the fade in flight; R47; 0 -/
  lam0 : Nat
  lam1 : Nat
  colour0 : Option Colour
  colour1 : Option Colour
  /-- steps done and steps in all; R47; 0 -/
  step : Nat
  steps : Nat
  /-- a fade was in flight since the last trim update, 1 bit; R117; false -/
  faded : Bool
  /-- colour method in force; R105; 0 -/
  method : Nat
  /-- Y_ref in lm as latched; R109; none -/
  yRef : Option Q
  /-- size that a SET has applied at the boundary and the cycle's commit is to carry; R50; none -/
  newSize : Option Nat
  /-- committed size that waits for the bank's next period start; R50; none -/
  commitSize : Option Nat
  /-- colour method that the last commit carried; R105; 0 -/
  methodNext : Nat
  /-- fades halted by a warm restart until the next target, 1 bit; R56, R202; false -/
  halted : Bool
  deriving DecidableEq, Repr

/-- A change of a channel's own fraction towards its target (R508, and channel overrides). -/
structure Glide where
  from_ : Nat
  step : Nat
  steps : Nat
  /-- part of a resumption fade of its team -/
  resume : Bool
  deriving DecidableEq, Repr

/-- An amplitude that a scan has sent (R43). -/
structure SentAmp where
  amp : Nat
  setpoint : Nat
  /-- E + 4.0 µs -/
  from_ : Nat
  /-- sent only to carry a dark pulse -/
  dark : Bool
  /-- dimming mode whose rules it was formed by (R45) -/
  mode : Nat
  deriving DecidableEq, Repr

/-- A proving grant (R94): the instant from which its period is sought, and whether it is a dark pulse. -/
structure Grant where
  from_ : Nat
  dark : Bool
  deriving DecidableEq, Repr

/-- A channel in the drive engine. -/
structure ChannelDrive where
  /-- residue in ticks, signed with 16 fractional bits; R41; 0 -/
  res : Int
  /-- gathering count; R42; 0 -/
  gather : Nat
  /-- dimming mode in force, taken at the channel's own amplitude epoch; R45, R50; 2 -/
  mode : Nat
  /-- DAC setpoint in force; R67; 0 -/
  setpoint : Nat
  /-- amplitude sent and not yet in force; R43; none -/
  sent : Option SentAmp
  /-- the amplitude of the next scan, acknowledged before the one before is in force; R43; none -/
  queued : Option SentAmp
  /-- the amplitude in force was sent only for a dark pulse, 1 bit; R41, R96; false -/
  darkAmp : Bool
  /-- CHANNEL override: level and fade time; R247; none -/
  override_ : Option (Nat × Option Nat)
  /-- committed channel override that waits for the bank's period start; R24; none -/
  waiting : Option (Option (Nat × Option Nat))
  /-- channel override in force at the drive engine; R27; none -/
  taken : Option Nat
  glide : Option Glide
  /-- start fraction that a restart or readback left; R508; none -/
  start : Option Nat
  /-- instants between which the present pulse is high; R36; 0 -/
  pulseFrom : Nat
  pulseTo : Nat
  /-- instant of the last lane period start processed; R36; none -/
  lastStart : Option Nat
  /-- on-time of the period in progress, ticks; R36; 0 -/
  onNow : Nat
  /-- ride-through on-time held by rung 2, ticks; R55; 0 -/
  rideTicks : Nat
  /-- difference of residue that the wheeler takes at its next period start; R426; 0 -/
  realign : Int
  /-- residue and gather count at the period start at which the last commit applied; R425; 0 -/
  atCommit : Int × Nat
  deriving DecidableEq, Repr

/-- Old-period marks that continue after a period change (R37): old period in ticks and the next mark. -/
structure ExtraMarks where
  period : Nat
  next : Nat
  deriving DecidableEq, Repr

/-- A bank in the drive engine. -/
structure BankDrive where
  /-- period in force, ticks; R34; 32,000 -/
  period : Nat
  /-- stagger mode in force; R35; 2 -/
  stagger : Nat
  /-- DRV generation runs, 1 bit; R56, R140; false (DRV is low until the first commit) -/
  running : Bool
  /-- generation stops at the next period start, 1 bit; R14, R140; false -/
  stopping : Bool
  /-- instant of the period start at which generation stopped; R140; none -/
  stoppedAt : Option Nat
  /-- the bank is to resume, 1 bit; R140; false -/
  resuming : Bool
  /-- instant of the last period start; R35; none -/
  lastStart : Option Nat
  /-- instant of the next period start; R35; none (at the bank offset) -/
  nextStart : Option Nat
  /-- a changed period or stagger waits for the next period start, 1 bit; R37; false -/
  change : Bool
  /-- the last old period has ended and the first new one has not begun, 1 bit; R37; false -/
  gap : Bool
  extra : Option ExtraMarks
  /-- a commit waits for the next period start, 1 bit; R24; false -/
  commitWaits : Bool
  /-- rung 1 ends at the next period start, 1 bit; R54; false -/
  emltEnds : Bool
  /-- rung 2 holds the bank, 1 bit; R55; false -/
  riding : Bool
  /-- rung 3 holds the bank, 1 bit; R27; false -/
  test : Bool
  /-- period marks sent, and instant of the last; R139; 0 -/
  marks : Nat
  markAt : Option Nat
  deriving DecidableEq, Repr

/-- The drive engine. -/
structure DriveState where
  /-- teams T000 to T511; R3; fresh -/
  teams : Tab TeamDrive
  /-- channels CH000 to CH511; R3; fresh -/
  channels : Tab ChannelDrive
  /-- banks B0 to B15; R3; fresh -/
  banks : Tab BankDrive
  /-- rung-5 targets of remote teams RT000 to RT255, by team number 512 to 767; R247; none -/
  remoteOverride : Tab (Option Target)
  /-- last rung-7 targets of remote teams; R176; none -/
  remoteProgram : Tab (Option Target)
  /-- target last queued for each remote team; R333; none -/
  remoteSent : Tab (Option Target)
  /-- EMLT is high, 1 bit; R52; false -/
  emlt : Bool
  /-- rung 1 is in force, 1 bit; R52; false -/
  emltHeld : Bool
  /-- instant rung 1 came into force; R65; none -/
  emltSince : Option Nat
  /-- instant EMLT fell; R54; none -/
  emltLow : Option Nat
  /-- the next commit starts every team from its cards' light, 1 bit; R56; true -/
  firstCommit : Bool
  deriving DecidableEq, Repr

def TeamDrive.fresh : TeamDrive where
  size := 1
  program := none
  override_ := none
  waiting := none
  taken := none
  heldColour := none
  lam := 0
  colour := none
  lam0 := 0
  lam1 := 0
  colour0 := none
  colour1 := none
  step := 0
  steps := 0
  faded := false
  method := 0
  yRef := none
  newSize := none
  commitSize := none
  methodNext := 0
  halted := false

def ChannelDrive.fresh : ChannelDrive where
  res := 0
  gather := 0
  mode := 2
  setpoint := 0
  sent := none
  queued := none
  darkAmp := false
  override_ := none
  waiting := none
  taken := none
  glide := none
  start := none
  pulseFrom := 0
  pulseTo := 0
  lastStart := none
  onNow := 0
  rideTicks := 0
  realign := 0
  atCommit := (0, 0)

def BankDrive.fresh : BankDrive where
  period := 32000
  stagger := 2
  running := false
  stopping := false
  stoppedAt := none
  resuming := false
  lastStart := none
  nextStart := none
  change := false
  gap := false
  extra := none
  commitWaits := false
  emltEnds := false
  riding := false
  test := false
  marks := 0
  markAt := none

def DriveState.reset : DriveState where
  teams := Tab.const .fresh
  channels := Tab.const .fresh
  banks := Tab.const .fresh
  remoteOverride := Tab.const none
  remoteProgram := Tab.const none
  remoteSent := Tab.const none
  emlt := false
  emltHeld := false
  emltSince := none
  emltLow := none
  firstCommit := true

/-! ### Lamp diagnosis and derating (R82 to R103) -/

/-- A channel in the diagnosis unit. -/
structure ChannelDiag where
  /-- instant the proving window began; R83; 0 -/
  windowFrom : Nat
  /-- instant the window timer paused; R97; none -/
  pausedAt : Option Nat
  /-- confirmation run: classification and length; R87; none -/
  run : Option (Nat × Nat)
  /-- instant of the last evidence; R83; none -/
  evidence : Option Nat
  /-- the same instant, moved on over pauses: the age against W counts from it; R83, R97; none -/
  agedFrom : Option Nat
  /-- the window in progress has an evidence set, 1 bit; R94; false -/
  inWindow : Bool
  /-- baseline: sets gathered, sums of V in mV and θ in 0.01 °C; R86; 0 -/
  learned : Nat
  sumV : Nat
  sumT : Int
  /-- the reference voltage is that of an accepted SET, 0 to relearn included, 1 bit; R86, R425; false -/
  vfSet : Bool
  grant : Option Grant
  /-- a proving pulse's debt is unpaid, 1 bit; R93; false -/
  debt : Bool
  deriving DecidableEq, Repr

/-- A team in the derating unit. -/
structure TeamDiag where
  /-- instant of the last valid temperature; R100; none -/
  tempAt : Option Nat
  /-- instant the team was formed or the module restarted; R100; 0 -/
  since : Nat
  /-- derating target; R99; 32,768 -/
  target : Nat
  /-- θ has reached derate_off_c and not yet fallen 5 °C below it, 1 bit; R99; false -/
  hot : Bool
  deriving DecidableEq, Repr

/-- Diagnosis. -/
structure DiagState where
  channels : Tab ChannelDiag
  teams : Tab TeamDiag
  /-- card-fault state of each bank, 1 bit; R88; false -/
  cardFault : Tab Bool
  /-- instant of the first commit, where windows start; R98; none -/
  started : Option Nat
  deriving DecidableEq, Repr

def ChannelDiag.fresh : ChannelDiag := ⟨0, none, none, none, none, false, 0, 0, 0, false, none, false⟩

def TeamDiag.fresh : TeamDiag := ⟨none, 0, 32768, false⟩

def DiagState.reset : DiagState where
  channels := Tab.const .fresh
  teams := Tab.const .fresh
  cardFault := Tab.const false
  started := none

/-! ### Colour control (R104 to R122) -/

/-- A channel in the colour stage. -/
structure ChannelColour where
  /-- filtered lamp temperature θ_f in 2⁻³² of 0.01 °C; R107; none before the first reading -/
  theta : Option Int
  /-- θ_f as latched for the next period start, and as in force, 2⁻³² of 0.01 °C; R108; 25.00 °C -/
  latchedNext : Int
  latched : Int
  /-- trim as latched for the next period start, and as in force, Q1.15; R108; 32,768 -/
  trimNext : Nat
  trim : Nat
  deriving DecidableEq, Repr

/-- A sensor word (R115): lane, X, Y, Z, pod fault, and the instant of measurement in spine steps. -/
structure SensorWord where
  lane : Nat
  x : Nat
  y : Nat
  z : Nat
  fault : Bool
  ref : Int
  deriving DecidableEq, Repr

/-- A team in the colour unit. -/
structure TeamColour where
  sensor : Option SensorWord
  /-- instant of the last trim opportunity; R117; none -/
  trimAt : Option Nat
  /-- instant trim_limited was set, and whether it was recorded; R117; none -/
  limitedSince : Option Nat
  limitedTold : Bool
  /-- instant of the last valid temperature of the team; R107; 0 -/
  tempAt : Nat
  /-- an input of Y_ref has changed since the last commit, 1 bit; R109; false -/
  yDirty : Bool
  /-- recomputed Y_ref in lm, latched at the commit for the bank's next period start; R108, R109; none -/
  yNext : Option Q
  deriving DecidableEq, Repr

/-- Colour. -/
structure ColourState where
  channels : Tab ChannelColour
  teams : Tab TeamColour
  /-- no trim updates of a new lead before this instant; R120; 0 -/
  holdTrims : Nat
  deriving DecidableEq, Repr

def ChannelColour.fresh : ChannelColour := ⟨none, 2500 * 4294967296, 2500 * 4294967296, 32768, 32768⟩

def TeamColour.fresh : TeamColour := ⟨none, none, none, false, 0, false, none⟩

def ColourState.reset : ColourState where
  channels := Tab.const .fresh
  teams := Tab.const .fresh
  holdTrims := 0

/-! ### Harness bus (R123 to R150) -/

/-- A bank's harness controller. -/
structure BankHarness where
  /-- FLTn_N is high, 1 bit, and the instant of its last change; R142; low -/
  fltHigh : Bool
  fltSince : Nat
  /-- sequence of the last primary, 8 bits; R127; 0 -/
  sequence : Nat
  /-- scan start of the last primary transaction; R125; none -/
  scanAt : Option Nat
  /-- TCXO-period count at the last primary slot; R125; none -/
  slotCount : Option Nat
  /-- a transaction runs until this instant, and its readback has not been seen; R126; 0 (none) -/
  busyUntil : Nat
  /-- the transaction in progress or last run was a repeat, 1 bit; R125; false -/
  repeat_ : Bool
  /-- words of the last setpoint frame; R127; none -/
  frame : List Word
  /-- amplitude of each lane in that frame; R43; none -/
  amps : List SentAmp
  /-- the scan's readback is neither taken nor counted missing, 1 bit; R130, R138; false -/
  awaiting : Bool
  /-- the acknowledgement of the primary has been judged, 1 bit; R137; false -/
  acked : Bool
  /-- the frame was accepted, 1 bit; R137; false -/
  accepted : Bool
  /-- the primary's acknowledgement failed its check, 1 bit; R137; false -/
  ackFailed : Bool
  /-- a repeat transaction is called for, 1 bit; R137, R138; false -/
  repeatDue : Bool
  /-- a valid readback of the scan has come, 1 bit; R138; false -/
  readGood : Bool
  /-- the next primary carries the state request flag, 1 bit; R127; false -/
  stateRequest : Bool
  /-- a state readback has come since the request: codes and duties; R130; none -/
  stateRead : Option (List (Nat × Nat))
  /-- management command of the next primary: command, address, data; R135; NOP -/
  command : Nat × Nat × Nat
  /-- primaries in a row without a valid readback; R138; 0 -/
  missed : Nat
  /-- ENABLE has been sent in enumeration, 1 bit; R145; false -/
  enabling : Bool
  /-- a test transaction runs until this instant; R139, R470; 0 (none) -/
  testUntil : Nat
  /-- transactions in a row without a valid readback; R145; 0 -/
  failedTx : Nat
  /-- primaries sent in the present step of enumeration; R145; 0 -/
  enumIndex : Nat
  /-- instant a refused card is tried again; R144; none -/
  retryAt : Option Nat
  /-- enumeration from training is called for without a wait for FLTn_N, 1 bit; R138, R146; true -/
  reenumerate : Bool
  /-- instant since which the bank's card is not being enumerated; R202; 0 -/
  settledAt : Nat
  /-- last pod sequence delivered, by lane × 4 + type; R134; none -/
  podSeq : Tab (Option Nat)
  /-- completion stamp of the last card scan record; R19, R171; none -/
  stamp : Option Nat
  /-- a scan record has come since the card runs, 1 bit; R20; false -/
  recordValid : Bool
  /-- the bank came to running after the first boundary and waits for a commit, 1 bit; R202; false -/
  late : Bool
  /-- pole_conflict primaries in a row; R436; 0 -/
  conflicts : Nat
  /-- serial of the last card enumerated on the bank, 64 bits; R71; none -/
  lastSerial : Option Nat
  /-- outcome of each scan since the last state copy: count of its slot, accepted, repeat; R425, R426; none -/
  outcomes : List (Nat × Bool × Bool)
  deriving DecidableEq, Repr

def BankHarness.fresh : BankHarness where
  fltHigh := false
  fltSince := 0
  sequence := 0
  scanAt := none
  slotCount := none
  busyUntil := 0
  repeat_ := false
  frame := []
  amps := []
  awaiting := false
  acked := false
  accepted := false
  ackFailed := false
  repeatDue := false
  readGood := false
  stateRequest := false
  stateRead := none
  command := (0, 0, 0)
  missed := 0
  enabling := false
  testUntil := 0
  failedTx := 0
  enumIndex := 0
  retryAt := none
  reenumerate := true
  settledAt := 0
  podSeq := Tab.const none
  stamp := none
  recordValid := false
  late := false
  conflicts := 0
  lastSerial := none
  outcomes := []

/-- The harness buses. -/
structure HarnessState where
  banks : Tab BankHarness
  deriving DecidableEq, Repr

def HarnessState.reset : HarnessState where
  banks := Tab.const .fresh
/-! ### Presence and outrider (R205 to R222) -/

/-- A delivered presence word that waits to enter the snapshot (R134, R334). -/
structure PodWord where
  pod : Nat
  word1 : Word
  word2 : Word
  fault : Bool
  seq : Nat
  /-- age reference: the completion stamp less the age field, in spine steps; R207 -/
  ref : Int
  /-- the age field reads 127, or the wireless age is unknown; R211 -/
  untimed : Bool
  /-- instant its record completed, a wireless one's less its age; R20, R171, R334 -/
  stamp : Int
  /-- the source has not been lost since, 1 bit; R20 -/
  valid : Bool
  deriving DecidableEq, Repr

/-- What the pod table keeps of a pod (R207). -/
structure PodEntry where
  word1 : Word
  word2 : Word
  fault : Bool
  seq : Nat
  ref : Int
  untimed : Bool
  seqGap : Bool
  stamp : Int
  /-- validity flag of the record, 1 bit; R20 -/
  valid : Bool
  deriving DecidableEq, Repr

/-- Presence, outrider and daylight beside their parameters. -/
structure PresenceState where
  /-- words of records not yet in a snapshot, oldest first; R207; none -/
  arrivals : List PodWord
  /-- pod table, 1,536 pods; R207; nothing delivered -/
  pods : Tab (Option PodEntry)
  /-- last timed onset of each of 768 teams, spine steps; R213; none -/
  lastOnset : Tab (Option Int)
  /-- the team's last onset was crowded, 1 bit each; R213; false -/
  crowdAt : Tab Bool
  /-- onset stamp already paired by each of 4,096 edges; R213; none -/
  used : Tab (Option Int)
  /-- prediction entries of 768 teams: first and last arrival, spine steps; R215; none -/
  predictions : Tab (Option (Int × Int))
  deriving DecidableEq, Repr

def PresenceState.reset : PresenceState where
  arrivals := []
  pods := Tab.const none
  lastOnset := Tab.const none
  crowdAt := Tab.const false
  used := Tab.const none
  predictions := Tab.const none

/-! ### Bridle protocol (R223 to R249) -/

/-- One entry of a port queue (R230): data word, end mark, parity bit and poison tag. -/
structure QueuedWord where
  data : Word
  endMark : Bool
  poison : Bool
  /-- odd parity over the data bits and the end mark, as written (R229, R231) -/
  parity : Bool
  /-- the input stage ended the packet here, and drained what followed (R235) -/
  cut : Bool
  deriving DecidableEq, Repr

/-- Where a packet came from and where its reply goes (R226 check 8, R227). -/
inductive Source where
  | host
  | service
  | uplink (ip port : Nat)
  | relay (node : Nat)
  deriving DecidableEq, Repr

/-- One received packet: its words in order, and whether its octet count was not a multiple
of 4 (R227). -/
structure Packet where
  source : Source
  words : List QueuedWord
  ragged : Bool
  /-- sent to a broadcast address of the uplink (R271) -/
  broadcast : Bool
  deriving DecidableEq, Repr

/-- The result held under a ticket: status, detail and result words (R224, R244). -/
structure Result where
  status : Nat
  detail : Nat
  words : List Word
  /-- status of the original result when the status is ST_REPEAT (R224) -/
  inner : Nat := 0
  deriving DecidableEq, Repr

/-- An open ticket (R243 to R245). -/
structure Ticket where
  number : Nat
  /-- the result and the instant it became ready; none while pending -/
  result : Option (Nat × Result)
  /-- its result has been read once -/
  readOnce : Bool
  deriving DecidableEq, Repr

/-- One of the last 16 accepted packets of a session (R242). -/
structure Recorded where
  seq : Nat
  opcode : Nat
  ticket : Nat
  crc : Word
  /-- payload of the reply first sent -/
  reply : List Word
  /-- the reply carried a tag -/
  tagged : Bool
  deriving DecidableEq, Repr

/-- An open session (R237 to R242). -/
structure Session where
  id : Nat
  source : Source
  role : Nat
  /-- key slot 0 to 63, or 0xFF keyless (R391) -/
  slot : Nat
  proved : Bool
  openedAt : Nat
  /-- instant of the last accepted packet (R238) -/
  lastAccept : Nat
  clientNonce : List Word
  moduleNonce : List Word
  /-- session key held in D9 (R391) -/
  key : Nat
  /-- highest accepted sequence; none before the first (R242) -/
  highest : Option Nat
  /-- last accepted packets, newest first, at most 16 -/
  recorded : List Recorded
  tickets : List Ticket
  /-- elements of `_lo` parameters latched by a GET of the `_hi` partner (R255, R79) -/
  latched : List (Nat × Word)
  deriving DecidableEq, Repr

/-- The identifier of a session closed by the orphaning of its key (R238). -/
structure KeptIdentifier where
  id : Nat
  source : Source
  until_ : Nat
  deriving DecidableEq, Repr

/-- A boundary command that waits for step 1 (R22). -/
structure BoundaryCommand where
  /-- acceptance stamp: free-running count when check 10 passed -/
  stamp : Nat
  source : Source
  session : Nat
  role : Nat
  opcode : Nat
  ticket : Nat
  payload : List Word
  deriving DecidableEq, Repr

/-- Names the ticket a deferred result belongs to. -/
structure TicketRef where
  session : Nat
  ticket : Nat
  deriving DecidableEq, Repr

/-- A reply that waits for room in its outbound queue (R236). -/
structure WaitingReply where
  service : Bool
  words : List Word
  since : Nat
  deriving DecidableEq, Repr

/-- The command interface. -/
structure BridleState where
  /-- host-port inbound queue, 8,192 entries, oldest first; R230; empty -/
  hostIn : List QueuedWord
  /-- host-port outbound queue, 8,192 entries; R230; empty -/
  hostOut : List QueuedWord
  /-- service-port inbound queue, 8,192 entries; R227; empty -/
  serviceIn : List QueuedWord
  /-- service-port outbound queue, 8,192 entries; R227; empty -/
  serviceOut : List QueuedWord
  /-- inbound drain-to-end state of the host port, 1 bit; R234; false -/
  hostInDrain : Bool
  /-- outbound drain-to-end state of the host port, 1 bit; R234; false -/
  hostOutDrain : Bool
  /-- inbound drain-to-end state of the service port, 1 bit; R227, R234; false -/
  serviceInDrain : Bool
  /-- the next word the host writes is poisoned, 1 bit; R228; false -/
  hostPoisonNext : Bool
  /-- HOLD_N is low, 1 bit; R232; false -/
  holdLow : Bool
  /-- status word shifted out by the last host-port transaction, 32 bits; R228; 0 -/
  spiStatus : Word
  /-- 40-bit words shifted out by the last READ; R229; none -/
  spiRead : List (BitVec 40)
  /-- octets of the service-port word being assembled, at most 3; R227; none -/
  serviceOctets : List Byte
  /-- a SLIP escape octet came last on the service port, 1 bit; R227; false -/
  serviceEscape : Bool
  /-- the service-port word being assembled holds a bad octet, 1 bit; R227; false -/
  serviceBad : Bool
  /-- a complete service-port word waits to learn whether END follows it, 32 bits and poison;
  R227; none -/
  serviceHeld : Option (Word × Bool)
  /-- the service-port packet in assembly ended with an octet count not a multiple of 4, one
  mark per whole packet in the queue; R227; none -/
  serviceRagged : List Bool
  /-- octets sent on SV_TXD by the last transmission; R227; none -/
  serviceSent : List Byte
  /-- whole packets received on the uplink, oldest first; R227; none -/
  uplinkIn : List Packet
  /-- whole packets received on the relay, oldest first; R227; none -/
  relayIn : List Packet
  /-- replies built for the uplink that wait to be framed, with destination; R227; none -/
  uplinkOut : List (Source × List Word)
  /-- replies built for relay nodes that wait to be framed; R227; none -/
  relayOut : List (Source × List Word)
  /-- replies that wait for room in an outbound queue; R236; none -/
  waiting : List WaitingReply
  /-- open sessions, at most 32; R238; none -/
  sessions : List Session
  /-- identifiers kept after an orphaning; R238; none -/
  kept : List KeptIdentifier
  /-- instants of failed proofs within 60 s, with their transport; R237; none -/
  proofFails : List (Transport × Nat)
  /-- instant until which a transport refuses SESSION_OPEN; R237; none -/
  lockouts : List (Transport × Nat)
  /-- boundary commands waiting, in order of acceptance; R22; none -/
  boundary : List BoundaryCommand
  /-- results of applied boundary commands, ready at the end of step 3; R23; none -/
  applied : List (TicketRef × Result)
  /-- replies to broadcast PINGs that wait out their delay, with the instant each is due; R271;
  none -/
  discovery : List (Nat × Source × List Word)
  /-- the transport that stands first in the rotation, 0 to 3; R226; 0 (DESIGN CHOICE, assumption 101) -/
  turn : Nat
  deriving DecidableEq, Repr

def BridleState.reset : BridleState where
  hostIn := []
  hostOut := []
  serviceIn := []
  serviceOut := []
  hostInDrain := false
  hostOutDrain := false
  serviceInDrain := false
  hostPoisonNext := false
  holdLow := false
  spiStatus := 0
  spiRead := []
  serviceOctets := []
  serviceEscape := false
  serviceBad := false
  serviceHeld := none
  serviceRagged := []
  serviceSent := []
  uplinkIn := []
  relayIn := []
  uplinkOut := []
  relayOut := []
  waiting := []
  sessions := []
  kept := []
  proofFails := []
  lockouts := []
  boundary := []
  applied := []
  discovery := []
  turn := 0

/-! ### Rein graph and program store (R151 to R204, R509, R510) -/

/-- A value (R152): s32, and its quality octet. -/
structure Val where
  v : Int
  q : Nat
  deriving DecidableEq, Repr

/-- An input port of a cell (R155, R156). -/
structure InPort where
  connected : Bool
  delayed : Bool
  producer : Nat
  port : Nat
  const : Int
  deriving DecidableEq, Repr

/-- A cell descriptor (R156). -/
structure CellDesc where
  sid : Nat
  type_ : Nat
  prio : Nat
  ports : List InPort
  consts : List Int
  inits : List Int
  deriving DecidableEq, Repr

/-- The schedule position of a SCHED cell (R304, R305): high-water mark H and `prev` in calendar ms, whether
its first run is over, whether its table was loaded anew, the late bit of STATE, and the pulse queue. -/
structure SchedPos where
  high : Int
  prev : Int
  begun : Bool
  reload : Bool
  late : Bool
  queue : List (Int × Bool)
  deriving DecidableEq, Repr

/-- The running state of a cell. -/
structure CellRun where
  /-- computed outputs with their qualities; R151, R189; the initial values -/
  outs : List Val
  /-- outputs as presented at the last commit; R155; none until the first commit -/
  committed : Option (List Val)
  /-- inputs used at the previous completion; R159; none before the first -/
  seen : Option (List Val)
  /-- event flags and change word, 16 bits each; R159; 0 -/
  flags : Nat
  change : Nat
  /-- completed, or on its way through a ready list, in this cycle, 1 bit; R151, R161; false -/
  done : Bool
  /-- elapsed time in µs, 48 bits; R173; 0 -/
  el : Nat
  /-- R173; false -/
  armed : Bool
  /-- previous truth of IN, X or COND, and Q of a HYST; none takes it from the first run; R173, R174, R194 -/
  was : Option Bool
  /-- integral of a PI or DAYLIGHT cell; none is set at the first run; R175, R199, R217 -/
  integ : Option Int
  /-- last target of a TEAM_OUT cell; R176; none -/
  target : Option Target
  sched : SchedPos
  /-- the cell has had no cycle since the cold restart or its creation: its Δt is 0, 1 bit; R169; true -/
  young : Bool
  deriving DecidableEq, Repr

/-- A force on an output port (R187, R188): value, the target of a team, and the instant it expires. -/
structure Force where
  sid : Nat
  port : Nat
  value : Int
  target : Option Target
  until_ : Option Nat
  deriving DecidableEq, Repr

/-- One thing a source has to do: raise a cell's step-1 flags, raise a port flag, or place a ready cell
(R159, R161, R164). -/
inductive RaiseItem where
  | token (cell : Nat)
  | edge (cell port : Nat)
  | place (cell : Nat)
  deriving DecidableEq, Repr

/-- A draught core (R162, R164, R167): the cell it runs and since when, the raises it still has to place and
since when it waits, and whether it is withdrawn. -/
structure CoreState where
  job : Option Nat
  since : Nat
  raises : List RaiseItem
  waitFrom : Option Nat
  withdrawn : Bool
  deriving DecidableEq, Repr

/-- One element of a parameter as frozen at t_s (R170): its number, the age in µs of its source record if
it belongs to one, and that record's validity flag. -/
structure FrozenElement where
  id : Nat
  element : Nat
  value : Int
  ageUs : Option Nat
  valid : Bool
  deriving DecidableEq, Repr

/-- The calendar as frozen at t_s (R21): ms, time quality (0 primary, 1 secondary, 2 holdover, 3 free-running,
4 invalid), whether the calendar is regular, minute of day, weekday, date as yyyymmdd. -/
structure FrozenCalendar where
  ms : Int
  quality : Nat
  regular : Bool
  minute : Nat
  weekday : Nat
  date : Nat
  deriving DecidableEq, Repr

/-- A journal entry (R186): stable identifier, type constant or port constant, index, value. -/
structure JournalEntry where
  sid : Nat
  typeConst : Bool
  index : Nat
  value : Int
  deriving DecidableEq, Repr

/-- Where the cycle stands (R18): between cycles, in step 2, or quiescent before step 3. -/
inductive CyclePhase where
  | idle | graph | quiescent
  deriving DecidableEq, Repr

/-- An ALARM cell's record that waits for housekeeping (R177): code, severity, snapshot set, stable
identifier. -/
structure AlarmRecord where
  code : Nat
  severity : Nat
  snap : Nat
  sid : Nat
  deriving DecidableEq, Repr

/-- Metering accumulations of a channel (R18, R26, R74): energy in fJ, charge in pC, on-ticks. -/
structure Metering where
  energy : Q
  charge : Q
  on : Nat
  deriving DecidableEq, Repr

/-- A committed record (R18, R26): the ALARM events of its cycles, and the channels' metering accumulations. -/
structure CommittedRecord where
  alarms : List AlarmRecord
  metering : List (Nat × Metering)
  deriving DecidableEq, Repr

/-- What a step-6 commit recorded (R198): image CRC, journal entries, calendar seconds of the commit,
whether the commit record is complete, t_s before it. -/
structure WarmImage where
  crc : Word
  entries : Nat
  /-- seconds of the calendar at the commit, and 1/32,768 of the next -/
  at_ : Int
  ticks : Nat
  complete : Bool
  deriving DecidableEq, Repr

/-- The program. -/
structure ProgState where
  /-- active image in the program store, 32-bit words; R186; empty -/
  active : List Word
  /-- validated image in staging; R158; empty -/
  staged : List Word
  /-- partial load; R509; none -/
  partial_ : Option (List Word)
  /-- previous image; R191; empty -/
  previous : List Word
  /-- journal entries written, and pending; R186; none -/
  written : List JournalEntry
  unwritten : List JournalEntry
  /-- instant at which the oldest pending entry was made; R358; none -/
  unwrittenSince : Option Nat
  /-- descriptors of the running graph with its online changes, in index order; R156; none -/
  descs : List CellDesc
  /-- running states of its cells, in index order; R151; none -/
  runs : List CellRun
  /-- forces, at most 1,024, oldest first; R187; none -/
  forces : List Force
  /-- ready lists of priority 0 to 3, 1,024 entries each, oldest first; R162; empty -/
  ready : Tab (List Nat)
  /-- deferred set, 8,192 bits, as rising cell indexes; R165; empty -/
  deferred : List Nat
  /-- draught cores 0 to 7; R162; idle -/
  cores : Tab CoreState
  /-- what the token raiser still has to raise, and since when it waits; R164; nothing -/
  tokens : List RaiseItem
  tokenWait : Option Nat
  /-- prog.bp_waits rose in this cycle, 1 bit; R166; false -/
  bpRose : Bool
  /-- cells run and skipped in this cycle; R182; 0 -/
  ran : Nat
  skipped : Nat
  phase : CyclePhase
  /-- journal entries pending that the cycle in progress made; R18; 0 -/
  uncommitted : Nat
  /-- instant at which step 4 of the last cycle ends; R18, R25; 0 -/
  copyEnds : Nat
  /-- the cycle in progress overran, 1 bit; R25; false -/
  late : Bool
  /-- t_s of the last cycle; R18; none since the cold restart -/
  ts : Option Nat
  /-- Δt of timers and of the other cells in this cycle, µs; R169, R200; 0 -/
  dtTimer : Nat
  dtOther : Nat
  /-- instant step 2 ended; R180; 0 -/
  quiet : Nat
  /-- phase reference as an instant; R18; 0 (count zero) -/
  phaseRef : Nat
  /-- instant of the next boundary; R18; none (the first multiple) -/
  nextAt : Option Nat
  /-- elements frozen for the IN cells; R170; none -/
  frozen : List FrozenElement
  /-- the parameters, and the prediction entries, as the cells of the cycle see them: those at the end of step 1;
  R163; none -/
  viewParams : List (Nat × Word)
  viewPredictions : Tab (Option (Int × Int))
  /-- minute energy, power and indicative flag of every channel as frozen for METER_READ; R177; none -/
  meters : List (Nat × Nat × Bool)
  calendar : FrozenCalendar
  /-- records that ALARM cells of the cycle in progress raise; R177; none -/
  alarms : List AlarmRecord
  /-- committed records not yet housekept, at most 4, oldest first; R26; none -/
  records : List CommittedRecord
  /-- a SCHED cell detected a jump in this cycle, 1 bit; R304; false -/
  jumped : Bool
  /-- teams driven by no TEAM_OUT cell; R195; none -/
  orphans : List Nat
  /-- R198; none -/
  warm : Option WarmImage
  /-- ticket of the PROG_RESTART in progress; R201; none -/
  restartRef : Option TicketRef
  /-- the kind and cause of the restart in progress: warm or not, and prog.restart_cause; R197; none -/
  restarting : Option (Bool × Nat)
  /-- t_s before the warm restart whose first cycle is still to come; R200; none -/
  gapFrom : Option Nat
  /-- that gap is measured on the RTC, 1 bit; R200; false -/
  gapRtc : Bool
  /-- that gap is unknown, for the RTC lost continuity, 1 bit; R198; false -/
  gapUnknown : Bool
  /-- a boundary command was applied in this cycle, 1 bit; R455; false -/
  commanded : Bool
  /-- swaps applied in this cycle that its commit records: new CRC and removed cells; R196; none -/
  swapped : List (Word × Nat)
  /-- a TEAM_OUT target, or an output of a PI or DAYLIGHT cell, changed in this cycle, 1 bit; R455; false -/
  moved : Bool
  deriving DecidableEq, Repr

def SchedPos.fresh : SchedPos := ⟨0, 0, false, false, false, []⟩

def CoreState.idle : CoreState := ⟨none, 0, [], none, false⟩

def ProgState.reset : ProgState where
  active := []
  staged := []
  partial_ := none
  previous := []
  written := []
  unwritten := []
  unwrittenSince := none
  descs := []
  runs := []
  forces := []
  ready := Tab.const []
  deferred := []
  cores := Tab.const .idle
  tokens := []
  tokenWait := none
  bpRose := false
  ran := 0
  skipped := 0
  phase := .idle
  uncommitted := 0
  copyEnds := 0
  late := false
  ts := none
  dtTimer := 0
  dtOther := 0
  quiet := 0
  phaseRef := 0
  nextAt := none
  frozen := []
  viewParams := []
  viewPredictions := Tab.const none
  meters := []
  calendar := ⟨0, 4, true, 0, 1, 0⟩
  alarms := []
  records := []
  jumped := false
  orphans := []
  warm := none
  restartRef := none
  restarting := none
  gapFrom := none
  gapRtc := false
  gapUnknown := false
  commanded := false
  swapped := []
  moved := false
/-! ### Uplink ring (R266 to R284) -/

/-- A frame in a transmit queue (R278): the frame, whether the module originated it, the ingress stamp
and port of a forwarded one (R294), and the slot whose egress stamp is wanted (R295). -/
structure QueuedFrame where
  frame : Frame
  own : Bool
  ingress : Option (Nat × Nat)
  stampSlot : Option Nat
  deriving DecidableEq, Repr

/-- A frame stored in a descriptor ring (R277): its reception instant and its descriptors. -/
structure HeldFrame where
  frame : Frame
  sfd : Nat
  descriptors : List Nat
  deriving DecidableEq, Repr

/-- A descriptor ring (R277): free descriptors in order, and the frames it holds. -/
structure RxRing where
  free : List Nat
  held : List HeldFrame
  deriving DecidableEq, Repr

/-- An LLDP neighbour (R268): its expiry, who it is, and its Tw values in 0.1 µs. -/
structure LldpNeighbour where
  expires : Nat
  chassis : Nat
  portId : Nat
  name : List Word
  transmitTw : Nat
  receiveTw : Nat
  deriving DecidableEq, Repr

/-- A port beside its parameters. -/
structure NetPort where
  /-- high transmit queue; R278; empty -/
  high : List QueuedFrame
  /-- normal transmit queue, 16 KiB; R278; empty -/
  normal : List QueuedFrame
  /-- instant both queues became empty; R267; 0 -/
  idleSince : Nat
  /-- instant low-power idle began; R267; none -/
  lpiSince : Option Nat
  /-- time spent in low-power idle before, in time units, shown by net.eee_lpi_ms; R282; 0 -/
  lpiTime : Nat
  /-- instant a wake from low-power idle ends; R267; none -/
  wakeUntil : Option Nat
  /-- R268; none -/
  neighbour : Option LldpNeighbour
  /-- instant of the last LLDPDU; R268; none -/
  lldpSent : Option Nat
  /-- instant of the last refusal of a half-duplex link; R266; none -/
  refusedAt : Option Nat
  /-- PHY powered, 1 bit; R272, R280; true -/
  phyOn : Bool
  /-- speed advertised under R280 and R449: 100BASE-TX only, 1 bit; false -/
  only100 : Bool
  /-- the partner advertises EEE, 1 bit; R267; false -/
  partnerEee : Bool
  deriving DecidableEq, Repr

/-- An entry of the duplicate table (R275): source, sequence, instant and port of registration, and
whether the other copy has come. -/
structure DupEntry where
  source : Nat
  seq : Nat
  at_ : Nat
  port : Nat
  both : Bool
  deriving DecidableEq, Repr

/-- The uplink. -/
structure NetState where
  /-- UPA and UPB; R266; nothing queued -/
  ports : Tab NetPort
  /-- descriptor rings, port × 2 + ring: 32 and 256 descriptors; R277; all free -/
  rings : List RxRing
  /-- duplicate table; R275; empty -/
  dups : List DupEntry
  /-- node table, at most 512: source and instant last heard; R274; empty -/
  nodes : List (Nat × Nat)
  /-- ARP cache, at most 64, oldest first: IPv4 address and MAC; R270; empty -/
  arp : List (Nat × Nat)
  /-- frames the module originates that wait for room: ports, frame, wanted stamp slot; R278; none -/
  originated : List (List Nat × QueuedFrame)
  /-- sequence number of the next HSR or PRP frame, 16 bits; R272; 0 -/
  sequence : Nat
  /-- instant of the last supervision frame; R274; none -/
  lifeSent : Option Nat
  /-- instants of the echo replies of the last second; R270; none -/
  echoes : List Nat
  /-- link-local candidate, probes sent and instant of the last; R270; none -/
  probing : Option (Nat × Nat × Nat)
  /-- instant of the last ARP defence of a claimed address; R270; none -/
  defended : Option Nat
  /-- ring mode in force; R272, R279; 0 -/
  mode : Nat
  /-- subnet mask in force, 32 bits; R270; net.ip_mask -/
  mask : Nat
  /-- default gateway in force, 32 bits; R270; net.ip_gateway -/
  gateway : Nat
  /-- a SET of net.ring_mode waits for its reply to leave, 1 bit; R279; false -/
  modeWaits : Bool
  /-- a SET of an address waits for its reply to leave, 1 bit; R270; false -/
  ipWaits : Bool
  /-- step of R280 in progress, 1 to 4, or of R449's change of port speeds, 5 to 8, and its instant; none -/
  reduceStep : Option (Nat × Nat)
  /-- the uplink is reduced to one port, 1 bit; R280; false -/
  reduced : Bool
  /-- port kept while reduced; R280; 0 -/
  keptPort : Nat
  /-- frames sent, with their port, by the last transmission; R278; none -/
  sent : List (Nat × Frame)
  deriving DecidableEq, Repr

def NetPort.fresh : NetPort := ⟨[], [], 0, none, 0, none, none, none, none, true, false, false⟩

def RxRing.full (n : Nat) : RxRing := ⟨List.range n, []⟩

def NetState.reset : NetState where
  ports := Tab.const .fresh
  rings := [.full 32, .full 256, .full 32, .full 256]
  dups := []
  nodes := []
  arp := []
  originated := []
  sequence := 0
  lifeSent := none
  echoes := []
  probing := none
  defended := none
  mode := 0
  mask := 0xFFFFFF00
  gateway := 0
  modeWaits := false
  ipWaits := false
  reduceStep := none
  reduced := false
  keptPort := 0
  sent := []

/-! ### Network time, local clock and calendar (R285 to R309) -/

/-- A linear clock over the free-running count (R285): reading at the reference count in units
of 2⁻¹⁶ ns, reference count, and rate in units of 2⁻⁴⁰. -/
structure LinearClock where
  offset : Int
  ref : Nat
  rate : Int
  deriving DecidableEq, Repr

/-- A default data set as an Announce carries it, for the comparison of R289. -/
structure DataSet where
  priority1 : Nat
  clockClass : Nat
  accuracy : Nat
  variance : Nat
  priority2 : Nat
  identity : Nat
  stepsRemoved : Nat
  deriving DecidableEq, Repr

/-- A timeTransmitter heard by a slot on a port (R289). -/
structure Announcer where
  port : Nat
  /-- its sourcePortIdentity -/
  source : Nat
  set : DataSet
  /-- instant of its last Announce and that message's interval, log₂ s -/
  heard : Nat
  interval : Int
  deriving DecidableEq, Repr

/-- A PTP domain slot (R288, R289). -/
structure PtpSlot where
  model : LinearClock
  announcers : List Announcer
  /-- chosen port and timeTransmitter -/
  chosen : Option (Nat × Nat)
  lastSync : Option Nat
  /-- a two-step Sync awaits its Follow_Up: sequenceId, receive instant in spine steps of the counter,
  correctionField -/
  sync : Option (Nat × Nat × Int)
  /-- latest Sync: transmit time in ns, and receive instant in spine steps of the counter -/
  t1 : Int
  t2 : Nat
  /-- a request of our own: port and sequenceId -/
  request : Option (Nat × Nat)
  /-- a Pdelay_Resp of the open request: the peer's receive time and its correction in ns, and our
  receive instant in spine steps -/
  response : Option (Int × Nat)
  nextSequence : Nat
  consecutive : Nat
  lastMeasure : Option Nat
  /-- locked without a break since -/
  lockedSince : Option Nat
  /-- latest mean path delay of an end-to-end exchange, ns -/
  pathNs : Int
  deriving DecidableEq, Repr

/-- An entry of the transmit time-stamp queue (R295). -/
structure StampEntry where
  port : Nat
  slot : Nat
  messageType : Nat
  sequence : Nat
  /-- spine steps of the counter -/
  stamp : Nat
  deriving DecidableEq, Repr

/-- A TIME_SET that waits for a steering instant (R293). -/
structure PendingTimeSet where
  count : Nat
  seconds : Nat
  nanoseconds : Nat
  slew : Bool
  ref : TicketRef
  deriving DecidableEq, Repr

/-- Clocks. -/
structure TimeState where
  /-- local clock: offset O (48 + 30 + 16 bits), reference count, rate r (32 bits); R285; 0 -/
  clock : LinearClock
  /-- instant at which the elements of time.cal and `calTicks` hold; R296; 0 -/
  calAt : Nat
  /-- sub-second count of crystal ticks, 15 bits; R296; 0 -/
  calTicks : Nat
  /-- domain slots 0 and 1; R289; nothing heard -/
  slots : Tab PtpSlot
  /-- count of the last steering instant taken; R290; 0 -/
  steered : Nat
  /-- the clock was last steered by a slot, 1 bit; R292; false -/
  bySlot : Bool
  /-- instant holdover began; R292; none -/
  holdoverSince : Option Nat
  /-- what a TIME_SET slew still has to correct, ns, and the rate before it; R293; none -/
  slewLeft : Option (Int × Int)
  /-- TIME_SETs that wait for a steering instant, oldest first; R293; none -/
  pendingSet : List PendingTimeSet
  /-- egress stamps of frames just sent that are not yet in the queue, oldest first; R295; none -/
  awaiting : List StampEntry
  /-- transmit time-stamp queue, at most 32 entries, oldest first; R295; empty -/
  stamps : List StampEntry
  /-- instant of the last overflow that wrote a record; R295; none -/
  overflowNotice : Option Nat
  /-- instant the wake timer expires next; R300; none -/
  wakeAt : Option Nat
  /-- crystal ticks counted at `ticksAt`; R298; 0 -/
  rtcTicks : Nat
  /-- instant of `rtcTicks`; R298; 0 -/
  ticksAt : Nat
  /-- start of the present trim window: local clock in ns and raw ticks; R298; none -/
  trimWindow : Option (Int × Nat)
  /-- schedule tables 0 to 255, two words an entry; R303; empty -/
  tables : Tab (List Word)
  /-- a leap61 is pending: UTC midnight at which 23:59:59 is held for 2 s, in calendar seconds; R296;
  none -/
  leapAt : Option Int
  /-- the D0 supply has stayed above retention, 1 bit; R299; true -/
  retained : Bool
  deriving DecidableEq, Repr

def LinearClock.zero : LinearClock := ⟨0, 0, 0⟩

def PtpSlot.fresh : PtpSlot :=
  ⟨.zero, [], none, none, none, 0, 0, none, none, 0, 0, none, none, 0⟩

def TimeState.reset : TimeState where
  clock := .zero
  calAt := 0
  calTicks := 0
  slots := Tab.const .fresh
  steered := 0
  bySlot := false
  holdoverSince := none
  slewLeft := none
  pendingSet := []
  awaiting := []
  stamps := []
  overflowNotice := none
  wakeAt := none
  rtcTicks := 0
  ticksAt := 0
  trimWindow := none
  tables := Tab.const []
  leapAt := none
  retained := true

/-! ### Relay mesh (R310 to R338) -/

/-- The five announced settings (R335): rate, PAN, exclusion words, slotframe, shared slots. -/
structure RelayConfig where
  rate : Nat
  pan : Nat
  exclude : List Nat
  slotframe : Nat
  shared : Nat
  deriving DecidableEq, Repr

/-- A message being reassembled from a node (R323): its first fragment's instant, the index due next,
the last counter or origin sequence, its type and its octets so far. -/
structure Reassembly where
  since : Nat
  due : Nat
  last : Nat
  type_ : Nat
  octets : List Nat
  deriving DecidableEq, Repr

/-- What the relay keeps about a node beside the `relay.node_` arrays. -/
structure RelayNode where
  /-- highest accepted counter per key index; R321; none -/
  counters : List (Nat × Nat)
  /-- instant of the last accepted frame; R336; none -/
  heard : Option Nat
  /-- the last two slotframes with a frame accepted inside the receive window, newest first; R432; none -/
  frames : List Nat
  /-- key index, counter, radio and instant of the last accepted frame; R319; none -/
  lastCopy : Option (Nat × Nat × Nat × Nat)
  /-- R323; none -/
  partial_ : Option Reassembly
  /-- last pod report sequence; R334; none -/
  podSeq : Option Nat
  /-- relays floods; R324; false -/
  relays : Bool
  deriving DecidableEq, Repr

/-- A frame waiting for a shared slot (R315): destination short address, type, fragment index and whether more
follow, octets after the relay header, time to live, origin and origin sequence when flooded, shared slots left
to wait, the extended address where it goes out under a join key, and for a frame passed on the instant from
which it is held (R332). -/
structure SharedFrame where
  dest : Nat
  type_ : Nat
  index : Nat
  more : Bool
  octets : List Nat
  ttl : Nat
  origin : Nat
  originSeq : Nat
  wait : Nat
  joinEui : Option Nat
  heldFrom : Option Nat
  deriving DecidableEq, Repr

/-- A message waiting for a node's downlink cells (R323): node, type, index of the fragment due next, and the
fragments left. -/
structure DownMessage where
  node : Nat
  type_ : Nat
  index : Nat
  parts : List (List Nat)
  deriving DecidableEq, Repr

/-- A message received during a warm restart (R335): a frame of node `node` with its instant, or a hitch
request. -/
inductive HeldMessage
  | frame (at_ node : Nat) (f : RadioFrame)
  | hitch (h : HitchRequest)
  deriving DecidableEq, Repr

/-- A target queued for a luminaire (R328, R333): its sequence, its octets after the sequence, and
how often it was sent. -/
structure QueuedTarget where
  seq : Nat
  octets : List Nat
  sends : Nat
  deriving DecidableEq, Repr

/-- One transmission on the air (R317): sub-band or channel, instant, duration in µs. -/
structure AirUse where
  band : Nat
  at_ : Nat
  dur : Nat
  deriving DecidableEq, Repr

/-- A frame sent by the module (R319): radio, channel, destination, type, counter, key index and the relay payload
with its header (R323). -/
structure SentFrame where
  radio : Nat
  channel : Nat
  dest : Nat
  type_ : Nat
  counter : Nat
  keyIndex : Nat
  octets : List Nat
  deriving DecidableEq, Repr

/-- The relay. -/
structure RelayState where
  /-- settings in force on the air; R335; the defaults -/
  config : RelayConfig
  /-- announced settings: ASN at which they apply, and beacons still to announce them; R335; none -/
  announced : Option (Nat × Nat)
  /-- correction of the slot timing against the free-running counter, ns; R330; 0 -/
  phaseNs : Int
  /-- ASN of the last slot served; R313; none -/
  served : Option Nat
  /-- instant of the last beacon sent; R330; none -/
  lastBeacon : Option Nat
  /-- beacon intervals left before the next network key generation; R322; none -/
  keyMove : Option Nat
  /-- 1,024 node contexts; R326; fresh -/
  nodes : Tab RelayNode
  /-- frames waiting for a shared slot; R315; none -/
  sharedOut : List SharedFrame
  /-- messages waiting for downlink cells; R323; none -/
  down : List DownMessage
  /-- nodes being evicted, and the tickets that wait for it; R326; none -/
  evicting : List (Nat × TicketRef)
  /-- queued level and form-2 targets of 256 remote teams; R328, R333; none -/
  level : Tab (Option QueuedTarget)
  form2 : Tab (Option QueuedTarget)
  /-- last sequence given to a target of each remote team, 8 bits; R333; 0 -/
  targetSeq : Tab Nat
  /-- origin and sequence of floods seen, 256 entries, oldest first; R332; none -/
  seen : List (Nat × Nat)
  /-- origin sequence of the next own flood, 16 bits; R323; 0 -/
  originSeq : Nat
  /-- transmissions in the accounting windows; R317; none -/
  air : List AirUse
  /-- end of the joining window; R325; none -/
  permitUntil : Option Nat
  /-- the module follows its time parent, 1 bit; R330, R331; true -/
  following : Bool
  /-- parent beacons missed in a row, and received in a row; R331; 0 -/
  missed : Nat
  received : Nat
  /-- neighbour segments heard: PAN, free contexts, instant; R327; none -/
  neighbours : List (Nat × Nat × Nat)
  /-- frames sent in the last slot; R319; none -/
  sent : List SentFrame
  /-- received messages that wait during a warm restart, oldest first, at most 64; R335; none -/
  buffered : List HeldMessage
  deriving DecidableEq, Repr

def RelayNode.fresh : RelayNode := ⟨[], none, [], none, none, none, false⟩

def RelayConfig.default_ : RelayConfig := ⟨1, 0, [0, 0, 0, 0, 0], 101, 6⟩

def RelayState.reset : RelayState where
  config := .default_
  announced := none
  phaseNs := 0
  served := none
  lastBeacon := none
  keyMove := none
  nodes := Tab.const .fresh
  sharedOut := []
  down := []
  evicting := []
  level := Tab.const none
  form2 := Tab.const none
  targetSeq := Tab.const 0
  seen := []
  originSeq := 0
  air := []
  permitUntil := none
  following := true
  missed := 0
  received := 0
  neighbours := []
  sent := []
  buffered := []

/-! ### Storage saddlebags (R339 to R362) -/

/-- A block family with its read thresholds (R347). -/
structure BlockFamily where
  /-- the number its blocks know it by -/
  number : Nat
  die : Nat
  tlc : Bool
  /-- 4 h window and 10 °C band of programming -/
  window : Nat
  band : Int
  offsets : List Int
  /-- offsets of the last successful retry (`last_success`) -/
  lastSuccess : Option (List Int)
  /-- recent retry count (R345) -/
  retries : Nat
  /-- scrub pass in which it was last tracked -/
  trackedPass : Nat
  deriving DecidableEq, Repr

/-- What the controller keeps about one block (R349 to R351). -/
structure BlockInfo where
  erases : Nat
  occupied : Bool
  bad : Bool
  /-- region of the data in it -/
  region : Nat
  /-- instant its data was programmed -/
  since : Nat
  /-- retention age in 1/24,000 of an equivalent day (R350 adds AF / 24 a hour) -/
  age : Nat
  /-- instant of the last repair of R345 in it -/
  lastRepair : Option Nat
  /-- number of its family -/
  family : Nat
  /-- a refresh waits for the end of a hold (R350, R358) -/
  due : Bool
  deriving DecidableEq, Repr

/-- A logical unit of R355: a 4 MiB pSLC unit of a region, or an archive block. -/
inductive StorageUnit where
  | pslc (region index : Nat)
  | archive (index : Nat)
  deriving DecidableEq, Repr

/-- A resilver in progress (R355). -/
structure Resilver where
  full : Bool
  todo : List StorageUnit
  total : Nat
  /-- stopped for want of a source (R357), with the set identifier and generation it had -/
  stopped : Option (Word × Nat)
  deriving DecidableEq, Repr

/-- A dirty map (R355, R356): the units written since the other member left, that member's
serial, and whether it left by eject. -/
structure DirtyMap where
  units : List StorageUnit
  serial : Word × Word
  byEject : Bool
  deriving DecidableEq, Repr

/-- One cassette. -/
structure Cassette where
  /-- instant DET_N fell, while low; R340; none -/
  detSince : Option Nat
  /-- PEN driven high, 1 bit; R340; false -/
  powered : Bool
  /-- maker part read from the identity block; R341; none -/
  maker : Option MakerPart
  /-- set part, 32 words; R341; none -/
  set : Option SetPart
  /-- calendar seconds at which it left, for its retention age; R350; none -/
  leftAt : Option Nat
  /-- dirty map kept here for the other member; R355; none -/
  dirty : Option DirtyMap
  resilver : Option Resilver
  /-- block families, at most 256, oldest first; R347; none -/
  families : List BlockFamily
  /-- number of the next block family; R347; 0 -/
  nextFamily : Nat
  /-- per-block bookkeeping by die × 65,536 + block, pSLC and TLC; R349; fresh -/
  blocks : Tab BlockInfo
  /-- per region, the pSLC block being filled and its pages in use; R349; none -/
  filling : Tab (Option (Nat × Nat))
  /-- the TLC block of each archive ring slot; R352; none -/
  archiveAt : Tab (Option Nat)
  /-- blocks taken so far of pSLC and of TLC: the dies take new blocks in turn; R349; 0 -/
  takenPslc : Nat
  takenTlc : Nat
  /-- instant of the last wear move; R349; none -/
  lastMove : Option Nat
  /-- instant of the last map checkpoint; R343; 0 -/
  checkpointAt : Nat
  /-- number of the patrol scrub pass, and instant it began; R350; 0 -/
  scrubPass : Nat
  scrubFrom : Nat
  deriving DecidableEq, Repr

/-- What follows when a mirrored write completes (R344). -/
inductive WriteEnd where
  | nothing
  /-- a deferred result becomes ready -/
  | result (ref : TicketRef) (r : Result)
  deriving DecidableEq, Repr

/-- A mirrored write in flight (R344). -/
structure PendingWrite where
  number : Nat
  unit : StorageUnit
  /-- it waits for the copier to finish this unit (R355) -/
  waits : Bool
  /-- cassettes that have not reported success yet -/
  targets : List Nat
  after : WriteEnd
  deriving DecidableEq, Repr

/-- One minute block (R77): sequence, close time in PTP seconds, duration in ms, header words
and the four words of each channel in channel order. -/
structure MinuteBlock where
  sequence : Nat
  close : Nat
  durationMs : Nat
  header : List Word
  channels : List (List Word)
  deriving DecidableEq, Repr

/-- A settings generation (R259, R411). -/
structure SettingsGeneration where
  number : Nat
  layout : Nat
  build : Nat
  /-- number of the generation it came from -/
  parent : Nat
  defaults : Bool
  abandoned : Bool
  /-- recorded elements: key and word -/
  values : List (Nat × Word)
  /-- sequence and close time of the newest block that the recorded totals include; R79 -/
  totals : Option (Nat × Nat)
  deriving DecidableEq, Repr

/-- Storage. -/
structure StorageState where
  /-- SB-A and SB-B, indexes 0 and 1; R339; absent -/
  cassettes : Tab Cassette
  /-- mirrored writes in flight; R344; none -/
  writes : List PendingWrite
  /-- number of the next mirrored write; R344; 0 -/
  nextWrite : Nat
  /-- archive landing, not yet folded, oldest first; R352; empty -/
  landing : List MinuteBlock
  /-- folded archive blocks of 1,533 minute blocks, oldest first, at most 3,755; R352; empty -/
  archive : List (List MinuteBlock)
  /-- folds done: the ring slot of the next one; R352; 0 -/
  folds : Nat
  /-- the 16 newest settings generations, newest first; R259, R411; none -/
  generations : List SettingsGeneration
  /-- instant the time-driven counters were recorded last; R259; none -/
  countersAt : Option Nat
  /-- sequence number of the last block archived by anybody, read at start; R79; none -/
  lastArchived : Option Nat
  /-- mapped logical units, pSLC before archive; R355; none -/
  mapped : List StorageUnit
  /-- instant of the last hourly retention update; R350; 0 -/
  ageAt : Nat
  deriving DecidableEq, Repr

def BlockInfo.fresh : BlockInfo := ⟨0, false, false, 0, 0, 0, none, 0, false⟩

def Cassette.absent : Cassette where
  detSince := none
  powered := false
  maker := none
  set := none
  leftAt := none
  dirty := none
  resilver := none
  families := []
  nextFamily := 0
  blocks := Tab.const BlockInfo.fresh
  filling := Tab.const none
  archiveAt := Tab.const none
  takenPslc := 0
  takenTlc := 0
  lastMove := none
  checkpointAt := 0
  scrubPass := 0
  scrubFrom := 0

def StorageState.reset : StorageState where
  cassettes := Tab.const Cassette.absent
  writes := []
  nextWrite := 0
  landing := []
  archive := []
  folds := 0
  generations := []
  countersAt := none
  lastArchived := none
  mapped := []
  ageAt := 0


/-! ### Sensing, current loop and metering (R59 to R81) -/

/-- A pulse that a lane emits: the instants between which DRV is high, the DAC setpoint in force and the commanded
amplitude (R36, R61, R67, R84). -/
structure Pulse where
  from_ : Nat
  to_ : Nat
  setpoint : Nat
  amp : Nat
  deriving DecidableEq, Repr

/-- One scan interval of a channel: what the drive engine emitted in it (R65, R67, R84). -/
structure Interval where
  /-- emitted on-ticks -/
  on : Nat
  /-- sum of setpoint × on-ticks -/
  drive : Nat
  /-- commanded amplitude of a qualifying pulse -/
  qualifying : Option Nat
  deriving DecidableEq, Repr

/-- A channel in the sense unit. -/
structure ChannelSense where
  /-- the stream is invalid, 1 bit; R62; false -/
  invalid : Bool
  /-- the stream was invalid in the interval in progress, 1 bit; R84; false -/
  wasInvalid : Bool
  /-- the stream was invalid in the interval closed last, 1 bit; R84; false -/
  lastInvalid : Bool
  /-- pulses not yet wholly behind the scan intervals closed, newest first; R61, R64, R66; none -/
  pulses : List Pulse
  /-- the interval closed last; R65; empty -/
  last : Interval
  /-- charge of the interval closed last, in pC; R65; 0 -/
  charge : Q
  /-- loop accumulators: measured and expected charge, on-ticks; R67; 0 -/
  qm : Q
  qu : Q
  ton : Nat
  /-- the loop was frozen as the interval began, 1 bit; R70; false -/
  wasFrozen : Bool
  /-- the last update was clamped to the trim span, 1 bit; R69; false -/
  trimHit : Bool
  /-- the last setpoint was clamped to u_max, 1 bit; R69; false -/
  dacHit : Bool
  /-- a downward update was withheld at the card's limit, 1 bit; R69; false -/
  cardHit : Bool
  /-- instant of the last zero update; R66; 0 -/
  zeroAt : Nat
  /-- samples inside a pulse in the interval: sum in µA and count; R64; 0 -/
  sampleSum : Int
  samples : Nat
  /-- instant limit 3 or 4 began, and whether it was recorded; R69; none -/
  limitSince : Option Nat
  limitTold : Bool
  /-- intervals in a row without a good voltage; R73; 0 -/
  heldV : Nat
  /-- vf_held: the last interval took a held voltage, 1 bit; R73; false -/
  vfHeld : Bool
  /-- on-current of the minute closed last in µA, unrounded; R74; 0 -/
  minuteOn : Q
  /-- accumulated in D4 since the last commit; R18, R74; 0 -/
  gathered : Metering
  /-- open minute as transferred: energy in fJ, charge in pC (as quotients) and on-ticks; R18, R74; 0 -/
  minute : Metering
  /-- remainders carried from the minute before; R74; 0 -/
  energyRest : Q
  chargeRest : Q
  onRest : Int
  /-- highest valid lamp-board temperature of the minute, 0.01 °C; R77; none -/
  hottest : Option Int
  /-- power of the last 1,000 intervals in fJ, newest first; R74; none -/
  powers : List Q
  deriving DecidableEq, Repr

/-- A bank in the sense unit. -/
structure BankSense where
  /-- instant from which samples of the present ratio are settled; R63; 0 -/
  settledFrom : Nat
  /-- the changed ratio waits for the next sample boundary, 1 bit; R63; false -/
  restart : Bool
  /-- identity serial of the last card seen; R71; none -/
  serial : Option Nat
  /-- the interval's loop accumulations are discarded, 1 bit; R137; false -/
  discard : Bool
  /-- rung 1, 2 or 3 held the bank, or its loop was off, in the interval in progress, 1 bit; R70; false -/
  frozenIn : Bool
  /-- attributed instant up to which emission lies in closed intervals; R61; 0 -/
  closedTo : Nat
  /-- completion stamp of the last measurement set; R19, R171; none -/
  stamp : Option Nat
  /-- a measurement set has come since the card runs, 1 bit; R20; false -/
  recordValid : Bool
  deriving DecidableEq, Repr

/-- Sensing and metering. -/
structure SenseState where
  channels : Tab ChannelSense
  banks : Tab BankSense
  /-- instant the open minute began, and whether it is partial; R76; 0 -/
  minuteFrom : Nat
  partial_ : Bool
  /-- the close cadence: instant of the next close; R76; none before the first -/
  nextClose : Option Nat
  /-- the cadence is aligned to a valid calendar, 1 bit; R76; false -/
  aligned : Bool
  /-- highest shed step of the open minute; R77; 0 -/
  shedMax : Nat
  /-- sequence number of the next minute block, 16 bits; R77; 0 -/
  sequence : Nat
  /-- minute blocks that wait for the archive, oldest first, at most 20; R78; none -/
  buffer : List MinuteBlock
  /-- sequence and close time of the newest block that the recorded totals include; R79; none -/
  recorded : Option (Nat × Nat)
  /-- sequence and close time of the newest closed block; R79; none -/
  newest : Option (Nat × Nat)
  /-- instant of the last recording of the totals; R79; none -/
  totalsAt : Option Nat
  /-- the block was opened by the former wheeler, 1 bit; R79; false -/
  takeover : Bool
  /-- instant D4 went off; R79; none -/
  darkSince : Option Nat
  /-- flags of each channel's last closed minute record; R177; 0 -/
  closedFlags : Tab Nat
  deriving DecidableEq, Repr

def Interval.empty : Interval := ⟨0, 0, none⟩

def Metering.zero : Metering := ⟨⟨0, 1⟩, ⟨0, 1⟩, 0⟩

def ChannelSense.fresh : ChannelSense where
  invalid := false
  wasInvalid := false
  lastInvalid := false
  pulses := []
  last := .empty
  charge := ⟨0, 1⟩
  qm := ⟨0, 1⟩
  qu := ⟨0, 1⟩
  ton := 0
  wasFrozen := false
  trimHit := false
  dacHit := false
  cardHit := false
  zeroAt := 0
  sampleSum := 0
  samples := 0
  limitSince := none
  limitTold := false
  heldV := 0
  vfHeld := false
  minuteOn := ⟨0, 1⟩
  gathered := .zero
  minute := .zero
  energyRest := ⟨0, 1⟩
  chargeRest := ⟨0, 1⟩
  onRest := 0
  hottest := none
  powers := []

def BankSense.fresh : BankSense where
  settledFrom := 0
  restart := false
  serial := none
  discard := false
  frozenIn := false
  closedTo := 0
  stamp := none
  recordValid := false

def SenseState.reset : SenseState where
  channels := Tab.const .fresh
  banks := Tab.const .fresh
  minuteFrom := 0
  partial_ := false
  nextClose := none
  aligned := false
  shedMax := 0
  sequence := 0
  buffer := []
  recorded := none
  newest := none
  totalsAt := none
  takeover := false
  darkSince := none
  closedFlags := Tab.const 0
/-! ### Waybill (R363 to R376) -/

/-- A waybill record (R363): the fields of its 40 words; the CRC is computed on reading. -/
structure EventRecord where
  code : Nat
  severity : Nat
  staged : Bool
  held : Bool
  suppressed : Nat
  index : Nat
  date : Word
  time : Word
  quality : Nat
  irregular : Bool
  snapset : Nat
  detailA : Word
  detailB : Word
  /-- snapshot entries: identifier, element, value -/
  entries : List (Nat × Nat × Word)
  deriving DecidableEq, Repr

/-- A token bucket that is not full (R366): tokens in units of one token per 2.88 × 10¹² (the
spine steps of an hour), and the instant of the level. -/
structure Bucket where
  level : Nat
  stamp : Nat
  deriving DecidableEq, Repr

/-- The event recorder. -/
structure WaybillState where
  /-- general area, at most 12,951,552 records in storage order; R367; none -/
  general : List EventRecord
  /-- Critical area, at most 417,792 records in storage order; R367; none -/
  critical : List EventRecord
  /-- hold buffer, at most 512 records, oldest first; R368; none -/
  hold : List EventRecord
  /-- records staged while frozen, at most 256, in staging order; R370; none -/
  staged : List EventRecord
  /-- instant of the last WB_FREEZE with 1 while frozen; R369; none -/
  frozenSince : Option Nat
  /-- records lost to a full staging buffer in the present freeze, 32 bits; R370; 0 -/
  lostInFreeze : Nat
  /-- count of the WB_LOST record to store first after a restart; R370; none -/
  lostAtRestart : Option Nat
  /-- token buckets by code, 256; none stands for a full bucket; R366; full -/
  buckets : Tab (Option Bucket)
  deriving DecidableEq, Repr

def WaybillState.reset : WaybillState where
  general := []
  critical := []
  hold := []
  staged := []
  frozenSince := none
  lostInFreeze := 0
  lostAtRestart := none
  buckets := Tab.const none

/-! ### Tack room (R377 to R399) -/

/-- A commit cell of a key slot (R377); a cell with a wrong CRC is `none` in its slot. -/
structure CommitCell where
  generation : Nat
  /-- the half in force: true is B -/
  halfB : Bool
  attributes : Word
  check : Word
  deriving DecidableEq, Repr

/-- The key halves and commit cells of a slot (R377). -/
structure KeySlot where
  /-- half A: key value -/
  halfA : Option Nat
  /-- half B: key value -/
  halfB : Option Nat
  cell0 : Option CommitCell
  cell1 : Option CommitCell
  /-- commits written to the slot (R378) -/
  commits : Nat
  deriving DecidableEq, Repr

/-- A vault write in progress (R387, R389, R393). -/
inductive VaultJob where
  /-- a key load past its step 4: slot, attribute word, key value, check value -/
  | load (slot : Nat) (attributes : Word) (key : Nat) (check : Word)
  | invalidate (slot : Nat)
  | lifecycle (target : Nat)
  deriving DecidableEq, Repr

/-- The key vault and the tamper logic. -/
structure VaultState where
  /-- slots K00 to K63; R377; empty -/
  slots : Tab KeySlot
  /-- 256-bit vault seed; R382; none (assumption 5) -/
  seed : Option Nat
  /-- vault writes in progress, oldest first, with the ticket of each, the instant they were
  accepted and whether the wheeler's confirmation is still awaited; R387, R389, R396; none -/
  jobs : List (VaultJob × Option TicketRef × Nat × Bool)
  /-- 64-bit bitmaps of the invalidation record: named slots and orphaned descendants; R389; 0 -/
  invalidMarks : Nat
  orphanMarks : Nat
  /-- generation of the invalidation record, 32 bits; R389; 0 -/
  invalidationGeneration : Nat
  /-- level of TAMP0 and TAMP1, 1 bit each; R394; low -/
  tamperLevel : Tab Bool
  /-- instant since which each enabled tamper input holds its active level; R394; none -/
  tamperSince : Tab (Option Nat)
  /-- the activation in progress has been detected, 1 bit each; R394; false -/
  tamperDone : Tab Bool
  /-- RTC calendar at each latched tamper detection, 64 bits; R395; 0 -/
  tamperTime : Tab Nat
  /-- a tamper detection waits for the firmware to act on it; R395; none -/
  tamperPending : Option Nat
  /-- beacon intervals left for which K05 is kept; R382; 0 -/
  previousLeft : Nat
  /-- a new segment key asks the relay to announce the next generation, 1 bit; R388; false -/
  announceNext : Bool
  deriving DecidableEq, Repr

def KeySlot.empty : KeySlot := ⟨none, none, none, none, 0⟩

def VaultState.reset : VaultState where
  slots := Tab.const KeySlot.empty
  seed := none
  jobs := []
  invalidMarks := 0
  orphanMarks := 0
  invalidationGeneration := 0
  tamperLevel := Tab.const false
  tamperSince := Tab.const none
  tamperDone := Tab.const false
  tamperTime := Tab.const 0
  tamperPending := none
  previousLeft := 0
  announceNext := false

/-! ### Firmware update and farrier mode (R400 to R417) -/

/-- The update machinery beside the `upd.` parameters. -/
structure UpdateState where
  /-- image words in slots A and B, indexes 0 and 1, 32 bits each; R401; empty (assumption 5) -/
  slots : Tab (List Word)
  /-- staging region: image words received, 32 bits each; R405; empty -/
  staging : List Word
  /-- slot recorded as selected, 1 bit; R400; 0 -/
  selected : Nat
  /-- the previous image's slot; R407; none -/
  previous : Option Nat
  /-- an UPD_OPEN whose staging erase runs, with its ticket and instant; R403; none -/
  opening : Option (TicketRef × Nat)
  /-- an UPD_COMMIT whose checks run, with its ticket and digest words; R406; none -/
  committing : Option (TicketRef × List Word)
  /-- the holder's session closed while the checks ran, 1 bit; R408; false -/
  holderGone : Bool
  /-- the session needs no valid K03 and no site tag, 1 bit; R415; false -/
  untagged : Bool
  /-- instant of the last accepted UPD_DATA or of the opening; R408; 0 -/
  lastData : Nat
  /-- end of probation; R409; none -/
  probationEnd : Option Nat
  /-- restarts within probation that count toward a fallback; R410; 0 -/
  probationRestarts : Nat
  /-- instant of the switch while its first commit is awaited; R410; none -/
  firstCommitFrom : Option Nat
  /-- number of the newest settings generation at the switch; R411; 0 -/
  generationAtSwitch : Nat
  /-- the wheeler has accepted a copy since it switched, 1 bit; R413; false -/
  wheelerCopied : Bool
  deriving DecidableEq, Repr

def UpdateState.reset : UpdateState where
  slots := Tab.const []
  staging := []
  selected := 0
  previous := none
  opening := none
  committing := none
  holderGone := false
  untagged := false
  lastData := 0
  probationEnd := none
  probationRestarts := 0
  firstCommitFrom := none
  generationAtSwitch := 0
  wheelerCopied := false


/-! ### Tandem operation (R418 to R446) -/

/-- A contest in progress (R432 to R434). -/
structure Contest where
  began : Nat
  sequence : Nat
  /-- witness requests sent: at the start, and again halfway -/
  sent : Nat
  /-- a frame of the partner arrived on the link, the ring or the relay -/
  heard : Bool
  /-- a running dual-input card reported no ride_through -/
  steady : Bool
  mesh : Nat
  /-- witness addresses that answered -/
  answered : List Nat
  partnerW : Option Nat
  wasWheeler : Bool
  deriving DecidableEq, Repr

/-- The witness claims of one segment (R433): serial, count claimed, and the instant each lapses. -/
structure ClaimRow where
  segment : Nat
  claims : List (Nat × Nat × Nat)
  deriving DecidableEq, Repr

/-- Tandem. -/
structure TandemState where
  /-- POLE is driven high, 1 bit; R418; true (settings are loaded and the role is single) -/
  pole : Bool
  /-- messages handed to the tandem link since the last heartbeat went out, kind and body, oldest first; R420; none -/
  out : List (Nat × List Word)
  /-- instant of the last valid ring heartbeat; R430; none -/
  ringHeard : Option Nat
  /-- IPv4 address of the partner learned in the hello, 0 none; R430; 0 -/
  learnedIp : Nat
  /-- the contest in progress; R432; none -/
  contest : Option Contest
  /-- sequence number of the last contest, 32 bits; R433; 0 -/
  sequence : Nat
  /-- witness claims kept, at most 16 segments; R433; none -/
  claims : List ClaimRow
  /-- next send counter and last accepted counter by message kind, 32 bits each; R421; 1 and none -/
  nextCounter : Tab Nat
  lastCounter : Tab (Option Nat)
  /-- own nonce whose answer is awaited, 128 bits; R421; none -/
  nonce : Option Nat
  /-- the hello exchange is complete, 1 bit; R421; false -/
  helloDone : Bool
  /-- the partner's latest hello; R429; none -/
  partner : Option HelloMessage
  /-- instant of the last valid link heartbeat; R430; none -/
  linkHeard : Option Nat
  /-- the path is lost, 1 bit each; R430; false -/
  linkLost : Bool
  ringLost : Bool
  /-- the partner's tdm.state in its last heartbeat, 8 bits; R439; 0xFF -/
  partnerState : Nat
  /-- the partner's tdm.status in its last heartbeat, 16 bits; R420, R437; 0 -/
  partnerStatus : Nat
  /-- the partner's role and cycle count in its last heartbeat, 8 and 32 bits; R420; 0 -/
  partnerRole : Nat
  partnerCycles : Nat
  /-- the wheeler has stepped its count to the lead's, 1 bit; R429; false -/
  stepped : Bool
  /-- instant since which the offset has stayed within ±10 ns; R422; none -/
  lockedSince : Option Nat
  /-- items as last sent to the wheeler; R425; none -/
  mirror : List CopyItem
  /-- the commit block and the copy sent last; R424, R425; none -/
  block : Option CommitBlock
  copy : List CopyItem
  /-- number of the last copy sent, and whether it is acknowledged; R427; 0 and true -/
  copyNumber : Nat
  copyAcked : Bool
  /-- resynchronisation wanted of the lead, 1 bit; R425; false -/
  resync : Bool
  /-- the next copy begins a resynchronisation, 1 bit; R425; false -/
  fullDue : Bool
  /-- on a wheeler, the places that the resynchronisation in progress has named; R425; none -/
  fullSeen : Option (List (Nat × Nat × Nat))
  /-- a yield in progress: its ticket, and whether it ends with tdm.enable 0; R418, R437; none -/
  yielding : Option (Option TicketRef × Bool)
  /-- what follows the yield is a cold restart, 1 bit; R438; false -/
  yieldRestart : Bool
  /-- POLE is low and the release has been sent, or received, 1 bit; R437; false -/
  released : Bool
  /-- banks whose state readback a takeover awaits; R435; none -/
  takeover : List Nat
  /-- the first cycle and commit as lead are awaited, 1 bit; R435; false -/
  newLead : Bool
  /-- instant of the last change of role; R444; 0 -/
  roleSince : Nat
  /-- trained lanes, 2 bits; R445; 0 -/
  lanes : Nat
  /-- t_s of the lead's boundary mark whose copy has not come; R423; none -/
  mark : Option Nat
  /-- CRC of the validated image that the wheeler's staging holds; R191, R420; none -/
  carried : Option Word
  deriving DecidableEq, Repr

def TandemState.reset : TandemState where
  pole := true
  out := []
  ringHeard := none
  learnedIp := 0
  contest := none
  sequence := 0
  claims := []
  nextCounter := Tab.const 1
  lastCounter := Tab.const none
  nonce := none
  helloDone := false
  partner := none
  linkHeard := none
  linkLost := false
  ringLost := false
  partnerState := 0xFF
  partnerStatus := 0
  partnerRole := 0
  partnerCycles := 0
  stepped := false
  lockedSince := none
  mirror := []
  block := none
  copy := []
  copyNumber := 0
  copyAcked := true
  resync := false
  fullDue := false
  fullSeen := none
  yielding := none
  yieldRestart := false
  released := false
  takeover := []
  newLead := false
  roleSince := 0
  lanes := 0
  mark := none
  carried := none
/-! ### Power and supply (R447 to R466) -/

/-- Where the module stands between supply and runtime (R448, R460, R462). -/
inductive RunPhase where
  /-- VIN below the hold threshold: D1 held in reset -/
  | unpowered
  /-- D1 on, D2 to D9 in reset while RST_N is low (R486) -/
  | held
  /-- the runtime loads (steps 3 and 4 of R462, step 4 of the cold restart of R202) -/
  | loading
  /-- banks enumerate before the first boundary (R202 step 6) -/
  | enumerating
  | running
  /-- a warm restart by command or image switch reloads the runtime (R202) -/
  | reloading
  /-- cold restart by command: waiting for the banks' ride-through (R202 steps 2 and 3) -/
  | stopping
  /-- shed step 6: the warm-restart image is being committed (R460 steps 1 to 3) -/
  | committing
  /-- stood down (R460 step 4) -/
  | stoodDown
  /-- the farrier ROM runs in place of the runtime (R414) -/
  | farrier
  deriving DecidableEq, Repr

/-- Supply, domains and power states. -/
structure PowerState where
  /-- R448, R462; enumerating at `State.reset` (assumption 6) -/
  phase : RunPhase
  /-- instant the present phase began; 0 -/
  phaseSince : Nat
  /-- instant of the last shed change; R459; 0 -/
  shedChange : Nat
  /-- a stand-down is recorded in D0 until the module has left reset, 1 bit; R448; false -/
  standDownFlag : Bool
  /-- cause of the reset latched in D0, as prog.restart_cause; R259; none -/
  resetCause : Option Nat
  /-- quick cycles in a row; R452; 0 -/
  quickCycles : Nat
  /-- the rail floor of the replica monitor, mV; R452; 550 -/
  floor : Nat
  /-- quiet cycles in a row; R455; 0 -/
  quietCycles : Nat
  /-- D5 is powered down in Walk or Stand, 1 bit; R455; false -/
  asleep : Bool
  /-- sleep deadline in D0; R455; none -/
  sleepDeadline : Option Nat
  /-- a flush wake runs, 1 bit; R457; false -/
  flushing : Bool
  /-- powered domains, bit k for Dk; R449, R450; all (D2 to D9 have come on by `State.reset`,
  assumption 6) -/
  domains : Nat
  /-- time spent in each power state before the present stay, in spine steps; R264; 0 -/
  stateTime : Tab Nat
  /-- D0 runs from VIN, 1 bit; R299; true -/
  d0OnVin : Bool
  /-- instant the present power state was entered; R264; 0 -/
  stateSince : Nat
  /-- causes of raised wake requests, oldest first; R456; none -/
  wakes : List Nat
  /-- RST_N is low since; R486; none -/
  rstLow : Option Nat
  /-- instant D1 powered up; R485; none (more than 10 µs ago) -/
  d1At : Option Nat
  /-- instant from which sys.hours runs on; R262; 0 -/
  hoursFrom : Nat
  /-- instant of the last overrun; R25, R263; none -/
  overrunAt : Option Nat
  deriving DecidableEq, Repr

def PowerState.reset : PowerState where
  phase := .enumerating
  phaseSince := 0
  shedChange := 0
  standDownFlag := false
  resetCause := none
  quickCycles := 0
  floor := 550
  quietCycles := 0
  asleep := false
  sleepDeadline := none
  flushing := false
  domains := 1023
  stateTime := Tab.const 0
  d0OnVin := true
  stateSince := 0
  wakes := []
  rstLow := none
  d1At := none
  hoursFrom := 0
  overrunAt := none


/-! ### Link tests (R467 to R476) -/

/-- A pattern checker (R469). -/
structure Checker where
  /-- in sync -/
  synced : Bool
  /-- the last received or predicted bits, the newest least significant -/
  reg : Nat
  /-- bits loaded while searching -/
  loaded : Nat
  /-- predicted bits matched after loading -/
  matched : Nat
  /-- user word: number of bits searched, and runs of the word at each of 32 alignments -/
  seen : Nat
  runs : List Nat
  /-- bits since acquisition -/
  since : Nat
  /-- errors of the present 1,024-bit block, and whether the present 32-bit group holds one -/
  blockErrors : Nat
  groupError : Bool
  deriving DecidableEq, Repr

/-- A link instance's test. -/
structure LinkRun where
  running : Bool
  pattern : Nat
  user : Word
  /-- instant its TEST_START was applied -/
  since : Nat
  /-- class 1: LOOPBACK has been sent, at this instant (R470) -/
  loopAt : Option Nat
  /-- class 1: the test is over and the bank waits for the exit frame and its readback (R471) -/
  leaving : Bool
  /-- class 1: the exit frame has been sent -/
  exitSent : Bool
  /-- bits sent so far are counted up to this instant (class 5) -/
  countedTo : Nat
  checkers : Tab Checker
  deriving DecidableEq, Repr

/-- The test access port (R476). -/
structure TapState where
  /-- instruction in force: 0 BYPASS, 1 IDCODE, 2 SAMPLE/PRELOAD, 3 EXTEST, 4 CLAMP, 5 HIGHZ -/
  instruction : Nat
  /-- boundary cells: levels preloaded for the lands, by land number of the BSDL order -/
  cells : List Bool
  /-- the lands are driven by the cells, or high-impedance -/
  driven : Bool
  highZ : Bool
  /-- word shifted out by the last scan of the selected register -/
  shifted : List Bool
  deriving DecidableEq, Repr

/-- Link tests and the boundary-scan port. -/
structure TestState where
  /-- rung 3 is wanted for a bank, 1 bit; R470; false -/
  banks : Tab Bool
  /-- tests of link instances 0 to 41; R467; none -/
  links : Tab LinkRun
  /-- TAP; R476; reset (IDCODE selected) -/
  tap : TapState
  deriving DecidableEq, Repr

def Checker.fresh : Checker := ⟨false, 0, 0, 0, 0, [], 0, 0, false⟩

def LinkRun.idle : LinkRun := ⟨false, 0, 0, 0, none, false, false, 0, Tab.const .fresh⟩

def TestState.reset : TestState where
  banks := Tab.const false
  links := Tab.const .idle
  tap := ⟨1, [], false, false, []⟩
/-! ### The whole state -/

/-- The block: the waiting commands and everything the spec gives the machine. -/
structure State where
  /-- commands waiting, first in, first out; the model's queue; empty -/
  pending : List Instr
  /-- the present instant in spine steps of 1.25 ns since reset; R14; 0 -/
  now : Nat
  /-- instant of count zero of the local free-running counter; R18, R35; 0 -/
  tickBase : Nat
  /-- the free-running count while the TCXO stands; R15; none (running) -/
  tcxoStopped : Option Nat
  /-- spine locked, 1 bit; R14; true -/
  spineLocked : Bool
  /-- instant of the last unlock of the spine; R14, R262; none -/
  unlockedAt : Option Nat
  /-- instant of the last cold restart; R262 (sys.uptime_s); 0 -/
  coldAt : Nat
  /-- how many free values have been drawn (the model's own counter); 0 (DESIGN CHOICE, assumption 2) -/
  draws : Nat
  /-- the parameter store: key `id × 65,536 + element`, 32-bit word; an unlisted element reads
  its cold reset value; R250 to R254; nothing listed -/
  params : List (Nat × Word)
  /-- change map of marked persistent elements, with the instant of the first mark; R259;
  nothing marked -/
  marked : List (Nat × Nat)
  /-- drive engine -/
  drive : DriveState
  /-- lamp diagnosis and derating -/
  diag : DiagState
  /-- colour unit -/
  colour : ColourState
  /-- harness buses -/
  harness : HarnessState
  /-- presence, outrider and daylight -/
  presence : PresenceState
  /-- command interface -/
  bridle : BridleState
  /-- rein graph and program store -/
  prog : ProgState
  /-- uplink ring -/
  net : NetState
  /-- clocks, calendar, alarms and schedules -/
  time : TimeState
  /-- relay mesh -/
  relay : RelayState
  /-- saddlebags -/
  storage : StorageState
  /-- sense unit and metering -/
  sense : SenseState
  /-- event recorder -/
  waybill : WaybillState
  /-- tack room -/
  vault : VaultState
  /-- firmware update -/
  update : UpdateState
  /-- tandem -/
  tandem : TandemState
  /-- supply and power states -/
  power : PowerState
  /-- link tests -/
  test : TestState
  deriving DecidableEq, Repr

/-- The block right after a cold reset (R202 step 4, R462 step 4): every parameter at its cold
value, nothing queued, the runtime ready to interpret packets, banks about to be enumerated. -/
def State.reset : State where
  pending := []
  now := 0
  tickBase := 0
  tcxoStopped := none
  spineLocked := true
  unlockedAt := none
  coldAt := 0
  draws := 0
  params := []
  marked := []
  drive := DriveState.reset
  diag := DiagState.reset
  colour := ColourState.reset
  harness := HarnessState.reset
  presence := PresenceState.reset
  bridle := BridleState.reset
  prog := ProgState.reset
  net := NetState.reset
  time := TimeState.reset
  relay := RelayState.reset
  storage := StorageState.reset
  sense := SenseState.reset
  waybill := WaybillState.reset
  vault := VaultState.reset
  update := UpdateState.reset
  tandem := TandemState.reset
  power := PowerState.reset
  test := TestState.reset

end Sys2Proof.Machine
end

