-- ==== Sys2Proof/Machine/Ops.lean ====
section
/-! DEFINITION.  The named operations every meaning is built from: the clock, the parameter
store, free draws, the tests on roles and phases, and the frame of a meaning (`State.run`). -/

namespace Sys2Proof

/-- Index of a transport in arrays (R248). -/
def Transport.index : Transport → Nat
  | .host => 0
  | .service => 1
  | .uplink => 2
  | .relay => 3

/-- The payload limit of a transport, in words (R227). -/
def Transport.limit : Transport → Nat
  | .host => 4096
  | .service => 4096
  | .uplink => 360
  | .relay => 48

/-- The vault's master of a transport (R253, R392). -/
def Transport.master : Transport → Nat
  | .host => 1
  | .service => 1
  | .uplink => 2
  | .relay => 3

end Sys2Proof

namespace Sys2Proof.Machine

open Sys2Proof

/-! ### The clock -/

/-- The state at instant `t`: time never goes back. -/
def State.at_ (s : State) (t : Nat) : State := { s with now := max s.now t }

/-- The local free-running counter, in whole TCXO periods (R14, R18). -/
def State.count (s : State) : Nat :=
  match s.tcxoStopped with
  | some c => c
  | none => (s.now - s.tickBase) / tcxoPeriod

/-- The instant `d` spine steps after `t0` has come. -/
def State.passed (s : State) (t0 d : Nat) : Bool := decide (t0 + d ≤ s.now)

/-! ### The parameter store -/

/-- One element of the parameter store, as its word. -/
def State.w (s : State) (id e : Nat) : Word :=
  (Tab.look (paramKey id e) s.params).getD (defaultWord id e)

/-- One element as an unsigned number. -/
def State.p (s : State) (id : Nat) (e : Nat := 0) : Nat := (s.w id e).toNat

/-- One element as a signed number. -/
def State.pI (s : State) (id : Nat) (e : Nat := 0) : Int := (s.w id e).toInt

/-- One element as a truth value. -/
def State.pB (s : State) (id : Nat) (e : Nat := 0) : Bool := s.w id e != 0

/-- Write one element; a write of the cold value unlists it. -/
def State.setW (s : State) (id e : Nat) (v : Word) : State :=
  if v = defaultWord id e then { s with params := Tab.drop (paramKey id e) s.params }
  else { s with params := Tab.place (paramKey id e) v s.params }

/-- Write one element from a number. -/
def State.setP (s : State) (id e n : Nat) : State := s.setW id e (word n)

/-- Write one element from a signed number. -/
def State.setI (s : State) (id e : Nat) (n : Int) : State := s.setW id e (wordI n)

/-- Write one element from a truth value. -/
def State.setB (s : State) (id e : Nat) (b : Bool) : State := s.setW id e (word (flag b))

/-- Add to a counter that wraps. -/
def State.bump (s : State) (id : Nat) (e : Nat := 0) (n : Nat := 1) : State :=
  s.setW id e (s.w id e + word n)

/-- Add to a counter that saturates at `cap`. -/
def State.bumpSat (s : State) (cap id : Nat) (e : Nat := 0) (n : Nat := 1) : State :=
  s.setP id e (min cap (s.p id e + n))

/-- Raise an element to at least `n`. -/
def State.raiseTo (s : State) (id e n : Nat) : State :=
  if s.p id e < n then s.setP id e n else s

/-- Set bit `k` of an element as told. -/
def State.setFlag (s : State) (id e k : Nat) (b : Bool) : State :=
  s.setP id e (putBit (s.p id e) k b)

/-- Bit `k` of an element. -/
def State.flagOf (s : State) (id e k : Nat) : Bool := (s.p id e).testBit k

/-- Write a run of elements from a list of numbers. -/
def State.setRun (s : State) (id : Nat) : Nat → List Nat → State
  | _, [] => s
  | e, n :: rest => State.setRun (s.setP id e n) id (e + 1) rest

/-- The values of elements `e .. e + n − 1`. -/
def State.pRun (s : State) (id e n : Nat) : List Nat := (List.range n).map (fun k => s.p id (e + k))

/-- Mark a persistent element in the change map (R259). -/
def State.mark (s : State) (id e : Nat) : State :=
  match paramRow id with
  | some r =>
    if r.persistent && (s.marked.all (fun m => m.1 != paramKey id e)) then
      { s with marked := s.marked ++ [(paramKey id e, s.now)] }
    else s
  | none => s

/-- Add to a persistent counter and mark it for recording (R259). -/
def State.bumpStored (s : State) (id : Nat) (e : Nat := 0) : State := (s.bump id e).mark id e

/-! ### Free values (assumption 2) -/

/-- A free word, and the state that has drawn it. -/
def State.drawWord (s : State) : Word × State :=
  (Config.freeWord s.draws, { s with draws := s.draws + 1 })

/-- A free number below `n` (0 when `n` is 0), and the state that has drawn it. -/
def State.drawBelow (s : State) (n : Nat) : Nat × State :=
  (Config.freeNat s.draws % n, { s with draws := s.draws + 1 })

/-- Two 64-bit halves held as two elements, upper first. -/
def State.p64 (s : State) (id e : Nat) : Nat := s.p id (2 * e) * 2 ^ 32 + s.p id (2 * e + 1)

/-- Write a 64-bit value as two elements, upper first. -/
def State.set64 (s : State) (id e v : Nat) : State :=
  (s.setP id (2 * e) (v / 2 ^ 32 % 2 ^ 32)).setP id (2 * e + 1) (v % 2 ^ 32)

/-! ### Roles, phases and transports -/

/-- The module is a tandem wheeler (R247, PING). -/
def State.wheeler (s : State) : Bool := s.p Pid.tdmRole == 2

/-- The module is a tandem lead. -/
def State.lead (s : State) : Bool := s.p Pid.tdmRole == 1

/-- The transport of a source. -/
def Source.transport : Source → Transport
  | .host => .host
  | .service => .service
  | .uplink _ _ => .uplink
  | .relay _ => .relay

/-- The runtime on D5 interprets packets and takes boundaries: the cold start is over and D5 is
not asleep (R17, R455). -/
def State.awake (s : State) : Bool :=
  (match s.power.phase with
   | .running | .enumerating | .farrier => true
   | _ => false) && !s.power.asleep

/-- The shed step in force (R458). -/
def State.shed (s : State) : Nat := s.p Pid.pwrShedStep

/-- Storage controller domain D8 is powered (R449, R457, R460). -/
def State.d8On (s : State) : Bool :=
  match s.power.phase with
  | .unpowered | .held | .stoodDown => false
  | .committing => true
  | _ => (s.p Pid.pwrState == 0) || s.power.flushing

/-- A cassette is in service (R353, state 3). -/
def State.inService (s : State) (c : Nat) : Bool := s.p Pid.sbState c == 3

/-- Some cassette is in service (R357). -/
def State.storageUp (s : State) : Bool := s.inService 0 || s.inService 1

/-- The elements listed in the store for parameter `id`: those that differ from their cold value,
in rising order. -/
def State.listed (s : State) (id : Nat) : List Nat :=
  s.params.filterMap (fun c => if c.1 / 65536 = id then some (c.1 % 65536) else none)

/-- Context `n` is held: it has an extended address (R326). -/
def State.contextHeld (s : State) (n : Nat) : Bool :=
  s.p Pid.relayNodeEui (2 * n) != 0 || s.p Pid.relayNodeEui (2 * n + 1) != 0

/-- The held contexts, in order. -/
def State.contexts (s : State) : List Nat :=
  (((s.listed Pid.relayNodeEui).map (fun e => e / 2)).eraseDups).filter (fun n => n < 1024 && s.contextHeld n)

/-- The team that a channel belongs to: the one that begins at it or up to three channels before it
and is long enough (R50). -/
def State.teamOf (s : State) (ch : Nat) : Option Nat :=
  (List.range 4).findSome? (fun k =>
    if k ≤ ch ∧ k < s.p Pid.drvTeamSize (ch - k) then some (ch - k) else none)

/-- The channels of a team (R50). -/
def State.teamChannels (s : State) (t : Nat) : List Nat :=
  (List.range (s.p Pid.drvTeamSize t)).map (fun k => t + k)

/-- Raise the wake request of R17 with a cause (R456). -/
def State.raiseWake (s : State) (cause : Nat) : State :=
  { s with power := { s.power with wakes := s.power.wakes ++ [cause] } }

/-- Hand a frame of the module's own to the uplink for the given ports (R278). -/
def State.originate (s : State) (ports : List Nat) (f : Frame) (stampSlot : Option Nat := none) : State :=
  { s with net := { s.net with originated := s.net.originated ++ [(ports, ⟨f, true, none, stampSlot⟩)] } }

/-- Domain Dk is powered (R449). -/
def State.domainOn (s : State) (k : Nat) : Bool := s.power.domains.testBit k

/-- Change the tandem's state. -/
def State.withTandem (s : State) (f : TandemState → TandemState) : State := { s with tandem := f s.tandem }

/-- Count a measure of the tandem statistics matrix (R446). -/
def State.tdmCount (s : State) (k m : Nat) (n : Nat := 1) : State := s.bump (0x8100 + 0x10 * k + m) 0 n

/-! ### The status codes of replies (R225) -/

abbrev stOk : Nat := 0x00
abbrev stPending : Nat := 0x01
abbrev stRepeat : Nat := 0x02
abbrev stBusy : Nat := 0x10
abbrev stRefusedState : Nat := 0x11
abbrev stTooLong : Nat := 0x20
abbrev stBadLength : Nat := 0x21
abbrev stBadCrc : Nat := 0x22
abbrev stUnknownOp : Nat := 0x23
abbrev stRange : Nat := 0x24
abbrev stAuth : Nat := 0x30
abbrev stKeyRevoked : Nat := 0x31
abbrev stFull : Nat := 0x40
abbrev stNotCommitted : Nat := 0x50
abbrev stPoison : Nat := 0x60
abbrev stTicketGone : Nat := 0x70

/-- A result with status OK. -/
def ok (ws : List Word := []) : Result := { status := stOk, detail := 0, words := ws }

/-- A result that names a failure. -/
def fail (status : Nat) (detail : Nat := 0) : Result := { status := status, detail := detail, words := [] }

/-! ### The frame of a meaning -/

/-- ATTN_N is low (R230): a whole packet waits outbound on the host port, or an enabled event bit is 1.  In reset it
is high (R484). -/
def State.attnLow (s : State) : Bool :=
  s.power.phase != .unpowered && s.power.phase != .held && (s.bridle.hostOut.any (fun w => w.endMark) || decide (s.p Pid.cmdHpEvent &&& s.p Pid.cmdHpEventMask ≠ 0))

/-- HOLD_N is low in reset and for 10 µs after D1 powers up (R485). -/
def State.holdForced (s : State) : Bool :=
  s.power.phase == .unpowered || s.power.phase == .held || (match s.power.d1At with
    | some a => !s.passed a (10 * us)
    | none => false)

/-- HOLD_N is low: it follows the inbound fill with the hysteresis of R232, falling when the fill reaches
cmd.hp_hi_wm and rising when the fill falls to cmd.hp_lo_wm or below. -/
def State.holdIsLow (s : State) : Bool :=
  let fill := s.bridle.hostIn.length
  if s.holdForced then true
  else if s.p Pid.cmdHpHiWm ≤ fill then true
  else if fill ≤ s.p Pid.cmdHpLoWm then false
  else s.bridle.holdLow

/-- The level of HOLD_N is kept for the hysteresis (R232). -/
def State.settleHold (s : State) : State := { s with bridle := { s.bridle with holdLow := s.holdIsLow } }

/-- Run an effect at instant `t`: the clock advances to `t` and never goes back, the effect
happens, and the pins that follow the state take their levels.  The queue of waiting commands
is left to `step`. -/
def State.run (t : Nat) (f : State → State) (s : State) : Host.Outcome State Fault Refusal :=
  .next ({ f (s.at_ t) with now := max s.now t, pending := s.pending }).settleHold

end Sys2Proof.Machine
end

