-- ==== Sys2Proof/Machine/TestEnd.lean ====
section
/-! DEFINITION.  How a link test ends (R475), and what the rest of the module asks of a test in progress. -/

namespace Sys2Proof.Machine

open Sys2Proof

/-! ### Patterns (R468) -/

/-- Degree and second tap of a PRBS (R468). -/
def prbsTaps (pattern : Nat) : Nat × Nat :=
  match pattern with
  | 0 => (7, 6)
  | 1 => (15, 14)
  | 2 => (23, 18)
  | _ => (31, 28)

/-- One step of a shift register of degree `n` with taps `n` and `m`: the new bit. -/
def prbsNext (n m reg : Nat) : Bool := reg.testBit (n - 1) != reg.testBit (m - 1)

/-- The register after a bit has been shifted in. -/
def shiftIn (n reg : Nat) (b : Bool) : Nat := (reg * 2 + flag b) % 2 ^ n

/-- The register `k` steps after the all-ones state. -/
def prbsReg (n m : Nat) : Nat → Nat
  | 0 => 2 ^ n - 1
  | k + 1 => let r := prbsReg n m k; shiftIn n r (prbsNext n m r)

/-- Bit `i` of a pattern: the oldest bit of the register, or the user word repeated (R468). -/
def patternBit (pattern : Nat) (user : Word) (i : Nat) : Bool :=
  if pattern = 4 then bit user (31 - i % 32)
  else
    let t := prbsTaps pattern
    (prbsReg t.1 t.2 i).testBit (t.1 - 1)

/-! ### Tests in progress -/

/-- A link instance's test. -/
def State.lt (s : State) (l : Nat) : LinkRun := s.test.links.get l

def State.modLt (s : State) (l : Nat) (f : LinkRun → LinkRun) : State :=
  { s with test := { s.test with links := s.test.links.modify l f } }

/-- The link class of a link index (R467). -/
def linkClass (l : Nat) : Nat :=
  if l < 16 then 0 else if l < 32 then 1 else if l < 34 then 2 else if l < 36 then 3 else if l < 38 then 4
  else if l < 40 then 5 else 6

/-- The first link index of a class, and its number of instances (R467). -/
def classLinks (c : Nat) : Nat × Nat :=
  match c with
  | 0 => (0, 16)
  | 1 => (16, 16)
  | 2 => (32, 2)
  | 3 => (34, 2)
  | 4 => (36, 2)
  | 5 => (38, 2)
  | _ => (40, 2)

/-- Count measure `m` of a link's class and pattern (R478). -/
def State.testCount (s : State) (l m : Nat) : State :=
  s.bump (0x9100 + 0x10 * (9 * linkClass l + (s.lt l).pattern) + m) 0

/-- A test runs on the link. -/
def State.underTest (s : State) (l : Nat) : Bool := (s.lt l).running

/-- Some test runs (R454). -/
def State.anyTest (s : State) : Bool := s.test.links.cells.any (fun x => x.2.running)

/-- A bit error has been counted on the link. -/
def State.testErrors (s : State) (l : Nat) : Bool := s.p64 Pid.testBitErrors l != 0

/-! ### Bits sent by a radio test (R469, R473) -/

/-- Bit rate of relay.rate in bits per ms, and largest PSDU in octets (R311, R313). -/
def relayRateOf (rate : Nat) : Nat × Nat := if rate = 0 then (50, 38) else if rate = 1 then (100, 85) else (200, 179)

/-- The bits that a radio test has sent since they were last counted: a full PSDU in every slot, or the continuous
modulated pattern (R473). -/
def State.bitsSent (s : State) (l : Nat) : Nat :=
  let k := s.lt l
  if linkClass l ≠ 5 ∨ !k.running then 0
  else
    let r := relayRateOf s.relay.config.rate
    let since := fun (unit : Nat) => (s.now - k.since) / unit - (k.countedTo - k.since) / unit
    if k.pattern = 5 then since (10 * ms) * r.2 * 8 else if k.pattern = 7 then r.1 * since ms else 0

/-- Add to a 64-bit count of a link. -/
def State.add64 (s : State) (id l n : Nat) : State := if n = 0 then s else s.set64 id l ((s.p64 id l + n) % 2 ^ 64)

/-- Count the bits a radio test has sent up to now. -/
def State.creditSent (s : State) (l : Nat) : State :=
  (s.add64 Pid.testBits l (s.bitsSent l)).modLt l (fun k => { k with countedTo := s.now })

/-- A test ends with a cause (R475): counts are kept; a bank's light is released, after the exit from
loopback where its card is in it (R471). -/
def State.endTest (s : State) (l cause : Nat) : State :=
  if !s.underTest l then s
  else
    let s := (s.creditSent l).testCount l (if cause = 1 then (if s.testErrors l then 2 else 1) else 3)
    let s := (s.setP Pid.testState l 4).setP Pid.testEndCause l cause
    let loop := (s.lt l).loopAt.isSome
    let s := s.modLt l (fun k => { k with running := false, leaving := linkClass l == 1 && loop, exitSent := false })
    let free := fun (s : State) (b : Nat) => { s with test := { s.test with banks := s.test.banks.set b false } }
    if linkClass l = 0 then free s l
    else if linkClass l = 1 ∧ !loop then free s (l - 16)
    else s

/-- End the tests of some links with a cause. -/
def State.endTests (s : State) (ls : List Nat) (cause : Nat) : State := ls.foldl (fun s l => s.endTest l cause) s

/-- The port carries only a test's traffic (R474). -/
def State.portTested (s : State) (port : Nat) : Bool := s.underTest (34 + port) || s.underTest (36 + port)

/-- The radio is taken out of the relay by a test (R473). -/
def State.radioTested (s : State) (radio : Nat) : Bool := s.underTest (38 + radio)

/-- The bank runs a harness test: its transactions carry pattern (R470), or wait for the exit. -/
def State.harnessTested (s : State) (b : Nat) : Bool := s.underTest (16 + b) || (s.lt (16 + b)).leaving

/-- The shed step whose entry refuses a link class (R474, detail 7). -/
def testShedLimit (c : Nat) : Nat :=
  match c with
  | 0 => 5
  | 1 => 5
  | 2 => 1
  | 5 => 3
  | 6 => 7
  | _ => 4

/-- A shed step is entered: the tests it refuses end (R475). -/
def State.shedTests (s : State) (step : Nat) : State :=
  s.endTests ((List.range 42).filter (fun l => testShedLimit (linkClass l) ≤ step)) 3

end Sys2Proof.Machine
end

