-- ==== Sys2Proof/Machine/Calendar.lean ====
section
/-! DEFINITION.  The calendar and the local clock: civil dates as day numbers, the rolling of
regular and irregular calendars (R296, R297), and the linear clocks of R285. -/

namespace Sys2Proof.Machine

open Sys2Proof

/-! ### Linear clocks (R285) -/

/-- One nanosecond in the clock's units of 2⁻¹⁶ ns. -/
abbrev nsUnit : Int := 65536

/-- The reading of a linear clock at a count: O + floor((c − c_ref) × 40 × 2¹⁶ × (1 + r × 2⁻⁴⁰)). -/
def LinearClock.at_ (k : LinearClock) (c : Nat) : Int :=
  k.offset + Int.fdiv (((c : Int) - k.ref) * 40 * 65536 * (1099511627776 + k.rate)) 1099511627776

/-- A change of rate never steps the reading: the reference moves to the present count. -/
def LinearClock.withRate (k : LinearClock) (c : Nat) (r : Int) : LinearClock :=
  ⟨k.at_ c, c, clampI (-2147483648) 2147483647 r⟩

/-- A rate in units of 2⁻⁴⁰ as parts per billion. -/
def ratePpb (r : Int) : Int := Int.tdiv (r * 1000000000) 1099511627776

/-- Parts per billion as a rate in units of 2⁻⁴⁰. -/
def ofPpb (n : Int) : Int := Int.tdiv (n * 1099511627776) 1000000000

/-- The local clock, in 2⁻¹⁶ ns (R285). -/
def State.clockNow (s : State) : Int := s.time.clock.at_ s.count

/-- The local clock in whole nanoseconds. -/
def State.clockNs (s : State) : Int := Int.fdiv s.clockNow nsUnit

/-- The local clock in whole seconds. -/
def State.clockSec (s : State) : Nat := (Int.fdiv s.clockNs 1000000000).toNat

/-! ### Dates -/

/-- Leap years of R297. -/
def leapYear (y : Nat) : Bool := (y % 4 == 0 && y % 100 != 0) || y % 400 == 0

/-- Length of a month; months outside 1 to 12 count as 31 days (R297). -/
def monthLength (y m : Nat) : Nat :=
  if m = 2 then (if leapYear y then 29 else 28)
  else if m = 4 ∨ m = 6 ∨ m = 9 ∨ m = 11 then 30
  else 31

/-- Days before the first of March-based year `y` in the proleptic Gregorian calendar, counted
from 0000-03-01. -/
def daysOfDate (y m d : Nat) : Nat :=
  let y' := if m ≤ 2 then y + 399 else y + 400
  let m' := if m ≤ 2 then m + 9 else m - 3
  y' * 365 + y' / 4 - y' / 100 + y' / 400 + (153 * m' + 2) / 5 + (d - 1)

/-- Year, month and day of a day number of `daysOfDate`. -/
def dateOfDays (n : Nat) : Nat × Nat × Nat :=
  let era := n / 146097
  let doe := n % 146097
  let yoe := (doe - doe / 1460 + doe / 36524 - doe / 146096) / 365
  let doy := doe - (365 * yoe + yoe / 4 - yoe / 100)
  let mp := (5 * doy + 2) / 153
  let d := doy - (153 * mp + 2) / 5 + 1
  let m := if mp < 10 then mp + 3 else mp - 9
  let y := yoe + era * 400 + (if m ≤ 2 then 1 else 0)
  (y - 400, m, d)

/-- The day number of 1970-01-01, the PTP epoch. -/
def epochDay : Nat := daysOfDate 1970 1 1

/-- The eight fields of time.cal as plain numbers (R296). -/
structure Civil where
  century : Nat
  year : Nat
  month : Nat
  day : Nat
  weekday : Nat
  hour : Nat
  minute : Nat
  second : Nat
  deriving DecidableEq, Repr

/-- The four-digit year. -/
def Civil.fullYear (c : Civil) : Nat := c.century * 100 + c.year

/-- The fields name a real date (R297). -/
def Civil.real (c : Civil) : Bool :=
  decide (1 ≤ c.month) && decide (c.month ≤ 12) && decide (1 ≤ c.day) &&
  decide (c.day ≤ monthLength c.fullYear c.month) && decide (1 ≤ c.weekday) &&
  decide (c.weekday ≤ 7) && decide (c.hour ≤ 23) && decide (c.minute ≤ 59) &&
  decide (c.second ≤ 59)

/-- Seconds of civil time since the PTP epoch, for a real date. -/
def Civil.seconds (c : Civil) : Int :=
  ((daysOfDate c.fullYear c.month c.day : Int) - epochDay) * 86400
    + c.hour * 3600 + c.minute * 60 + c.second

/-- The weekday of a day number, 1 Monday to 7 Sunday. -/
def weekdayOf (n : Nat) : Nat := (n + 7 - (epochDay + 4) % 7) % 7 + 1

/-- Civil fields of a number of seconds since the PTP epoch. -/
def civilOfSeconds (t : Int) : Civil :=
  let day := (Int.fdiv t 86400 + epochDay).toNat
  let sod := (Int.fmod t 86400).toNat
  let ymd := dateOfDays day
  ⟨ymd.1 / 100, ymd.1 % 100, ymd.2.1, ymd.2.2, weekdayOf day, sod / 3600, sod / 60 % 60, sod % 60⟩

/-- The next day of an irregular or regular calendar, by the rolling table of R297. -/
def Civil.nextDay (c : Civil) : Civil :=
  let wd := if c.weekday = 0 ∨ 8 ≤ c.weekday then 1 else if c.weekday = 7 then 1 else c.weekday + 1
  let c := { c with weekday := wd }
  if c.day = 0 then { c with day := 1 }
  else
    let len := monthLength c.fullYear c.month
    let rolls := if 31 < c.day then true else if len < c.day then c.day == 31 else c.day == len
    if !rolls then { c with day := c.day + 1 }
    else
      let c := { c with day := 1 }
      if c.month = 0 then { c with month := 1 }
      else if c.month < 12 then { c with month := c.month + 1 }
      else
        let y := c.fullYear + 1
        { c with month := 1, century := y / 100 % 100, year := y % 100 }

/-- One second later, by the rolling table of R297. -/
def Civil.tick (c : Civil) : Civil :=
  if c.second < 59 then { c with second := c.second + 1 }
  else
    let c := { c with second := 0 }
    if c.minute < 59 then { c with minute := c.minute + 1 }
    else
      let c := { c with minute := 0 }
      if c.hour < 23 then { c with hour := c.hour + 1 }
      else ({ c with hour := 0 } : Civil).nextDay

/-- The time of day lies within its fields. -/
def Civil.regularTime (c : Civil) : Bool := decide (c.hour ≤ 23 ∧ c.minute ≤ 59 ∧ c.second ≤ 59)

/-- `n` days later, day by day. -/
def Civil.days (c : Civil) : Nat → Civil
  | 0 => c
  | n + 1 => Civil.days c.nextDay n

/-- `n` seconds later by the rolling table of R297: second by second until the time of day is regular, then
whole days. -/
def Civil.ticks (c : Civil) : Nat → Civil
  | 0 => c
  | n + 1 =>
    if c.regularTime then
      let t := c.hour * 3600 + c.minute * 60 + c.second + (n + 1)
      let sod := t % 86400
      { c.days (t / 86400) with hour := sod / 3600, minute := sod / 60 % 60, second := sod % 60 }
    else Civil.ticks c.tick n

/-- `n` seconds later.  A real date advances by day numbers, with its weekday counted along
with the day; any other rolls second by second (R296, R297). -/
def Civil.advance (c : Civil) (n : Nat) : Civil :=
  if c.real then
    let t := c.seconds + n
    let r := civilOfSeconds t
    let days := (Int.fdiv t 86400 - Int.fdiv c.seconds 86400).toNat
    { r with weekday := (c.weekday - 1 + days) % 7 + 1 }
  else c.ticks n

/-- The stored fields of time.cal. -/
def State.calStored (s : State) : Civil :=
  let e := fun k => unbcd (s.p Pid.timeCal k)
  ⟨e 0, e 1, e 2, e 3, e 4, e 5, e 6, e 7⟩

/-- Crystal ticks of 1/32,768 s from instant `a` to the present, with the trim of R298. -/
def State.ticksSince (s : State) (a : Nat) : Nat :=
  ((((s.now - a : Nat) : Int) * 32768 * (1000000000 + s.pI Pid.timeRtcTrimPpb)) /
    ((sec : Int) * 1000000000)).toNat

/-- The calendar at the present instant: fields and sub-second ticks. -/
def State.calNow (s : State) : Civil × Nat :=
  let n := s.time.calTicks + s.ticksSince s.time.calAt
  (s.calStored.advance (n / 32768), n % 32768)

/-- The calendar as milliseconds since the PTP epoch (R304). -/
def State.calMs (s : State) : Int :=
  let c := s.calNow
  c.1.seconds * 1000 + c.2 * 1000 / 32768

/-- Write the calendar: fields as written, with its sub-second ticks. -/
def State.setCal (s : State) (c : Civil) (ticks : Nat) : State :=
  let s := s.setRun Pid.timeCal 0
    [bcd c.century, bcd c.year, bcd c.month, bcd c.day, bcd c.weekday, bcd c.hour, bcd c.minute,
     bcd c.second]
  { s with time := { s.time with calAt := s.now, calTicks := ticks } }

/-- Civil time by the local clock: minus time.utc_offset_s plus time.tz_offset_min (R296), in
milliseconds since the epoch. -/
def State.civilMs (s : State) : Int :=
  Int.fdiv s.clockNs 1000000 - s.pI Pid.timeUtcOffsetS * 1000 + s.pI Pid.timeTzOffsetMin * 60000

/-- Word 2 of a record: century, year, month, day (R363). -/
def calDateWord (c : Civil) : Word :=
  word (bcd c.century * 2 ^ 24 + bcd c.year * 2 ^ 16 + bcd c.month * 2 ^ 8 + bcd c.day)

/-- Word 3 of a record: hour, minute, second, hundredths (R363). -/
def calTimeWord (c : Civil) (ticks : Nat) : Word :=
  word (bcd c.hour * 2 ^ 24 + bcd c.minute * 2 ^ 16 + bcd c.second * 2 ^ 8 + bcd (ticks * 100 / 32768))

/-- The calendar runs as an irregular one was written: from the SET until every field holds a value in range
(R297). -/
def State.irregular (s : State) : Bool := s.flagOf Pid.timeCalStatus 0 3 && !s.calNow.1.real

end Sys2Proof.Machine
end

