-- ==== Sys2Proof/Machine/Colour.lean ====
section
/-! DEFINITION.  The colour stage (R104 to R113): channel profiles, the mix of a team's channels towards
a target point, fades of colour, and the reference flux. -/

namespace Sys2Proof.Machine

open Sys2Proof

/-! ### Accessors of the drive engine and the units beside it -/

/-- A team of the drive engine. -/
def State.td (s : State) (t : Nat) : TeamDrive := s.drive.teams.get t

/-- A channel of the drive engine. -/
def State.cd (s : State) (c : Nat) : ChannelDrive := s.drive.channels.get c

/-- A bank of the drive engine. -/
def State.bd (s : State) (b : Nat) : BankDrive := s.drive.banks.get b

/-- Change the drive engine. -/
def State.withDrive (s : State) (f : DriveState → DriveState) : State := { s with drive := f s.drive }

def State.modTd (s : State) (t : Nat) (f : TeamDrive → TeamDrive) : State :=
  s.withDrive (fun d => { d with teams := d.teams.modify t f })

def State.modCd (s : State) (c : Nat) (f : ChannelDrive → ChannelDrive) : State :=
  s.withDrive (fun d => { d with channels := d.channels.modify c f })

def State.modBd (s : State) (b : Nat) (f : BankDrive → BankDrive) : State :=
  s.withDrive (fun d => { d with banks := d.banks.modify b f })

/-- A channel of the colour unit. -/
def State.cc (s : State) (c : Nat) : ChannelColour := s.colour.channels.get c

/-- A team of the colour unit. -/
def State.tc (s : State) (t : Nat) : TeamColour := s.colour.teams.get t

def State.modCc (s : State) (c : Nat) (f : ChannelColour → ChannelColour) : State :=
  { s with colour := { s.colour with channels := s.colour.channels.modify c f } }

def State.modTc (s : State) (t : Nat) (f : TeamColour → TeamColour) : State :=
  { s with colour := { s.colour with teams := s.colour.teams.modify t f } }

/-- The team in force that a channel belongs to (R50). -/
def State.teamAt (s : State) (ch : Nat) : Option Nat :=
  (List.range 4).findSome? (fun k => if k ≤ ch ∧ k < (s.td (ch - k)).size then some (ch - k) else none)

/-- The channels of a team in force. -/
def State.chansOf (s : State) (t : Nat) : List Nat := (List.range (s.td t).size).map (fun k => t + k)

/-- The channels of a bank. -/
def bankChannels (b : Nat) : List Nat := (List.range 32).map (fun k => 32 * b + k)

/-- The teams in force of a bank. -/
def State.bankTeams (s : State) (b : Nat) : List Nat := (bankChannels b).filter (fun t => decide (1 ≤ (s.td t).size))

/-! ### Targets -/

/-- The initial target of a team (R50). -/
def State.initialTarget (s : State) (t : Nat) : Target :=
  ⟨0, false, clampN (s.p Pid.colourCctMin t) (s.p Pid.colourCctMax t) 4000, 0, [0, 0, 0, 0], none, false⟩

/-- The colour of a target, clamped into the team's range (R104). -/
def State.targetColour (s : State) (t : Nat) (g : Target) : Colour :=
  if g.ratio then .ratio g.ratios
  else
    let k := clampN (s.p Pid.colourCctMin t) (s.p Pid.colourCctMax t) g.cct
    .cct (Q.mk' 1000000 k) (Q.ofInt (clampI (-500) 500 g.duv))

/-- The target lies outside the team's colour range (R104). -/
def State.targetClamped (s : State) (t : Nat) (g : Target) : Bool :=
  !g.ratio && (g.outside || decide (g.cct < s.p Pid.colourCctMin t) || decide (s.p Pid.colourCctMax t < g.cct) ||
    decide (g.duv < -500) || decide (500 < g.duv))

/-- The fraction of a level (R39). -/
def fractionOf (level : Nat) : Nat := divRound (level * 16777216) 65535

/-- The target in force of a team. -/
def State.targetOf (s : State) (t : Nat) : Target := ((s.td t).taken.map (fun x => x.2)).getD (s.initialTarget t)

/-- The present colour of a team. -/
def State.colourOf (s : State) (t : Nat) : Colour := ((s.td t).colour).getD (s.targetColour t (s.initialTarget t))

/-! ### Profiles (R106) -/

/-- A profile's three values at a temperature in 2⁻³² of 0.01 °C. -/
def State.profileAt (s : State) (profile : Nat) (theta : Int) : Q × Q × Q :=
  let step : Int := 2000 * 4294967296
  let x := clampI 0 (8 * step) (theta + 4000 * 4294967296)
  let k := min 7 (Int.fdiv x step).toNat
  let part := Q.mk' (x - k * step) step
  let pick := fun (id : Nat) =>
    let a := Q.ofNat (s.p id (9 * profile + k))
    let b := Q.ofNat (s.p id (9 * profile + k + 1))
    a.add ((b.sub a).mul part)
  (pick Pid.colourProfFlux, (pick Pid.colourProfX).over_ 65536, (pick Pid.colourProfY).over_ 65536)

/-- 25.00 °C. -/
abbrev theta25 : Int := 2500 * 4294967296

/-- A channel as the mix sees it: flux factor, chromaticity, and flux at full fraction. -/
structure Lamp where
  k : Q
  x : Q
  y : Q
  flux : Q
  deriving DecidableEq, Repr

/-- A channel at a temperature (R106). -/
def State.lampAt (s : State) (ch : Nat) (theta : Int) : Lamp :=
  let p := s.p Pid.colourProfile ch
  let v := s.profileAt p theta
  let k := v.1.div (s.profileAt p theta25).1
  ⟨k, v.2.1, v.2.2, k.scale (s.p Pid.colourFluxLm ch)⟩

/-- Chromaticity in CIE 1960 coordinates (R109). -/
def Lamp.uv (l : Lamp) : Q × Q :=
  let d := ((l.x.scale (-2)).add (l.y.scale 12)).add (Q.ofInt 3)
  ((l.x.scale 4).div d, (l.y.scale 6).div d)

/-- The weight D of R110. -/
def Lamp.weight (l : Lamp) : Q :=
  (l.flux.mul (((l.x.scale (-2)).add (l.y.scale 12)).add (Q.ofInt 3))).div l.y

/-- Tristimulus values at full fraction. -/
def Lamp.xyz (l : Lamp) : Q × Q × Q :=
  ((l.flux.mul l.x).div l.y, l.flux, (l.flux.mul ((Q.one.sub l.x).sub l.y)).div l.y)

/-! ### The locus (R109) -/

/-- A point of the locus at a reciprocal temperature, from the internal table at 1-mired steps with linear
interpolation, and duv from there along the unit normal of that stretch, towards larger v for a positive duv. -/
def locusPoint (mired duv : Q) : Q × Q :=
  let k := mired.floor.toNat
  let part := mired.sub (Q.ofNat k)
  let unit : Int := 1099511627776
  let p := Config.locus k
  let p' := Config.locus (k + 1)
  let du := p'.1 - p.1
  let dv := p'.2 - p.2
  -- length of the stretch in 2⁻⁴⁰
  let len : Int := isqrt (du * du + dv * dv).toNat
  let side : Int := if du < 0 then -1 else 1
  let d := duv.over_ 10000
  (((Q.ofInt p.1).add (part.scale du)).over_ unit |>.add (d.mul (Q.mk' (-(side * dv)) len)),
   ((Q.ofInt p.2).add (part.scale dv)).over_ unit |>.add (d.mul (Q.mk' (side * du) len)))

/-- Squared distance of two points. -/
def dist2 (a b : Q × Q) : Q := ((a.1.sub b.1).mul (a.1.sub b.1)).add ((a.2.sub b.2).mul (a.2.sub b.2))

/-- Of a segment, the parameter of the point nearest to `p`, held to 0 … 1. -/
def nearestPart (p a b : Q × Q) : Q :=
  let dx := b.1.sub a.1
  let dy := b.2.sub a.2
  let l2 := (dx.mul dx).add (dy.mul dy)
  ((((p.1.sub a.1).mul dx).add ((p.2.sub a.2).mul dy)).div l2).clamp Q.zero Q.one

/-- The point of a segment at a parameter. -/
def along (a b : Q × Q) (t : Q) : Q × Q := (a.1.add (t.mul (b.1.sub a.1)), a.2.add (t.mul (b.2.sub a.2)))

/-- The nearest point of the locus: its reciprocal temperature and its squared distance, over the
1-mired steps from 40 to 1,000 (R111). -/
def nearestLocus (p : Q × Q) : Q × Q :=
  ((List.range 960).map (fun i =>
    let a := locusPoint (Q.ofNat (40 + i)) Q.zero
    let b := locusPoint (Q.ofNat (41 + i)) Q.zero
    let t := nearestPart p a b
    ((Q.ofNat (40 + i)).add t, dist2 p (along a b t)))).foldl
    (fun best x => if x.2.lt best.2 then x else best) (Q.ofNat 40, Q.ofNat 1000000)

/-! ### The mix (R110) -/

/-- Tristimulus values of flux `yt` at a point of CIE 1960. -/
def xyzOf (yt : Q) (p : Q × Q) : Q × Q × Q :=
  (((yt.scale 3).mul p.1).div (p.2.scale 2), yt,
   (yt.mul (((Q.ofInt 4).sub p.1).sub (p.2.scale 10))).div (p.2.scale 2))

/-- The determinant of three columns. -/
def det3 (a b c : Q × Q × Q) : Q :=
  let m := fun (x y z : Q) => (x.mul y).mul z
  ((m a.1 b.2.1 c.2.2).add ((m b.1 c.2.1 a.2.2).add (m c.1 a.2.1 b.2.2))).sub
    ((m c.1 b.2.1 a.2.2).add ((m a.1 c.2.1 b.2.2).add (m b.1 a.2.1 c.2.2)))

/-- The amounts of three columns that sum to a vector. -/
def solve3 (a b c v : Q × Q × Q) : List Q :=
  let d := det3 a b c
  [(det3 v b c).div d, (det3 a v c).div d, (det3 a b v).div d]

/-- Equal amounts that give the flux. -/
def equalMix (yt : Q) (ls : List Lamp) : List Q :=
  let sum := Q.sum (ls.map (fun l => l.flux))
  ls.map (fun _ => yt.div sum)

/-- The mix of one or two channels. -/
def solve12 (yt : Q) (p : Q × Q) (ls : List Lamp) : List Q :=
  match ls with
  | [a] => [yt.div a.flux]
  | [a, b] =>
    let t := nearestPart p a.uv b.uv
    let wa := (Q.one.sub t).div a.weight
    let wb := t.div b.weight
    let sum := (wa.mul a.flux).add (wb.mul b.flux)
    [(wa.mul yt).div sum, (wb.mul yt).div sum]
  | _ => []

/-- The mix of three channels: exact inside the triangle, nearest on an edge outside it. -/
def solveTri (yt : Q) (p : Q × Q) (a b c : Lamp) : List Q :=
  let w := solve3 a.xyz b.xyz c.xyz (xyzOf yt p)
  if w.all (fun x => decide (0 ≤ x.num)) then w
  else
    let edge := fun (l m : Lamp) =>
      let t := nearestPart p l.uv m.uv
      let q := along l.uv m.uv t
      (q, dist2 p q)
    let ab := edge a b
    let bc := edge b c
    let ca := edge c a
    let two := fun (q : Q × Q) (l m : Lamp) => solve12 yt q [l, m]
    if ab.2.le bc.2 && ab.2.le ca.2 then
      let r := two ab.1 a b
      [Q.at_ r 0, Q.at_ r 1, Q.zero]
    else if bc.2.le ca.2 then
      let r := two bc.1 b c
      [Q.zero, Q.at_ r 0, Q.at_ r 1]
    else
      let r := two ca.1 c a
      [Q.at_ r 1, Q.zero, Q.at_ r 0]

/-- Twice the area of a triangle in uv. -/
def area2 (a b c : Q × Q) : Q :=
  (((b.1.sub a.1).mul (c.2.sub a.2)).sub ((c.1.sub a.1).mul (b.2.sub a.2))).abs

/-- The channels' points do not span (R110). -/
def pointsCollapse (ls : List Lamp) : Bool :=
  decide (2 ≤ ls.length) &&
    ls.all (fun a => ls.all (fun b => (dist2 a.uv b.uv).lt (Q.mk' 1 1000000)))

/-- The amounts of each channel for flux `yt` at a point, and whether the team is degenerate (R110).
`white` is the white lane of four and `share` its share. -/
def solveMix (yt : Q) (p : Q × Q) (ls : List Lamp) (white : Nat) (share : Q) : List Q × Bool :=
  if pointsCollapse ls then (equalMix yt ls, true)
  else match ls with
    | [a, b, c] =>
      if (area2 a.uv b.uv c.uv).lt (Q.mk' 2 100000) then (equalMix yt ls, true)
      else (solveTri yt p a b c, false)
    | [_, _, _, _] =>
      match ls.eraseIdx white, ls[white]? with
      | [a, b, c], some w =>
        if (area2 a.uv b.uv c.uv).lt (Q.mk' 2 100000) then (equalMix yt ls, true)
        else
          let mw := solve3 a.xyz b.xyz c.xyz w.xyz
          let wr := solveTri yt p a b c
          if mw.any (fun x => decide (x.num ≤ 0)) then (wr.insertIdx white Q.zero, true)
          else
            let ww := share.mul (Q.minOf ((wr.zip mw).map (fun x => x.1.div x.2)))
            (((wr.zip mw).map (fun x => x.1.sub (ww.mul x.2))).insertIdx white ww, false)
      | _, _ => (equalMix yt ls, true)
    | _ => (solve12 yt p ls, false)

/-! ### Reference flux (R109) -/

/-- The channels of a team of `n` at 25.00 °C. -/
def State.coldLamps (s : State) (t n : Nat) : List Lamp := (List.range n).map (fun k => s.lampAt (t + k) theta25)

/-- The white share of a team. -/
def State.whiteShare (s : State) (t : Nat) : Q := Q.mk' (s.p Pid.colourWShare t) 32768

/-- Y_ref of a team from the present inputs (R109): the least, over every 50 K of its CCT range, of the
greatest flux it reaches at duv 0, times the headroom; for a team of `n` channels. -/
def State.computeYRef (s : State) (t n : Nat) : Q :=
  if s.p Pid.colourTeamFlux t ≠ 0 then Q.ofNat (s.p Pid.colourTeamFlux t)
  else
    let ls := s.coldLamps t n
    let lo := s.p Pid.colourCctMin t
    let hi := s.p Pid.colourCctMax t
    let headroom := Q.mk' (s.p Pid.colourHeadroom t) 32768
    let best : Q :=
      match ls with
      | [l] => l.flux
      | _ =>
        Q.minOf ((List.range ((hi - lo) / 50 + 1)).map (fun (i : Nat) =>
          let p := locusPoint (Q.mk' 1000000 ((lo + 50 * i : Nat) : Int)) Q.zero
          let m := Q.maxOf (solveMix Q.one p ls (s.p Pid.colourWLane t) (s.whiteShare t)).1
          Q.one.div m))
    best.mul headroom

/-- Y_ref in force. -/
def State.yRef (s : State) (t : Nat) : Q := ((s.td t).yRef).getD (s.computeYRef t (s.td t).size)

/-! ### Gains and fractions (R110, R112, R113) -/

/-- The stage compensates temperature (R105). -/
def State.compensates (s : State) (t : Nat) : Bool := (s.td t).method == 1 || (s.td t).method == 3

/-- The stage applies sensor trims (R105). -/
def State.trims (s : State) (t : Nat) : Bool := decide (2 ≤ (s.td t).method)

/-- The team's channels at the temperatures the stage uses (R108, R110). -/
def State.stageLamps (s : State) (t : Nat) : List Lamp :=
  (s.chansOf t).map (fun c => s.lampAt c (if s.compensates t then (s.cc c).latched else theta25))

/-- The gains of a colour: w per unit of λ / 2²⁴, and whether the team is degenerate. -/
def State.gains (s : State) (t : Nat) (col : Colour) : List Q × Bool :=
  let ls := s.stageLamps t
  match col with
  | .gains g => (g, false)
  | .ratio r =>
    ((ls.zipIdx).map (fun x =>
      let a := Q.mk' (r.getD x.2 0) 65535
      if s.compensates t then a.div x.1.k else a), false)
  | .cct mired duv =>
    match ls with
    | [l] => ([(s.yRef t).div l.flux], false)
    | _ => solveMix (s.yRef t) (locusPoint mired duv) ls (s.p Pid.colourWLane t) (s.whiteShare t)

/-- A rounded quotient between two ratios at s / S (R113). -/
def ratioBetween (a b step steps : Nat) : Nat :=
  (divRoundI ((a : Int) * steps + ((b : Int) - a) * step) steps).toNat

/-- The colour at step s of S of a fade (R113). -/
def State.colourAt (s : State) (t : Nat) (from_ end_ : Colour) (step steps : Nat) : Colour :=
  if steps = 0 ∨ steps ≤ step then end_
  else match from_, end_ with
    | .cct m0 d0, .cct m1 d1 =>
      .cct (m0.add (((m1.sub m0).scale step).over_ steps)) (d0.add (((d1.sub d0).scale step).over_ steps))
    | .ratio r0, .ratio r1 =>
      .ratio ((List.range 4).map (fun i => ratioBetween (r0.getD i 0) (r1.getD i 0) step steps))
    | _, _ =>
      let g0 := (s.gains t from_).1
      let g1 := (s.gains t end_).1
      .gains ((g0.zip g1).map (fun x => x.1.add (((x.2.sub x.1).scale step).over_ steps)))

/-- The colour frozen as gains where a fade between forms starts from it (R113). -/
def State.freezeColour (s : State) (t : Nat) (from_ end_ : Colour) : Colour :=
  match from_, end_ with
  | .cct _ _, .cct _ _ => from_
  | .ratio _, .ratio _ => from_
  | _, _ => .gains (s.gains t from_).1

/-- What the colour stage computes for a team. -/
structure StageOut where
  fractions : List Nat
  scaled : Bool
  degenerate : Bool
  deriving DecidableEq, Repr

/-- The derating factor of a team (R99). -/
def State.derate (s : State) (t : Nat) : Nat := s.p Pid.diagDerateFactor t

/-- The factor applied last (R101). -/
def State.derated (s : State) (t n : Nat) : Nat := n * s.derate t / 32768

/-- The colour stage of a team (R39, R110, R112): a one-channel team with method none has F = λ. -/
def State.colourStage (s : State) (t lam : Nat) (col : Colour) : StageOut :=
  if (s.td t).size = 1 ∧ (s.td t).method = 0 then ⟨[s.derated t lam], false, false⟩
  else
    let g := s.gains t col
    let share := Q.mk' lam 16777216
    let w := (g.1.zip (s.chansOf t)).map (fun x =>
      let a := share.mul x.1
      if s.trims t then (a.scale (s.cc x.2).trim).over_ 32768 else a)
    let m := Q.maxOf w
    let big := Q.one.lt m
    let w := if big then w.map (fun x => x.div m) else w
    ⟨w.map (fun x => s.derated t ((x.scale 16777216).round).toNat), big, g.2⟩

/-- The amounts before trims, for the sensor feedback (R117). -/
def State.untrimmed (s : State) (t : Nat) : List Q :=
  ((s.gains t (s.colourOf t)).1).map (fun g => (Q.mk' (s.td t).lam 16777216).mul g)

/-- The mix point before trims (R111), none while nothing is mixed. -/
def State.mixPoint (s : State) (t : Nat) : Option (Q × Q) :=
  let ls := s.stageLamps t
  let g := (s.gains t (s.colourOf t)).1
  let part := (ls.zip g).map (fun x =>
    let v := x.1.xyz
    (v.1.mul x.2, v.2.1.mul x.2, v.2.2.mul x.2))
  let x := Q.sum (part.map (fun v => v.1))
  let y := Q.sum (part.map (fun v => v.2.1))
  let z := Q.sum (part.map (fun v => v.2.2))
  let d := (x.add (y.scale 15)).add (z.scale 3)
  if d.num = 0 then none else some ((x.scale 4).div d, (y.scale 6).div d)

/-- colour.achieved_cct and colour.achieved_duv (R111). -/
def State.achieved (s : State) (t : Nat) : Nat × Int :=
  match s.mixPoint t with
  | none => (0, 0)
  | some p =>
    let n := nearestLocus p
    let foot := locusPoint n.1 Q.zero
    let d := (Q.sqrtScaled n.2 10000 : Int)
    ((min 65535 (Q.round ((Q.ofInt 1000000).div n.1)).toNat), if foot.2.le p.2 then d else -d)

/-- The achieved point lies outside the tolerance (R111). -/
def State.outOfGamut (s : State) (t : Nat) : Bool :=
  match s.colourOf t, s.mixPoint t with
  | .cct m d, some p =>
    let tol := Q.mk' (s.p Pid.colourGamutTol t) 10000
    (tol.mul tol).lt (dist2 p (locusPoint m d))
  | _, _ => false

end Sys2Proof.Machine
end

