-- ==== Sys2Proof/Machine/Fades.lean ====
section
/-! DEFINITION.  Rungs of the output ladder (R27 to R31), fades and resumption fades (R46 to R48, R113,
R508), and the commanded amplitude of the split (R40, R44). -/

namespace Sys2Proof.Machine

open Sys2Proof

/-! ### The output ladder (R27) -/

/-- Rung 1 holds a bank: EMLT is in force, or its end waits for the period start (R54). -/
def State.rung1 (s : State) (b : Nat) : Bool := s.drive.emltHeld || (s.bd b).emltEnds

/-- The rung that holds a team among 4 to 7 (R27). -/
def State.teamRung (s : State) (t : Nat) : Nat :=
  match (s.td t).taken with
  | some (4, _) => 4
  | some (5, _) => 5
  | _ => if s.wheeler then 6 else 7

/-- The holding rung of a channel (R27); 0 for a channel in no team (R50). -/
def State.rung (s : State) (ch : Nat) : Nat :=
  match s.teamAt ch with
  | none => 0
  | some t =>
    let b := ch / 32
    if s.rung1 b then 1
    else if (s.bd b).riding then 2
    else if (s.bd b).test then 3
    else if s.teamRung t = 4 then 4
    else if (s.cd ch).taken.isSome then 5
    else s.teamRung t

/-- The bank is held by rung 1, 2 or 3. -/
def State.bankHeld (s : State) (b : Nat) : Bool := s.rung1 b || (s.bd b).riding || (s.bd b).test

/-! ### Periods (R34, R35) -/

/-- The period of a bank in ns. -/
def State.periodNs (s : State) (b : Nat) : Nat := (s.bd b).period * 5 / 4

/-- The bank offset in ticks (R35). -/
def bankOffset (b period stagger : Nat) : Nat := if stagger = 2 then b * period / 512 else 0

/-- The first instant at or after `x` at which the free-running tick count, modulo `n`, equals `o`. -/
def State.alignAt (s : State) (x n o : Nat) : Nat :=
  let c := (x - s.tickBase) % n
  if c ≤ o then x + (o - c) else x + (n + o - c)

/-- The instant of a bank's next period start (R35). -/
def State.nextPeriod (s : State) (b : Nat) : Nat :=
  let k := s.bd b
  k.nextStart.getD (s.alignAt s.tickBase k.period (bankOffset b k.period k.stagger))

/-- The phase of lane `k` after the bank period start (R35). -/
def lanePhase (k period stagger : Nat) : Nat := if stagger = 0 then 0 else k * period / 32

/-- The number of fade steps for a fade time in ms (R46). -/
def State.fadeSteps (s : State) (b ms_ : Nat) : Nat := divUp (ms_ * 1000000) (s.periodNs b)

/-! ### Fades (R46, R47) -/

/-- The square root of a fraction with 12 fractional bits, truncated (R47). -/
def isqrt12 (n : Nat) : Nat := isqrt (n * 16777216)

/-- A value at step s of S of a fade curve, 0 linear and 1 square law (R47, R508). -/
def curveAt (curve from_ end_ step steps : Nat) : Nat :=
  if steps = 0 ∨ steps ≤ step then end_
  else if curve = 0 then ((from_ : Int) + Int.fdiv (((end_ : Int) - from_) * step) steps).toNat
  else
    let q0 : Int := isqrt12 from_
    let q1 : Int := isqrt12 end_
    let q := q0 + Int.fdiv ((q1 - q0) * step) steps
    (divRoundI (q * q) 16777216).toNat

/-- λ and the colour of a team `k` steps on in its fade (R44, R47). -/
def State.fadeAt (s : State) (t k : Nat) : Nat × Colour :=
  let d := s.td t
  let col := s.colourOf t
  let n := d.step + k
  let c0 := d.colour0.getD col
  let c1 := d.colour1.getD col
  if k = 0 ∨ d.halted then (d.lam, col)
  else if d.steps ≤ n then (d.lam1, c1)
  else (curveAt (s.p Pid.drvFadeCurve t) d.lam0 d.lam1 n d.steps, s.colourAt t c0 c1 n d.steps)

/-- A fade of the team is in flight. -/
def State.fading (s : State) (t : Nat) : Bool :=
  decide ((s.td t).step < (s.td t).steps) || (s.td t).lam1 != (s.td t).lam ||
    (s.td t).colour1 != (s.td t).colour

/-- Start a fade towards a level and colour in `ms_` milliseconds (R46, R47). -/
def State.startFade (s : State) (t : Nat) (lam1 : Nat) (col1 : Colour) (ms_ : Nat) : State :=
  let steps := s.fadeSteps (t / 32) ms_
  let c0 := s.freezeColour t (s.colourOf t) col1
  s.modTd t (fun d => { d with
    lam0 := d.lam, lam1 := lam1, colour0 := some c0, colour1 := some col1, step := 0, steps := steps, faded := true })

/-- One step of a team's fade (R47); none while a warm restart has halted it (R56). -/
def State.fadeStep (s : State) (t : Nat) : State :=
  let x := s.fadeAt t 1
  let flying := s.fading t
  if (s.td t).halted then s
  else s.modTd t (fun d => { d with
    lam := x.1, colour := some x.2, step := min (d.step + 1) d.steps, faded := d.faded || flying,
    lam1 := if d.colour1.isNone then x.1 else d.lam1, colour1 := some (d.colour1.getD x.2) })

/-- Convert the remaining time of a fade to a new period (R48). -/
def convertSteps (left old new : Nat) : Nat := divUp (left * old) new

/-! ### Resumption fades (R508) -/

/-- Each channel of a team glides from its start fraction to the team's present target, whose λ and
colour the team takes at once; until its first step a channel's present fraction is its start fraction (R508). -/
def State.resumeTeam (s : State) (t : Nat) (start : Nat → Nat) : State :=
  let g := s.targetOf t
  let lam := fractionOf g.level
  let col := s.targetColour t g
  let steps := s.fadeSteps (t / 32) (s.p Pid.drvFadeReleaseMs t)
  let s := s.modTd t (fun d => { d with
    lam := lam, colour := some col, lam0 := lam, lam1 := lam, colour0 := some col, colour1 := some col,
    step := 0, steps := 0, faded := true })
  (s.chansOf t).foldl (fun s c =>
    (s.setP Pid.drvOutFrac c (start c)).modCd c (fun d => { d with glide := some ⟨start c, 0, steps, true⟩, start := none })) s

/-- The start fraction that a code and a duty give (R508), with the amplitude they stand for. -/
def State.startFraction (s : State) (ch code duty : Nat) : Nat × Nat :=
  let a := min 4095 (divRound (code * s.p Pid.snsGainEst ch) 16384)
  (divRound (a * duty * 16777216) (4095 * 65535), a)

/-- A team runs in a resumption fade. -/
def State.resumes (s : State) (t : Nat) : Bool :=
  (s.chansOf t).any (fun c => ((s.cd c).glide.map (fun g => g.resume)).getD false)

/-! ### Taking targets (R24, R46, R119) -/

/-- Two targets ask for the same light. -/
def Target.same (a b : Target) : Bool :=
  a.level == b.level && a.ratio == b.ratio &&
    (if a.ratio then a.ratios == b.ratios else a.cct == b.cct && a.duv == b.duv)

/-- The fade time of a change of target (R46). -/
def State.fadeTime (s : State) (t : Nat) (g : Target) (rungChanged : Bool) : Nat :=
  match g.fade with
  | some f => min 600000 f
  | none =>
    if rungChanged then s.p Pid.drvFadeReleaseMs t
    else if fractionOf g.level < (s.td t).lam then s.p Pid.drvFadeDownMs t
    else s.p Pid.drvFadeUpMs t

/-- A team takes a committed target at its bank's period start (R24, R46); from shed step 2 on its
colour is held back (R119).  A fade that a warm restart halted starts anew from the present light (R56). -/
def State.takeTarget (s : State) (t rung : Nat) (g : Target) : State :=
  let old := (s.td t).taken
  let rung0 := (old.map (fun x => x.1)).getD (if s.wheeler then 6 else 7)
  let g0 := s.targetOf t
  let hold := decide (2 ≤ s.shed) && !(g.ratio == g0.ratio && g.cct == g0.cct && g.duv == g0.duv && g.ratios == g0.ratios)
  let use : Target := if hold then { g with ratio := g0.ratio, cct := g0.cct, duv := g0.duv, ratios := g0.ratios, outside := g0.outside } else g
  let resuming := s.resumes t
  let halted := (s.td t).halted
  let s := s.modTd t (fun d => { d with
    halted := false, taken := some (rung, use), heldColour := if hold then some g else none })
  if use.same g0 ∧ rung = rung0 ∧ !halted then s
  else if resuming then s.resumeTeam t (fun c => s.p Pid.drvOutFrac c)
  else s.startFade t (fractionOf use.level) (s.targetColour t use) (s.fadeTime t use (rung != rung0))

/-- A team fades to the colour that was held back when the shed step falls below 2 (R119). -/
def State.releaseColour (s : State) (t : Nat) : State :=
  match (s.td t).heldColour with
  | none => s
  | some g =>
    let use : Target := { s.targetOf t with ratio := g.ratio, cct := g.cct, duv := g.duv, ratios := g.ratios, fade := none, outside := g.outside }
    let rung := (((s.td t).taken).map (fun x => x.1)).getD 7
    let s := s.modTd t (fun d => { d with heldColour := none, taken := some (rung, use) })
    s.startFade t (fractionOf use.level) (s.targetColour t use) (s.p Pid.drvFadeReleaseMs t)

/-- The level that a CHANNEL override holds a channel at (R27, R247); none where rung 4 holds its team. -/
def State.overrideLevel (s : State) (ch : Nat) : Option Nat :=
  match s.teamAt ch with
  | some t => if s.teamRung t = 4 then none else (s.cd ch).taken
  | none => none

/-- The fade time of a channel whose override takes or loses hold (R29, R46): the time that the command carried,
the release time at a change of rung, otherwise down or up.  A FORCE that takes the channel carries its own. -/
def State.channelFadeTime (s : State) (t ch : Nat) (was now_ own : Option Nat) : Nat :=
  match now_ with
  | some level =>
    own.getD (if was.isNone then s.p Pid.drvFadeReleaseMs t
      else if fractionOf level < s.p Pid.drvOutFrac ch then s.p Pid.drvFadeDownMs t
      else s.p Pid.drvFadeUpMs t)
  | none => match (s.td t).taken with
    | some (4, g) => s.fadeTime t g true
    | _ => s.p Pid.drvFadeReleaseMs t

/-- A channel's override has taken, changed or lost its hold, by its own command or by rung 4 (R27, R29, R46,
R247): its fraction moves from where it is.  `was` held it before; `own` is the fade time that a new override
carried. -/
def State.moveOverride (s : State) (ch : Nat) (was own : Option Nat) : State :=
  let level := s.overrideLevel ch
  if level = was ∨ (((s.cd ch).glide.map (fun g => g.resume)).getD false) then s
  else match s.teamAt ch with
    | none => s
    | some t =>
      let steps := s.fadeSteps (ch / 32) (min 600000 (s.channelFadeTime t ch was level own))
      s.modCd ch (fun d => { d with glide := some ⟨s.p Pid.drvOutFrac ch, 0, steps, false⟩ })

/-! ### Channel fractions -/

/-- Fractions of a team's channels with the stage's output given: a channel override bypasses the stage
(R247), a glide moves towards the present target (R508). -/
def State.channelFraction (s : State) (t ch stage k : Nat) : Nat :=
  let d := s.cd ch
  let end_ := match d.taken with
    | some l => if s.teamRung t = 4 then stage else s.derated t (fractionOf l)
    | none => stage
  match d.glide with
  | none => end_
  | some g => curveAt (s.p Pid.drvFadeCurve t) g.from_ end_ (g.step + k) g.steps

/-- The fractions of a team's channels `k` period starts from now (R44); rung 2 stops fades (R55). -/
def State.fractionsAt (s : State) (t k : Nat) : List Nat :=
  let k := if (s.td t).halted || (s.bd (t / 32)).riding then 0 else k
  let x := s.fadeAt t k
  let out := s.colourStage t x.1 x.2
  ((s.chansOf t).zip out.fractions).map (fun c => s.channelFraction t c.1 c.2 k)

/-! ### The commanded amplitude (R40, R44) -/

/-- The crossover code of a team (R40). -/
def State.codeX (s : State) (t : Nat) : Nat := divUp (s.p Pid.drvXover t * 4095) 65535

/-- Amplitude of a fraction, rounded up, at most 4,095 (R40). -/
def ampUp (f : Nat) : Nat := min 4095 (divUp (f * 4095) 16777216)

/-- Amplitude of a fraction in amplitude-only mode, rounded half up (R40). -/
def ampRound (f : Nat) : Nat := min 4095 (divRound (f * 4095) 16777216)

/-- Period starts of a bank from now up to instant `x`. -/
def State.startsBy (s : State) (b x : Nat) : Nat :=
  let n := s.nextPeriod b
  if x < n then 0 else (x - n) / (s.bd b).period + 1

/-- The first period start of a lane at or after instant `x` (R35). -/
def State.laneFrom (s : State) (ch x : Nat) : Nat :=
  let d := s.bd (ch / 32)
  let first : Int := s.nextPeriod (ch / 32) + lanePhase (ch % 32) d.period d.stagger
  x + (Int.emod (first - x) d.period).toNat

/-- E + 4.0 µs of the scan that starts now (R43, R126). -/
def State.epochFrom (s : State) : Nat := s.now + ofNs 50120

/-- The amplitude in force, or the last one sent, is none that lights the lane by itself (R41, R43). -/
def State.laneDark (s : State) (ch : Nat) : Bool :=
  let d := s.cd ch
  match d.queued, d.sent with
  | some a, _ => a.amp == 0 || a.dark
  | none, some a => a.amp == 0 || a.dark
  | none, none => s.p Pid.drvOutAmp ch == 0 || d.darkAmp

/-- The last amplitude sent carries a dark pulse only. -/
def State.darkSent (s : State) (ch : Nat) : Bool :=
  let d := s.cd ch
  match d.queued, d.sent with
  | some a, _ => a.dark
  | none, some a => a.dark
  | none, none => d.darkAmp

/-- A scan that starts now is the one whose epoch precedes a channel's dark pulse in amplitude-only mode: the
pulse's period begins between E + 4.0 µs of this scan and of the next (R96). -/
def State.darkScan (s : State) (ch : Nat) : Bool :=
  match (s.diag.channels.get ch).grant with
  | some g => g.dark && !s.darkSent ch && decide (s.laneFrom ch (max g.from_ s.epochFrom) < s.epochFrom + 1000 * us)
  | none => false

/-- The commanded amplitude of a channel in amplitude-only mode: round(F_e × 4,095 / 2²⁴) with F_e its fraction at
its own amplitude epoch (R40, R43).  A dark lane, or one that leaves another mode, has its epoch at the first
period start that lights it; a lane that stays high, or stays dark, at E + 4.0 µs + T. -/
def State.epochAmp (s : State) (t ch : Nat) : Nat :=
  let b := t / 32
  let at_ := fun (x : Nat) => ampRound ((s.fractionsAt t (s.startsBy b x)).getD (ch - t) 0)
  let early := at_ (s.laneFrom ch s.epochFrom)
  if 0 < early ∧ (s.laneDark ch || (s.cd ch).mode != 1) then early else at_ (s.epochFrom + (s.bd b).period)

/-- The commanded amplitude that a scan starting now sends for each channel of a team (R40, R44, R45), and
whether it is only for a dark pulse (R96).  The mode is the one set, which the amplitude's epoch puts in force.
F_max runs from the lane's first period start at or after E + 4.0 µs to the latest epoch of the next scan, within
H. -/
def State.teamAmps (s : State) (t : Nat) : List (Nat × Bool) :=
  let b := t / 32
  let pi := (s.bd b).period
  let chans := s.chansOf t
  match s.p Pid.drvDimMode t with
  | 0 => chans.map (fun _ => (s.p Pid.drvPwmAmp t, false))
  | 1 => chans.map (fun c =>
      let a := s.epochAmp t c
      if a == 0 && s.darkScan c then (s.codeX t, true) else (a, false))
  | _ =>
    let first := s.startsBy b s.epochFrom
    let last := s.startsBy b (min (s.now + ofNs 1004000 + 2 * pi) (s.epochFrom + 1000 * us + pi))
    let rows := (List.range (min 64 (last + 1 - first))).map (fun k => s.fractionsAt t (first + k))
    (chans.zipIdx).map (fun x =>
      let own := rows.drop (s.startsBy b (s.laneFrom x.1 s.epochFrom) - first)
      (max (s.codeX t) (ampUp (own.foldl (fun m r => max m (r.getD x.2 0)) 0)), false))

end Sys2Proof.Machine
end

