-- ==== Sys2Proof/Machine/GraphImage.lean ====
section
/-! DEFINITION.  Graph images: the cell types of R172, the layout of R156, the checks of R157 and R158, and the
journal's changes (R183, R186). -/

namespace Sys2Proof.Machine

open Sys2Proof

/-! ### Cell types (R172) -/

abbrev cellIn : Nat := 0x01
abbrev cellPub : Nat := 0x02
abbrev cellMux : Nat := 0x31
abbrev cellHyst : Nat := 0x38
abbrev cellEdge : Nat := 0x39
abbrev cellTon : Nat := 0x40
abbrev cellTof : Nat := 0x41
abbrev cellTp : Nat := 0x42
abbrev cellPi : Nat := 0x48
abbrev cellSched : Nat := 0x50
abbrev cellCal : Nat := 0x51
abbrev cellZoneAgg : Nat := 0x58
abbrev cellPresence : Nat := 0x60
abbrev cellOutrider : Nat := 0x61
abbrev cellDaylight : Nat := 0x62
abbrev cellTeamOut : Nat := 0x70
abbrev cellMeterRead : Nat := 0x78
abbrev cellAlarm : Nat := 0x79

/-- A row of the cell library: least and most input ports, output ports, whether it runs every cycle, the
range of each type constant, and which of them are structural (R172, R183). -/
structure CellType where
  least : Nat
  most : Nat
  outs : Nat
  every : Bool
  consts : List (Int × Int)
  structural : List Nat
  deriving DecidableEq, Repr

/-- A type of fixed ports. -/
def fixedType (ins outs : Nat) (every : Bool) (consts : List (Int × Int)) (structural : List Nat := []) :
    Option CellType := some ⟨ins, ins, outs, every, consts, structural⟩

abbrev anyS32 : Int × Int := (-2147483648, 2147483647)

/-- The cell library (R172; ranges from R173 to R177, R217 and R373). -/
def cellType (code : Nat) : Option CellType :=
  match code with
  | 0x01 => fixedType 0 2 true [anyS32, (0, 2147483647), anyS32] [0]
  | 0x02 => fixedType 1 1 false [(0, 255)]
  | 0x10 => some ⟨1, 4, 1, false, [], []⟩
  | 0x11 => fixedType 2 1 false []
  | 0x12 => fixedType 2 1 false [(0, 31)]
  | 0x13 => fixedType 2 1 false [(0, 31)]
  | 0x14 => some ⟨1, 12, 1, false, [], []⟩
  | 0x15 => some ⟨1, 12, 1, false, [], []⟩
  | 0x16 => fixedType 3 1 false []
  | 0x20 => some ⟨1, 12, 1, false, [], []⟩
  | 0x21 => some ⟨1, 12, 1, false, [], []⟩
  | 0x22 => fixedType 2 1 false []
  | 0x23 => fixedType 1 1 false []
  | 0x28 => fixedType 2 1 false [(0, 5)]
  | 0x30 => fixedType 3 1 false []
  | 0x31 => some ⟨2, 12, 1, false, [], []⟩
  | 0x38 => fixedType 3 1 false []
  | 0x39 => fixedType 1 1 false [(0, 2)]
  | 0x40 => fixedType 2 2 true []
  | 0x41 => fixedType 2 2 true []
  | 0x42 => fixedType 2 2 true []
  | 0x48 => fixedType 4 1 true [anyS32, anyS32, anyS32, anyS32]
  | 0x50 => fixedType 0 3 true [(0, 255)] [0]
  | 0x51 => fixedType 0 3 true []
  | 0x58 => some ⟨1, 12, 2, false, [(0, 4), anyS32], []⟩
  | 0x60 => fixedType 0 4 true [(0, 511)] [0]
  | 0x61 => fixedType 2 2 true [(0, 511)] [0]
  | 0x62 => fixedType 4 1 true [(0, 511), (0, 2147483647), (0, 10000), (1, 65535), (0, 65535)] [0]
  | 0x70 => fixedType 8 1 false [(0, 767), (0, 1)] [0, 1]
  | 0x78 => fixedType 0 2 true [(0, 511), (1, 512)]
  | 0x79 => fixedType 1 1 false [(0x80, 0xFF), (0, 4), (0, 63)]
  | _ => none

/-- Type constant `k` of a cell. -/
def CellDesc.const (d : CellDesc) (k : Nat) : Int := d.consts.getD k 0

/-- The cell is of a type. -/
def CellDesc.is (d : CellDesc) (type_ : Nat) : Bool := d.type_ == type_

/-- The cell is a timer. -/
def CellDesc.timer (d : CellDesc) : Bool := decide (cellTon ≤ d.type_ ∧ d.type_ ≤ cellTp)

/-- The structural constants of a cell (R183). -/
def CellDesc.structural (d : CellDesc) : List Int :=
  (((cellType d.type_).map (fun y => y.structural)).getD []).map d.const

/-- The parameter element an IN cell names (R170). -/
def CellDesc.source (d : CellDesc) : Nat × Nat :=
  let w := wordI (d.const 0)
  (bits w 15 0, bits w 31 16)

/-! ### Layout (R156) -/

/-- The input port of two words, and whether its reserved bits are as R156 says. -/
def parsePort (a c : Word) : InPort × Bool :=
  (⟨bit a 31, bit a 30, bits a 29 17, bits a 16 15, c.toInt⟩,
   bits a 14 0 == 0 && (bit a 31 || !bit a 30))

/-- Input ports of port words. -/
def parsePorts : List Word → List (InPort × Bool)
  | a :: c :: rest => parsePort a c :: parsePorts rest
  | _ => []

/-- Descriptors of image words, each with whether its reserved bits and port count are in order, and the
first cell whose words are missing or left over. -/
def parseCells : Nat → Nat → List Word → List (CellDesc × Bool) × Option Nat
  | 0, _, [] => ([], none)
  | 0, i, _ :: _ => ([], some i)
  | n + 1, i, sid :: w1 :: rest =>
    let k := bits w1 21 18
    let outs := bits w1 17 16 + 1
    let nc := bits w1 15 8
    if rest.length < 2 * k + nc + outs then ([], some i)
    else
      let ports := parsePorts (rest.take (2 * k))
      let d : CellDesc := {
        sid := sid.toNat, type_ := bits w1 31 24, prio := bits w1 23 22,
        ports := ports.map (fun p => p.1),
        consts := ((rest.drop (2 * k)).take nc).map (fun w => w.toInt),
        inits := ((rest.drop (2 * k + nc)).take outs).map (fun w => w.toInt) }
      let more := parseCells n (i + 1) (rest.drop (2 * k + nc + outs))
      ((d, bits w1 7 0 == 0 && decide (k ≤ 12) && ports.all (fun p => p.2)) :: more.1, more.2)
  | _ + 1, i, _ => ([], some i)

/-- The cells of an image's words, header and CRC included. -/
def imageCells (ws : List Word) : List CellDesc :=
  (parseCells (nth ws 0).toNat 0 ((ws.drop 1).dropLast)).1.map (fun p => p.1)

/-- The words of a descriptor. -/
def CellDesc.words (d : CellDesc) : List Word :=
  let w1 := word (d.type_ * 2 ^ 24 + d.prio * 2 ^ 22 + d.ports.length * 2 ^ 18 + (d.inits.length - 1) * 2 ^ 16
    + d.consts.length * 2 ^ 8)
  let port := fun (p : InPort) =>
    [word (flag p.connected * 2 ^ 31 + flag p.delayed * 2 ^ 30 + p.producer * 2 ^ 17 + p.port * 2 ^ 15), wordI p.const]
  [word d.sid, w1] ++ d.ports.flatMap port ++ d.consts.map wordI ++ d.inits.map wordI

/-- The image of some cells: header word, descriptors, CRC (R155). -/
def encodeImage (ds : List CellDesc) : List Word :=
  let body := word ds.length :: ds.flatMap CellDesc.words
  body ++ [crc32 body]

/-- The CRC of an image, its last word; 0 for none. -/
def imageCrc (ws : List Word) : Word := ws.getLastD 0

/-- The number of edges (R157). -/
def edgeCount (ds : List CellDesc) : Nat := sumN (ds.map (fun d => (d.ports.filter (fun p => p.connected)).length))

/-! ### Checks (R157, R158) -/

/-- The most cells of a type, and the type constant that may not repeat within it (R157). -/
def typeLimit (code : Nat) : Option (Nat × Option Nat) :=
  if code = cellTeamOut then some (768, some 0)
  else if code = cellPresence ∨ code = cellOutrider ∨ code = cellDaylight then some (512, some 0)
  else if code = cellSched then some (256, some 0)
  else if code = cellPi then some (1024, none)
  else if code = cellAlarm then some (1024, none)
  else if code = cellMeterRead then some (64, none)
  else if code = cellPub then some (256, some 0)
  else none

/-- The relations between type constants (R175, R177). -/
def constsAgree (type_ : Nat) (cs : List Int) : Bool :=
  if type_ = cellPi then decide (cs.getD 2 0 ≤ cs.getD 3 0)
  else if type_ = cellMeterRead then decide (cs.getD 0 0 + cs.getD 1 0 ≤ 512)
  else true

/-- A limit of R157 is exceeded at cell `i`. -/
def overLimit (ds : List CellDesc) (i : Nat) (d : CellDesc) : Bool :=
  let before := ds.take i
  decide (32768 < edgeCount (before ++ [d])) && d.ports.any (fun p => p.connected) ||
  (match typeLimit d.type_ with
   | none => false
   | some (most, key) =>
     let same := before.filter (fun x => x.is d.type_)
     decide (most ≤ same.length) ||
       (match key with
        | none => false
        | some k => same.any (fun x => x.const k == d.const k)))

/-- Counts disagree with the type's row (R158). -/
def layoutWrong (d : CellDesc) (y : CellType) : Bool :=
  decide (d.ports.length < y.least) || decide (y.most < d.ports.length) || d.inits.length != y.outs ||
    d.consts.length != y.consts.length

/-- Cells that cell `i` waits for. -/
def waitsFor (d : CellDesc) : List Nat :=
  (d.ports.filter (fun p => p.connected && !p.delayed)).map (fun p => p.producer)

/-- Cells reached from a set over synchronous edges, in `n` rounds. -/
def reached (ds : List (Nat × List Nat)) : Nat → List Nat → List Nat
  | 0, set => set
  | n + 1, set =>
    let more := (ds.filter (fun d => !set.contains d.1 && d.2.any (fun p => set.contains p))).map (fun d => d.1)
    if more.isEmpty then set else reached ds n (set ++ more)

/-- Cell `i` lies on a directed cycle without a delayed edge (R155). -/
def onCycle (ds : List CellDesc) (i : Nat) : Bool :=
  let es := (ds.map waitsFor).zipIdx.map (fun d => (d.2, d.1))
  let next := (es.filter (fun d => d.2.contains i)).map (fun d => d.1)
  (reached es ds.length next).contains i

/-- The first fault of cell `i`, in the order of R158; `good` tells of its reserved bits. -/
def cellFault (ds : List CellDesc) (i : Nat) (d : CellDesc) (good : Bool) : Option Nat :=
  let y := cellType d.type_
  let bound := d.ports.all (fun p => !p.connected ||
    (match ds[p.producer]? with
     | some x => decide (p.port < x.inits.length)
     | none => false))
  if overLimit ds i d then some 2
  else if y.isNone then some 3
  else if !good || (y.map (layoutWrong d)).getD false then some 4
  else if !bound then some 5
  else if onCycle ds i then some 6
  else if d.sid = 0 ∨ d.sid = u32max ∨ ((ds.take i).any (fun x => x.sid == d.sid)) then some 7
  else if !(((d.consts.zip ((y.map (fun y => y.consts)).getD [])).all (fun c => decide (c.2.1 ≤ c.1) && decide (c.1 ≤ c.2.2)))
      && constsAgree d.type_ d.consts) then some 8
  else if d.is cellIn && !(((paramRow d.source.1).map (fun r => decide (d.source.2 < r.count))).getD false) then some 9
  else none

/-- The first fault among cells, in index order. -/
def firstFault (ds : List CellDesc) : Nat → List (CellDesc × Bool) → Option (Nat × Nat)
  | _, [] => none
  | i, (d, good) :: rest =>
    match cellFault ds i d good with
    | some e => some (e, i)
    | none => firstFault ds (i + 1) rest

/-- The check of an image (R158): prog.load_error and the first faulty cell; none for a valid image. -/
def imageFault (ws : List Word) : Option (Nat × Nat) :=
  if ws.length < 2 ∨ crc32 ws.dropLast ≠ imageCrc ws then some (1, 0)
  else if 8192 < (nth ws 0).toNat then some (2, 8192)
  else
    let p := parseCells (nth ws 0).toNat 0 ((ws.drop 1).dropLast)
    match firstFault (p.1.map (fun d => d.1)) 0 p.1 with
    | some f => some f
    | none => p.2.map (fun i => (4, i))

/-! ### Online changes (R183) -/

/-- A list with element `k` replaced. -/
def setNth {α : Type} (l : List α) (k : Nat) (a : α) : List α := l.set k a

/-- A descriptor with one constant changed. -/
def CellDesc.change (d : CellDesc) (typeConst : Bool) (k : Nat) (v : Int) : CellDesc :=
  if typeConst then { d with consts := d.consts.set k v }
  else { d with ports := d.ports.modify k (fun (p : InPort) => { p with const := v }) }

/-- The cells with journal entries applied in order (R186). -/
def applyJournal (ds : List CellDesc) (es : List JournalEntry) : List CellDesc :=
  es.foldl (fun ds e => ds.map (fun d => if d.sid = e.sid then d.change e.typeConst e.index e.value else d)) ds

end Sys2Proof.Machine
end

