-- ==== Sys2Proof/Machine/Read.lean ====
section
/-! DEFINITION.  The present value of every parameter (R255): most are elements of the
parameter store; the ones below are computed from the rest of the state. -/

namespace Sys2Proof.Machine

open Sys2Proof

/-- Packets of a port queue: the end marks it holds (R230). -/
def packetCount (q : List QueuedWord) : Nat := (q.filter (fun w => w.endMark)).length

/-- Seconds since an instant, saturating at 32 bits. -/
def State.secsSince (s : State) (a : Nat) : Nat := satU32 ((s.now - a) / sec)

/-- Milliseconds since an instant, saturating at 32 bits. -/
def State.msSince (s : State) (a : Nat) : Nat := satU32 ((s.now - a) / ms)

/-- How far an index lies behind the next one: the index wraps at 2³² (R364). -/
def State.indexAge (s : State) (i : Nat) : Nat := (s.p Pid.wbNextIndex + 2 ^ 32 - i) % 2 ^ 32

/-- The index of the oldest record stored, if any (R371, R375). -/
def State.oldestIndex (s : State) : Option Nat :=
  match s.waybill.general, s.waybill.critical with
  | [], [] => none
  | x :: _, [] => some x.index
  | [], y :: _ => some y.index
  | x :: _, y :: _ => some (if s.indexAge x.index < s.indexAge y.index then y.index else x.index)

/-- A switch-over is in progress (R437). -/
def State.switchingOver (s : State) : Bool :=
  s.p Pid.tdmState == 5 || (s.p Pid.tdmState == 6 && s.wheeler) || s.tandem.yielding.isSome || s.tandem.newLead

/-- sb.hold: the causes that hold writes back (R358, R361). -/
def State.holdBits (s : State) : Nat :=
  putBit (putBit (putBit (putBit (putBit 0 0 (decide (1 ≤ s.shed))) 1 (decide (3 ≤ s.shed)))
    2 (!s.d8On)) 3 (!s.storageUp)) 4 (s.flagOf Pid.sbHold 0 4)

/-- Why the switch waits (upd.wait_cause, R416). -/
def State.waitCause (s : State) : Nat :=
  flag ((List.range 16).any s.rung1) + 2 * flag (decide (2 ≤ s.shed)) + 4 * flag s.switchingOver + 8 * flag (s.pB Pid.sysOwnerLock)

/-- Slow-corner exit latency of each state, µs (R453). -/
def exitSlowUs : List Nat := [0, 91, 137, 647, 1047]

/-- Fast-corner exit latency of each state, µs (R453). -/
def exitFastUs : List Nat := [0, 65, 82, 264, 664]

/-- The ASN: slots of 10 ms by the free-running counter, corrected to the time source, 40 bits. -/
def State.asn (s : State) : Nat :=
  (Int.fdiv ((s.count : Int) * 40 + s.relay.phaseNs) 10000000).toNat % 2 ^ 40

/-- The number of the slotframe in progress (R314). -/
def State.slotframeNow (s : State) : Nat := s.asn / s.relay.config.slotframe

/-- The EU sub-bands of R317: lower and upper edge in kHz, and the air time in ms in 3,600 s. -/
def euSubBands : List (Nat × Nat × Nat) :=
  [(863000, 865000, 3600), (865000, 868000, 36000), (868000, 868600, 36000),
   (868700, 869200, 3600), (869400, 869650, 360000), (869700, 870000, 36000)]

/-- The accounting window and limit in µs (R317). -/
def State.airLimit (s : State) (band : Nat) : Nat × Nat :=
  if s.p Pid.idVariant = 0 then (3600, ((euSubBands.getD band (0, 0, 0)).2.2) * 1000) else (20, 400000)

/-- Air time used in the window, µs. -/
def State.airUsed (s : State) (band : Nat) : Nat :=
  let w := (s.airLimit band).1 * sec
  sumN ((s.relay.air.filter (fun a => a.band == band && decide (s.now < a.at_ + w))).map (fun a => a.dur))

/-! ### Readings of the whole module -/

/-- Any element of a table satisfies a test. -/
def State.anyElement (s : State) (id n : Nat) (f : Nat → Bool) : Bool := (List.range n).any (fun e => f (s.p id e))

/-- A bank's card is lost or refused, or its FLTn_N is low while it runs (R263). -/
def State.cardTrouble (s : State) (b : Nat) : Bool :=
  let k := s.p Pid.harnessState b
  k == 5 || k == 6 || (k == 4 && !(s.harness.banks.get b).fltHigh)

/-- sys.health (R263): each bit shows the present condition. -/
def State.health (s : State) : Nat :=
  let bits_ : List Bool := [
    s.anyElement Pid.diagState 512 (fun v => v == 3 || v == 4),
    (List.range 16).any s.cardTrouble,
    !s.spineLocked,
    (List.range 512).any (fun c => s.rung c == 1),
    decide (s.shed ≠ 0),
    (match s.power.overrunAt with
      | some a => decide (s.now < a + 60 * sec)
      | none => false),
    s.pB Pid.tdmEnable && !s.flagOf Pid.tdmStatus 0 2 && !s.flagOf Pid.tdmStatus 0 3,
    decide (s.p Pid.netRingMode ≤ 1) && !(s.flagOf Pid.netLink 0 0 && s.flagOf Pid.netLink 1 0),
    s.anyElement Pid.sbState 2 (fun v => v == 0 || v == 2 || v == 4),
    decide (s.p Pid.timeQuality = 4),
    decide (s.p Pid.sysSettingsState ≠ 0)]
  sumN (bits_.zipIdx.map (fun x => flag x.1 * 2 ^ x.2))

/-- drv.status of a bank (R58): the sticky bits of the store, the rest as it stands. -/
def State.driveStatus (s : State) (b : Nat) : Nat :=
  let k := s.p Pid.drvStatus b
  let pending : Bool := (List.range 32).any (fun i => (s.drive.channels.get (b * 32 + i)).sent.isSome)
  flag (s.domainOn (if b < 8 then 2 else 3)) + 2 * flag (!s.spineLocked) + 4 * flag (s.rung1 b) +
    8 * flag (s.bd b).riding + 16 * flag (k.testBit 4) + 32 * flag (k.testBit 5) + 64 * flag (s.bd b).test +
    128 * flag pending

/-- prog.state (R162, R167): 0 no graph, 1 running, 2 halted, 3 fault. -/
def State.progState (s : State) : Nat :=
  if s.prog.descs.isEmpty then 0
  else if s.wheeler ∨ s.power.asleep ∨ !s.domainOn 5 then 2
  else if (List.range 8).all (fun k => (s.prog.cores.get k).withdrawn) then 3
  else 1

/-- meter.power_mw (R74): the mean of V_j × Q_j / 1 ms over the last 1,000 intervals, rounded half up (DESIGN CHOICE,
assumption 93: the spec states no rounding). -/
def State.meanPowerMw (s : State) (ch : Nat) : Nat :=
  let total := Q.sum (s.sense.channels.get ch).powers
  satU32 ((total.div (Q.ofInt 1000000000000)).round).toNat

/-- Air time in ms used in the window of R317: EU sub-bands 0 to 5; at 6 the busiest channel of NA. -/
def State.airShown (s : State) (band : Nat) : Nat :=
  if s.p Pid.idVariant = 0 then (if band < 6 then s.airUsed band / 1000 else 0)
  else if band = 6 then ((List.range 129).map s.airUsed).foldl max 0 / 1000
  else 0

/-- Time spent in a power state since the last cold restart (R264). -/
def State.stateSeconds (s : State) (k : Nat) : Nat :=
  satU32 ((s.power.stateTime.get k + (if s.p Pid.pwrState = k then s.now - s.power.stateSince else 0)) / sec)

/-- Exit latency of a power state at the present operating point (R453): between its fast and slow figures. -/
def State.exitUs (s : State) (k : Nat) : Nat :=
  let a := exitFastUs.getD k 0
  a + Config.exitCorner k (s.p Pid.pwrCoreMv) % (exitSlowUs.getD k 0 - a + 1)

/-- A tamper input holds its active level while enabled (R394, R398). -/
def State.tamperActive (s : State) (i : Nat) : Bool := (s.vault.tamperSince.get i).isSome

/-- Marks of elements that a SET can write: those that sys.settings_pending counts; what the module alone writes it
records without a SET's mark (R259; DEDUCED, assumption 97). -/
def State.pendingMarks (s : State) : Nat :=
  (s.marked.filter (fun x => ((paramRow (x.1 / 65536)).map (fun r => decide (r.writeRole < 15))).getD false)).length

/-- The read-only team arrays: `diag.derate_factor`, `diag.team_temp`, `diag.derate_status`,
`colour.achieved_cct`, `colour.achieved_duv` and `colour.status` (R254). -/
def teamReadings : List Nat := [0x2025, 0x2026, 0x2027, 0x2443, 0x2444, 0x2445]

/-- Flags that a channel's record carries whatever happened in the minute: indicative on a class 1 bank (R75). -/
def State.classFlag (s : State) (ch : Nat) : Nat := if s.p Pid.meterClass (ch / 32) = 1 then 256 else 0

/-- Flags that every record of the open minute carries (R76, R77, R79). -/
def State.openFlags (s : State) : Nat := flag s.sense.partial_ ||| (if s.sense.takeover then 128 else 0)

/-- The colour stage has computed nothing for a team since the cold restart: its readings stand at their cold values
(R121). -/
def State.stageIdle (s : State) (t : Nat) : Bool := (s.td t).colour.isNone && (s.td t).lam == 0

/-- tdm.precedence (R419): the strap as sampled, or, in a strap conflict, what the module counts as (DEDUCED,
assumption 112). -/
def State.effectiveStrap (s : State) : Bool :=
  if s.flagOf Pid.tdmStatus 0 8 then decide (s.p64 Pid.idSerial 0 < s.p64 Pid.tdmPartnerSerial 0)
  else s.pB Pid.tdmPrecedence

/-- sys.temp_die (R262): the present junction temperature, a free value that the module measures. -/
def State.dieTemp (s : State) : Int := (Config.measured Pid.sysTempDie 0 s.now % 65536 : Nat) - 32768

/-- sys.temp_die_max (R262): the highest since cleared, the present one included. -/
def State.dieTempMax (s : State) : Int := max (s.pI Pid.sysTempDieMax) s.dieTemp

/-- sys.spine_err_ps (R14, R262): the largest error of the last second, a free value that the module measures; the
error of an unlock in that second is among those compared. -/
def State.spineError (s : State) : Nat :=
  let now := Config.measured Pid.sysSpineErrPs 0 s.now % 65536
  match s.unlockedAt with
  | some a => if a + sec ≤ s.now then now else max now (s.p Pid.sysSpineErrPs)
  | none => now

/-- Operating hours since they were last settled (R262). -/
def State.hoursOn (s : State) : Nat := (s.now - s.power.hoursFrom) / (3600 * sec)

/-- Time that a port has spent in low-power idle, ms (R282). -/
def State.lpiMs (s : State) (port : Nat) : Nat :=
  let k := s.net.ports.get port
  let present := match k.lpiSince with
    | some a => s.now - a
    | none => 0
  (k.lpiTime + present) / ms

/-- What element `e` of parameter `id` shows where its team, if it is of a team, exists. -/
def State.reading (s : State) (id e : Nat) : Word :=
  match id with
  | 0x0103 => word s.health
  | 0x0105 => s.w id e + word s.hoursOn
  | 0x010A => wordI s.dieTemp
  | 0x010B => wordI s.dieTempMax
  | 0x010D => word s.spineError
  | 0x010C => wordI ((Config.measured id e s.now % 65536 : Nat) - 32768)
  | 0x0116 => word (Config.measured id e s.now % 101)
  | 0x1023 => word (s.rung e)
  | 0x1024 => word (s.driveStatus e)
  | 0x1823 => word (s.meanPowerMw e)
  | 0x2015 => word (match (s.diag.channels.get e).evidence with
      | some a => s.msSince a
      | none => u32max)
  | 0x1824 => word (s.p id e ||| s.openFlags ||| s.classFlag e)
  | 0x2443 => word (if s.stageIdle e then 0 else (s.achieved e).1)
  | 0x2444 => wordI (if s.stageIdle e then 0 else max (-32768) (min 32767 (s.achieved e).2))
  | 0x2445 => word (putBit (s.p id e) 4 (s.flagOf id e 4 || (!s.stageIdle e && s.outOfGamut e)))
  | 0x3001 => word s.progState
  | 0x3002 => word s.prog.descs.length
  | 0x3003 => word (edgeCount s.prog.descs)
  | 0x3004 => imageCrc s.prog.active
  | 0x3026 => word s.prog.forces.length
  | 0x3029 => word (min 4096 (s.prog.written.length + s.prog.unwritten.length))
  | 0x302A => word (min 4096 s.prog.unwritten.length)
  | 0x302B => imageCrc s.prog.staged
  | 0x302C => imageCrc s.prog.previous
  | 0x302E => word s.prog.orphans.length
  | 0x382E => word s.presence.predictions.cells.length
  | 0x0104 => word (s.secsSince s.coldAt)
  | 0x0108 => word (s.count / 2 ^ 32)
  | 0x0109 => word (s.count % 2 ^ 32)
  | 0x0113 => word (min 65535 s.pendingMarks)
  | 0x8006 => word (flag s.effectiveStrap)
  | 0x4000 => word s.bridle.sessions.length
  | 0x4012 => word s.bridle.hostIn.length
  | 0x4013 => word s.bridle.hostOut.length
  | 0x4014 => word (packetCount s.bridle.hostIn)
  | 0x4015 => word (packetCount s.bridle.hostOut)
  | 0x4016 => word (putBit (putBit 0 0 s.bridle.hostInDrain) 1 s.bridle.hostOutDrain)
  | 0x4814 => word s.net.nodes.length
  | 0x4815 => word s.net.arp.length
  | 0x480E => word (s.lpiMs e)
  | 0x9005 =>
    let n := (s.p64 id (e / 2) + s.bitsSent (e / 2)) % 2 ^ 64
    word (if e % 2 = 0 then n / 2 ^ 32 else n % 2 ^ 32)
  | 0x5003 => wordI (satS32 (ratePpb s.time.clock.rate))
  | 0x5005 => word (match s.time.holdoverSince with
      | some a => s.secsSince a
      | none => 0)
  | 0x5040 =>
    let c := s.calNow.1
    word (bcd ([c.century, c.year, c.month, c.day, c.weekday, c.hour, c.minute, c.second].getD e 0))
  | 0x5041 => word (putBit (s.p id e) 3 s.irregular)
  | 0x5043 => word ((s.time.rtcTicks + s.ticksSince s.time.ticksAt) / (if e = 0 then 2 ^ 32 else 1) % 2 ^ 32)
  | 0x5813 => word (match s.relay.permitUntil with
      | some u => divUp (u - s.now) sec
      | none => 0)
  | 0x5815 => word (if e = 0 then s.asn / 2 ^ 32 else s.asn % 2 ^ 32)
  | 0x5845 => word (s.airShown e)
  | 0x5836 => word (match (s.relay.nodes.get e).heard with
      | some a => s.msSince a
      | none => u32max)
  | 0x6013 => word s.holdBits
  | 0x6026 => word (min 65535 (s.storage.cassettes.get e).families.length)
  | 0x6029 => word s.storage.archive.length
  | 0x6800 => word (s.waybill.general.length + s.waybill.critical.length)
  | 0x6801 => word (flag s.waybill.frozenSince.isSome)
  | 0x6802 => word s.waybill.staged.length
  | 0x6804 => word (s.oldestIndex.getD (s.p Pid.wbNextIndex))
  | 0x6805 => word s.waybill.hold.length
  | 0x7009 => word (s.p id e % 4 + 4 * flag (s.tamperActive 0) + 8 * flag (s.tamperActive 1))
  | 0x780A => word (match s.update.probationEnd with
      | some a => divUp (a - s.now) sec
      | none => 0)
  | 0x7814 => word s.waitCause
  | 0x8003 => word (putBit (putBit (s.p id e) 0 s.tandem.pole) 5
      (s.drive.channels.cells.any (fun c => c.2.realign != 0)))
  | 0x801B => word (s.secsSince s.tandem.roleSince)
  | 0x8803 => word (s.exitUs e)
  | 0x880C => word (Config.measured id e s.now % 65536)
  | 0x880D => word (Config.measured id e s.now % 65536)
  | 0x8811 => word s.power.domains
  | 0x8812 => word (Config.measured id e s.now % 65536)
  | 0x8813 => word (Config.measured id e s.now % 65536)
  | 0x8814 => word (s.stateSeconds e)
  | 0x9000 => word (bitSet ((List.range 16).filter (fun b => (s.bd b).test)))
  | 0x9001 => word (s.test.links.cells.filter (fun x => x.2.running)).length
  | _ => s.w id e

/-- The present value of element `e` of parameter `id`, as its word (R246, R255).  A read-only element of a
team array at an index that begins no team reads its cold reset value (R254). -/
def State.read (s : State) (id e : Nat) : Word :=
  if teamReadings.contains id ∧ (s.td e).size = 0 then defaultWord id e else s.reading id e

end Sys2Proof.Machine
end

