-- ==== Sys2Proof/Machine/Events.lean ====
section
/-! DEFINITION.  Raising, limiting, storing, holding and staging waybill records (R363 to R370):
the shared operations every chapter uses to write a record. -/

namespace Sys2Proof.Machine

open Sys2Proof

/-! ### Severities and codes (R363, R373) -/

abbrev sevInfo : Nat := 0
abbrev sevNotice : Nat := 1
abbrev sevWarning : Nat := 2
abbrev sevFault : Nat := 3
abbrev sevCritical : Nat := 4

/-- Severity of a module code (R373); codes 0x1E and 0x27 have two severities and name theirs
when raised. -/
def codeSeverity (code : Nat) : Nat :=
  if code ∈ [0x07, 0x08, 0x09, 0x25] then sevCritical
  else if code ∈ [0x0B, 0x0C, 0x0F, 0x14, 0x17, 0x18, 0x19] then sevFault
  else if code ∈ [0x02, 0x0A, 0x10, 0x15, 0x16, 0x1B, 0x1F, 0x24, 0x26, 0x29, 0x2A] then sevWarning
  else if code = 0x12 then sevInfo
  else sevNotice

/-- The measures of the waybill matrix (R376). -/
inductive WbMeasure where
  | raised | suppressed | stored | lost | overwritten
  deriving DecidableEq, Repr

def WbMeasure.index : WbMeasure → Nat
  | .raised => 0
  | .suppressed => 1
  | .stored => 2
  | .lost => 3
  | .overwritten => 4

/-- Count one measure of a code: in the matrix, or in wb.alarm_stats for ALARM-cell codes. -/
def State.wbCount (s : State) (code : Nat) (m : WbMeasure) : State :=
  if 0x80 ≤ code then s.bump Pid.wbAlarmStats ((code - 0x80) * 5 + m.index)
  else s.bump (0x6900 + 0x10 * (code - 1) + m.index) 0

/-! ### Forming a record (R364 to R366) -/

/-- Tokens are counted in units of 1/`tokenUnit`: the spine steps of an hour (R366). -/
abbrev tokenUnit : Nat := 2880000000000

/-- The level of a code's bucket at the present instant (R366). -/
def State.tokens (s : State) (code : Nat) : Nat :=
  let cap := s.p Pid.wbRateBurst code * tokenUnit
  match s.waybill.buckets.get code with
  | none => cap
  | some b => min cap (b.level + s.p Pid.wbRatePerH code * (s.now - b.stamp))

/-- Codes 0x01 and 0x02 and a burst of 0 are not limited (R366). -/
def State.unlimited (s : State) (code : Nat) : Bool :=
  code == 1 || code == 2 || s.p Pid.wbRateBurst code == 0

/-- The entries of a snapshot set with their present values, in entry order (R365). -/
def State.snapshotEntries (s : State) (set : Nat) : List (Nat × Nat × Word) :=
  (List.range 16).filterMap (fun k =>
    let w := s.w Pid.wbSnapset (set * 16 + k)
    if w = 0xFFFFFFFF then none
    else some (bits w 31 16, bits w 15 0, s.read (bits w 31 16) (bits w 15 0)))

/-- The record of an event raised now (R363, R364). -/
def State.formRecord (s : State) (code severity set : Nat) (a b : Word) : EventRecord :=
  let c := s.calNow
  { code := code, severity := severity, staged := false, held := false,
    suppressed := s.p Pid.wbSuppressed code, index := 0, date := calDateWord c.1,
    time := calTimeWord c.1 c.2, quality := s.p Pid.timeQuality,
    irregular := s.irregular, snapset := set, detailA := a, detailB := b,
    entries := s.snapshotEntries set }

/-! ### Storing (R367) -/

/-- Set bit `k` of cmd.hp_event (R249). -/
def State.hpEvent (s : State) (k : Nat) : State := s.setFlag Pid.cmdHpEvent 0 k true

/-- A record that passed the limit and is lost returns its suppressed count plus 1 (R366). -/
def State.loseRecord (s : State) (r : EventRecord) : State :=
  (s.wbCount r.code .lost).setP Pid.wbSuppressed r.code
    (min 65535 (s.p Pid.wbSuppressed r.code + r.suppressed + 1))

abbrev generalCapacity : Nat := 12951552
abbrev criticalCapacity : Nat := 417792

/-- The list without the first record that satisfies `f`, and that record. -/
def takeFirst (f : EventRecord → Bool) : List EventRecord → Option (EventRecord × List EventRecord)
  | [] => none
  | r :: rest =>
    if f r then some (r, rest)
    else match takeFirst f rest with
      | some (x, rest') => some (x, r :: rest')
      | none => none

/-- Append a record to its area under the next index (R364, R367). -/
def State.appendRecord (s : State) (r : EventRecord) : State :=
  let r := { r with index := s.p Pid.wbNextIndex }
  let s := (s.bump Pid.wbNextIndex).wbCount r.code .stored
  let s := if sevFault ≤ r.severity then s.hpEvent 1 else s
  let wb := s.waybill
  if r.severity = sevCritical then { s with waybill := { wb with critical := wb.critical ++ [r] } }
  else { s with waybill := { wb with general := wb.general ++ [r] } }

/-- Store a record in its area, under the overwrite rule (R367). -/
def State.storeRecord (s : State) (r : EventRecord) : State :=
  if r.severity = sevCritical then
    if s.waybill.critical.length < criticalCapacity then s.appendRecord r
    else (s.loseRecord r).bump Pid.wbCritDropped
  else if s.waybill.general.length < generalCapacity then s.appendRecord r
  else
    match takeFirst (fun x => decide (x.severity ≤ r.severity)) s.waybill.general with
    | some (x, rest) =>
      ({ s.wbCount x.code .overwritten with waybill := { s.waybill with general := rest } }).appendRecord r
    | none => (s.loseRecord r).bump Pid.wbNoRoom

/-- Storage can take a record of this severity now (R358, R368): D8 on, a cassette in service,
and no shed step that holds records of its severity. -/
def State.takesRecord (s : State) (severity : Nat) : Bool :=
  s.d8On && s.storageUp && (decide (s.shed < 3) || decide (sevFault ≤ severity))

/-- Put a record into the hold buffer of 512 (R368). -/
def State.holdRecord (s : State) (r : EventRecord) : State :=
  let r := { r with held := true }
  if s.waybill.hold.length < 512 then
    { s with waybill := { s.waybill with hold := s.waybill.hold ++ [r] } }
  else
    match takeFirst (fun x => decide (x.severity ≤ r.severity)) s.waybill.hold with
    | some (x, rest) =>
      { s.loseRecord x with waybill := { s.waybill with hold := rest ++ [r] } }
    | none => s.loseRecord r

/-- Store what the hold buffer may now release, oldest first (R358, R368). -/
def State.releaseHeld (s : State) : State :=
  if s.waybill.frozenSince.isSome then s
  else
    let rs := s.waybill.hold
    let s := { s with waybill := { s.waybill with hold := rs.filter (fun r => !s.takesRecord r.severity) } }
    (rs.filter (fun r => s.takesRecord r.severity)).foldl State.storeRecord s

/-- Store a record, after those that waited, or hold it while storage cannot take it (R367,
R368). -/
def State.placeRecord (s : State) (r : EventRecord) : State :=
  if s.takesRecord r.severity then s.releaseHeld.storeRecord r else s.holdRecord r

/-! ### Staging (R370) -/

/-- The list without its last record that satisfies `f`, and that record. -/
def takeLast (f : EventRecord → Bool) (rs : List EventRecord) :
    Option (EventRecord × List EventRecord) :=
  (takeFirst f rs.reverse).map (fun p => (p.1, p.2.reverse))

/-- Count a record lost to a full staging buffer. -/
def State.loseStaged (s : State) (r : EventRecord) : State :=
  let s := (s.loseRecord r).bump Pid.wbStageLost
  { s with waybill := { s.waybill with lostInFreeze := s.waybill.lostInFreeze + 1 } }

/-- Stage a record while the waybill is frozen (R370). -/
def State.stageRecord (s : State) (r : EventRecord) : State :=
  let r := { r with staged := true }
  if s.waybill.staged.length < 256 then
    { s with waybill := { s.waybill with staged := s.waybill.staged ++ [r] } }
  else if r.severity = sevCritical then
    match takeLast (fun x => decide (x.severity ≠ sevCritical)) s.waybill.staged with
    | some (x, rest) =>
      let s := s.loseStaged x
      { s with waybill := { s.waybill with staged := rest ++ [r] } }
    | none => s.loseStaged r
  else s.loseStaged r

/-- A formed record goes to the staging buffer while frozen, else to storage (R367 to R370). -/
def State.keepRecord (s : State) (r : EventRecord) : State :=
  if s.waybill.frozenSince.isSome then s.stageRecord r else s.placeRecord r

/-- Raise an event with a severity and a snapshot set of its own, whatever waits to be told first. -/
def State.raiseNow (s : State) (code severity set : Nat) (a b : Word) : State :=
  let s := s.wbCount code .raised
  let form := fun (s : State) =>
    let r := s.formRecord code severity set a b
    (s.setP Pid.wbSuppressed code 0).keepRecord r
  if s.unlimited code then form s
  else
    let level := s.tokens code
    if tokenUnit ≤ level then
      form { s with waybill := { s.waybill with
        buckets := s.waybill.buckets.set code (some ⟨level - tokenUnit, s.now⟩) } }
    else (s.wbCount code .suppressed).bumpSat 65535 Pid.wbSuppressed code

/-- After a restart by an event that ended a freeze, one WB_LOST record with the count comes before any other
(R203, R370). -/
def State.tellLost (s : State) : State :=
  match s.waybill.lostAtRestart with
  | some n =>
    let s := { s with waybill := { s.waybill with lostAtRestart := none } }
    s.raiseNow 0x02 (codeSeverity 0x02) (s.p Pid.wbCodeSnap 0x02) (word n) 1
  | none => s

/-- Raise an event with a severity and a snapshot set of its own (R364, R366, R373). -/
def State.raiseWith (s : State) (code severity set : Nat) (a b : Word) : State :=
  s.tellLost.raiseNow code severity set a b

/-- Raise an event of a module code with its own severity (R373). -/
def State.raise (s : State) (code : Nat) (a b : Nat := 0) : State :=
  s.raiseWith code (codeSeverity code) (s.p Pid.wbCodeSnap code) (word a) (word b)

/-- Raise an event of a module code with two severities (R373: 0x1E, 0x27). -/
def State.raiseAs (s : State) (code severity : Nat) (a b : Nat := 0) : State :=
  s.raiseWith code severity (s.p Pid.wbCodeSnap code) (word a) (word b)

/-- MODE_ADJUSTED: the two axes of R33, by row 1 to 11 of the mode-axis table. -/
def State.modeAdjusted (s : State) (axis other : Nat) : State := s.raise 0x06 axis other

/-- Store staged records in staging order, then one WB_LOST record when any were lost, and end
the freeze (R369, R370). -/
def State.releaseFreeze (s : State) : State :=
  let rs := s.waybill.staged
  let lost := s.waybill.lostInFreeze
  let s := { s with waybill := { s.waybill with staged := [], frozenSince := none, lostInFreeze := 0 } }
  let s := rs.foldl State.placeRecord s
  if lost = 0 then s else s.raise 0x02 lost 0

end Sys2Proof.Machine
end

