-- ==== Sys2Proof/Machine/Crypto.lean ====
section
/-! DEFINITION.  Key use: the commit cells that decide a slot (R377), the checks before each
operation (R381), derivation (R383), proofs and tags (R391), and the statistics of R399. -/

namespace Sys2Proof.Machine

open Sys2Proof

/-- The KDF of R383: block i, from 1, is the CMAC over [i]₈ ‖ label ‖ 0x00 ‖ context ‖ [L]₁₆;
the first `len` bits of the blocks, as a number. -/
def kdf (key : Nat) (label context : List Nat) (len : Nat) : Nat :=
  let n := divUp len 128
  let all := (List.range n).foldl (fun acc i =>
    acc * 2 ^ 128 +
      Config.cmac key ([i + 1] ++ label ++ [0] ++ context ++ octetsOfNat 2 len) % 2 ^ 128) 0
  all >>> (128 * n - len)

/-- The check value of a key: the first 32 bits of the encryption of the all-zero block
(R379). -/
def keyCheck (key : Nat) : Word := word ((Config.aesBlock key 0 % 2 ^ 128) >>> 96)

/-- The fields of an attribute word (R380). -/
def attrKind (a : Word) : Nat := bits a 31 28
def attrRole (a : Word) : Nat := bits a 27 24
def attrLength (a : Word) : Nat := bits a 23 22
def attrParent (a : Word) : Nat := bits a 21 16
def attrMaster (a : Word) (m : Nat) : Bool := bit a (11 + m)
def attrSecure (a : Word) : Bool := bit a 10
def attrNormal (a : Word) : Bool := bit a 9
def attrState (a : Word) (st : Nat) : Bool := bit a (4 + st)

/-- The commit cell that decides a slot: the one of the higher generation (R377). -/
def KeySlot.cell (k : KeySlot) : Option CommitCell :=
  match k.cell0, k.cell1 with
  | none, none => none
  | some c, none => some c
  | none, some c => some c
  | some a, some b => if a.generation < b.generation then some b else some a

/-- The key in force in a slot (R377). -/
def KeySlot.key (k : KeySlot) : Option Nat :=
  match k.cell with
  | none => none
  | some c => if c.halfB then k.halfB else k.halfA

/-- State of a slot: 0 empty, 1 valid, 2 orphaned, 3 invalid, 4 destroyed (R378). -/
def State.slotState (s : State) (k : Nat) : Nat := s.p Pid.keySlotState k

/-- The key of a slot that may be used (R378: only a valid key). -/
def State.slotKey (s : State) (k : Nat) : Option Nat :=
  if s.slotState k == 1 then (s.vault.slots.get k).key else none

/-- Attribute word of a slot (R380). -/
def State.slotAttr (s : State) (k : Nat) : Word := s.w Pid.keySlotAttr k

/-- The life-cycle state (R393): 0 Blank, 1 Field, 2 Locked, 3 Service, 4 Scrapped. -/
def State.lifecycle (s : State) : Nat := s.p Pid.idLifecycle

/-- The operations of R399. -/
inductive KeyOp where
  | open_ | prove | tagCheck | tagMake | ccmDec | ccmEnc | beacon | hitch | kdf | wrap | unwrap
  | load | invalidate | lifecycle | tdmFrame | image
  deriving DecidableEq, Repr

def KeyOp.index : KeyOp → Nat
  | .open_ => 0 | .prove => 1 | .tagCheck => 2 | .tagMake => 3 | .ccmDec => 4 | .ccmEnc => 5
  | .beacon => 6 | .hitch => 7 | .kdf => 8 | .wrap => 9 | .unwrap => 10 | .load => 11
  | .invalidate => 12 | .lifecycle => 13 | .tdmFrame => 14 | .image => 15

/-- Count measure `m` of a key operation for a master (R399). -/
def State.keyCount (s : State) (op : KeyOp) (m master : Nat) : State :=
  s.bump (0x7100 + 0x10 * op.index + m) master

/-- Count one AES operation of a master on a slot (R397, R399); the time an AES unit is busy with it lies within R392
and is not given as a number (assumption 107). -/
def State.keyUse (s : State) (op : KeyOp) (master slot : Nat) : State :=
  let s := (s.keyCount op 0 master).bump Pid.keyAesOps master
  let s := s.bump (0x7108 + 0x10 * op.index) master (Config.measured (0x7108 + 0x10 * op.index) master s.now)
  if slot < 64 then s.bump Pid.keySlotUses slot else s

/-- The four checks of R381 in order: whether the operation is refused, and its count. -/
def State.vaultCheck (s : State) (op : KeyOp) (slot master : Nat) (secure : Bool) : Bool × State :=
  let a := s.slotAttr slot
  if s.slotState slot != 1 then
    (false, s.keyCount op (if s.slotState slot == 2 then 5 else 6) master)
  else if !attrMaster a master then
    (false, (s.keyCount op 2 master).bump Pid.keyAttrRefusals master)
  else if !(if secure then attrSecure a else attrNormal a) then (false, s.keyCount op 3 master)
  else if !attrState a s.lifecycle then (false, s.keyCount op 4 master)
  else (true, s)

/-- Octets of a label of four ASCII letters. -/
def labelProof : List Nat := [0x42, 0x52, 0x50, 0x46]
def labelSession : List Nat := [0x42, 0x52, 0x53, 0x4B]
def labelWrap : List Nat := [0x4B, 0x57, 0x52, 0x50]
def labelUpdate : List Nat := [0x55, 0x50, 0x44, 0x4B]
def labelNetwork : List Nat := [0x52, 0x4E, 0x57, 0x4B]
def labelTandem : List Nat := [0x54, 0x44, 0x4D, 0x4B]
def labelJoin : List Nat := [0x52, 0x4A, 0x4E, 0x4B]

/-- ctx of R391: session identifier, role, client nonce, module nonce. -/
def sessionContext (sid role : Nat) (client module_ : List Word) : List Nat :=
  octetsOfNat 2 sid ++ [role] ++ client.flatMap octetsOf ++ module_.flatMap octetsOf

/-- The proof of SESSION_PROVE (R391): eight words, zeros for slot 0xFF. -/
def Session.proof (k : Session) (slotKey : Nat) : List Word :=
  if k.slot = 0xFF then List.replicate 8 0
  else wordsOfNat 8 (kdf slotKey labelProof
    (sessionContext k.id k.role k.clientNonce k.moduleNonce) 256)

/-- The tag of R223 under a session key: the first 64 bits of the CMAC over the words before
it (R391). -/
def tagWords (key : Nat) (ws : List Word) : List Word :=
  wordsOfNat 2 ((Config.cmac key (ws.flatMap octetsOf) % 2 ^ 128) >>> 64)

end Sys2Proof.Machine
end

