-- ==== Sys2Proof/Machine/Bridle.lean ====
section
/-! DEFINITION.  The bridle protocol: packet layout (R223, R224), the checks of R226, sequences
(R242), tickets (R243 to R245) and the host and service port queues (R228 to R236). -/

namespace Sys2Proof.Machine

open Sys2Proof

/-! ### Packets (R223) -/

/-- Header fields of a packet's words. -/
structure Header where
  word0 : Word
  session : Nat
  seq : Nat
  opcode : Nat
  ticket : Nat
  length : Nat
  deriving DecidableEq, Repr

/-- The header of a list of words. -/
def headerOf (ws : List Word) : Header :=
  { word0 := nth ws 0, session := bits (nth ws 1) 31 16, seq := bits (nth ws 1) 15 0,
    opcode := bits (nth ws 2) 31 24, ticket := bits (nth ws 2) 23 16, length := bits (nth ws 2) 15 0 }

/-- A: an authentication tag follows the payload. -/
def Header.tagged (h : Header) : Bool := bit h.word0 18

/-- The data words of a packet. -/
def Packet.data (p : Packet) : List Word := p.words.map (fun w => w.data)

/-- Check 1 of R226: word 0 begins with 0xB7, the reply bit is 0, and three words are present and
not poisoned. -/
def Packet.headed (p : Packet) : Bool :=
  decide (3 ≤ p.words.length) && (p.words.take 3).all (fun w => !w.poison) &&
  bits (nth p.data 0) 31 24 == 0xB7 && !bit (nth p.data 0) 19

/-- The words of a reply: header, payload, tag under `key` if any, CRC (R223, R224). -/
def replyWords (session seq opcode ticket : Nat) (payload : List Word) (key : Option Nat)
    (replayed : Bool) : List Word :=
  let w0 := word (0xB7100003 + 0x80000 + (if key.isSome then 0x40000 else 0) +
    (if replayed then 0x20000 else 0))
  let w1 := pair session seq
  let w2 := word (opcode * 2 ^ 24 + ticket * 2 ^ 16 + payload.length)
  let body := [w0, w1, w2] ++ payload
  let body := match key with
    | some k => body ++ tagWords k body
    | none => body
  body ++ [crc32 body]

/-- The status word (R224). -/
def statusWord (status inner detail : Nat) : Word :=
  word (status * 2 ^ 24 + inner * 2 ^ 16 + detail % 65536)

/-- The payload of a reply: the status word, and the result words only when the status is ST_OK
or ST_REPEAT (R224). -/
def Result.payload (r : Result) : List Word :=
  statusWord r.status r.inner r.detail ::
    (if r.status = stOk ∨ r.status = stRepeat then r.words else [])

/-! ### Port queues (R230 to R235) -/

abbrev queueCapacity : Nat := 8192

/-- Odd parity over the data bits and the end mark (R229). -/
def parityBit (data : Word) (endMark : Bool) : Bool :=
  (onesBelow data.toNat 32 + flag endMark) % 2 == 0

/-- A word as a queue takes it from inside the module, with its parity bit (R230). -/
def queued (data : Word) (endMark poison : Bool) : QueuedWord := ⟨data, endMark, poison, parityBit data endMark, false⟩

/-- A word as it is read out of a queue: a parity failure there sets its poison tag (R231). -/
def QueuedWord.readOut (w : QueuedWord) : QueuedWord :=
  { w with poison := w.poison || w.parity != parityBit w.data w.endMark }

/-- The word with an end mark set in the queue, and its parity bit written anew. -/
def QueuedWord.ended (w : QueuedWord) : QueuedWord := { w with endMark := true, parity := parityBit w.data true }

/-- A port queue with its drain-to-end state, and what the last words did to it. -/
structure PortQueue where
  words : List QueuedWord
  drain : Bool
  /-- words drained (R234) -/
  drained : Nat
  /-- words lost to a full queue (R233) -/
  overflow : Nat
  deriving DecidableEq, Repr

/-- The words after the last end mark: the packet in arrival. -/
def tailPacket (q : List QueuedWord) : List QueuedWord :=
  (q.reverse.takeWhile (fun w => !w.endMark)).reverse

/-- The queue with its last word changed by `f`. -/
def mapLast (f : QueuedWord → QueuedWord) : List QueuedWord → List QueuedWord
  | [] => []
  | [w] => [f w]
  | w :: rest => w :: mapLast f rest

/-- The input stage of R235 after a word without an end mark has entered: a length above 4,096
ends the packet at its third word, and word 3 + L + 2A ends it in any case; the rest drains. -/
def stageEnds (q : List QueuedWord) : Bool :=
  let t := (tailPacket q).map (fun w => w.data)
  let h := headerOf t
  if 3 ≤ t.length then
    if 4096 < h.length then t.length == 3
    else t.length == 4 + h.length + (if h.tagged then 2 else 0)
  else false

/-- One word arrives at a port queue (R233 to R235). -/
def PortQueue.push (q : PortQueue) (w : QueuedWord) : PortQueue :=
  if q.drain then { q with drained := q.drained + 1, drain := !w.endMark }
  else if queueCapacity ≤ q.words.length then
    { q with overflow := q.overflow + 1, drain := true,
             words := mapLast (fun x => if x.endMark then x else { x.ended with poison := true }) q.words }
  else
    let ws := q.words ++ [w]
    if w.endMark then { q with words := ws }
    else if stageEnds ws then
      { q with words := mapLast (fun x => { x.ended with cut := true }) ws, drain := true }
    else { q with words := ws }

/-- The words of the first whole packet, and the rest of the queue; the packet is taken only
whole (R230). -/
def splitPacket : List QueuedWord → Option (List QueuedWord × List QueuedWord)
  | [] => none
  | w :: rest =>
    if w.endMark then some ([w], rest)
    else match splitPacket rest with
      | some (p, r) => some (w :: p, r)
      | none => none

/-- A flush discards every word; the queue drains when the last word carried no end mark, and goes on draining when
it already does (R234). -/
def flushDrains (q : List QueuedWord) (drain : Bool) : Bool :=
  drain || (match q.getLast? with
    | some w => !w.endMark
    | none => false)

/-! ### The inbound packet of a transport -/

/-- The whole packet at the front of a transport's inbound queue, as it is read out (R230, R231). -/
def State.frontPacket (s : State) : Transport → Option Packet
  | .host => (splitPacket s.bridle.hostIn).map (fun p => ⟨.host, p.1.map QueuedWord.readOut, false, false⟩)
  | .service =>
    (splitPacket s.bridle.serviceIn).map
      (fun p => ⟨.service, p.1.map QueuedWord.readOut, s.bridle.serviceRagged.headD false, false⟩)
  | .uplink => s.bridle.uplinkIn.head?
  | .relay => s.bridle.relayIn.head?

/-- The state without that packet; the next transport stands first in the rotation (R226). -/
def State.dropPacket (s : State) (tr : Transport) : State :=
  let b := { s.bridle with turn := (tr.index + 1) % 4 }
  match tr with
  | .host =>
    { s with bridle := { b with hostIn := ((splitPacket b.hostIn).map (fun p => p.2)).getD b.hostIn } }
  | .service =>
    { s with bridle := { b with
        serviceIn := ((splitPacket b.serviceIn).map (fun p => p.2)).getD b.serviceIn,
        serviceRagged := b.serviceRagged.tail } }
  | .uplink => { s with bridle := { b with uplinkIn := b.uplinkIn.tail } }
  | .relay => { s with bridle := { b with relayIn := b.relayIn.tail } }

/-- A reply of this transport waits for room, so its packets wait too (R236). -/
def State.replyWaits (s : State) (tr : Transport) : Bool :=
  match tr with
  | .host => s.bridle.waiting.any (fun w => !w.service)
  | .service => s.bridle.waiting.any (fun w => w.service)
  | _ => false

/-- A transport holds a packet that the service core can take. -/
def State.ready (s : State) (tr : Transport) : Bool := (s.frontPacket tr).isSome && !s.replyWaits tr

/-- No other transport that holds a packet comes before this one: whole packets are taken from the four transports in
rotation, one packet per transport per turn (R226). -/
def State.onTurn (s : State) (tr : Transport) : Bool :=
  let place := fun (x : Transport) => (x.index + 4 - s.bridle.turn) % 4
  [Transport.host, .service, .uplink, .relay].all (fun x => decide (place tr ≤ place x) || !s.ready x)

/-! ### Sending replies (R227, R236) -/

/-- The words of a reply as queue entries, with the end mark on the last. -/
def asQueued : List Word → List QueuedWord
  | [] => []
  | [w] => [queued w true false]
  | w :: rest => queued w false false :: asQueued rest

/-- Send a whole reply to its source: into the port's outbound queue if it fits, else it waits. -/
def State.sendReply (s : State) (dest : Source) (ws : List Word) : State :=
  let b := s.bridle
  match dest with
  | .host =>
    if b.hostOutDrain then
      { (s.bump Pid.cmdHpDrainedOut 0 ws.length) with bridle := { b with hostOutDrain := false } }
    else if b.hostOut.length + ws.length ≤ queueCapacity then
      { s with bridle := { b with hostOut := b.hostOut ++ asQueued ws } }
    else { s with bridle := { b with waiting := b.waiting ++ [⟨false, ws, s.now⟩] } }
  | .service =>
    if b.serviceOut.length + ws.length ≤ queueCapacity then
      { s with bridle := { b with serviceOut := b.serviceOut ++ asQueued ws } }
    else { s with bridle := { b with waiting := b.waiting ++ [⟨true, ws, s.now⟩] } }
  | .uplink _ _ => { s with bridle := { b with uplinkOut := b.uplinkOut ++ [(dest, ws)] } }
  | .relay _ => { s with bridle := { b with relayOut := b.relayOut ++ [(dest, ws)] } }

/-! ### Sessions and tickets -/

/-- The session of an identifier. -/
def State.session (s : State) (sid : Nat) : Option Session :=
  s.bridle.sessions.find? (fun k => k.id == sid)

/-- Change the session of an identifier. -/
def State.modifySession (s : State) (sid : Nat) (f : Session → Session) : State :=
  { s with bridle := { s.bridle with
      sessions := s.bridle.sessions.map (fun k => if k.id = sid then f k else k) } }

/-- The path of the update statistics matrix for a transport (R417). -/
def State.updPath (s : State) (tr : Transport) : Nat :=
  if s.power.phase = .farrier then (if tr = .service then 4 else if tr = .uplink then 5 else tr.index)
  else tr.index

/-- Count event `k` of the update statistics matrix on a path (R417). -/
def State.updCount (s : State) (k m : Nat) : State := s.bump (0x7900 + 0x10 * k + m) 0

/-- The ticket of a number in a session. -/
def Session.ticket (k : Session) (n : Nat) : Option Ticket :=
  k.tickets.find? (fun t => t.number == n)

/-- The session's tickets with ticket `t` in place of any of its number. -/
def Session.putTicket (k : Session) (t : Ticket) : Session :=
  { k with tickets := k.tickets.filter (fun x => x.number != t.number) ++ [t] }

/-- The result of a deferred command becomes ready: its ticket holds it, and bit 0 of
cmd.hp_event is set for a session of the host port (R245). -/
def State.finish (s : State) (ref : TicketRef) (r : Result) : State :=
  match s.session ref.session with
  | none => s
  | some k =>
    match k.ticket ref.ticket with
    | none => s
    | some t =>
      if t.result.isSome then s
      else
        let s := s.modifySession k.id (fun k => k.putTicket ⟨t.number, some (s.now, r), false⟩)
        if k.source = .host then s.hpEvent 0 else s

/-- `finish` for an optional ticket. -/
def State.finishOpt (s : State) (ref : Option TicketRef) (r : Result) : State :=
  match ref with
  | some x => s.finish x r
  | none => s

/-! ### The update session meets other events (R408) -/

/-- An UPDATE record: upd.state, or what a fallback names, and 1 for a fallback (R373, R408). -/
def State.updRecord (s : State) (a b : Nat) : State := s.raise 0x28 a b

/-- An update session is open, from the accepted UPD_OPEN on (R403, R408). -/
def State.updateOpen (s : State) : Bool := s.p Pid.updHolder != 0 || s.p Pid.updState != 0

/-- The update session ends (R408): upd.state returns to 0 and the staging is discarded; an
UPDATE record tells it, and a result still awaited is a refusal. -/
def State.endUpdate (s : State) : State :=
  if s.p Pid.updHolder = 0 ∧ s.p Pid.updState = 0 then s
  else
    let s := s.finishOpt (s.update.opening.map (fun x => x.1)) (fail stRefusedState)
    let s := s.finishOpt (s.update.committing.map (fun x => x.1)) (fail stNotCommitted)
    let s := ((((s.setP Pid.updState 0 0).setP Pid.updHolder 0 0).setP Pid.updSource 0 0).setP
      Pid.updSizeWords 0 0).setP Pid.updWordsRx 0 0
    let s := s.setRun Pid.updDigest 0 (List.replicate 8 0)
    let s := s.setP Pid.updPairState 0 0
    ({ s with update := { s.update with
        staging := [], opening := none, committing := none, holderGone := false } }).updRecord 0 0

/-- The update key is replaced or orphaned (R408): the session ends, and an image that awaits its switch is
invalid. -/
def State.updateKeyLost (s : State) : State :=
  let s := if s.p Pid.updState = 3 then s.setP Pid.updSlotState (1 - s.update.selected) 4 else s
  s.endUpdate

/-- A restart by an event closes the update session: an accepted combination again, with a record that names the axes
restart kind and update session (R33, R203). -/
def State.closeSessionByEvent (s : State) : State := if s.updateOpen then (s.modeAdjusted 8 11).endUpdate else s

/-- Abort an update session: counted, and ended (R408). -/
def State.abortUpdate (s : State) : State :=
  if s.p Pid.updHolder = 0 ∧ s.p Pid.updState = 0 then s
  else (s.updCount 12 (s.p Pid.updSource)).endUpdate

/-- The holder's bridle session closes (R408): state 1 aborts at once, state 2 when the checks
end, state 3 goes on. -/
def State.updHolderCloses (s : State) (sid : Nat) : State :=
  if s.p Pid.updHolder ≠ sid ∨ sid = 0 then s
  else if s.p Pid.updState ≤ 1 then s.abortUpdate
  else if s.p Pid.updState = 2 then { s with update := { s.update with holderGone := true } }
  else s

/-- Close a session: its tickets and replay cache are discarded (R238). -/
def State.closeSession (s : State) (sid : Nat) : State :=
  ({ s with bridle := { s.bridle with
      sessions := s.bridle.sessions.filter (fun k => k.id != sid) } }).updHolderCloses sid

/-! ### The checks of R226 -/

/-- What the checks decide about a packet. -/
inductive Verdict where
  /-- check 1 fails: discarded without reply -/
  | discard
  /-- answered with this status and detail; the counter of R248 that counts it, and whether the
  packet was recorded -/
  | refuse (status detail : Nat) (counter : Option Nat)
  /-- the cached reply is sent again (R242) -/
  | replay (r : Recorded)
  /-- checks 1 to 10 pass: the session it belongs to, none for session identifier 0 -/
  | accept (session : Option Session) (gaps : Nat)
  deriving DecidableEq, Repr

/-- A tag is required of an open session's packets (R240, R392). -/
def State.tagRequired (s : State) (k : Session) : Bool :=
  if k.slot = 0xFF then false
  else match k.source with
    | .uplink _ _ => true
    | .relay _ => true
    | .host => s.lifecycle != 0 && (s.lifecycle == 2 || s.pB Pid.cmdAuthRequired 0)
    | .service => s.lifecycle != 0 && (s.lifecycle == 2 || s.pB Pid.cmdAuthRequired 1)

/-- Check 9: the tag is present where required, and correct where present. -/
def State.tagGood (s : State) (k : Session) (ws : List Word) : Bool :=
  let h := headerOf ws
  if k.slot = 0xFF then true
  else if h.tagged then
    tagWords k.key (ws.take (3 + h.length)) == (ws.drop (3 + h.length)).take 2
  else !s.tagRequired k

/-- Check 10 (R242) for the incoming sequence `q`. -/
def sequenceVerdict (k : Session) (h : Header) (crc : Word) : Verdict :=
  match k.recorded.find? (fun r => r.seq == h.seq) with
  | some r =>
    if r.opcode = h.opcode ∧ r.ticket = h.ticket ∧ r.crc = crc then .replay r
    else .refuse stRefusedState 2 (some Pid.cmdSeqRefused)
  | none =>
    match k.highest with
    | none => .accept (some k) 0
    | some top =>
      let d := (h.seq + 65536 - top) % 65536
      if 1 ≤ d ∧ d ≤ 32767 then .accept (some k) (d - 1)
      else .refuse stRefusedState 1 (some Pid.cmdSeqRefused)

/-- Index of the first poisoned word. -/
def firstPoison (ws : List QueuedWord) : Option Nat := ws.findIdx? (fun w => w.poison)

/-- The packet's end and its length field agree (R226 check 5, R227, R235). -/
def Packet.lengthGood (p : Packet) : Bool :=
  let h := headerOf p.data
  !p.ragged && !p.words.any (fun w => w.cut) && p.words.length == 4 + h.length + (if h.tagged then 2 else 0)

/-- Checks 1 to 10 of R226, in order. -/
def State.verdict (s : State) (p : Packet) : Verdict :=
  let ws := p.data
  let h := headerOf ws
  let tr := p.source.transport
  if !p.headed then .discard
  else if bits h.word0 23 20 ≠ 1 then .refuse stUnknownOp 0xFFFF none
  else if bits h.word0 7 0 ≠ 3 ∨ bits h.word0 16 8 ≠ 0 then .refuse stBadLength 0 (some Pid.cmdBadLength)
  else if tr.limit < h.length then .refuse stTooLong h.length (some Pid.cmdTooLong)
  else if !p.lengthGood then
    .refuse stBadLength ws.length (some Pid.cmdBadLength)
  else match firstPoison p.words with
    | some k => .refuse stPoison k (some Pid.cmdPoisoned)
    | none =>
      if crc32 ws.dropLast ≠ ws.getLastD 0 then .refuse stBadCrc 0 (some Pid.cmdBadCrc)
      else if h.session = 0 then
        if h.opcode = 0x00 ∨ h.opcode = 0x04 then .accept none 0
        else .refuse stAuth 1 (some Pid.cmdAuthFails)
      else match s.session h.session with
        | none =>
          if s.bridle.kept.any (fun x => x.id == h.session && x.source == p.source) then
            .refuse stKeyRevoked 0 (some Pid.keyRevokedReplies)
          else .refuse stAuth 1 (some Pid.cmdAuthFails)
        | some k =>
          if k.source ≠ p.source then .refuse stAuth 2 (some Pid.cmdAuthFails)
          else if !s.tagGood k ws then .refuse stAuth 3 (some Pid.cmdAuthFails)
          else if !k.proved ∧ h.opcode ≠ 0x01 ∧ h.opcode ≠ 0x02 then .refuse stAuth 7 none
          else sequenceVerdict k h (ws.getLastD 0)

/-! ### Opcodes (R247) -/

/-- The three kinds of opcode (Tickets). -/
inductive OpKind where
  | immediate | deferred | boundary
  deriving DecidableEq, Repr

/-- Lowest role and kind of an opcode; none where the code is not assigned (R246, R247).
Role 0 stands for Viewer and for "by parameter"; PROG_RESTART's role is checked with its kind. -/
def opcodeInfo (op : Nat) : Option (Nat × OpKind) :=
  match op with
  | 0x00 => some (0, .immediate)
  | 0x01 => some (0, .immediate)
  | 0x02 => some (0, .immediate)
  | 0x03 => some (0, .immediate)
  | 0x04 => some (0, .immediate)
  | 0x05 => some (3, .immediate)
  | 0x10 => some (0, .immediate)
  | 0x11 => some (0, .immediate)
  | 0x12 => some (2, .boundary)
  | 0x13 => some (2, .boundary)
  | 0x14 => some (0, .immediate)
  | 0x20 => some (2, .boundary)
  | 0x21 => some (2, .boundary)
  | 0x22 => some (2, .boundary)
  | 0x23 => some (2, .boundary)
  | 0x24 => some (0, .immediate)
  | 0x30 => some (2, .deferred)
  | 0x31 => some (2, .boundary)
  | 0x32 => some (2, .deferred)
  | 0x33 => some (2, .boundary)
  | 0x34 => some (2, .boundary)
  | 0x35 => some (0, .immediate)
  | 0x36 => some (2, .boundary)
  | 0x37 => some (2, .immediate)
  | 0x40 => some (0, .immediate)
  | 0x41 => some (3, .deferred)
  | 0x42 => some (2, .boundary)
  | 0x43 => some (0, .immediate)
  | 0x44 => some (2, .immediate)
  | 0x50 => some (0, .immediate)
  | 0x51 => some (1, .immediate)
  | 0x52 => some (3, .deferred)
  | 0x53 => some (2, .immediate)
  | 0x60 => some (0, .immediate)
  | 0x61 => some (0, .deferred)
  | 0x62 => some (0, .immediate)
  | 0x70 => some (0, .immediate)
  | 0x71 => some (2, .immediate)
  | 0x72 => some (2, .deferred)
  | 0x80 => some (2, .immediate)
  | 0x81 => some (3, .deferred)
  | 0x82 => some (3, .deferred)
  | 0x83 => some (3, .deferred)
  | 0x90 => some (3, .deferred)
  | 0x91 => some (3, .immediate)
  | 0x92 => some (3, .deferred)
  | 0x93 => some (3, .immediate)
  | 0x94 => some (0, .immediate)
  | 0xA0 => some (0, .immediate)
  | 0xA1 => some (3, .boundary)
  | 0xB0 => some (1, .immediate)
  | 0xB1 => some (0, .immediate)
  | 0xC0 => some (2, .boundary)
  | 0xC1 => some (0, .immediate)
  | 0xC2 => some (2, .boundary)
  | _ => none

/-! ### Interpreting an accepted packet -/

/-- A request that has passed checks 1 to 10. -/
structure Request where
  source : Source
  session : Nat
  seq : Nat
  /-- the session's role, 0xFF for session identifier 0 -/
  role : Nat
  opcode : Nat
  ticket : Nat
  payload : List Word
  broadcast : Bool
  deriving DecidableEq, Repr

/-- Names the ticket of a request. -/
def Request.ref (q : Request) : TicketRef := ⟨q.session, q.ticket⟩

/-- The payload limit of the request's transport (R227). -/
def Request.limit (q : Request) : Nat := q.source.transport.limit

/-- How an opcode answers: with its result, or with ST_PENDING. -/
inductive Answer where
  | done (r : Result)
  | later
  deriving DecidableEq, Repr

/-- What an opcode does with a request: checks 14 and its effect. -/
abbrev Body := Request → State → Answer × State

/-- Refuse at check 14. -/
def refuse (status : Nat) (detail : Nat := 0) (s : State) : Answer × State :=
  (.done (fail status detail), s)

/-- The payload must hold exactly `n` words; the first missing or extra word is the first
offending one (R224, assumption 9). -/
def Request.exactly (q : Request) (n : Nat) : Option Nat :=
  if q.payload.length = n then none else some (min q.payload.length n)

/-- Run `f` when the payload holds exactly `n` words. -/
def withLength (n : Nat) (f : Body) : Body := fun q s =>
  match q.exactly n with
  | some k => refuse stRange k s
  | none => f q s

/-- Accept a boundary command: it waits for step 1 with its acceptance stamp (R22). -/
def enqueueBoundary : Body := fun q s =>
  (.later, { s with bridle := { s.bridle with
    boundary := s.bridle.boundary ++
      [⟨s.count, q.source, q.session, q.role, q.opcode, q.ticket, q.payload⟩] } })

/-- Check 13 (R243): none where the ticket may be used. -/
def ticketFailure (k : Session) (op ticket : Nat) (kind : OpKind) : Option Result :=
  if op = 0x03 then none
  else if ticket = 0 then
    if kind = .immediate then none else some (fail stRange 0xFFFE)
  else match k.ticket ticket with
    | some t => if t.result.isNone then some (fail stBusy 0xFFFF) else none
    | none => if 16 ≤ k.tickets.length then some (fail stFull) else none

/-- The result that the reply carries: one beyond the transport's payload limit is not built
(R227). -/
def fitReply (limit : Nat) (r : Result) : Result :=
  if limit < 1 + r.words.length then fail stRange 0xFFFD else r

/-- Keep at most the 16 newest records. -/
def Session.record (k : Session) (r : Recorded) : Session :=
  { k with recorded := (r :: k.recorded).take 16 }

/-- Build, record and send the reply to an accepted request (R224, R226, R242). -/
def State.reply (s : State) (q : Request) (key : Option Nat) (crc : Word) (r : Result) : State :=
  let payload := (fitReply q.limit r).payload
  let s := s.modifySession q.session
    (fun k => k.record ⟨q.seq, q.opcode, q.ticket, crc, payload, key.isSome⟩)
  s.sendReply q.source (replyWords q.session q.seq q.opcode q.ticket payload key false)

/-- The opcodes the farrier ROM executes: the session opcodes, GET, LIFECYCLE and UPD_OPEN to
UPD_STATUS (R415). -/
def farrierOpcode (op : Nat) : Bool :=
  decide (op ≤ 0x05) || op == 0x10 || op == 0x83 || decide (0x90 ≤ op ∧ op ≤ 0x94)

/-- The farrier ROM runs (R414). -/
def State.farrier (s : State) : Bool := s.power.phase == .farrier

/-- Checks 11 to 14 and the effect, for an accepted packet (R226). -/
def State.dispatch (s : State) (body : Body) (kindOf : Request → OpKind) (q : Request)
    (sess : Option Session) : Result × State :=
  match opcodeInfo q.opcode with
  | none => (fail stUnknownOp, s)
  | some (role, _) =>
    let kind := kindOf q
    if s.farrier ∧ !farrierOpcode q.opcode then (fail stRefusedState 12, s)
    else if q.role ≠ 0xFF ∧ q.role < role then
      (fail stAuth 4, s.bump Pid.cmdAuthFails q.source.transport.index)
    else match sess.bind (fun k => ticketFailure k q.opcode q.ticket kind) with
      | some r => (r, s)
      | none =>
        let keeps := decide (q.ticket ≠ 0) && decide (q.opcode ≠ 0x03)
        let s := if keeps then s.modifySession q.session (fun k => k.putTicket ⟨q.ticket, none, false⟩) else s
        match body q s with
        | (.later, s) => (fail stPending, s)
        | (.done r, s) =>
          (r, if keeps then
                s.modifySession q.session (fun k => k.putTicket ⟨q.ticket, some (s.now, r), true⟩)
              else s)

/-- Interpret the packet at the front of a transport's inbound queue with the given body. -/
def State.interpret (s : State) (p : Packet) (kindOf : Request → OpKind) (body : Body) : State :=
  let tr := p.source.transport
  let ws := p.data
  let h := headerOf ws
  let s := (s.dropPacket tr).bump Pid.cmdRxPackets tr.index
  match s.verdict p with
  | .discard => s.bump Pid.cmdDiscards tr.index
  | .refuse status detail counter =>
    let s := match counter with
      | some c => if c = Pid.keyRevokedReplies then s.bump c else s.bump c tr.index
      | none => s
    s.sendReply p.source (replyWords h.session h.seq h.opcode h.ticket [statusWord status 0 detail] none false)
  | .replay r =>
    let s := s.bump Pid.cmdReplays tr.index
    let key := (s.session h.session).bind (fun k => if r.tagged then some k.key else none)
    s.sendReply p.source (replyWords h.session h.seq h.opcode h.ticket r.reply key true)
  | .accept sess gaps =>
    let s := s.bump Pid.cmdSeqGaps tr.index gaps
    let q : Request := ⟨p.source, h.session, h.seq, (sess.map (fun k => k.role)).getD 0xFF, h.opcode,
      h.ticket, (ws.drop 3).take h.length, p.broadcast⟩
    let s := match sess with
      | some k =>
        let s := if h.tagged && k.slot != 0xFF then s.keyUse .tagCheck tr.master k.slot else s
        s.modifySession k.id (fun k => { k with highest := some h.seq, lastAccept := s.now })
      | none => s
    let r := s.dispatch body kindOf q sess
    let s := r.2
    let key := sess.bind (fun k =>
      if k.slot ≠ 0xFF ∧ (h.tagged ∨ h.opcode = 0x01) then some k.key else none)
    let s := if key.isSome then s.keyUse .tagMake tr.master ((sess.map (fun k => k.slot)).getD 64) else s
    s.reply q key (ws.getLastD 0) r.1

/-! ### Which row of the command table a packet is -/

/-- The rows that a SET belongs to: by the parameter it names, a SET with a behaviour of its own
has a row of its own. -/
inductive SetRow where
  | plain | period | stagger | teamSize | dimMode | decimRatio | gainEst | vfRef | colourMethod
  | fluxReference | sensorCal | cycleTime | podZone | edgeEndpoint | edgeBounds | edgeHeading
  | edgeTau | hpEvent | ringMode | ipAddress | calendar | tzOffset | wakePeriod | alarm
  | relayConfig | rtFallback | tandemEnable | tolerance | eject | adopt | snapset | tamperCfg
  | tamperLatch | updConfirm | updFallback | switchNow | enterFarrier
  deriving DecidableEq, Repr

/-- The row of a SET of a parameter. -/
def setRow (id : Nat) : SetRow :=
  if id = Pid.drvPeriodNs then .period
  else if id = Pid.drvStaggerMode then .stagger
  else if id = Pid.drvTeamSize then .teamSize
  else if id = Pid.drvDimMode then .dimMode
  else if id = Pid.snsDecimRatio then .decimRatio
  else if id = Pid.snsGainEst then .gainEst
  else if id = Pid.diagVfRefMv then .vfRef
  else if id = Pid.colourMethod then .colourMethod
  else if id ∈ [Pid.colourTeamFlux, Pid.colourHeadroom, Pid.colourCctMin, Pid.colourCctMax,
      Pid.colourFluxLm, Pid.colourProfile, Pid.colourProfFlux, Pid.colourProfX, Pid.colourProfY,
      Pid.colourWShare, Pid.colourWLane] then .fluxReference
  else if id = Pid.colourSensorCal then .sensorCal
  else if id = Pid.progCycleMs then .cycleTime
  else if id = Pid.presPodZone then .podZone
  else if id = Pid.outEdgeFrom ∨ id = Pid.outEdgeTo then .edgeEndpoint
  else if id = Pid.outEdgeTminMs ∨ id = Pid.outEdgeTmaxMs then .edgeBounds
  else if id = Pid.outEdgeHeading then .edgeHeading
  else if id = Pid.outEdgeTauUs then .edgeTau
  else if id = Pid.cmdHpEvent then .hpEvent
  else if id = Pid.netRingMode then .ringMode
  else if id ∈ [Pid.netIpAddr, Pid.netIpMask, Pid.netIpGateway] then .ipAddress
  else if id = Pid.timeCal then .calendar
  else if id = Pid.timeTzOffsetMin then .tzOffset
  else if id = Pid.timeWakePeriod then .wakePeriod
  else if id ∈ [Pid.timeAlarmS, Pid.timeAlarmNf, Pid.timeAlarmPeriodMs, Pid.timeAlarmCtrl] then .alarm
  else if id ∈ [Pid.relayRate, Pid.relayPanId, Pid.relayChanExclude, Pid.relaySlotframe,
      Pid.relaySharedSlots] then .relayConfig
  else if id = Pid.relayRtFallback ∨ id = Pid.relayRtFallbackFadeMs then .rtFallback
  else if id = Pid.tdmEnable then .tandemEnable
  else if id = Pid.pwrToleranceUs then .tolerance
  else if id = Pid.sbEject then .eject
  else if id = Pid.sbAdopt then .adopt
  else if id = Pid.wbSnapset then .snapset
  else if id = Pid.keyTamperCfg then .tamperCfg
  else if id = Pid.keyTamperStatus then .tamperLatch
  else if id = Pid.updConfirm then .updConfirm
  else if id = Pid.updFallback then .updFallback
  else if id = Pid.updSwitchNow then .switchNow
  else if id = Pid.updEnterFarrier then .enterFarrier
  else .plain

/-- The row of the command table that a packet belongs to. -/
inductive PacketRow where
  | discard
  | unassigned
  | opcode (op : Nat)
  | set (row : SetRow)
  deriving DecidableEq, Repr

/-- The row of a packet: by check 1, then by opcode, and for a SET by the parameter it names. -/
def Packet.row (p : Packet) : PacketRow :=
  let h := headerOf p.data
  if !p.headed then .discard
  else if (opcodeInfo h.opcode).isNone then .unassigned
  else if h.opcode = 0x11 then
    .set (if 1 ≤ h.length ∧ 4 < p.data.length then setRow (bits (nth p.data 3) 31 16) else .plain)
  else .opcode h.opcode

/-- Interpret the front packet of a transport if it belongs to the row; the service core works
only while D5 is on, no reply of that transport waits, and it is that transport's turn (R17, R226, R230, R236). -/
def State.onPacket (s : State) (tr : Transport) (row : PacketRow) (kindOf : Request → OpKind)
    (body : Body) : State :=
  if !s.awake ∨ s.replyWaits tr ∨ !s.onTurn tr then s
  else match s.frontPacket tr with
    | none => s
    | some p => if p.row = row then s.interpret p kindOf body else s

/-- `onPacket` for an opcode of one kind. -/
def State.onOpcode (s : State) (tr : Transport) (op : Nat) (kind : OpKind) (body : Body) : State :=
  s.onPacket tr (.opcode op) (fun _ => kind) body

end Sys2Proof.Machine
end

