-- ==== Sys2Proof/Machine/Params.lean ====
section
/-! DEFINITION.  Reading, describing and writing parameters: runs of elements (R252), access
(R10), ranges (R11, R12), latched halves (R255), DESCRIBE (R257), and the shared check and write
of every SET (R246). -/

namespace Sys2Proof.Machine

open Sys2Proof

/-! ### GET -/

/-- The `_lo` partner of a parameter whose mnemonic ends in `_hi` (R255). -/
def loPartner (id : Nat) : Option Nat :=
  if id = Pid.sysCounterHi then some Pid.sysCounterLo
  else if id = Pid.meterTotalMwhHi then some Pid.meterTotalMwhLo
  else none

/-- The parameter is a `_lo` half (R255, R365). -/
def isLoHalf (id : Nat) : Bool := id == Pid.sysCounterLo || id == Pid.meterTotalMwhLo

/-- The index of the first element beyond the end of a run, if the run leaves the parameter
(R252). -/
def runBeyond (r : ParamRow) (first count : Nat) : Option Nat :=
  if r.count < first + count then some (max first r.count) else none

/-- The value a session reads: a `_lo` half it has latched reads as latched (R79, R255). -/
def State.readFor (s : State) (sid id e : Nat) : Word :=
  if isLoHalf id then
    match (s.session sid).bind (fun k => Tab.look (paramKey id e) k.latched) with
    | some w => w
    | none => s.read id e
  else s.read id e

/-- Latch the `_lo` elements that a GET of the `_hi` half names (R255). -/
def State.latchRun (s : State) (sid id first count : Nat) : State :=
  match loPartner id with
  | none => s
  | some lo =>
    let put := fun l i => Tab.place (paramKey lo (first + i)) (s.read lo (first + i)) l
    s.modifySession sid (fun k => { k with latched := (List.range count).foldl put k.latched })

/-- The next GET of a latched `_lo` element returns it once (R79). -/
def State.unlatchRun (s : State) (sid id first count : Nat) : State :=
  if isLoHalf id then
    let take := fun l i => Tab.drop (paramKey id (first + i)) l
    s.modifySession sid (fun k => { k with latched := (List.range count).foldl take k.latched })
  else s

/-- GET (R247, R252, R255). -/
def getBody : Body := withLength 2 (fun q s =>
  let id := bits (nth q.payload 0) 31 16
  let first := bits (nth q.payload 0) 15 0
  let count := (nth q.payload 1).toNat
  match paramRow id with
  | none => refuse stRange 0 s
  | some r =>
    if s.farrier ∧ ¬ (id < 0x1000 ∨ (0x7800 ≤ id ∧ id < 0x8000)) then refuse stRefusedState 12 s
    else if q.role < r.readRole then refuse stAuth 0 s
    else if q.limit < 1 + count then refuse stRange 0xFFFD s
    else if count = 0 then refuse stRange first s
    else match runBeyond r first count with
      | some k => refuse stRange k s
      | none =>
        let ws := (List.range count).map (fun i => s.readFor q.session id (first + i))
        (.done (ok ws), (s.latchRun q.session id first count).unlatchRun q.session id first count))

/-! ### DESCRIBE (R257) -/

/-- The access octet: lowest reading role, then lowest writing role, 0xF where not permitted. -/
def ParamRow.accessOctet (r : ParamRow) : Nat := r.readRole * 16 + min 15 r.writeRole

/-- w1 to w10 of the reply to DESCRIBE. -/
def describeWords (r : ParamRow) : List Word :=
  let flags := putBit (putBit (putBit 0 0 r.boundary) 1 (r.record != .no)) 2 r.persistent
  let len := nameLength r.mnemonic
  word (r.format.code * 2 ^ 24 + r.accessOctet * 2 ^ 16 + r.count) :: word flags ::
    wordsOfNat 8 (r.mnemonic * 256 ^ (32 - len))

/-- DESCRIBE (R247, R251, R257); bits [15:0] of its word are 0. -/
def describeBody : Body := withLength 1 (fun q s =>
  match paramRow (bits (nth q.payload 0) 31 16) with
  | none => refuse stRange 0 s
  | some r =>
    if bits (nth q.payload 0) 15 0 ≠ 0 then refuse stRange 0 s
    else (.done (ok (describeWords r)), s))

/-! ### The range of one element (R11, R12) -/

/-- The value element `k` would have after a SET of `vals` from `first` on. -/
def State.after (s : State) (id first : Nat) (vals : List Word) (k : Nat) : Nat :=
  if first ≤ k ∧ k < first + vals.length then (nth vals (k - first)).toNat else s.p id k

/-- The team of index `t` exists: a team of channels begins there (R50), or `t` names a remote
team. -/
def State.teamExists (s : State) (t : Nat) : Bool :=
  if 512 ≤ t then decide (t ≤ 767) else s.p Pid.drvTeamSize t != 0

/-- A team layout that R50 accepts at team `t`: the team lies in one bank, and no channel of it
but the first begins a team. -/
def teamFits (size : Nat → Nat) (t : Nat) : Bool :=
  let k := size t
  decide (t % 32 + k ≤ 32) && (List.range (k - 1)).all (fun i => size (t + i + 1) == 0)

/-- A subnet mask whose ones are contiguous from the top (net.ip_mask). -/
def contiguousMask (m : Nat) : Bool :=
  (List.range 33).any (fun k => m == 2 ^ 32 - 2 ^ (32 - k))

/-! #### Hop sets (R311, R317) -/

/-- The channel plan of a variant and rate: first centre and spacing in kHz, and the number of
channels (R311). -/
def channelPlan (variant rate : Nat) : Nat × Nat × Nat :=
  if variant = 0 then
    if rate = 0 then (863100, 100, 69) else if rate = 1 then (863125, 200, 34) else (863225, 400, 17)
  else if rate = 0 then (902200, 200, 129) else (902400, 400, 64)

/-- The sub-band that wholly holds a channel's band, centre ± spacing / 2 (R311). -/
def channelBand (plan : Nat × Nat × Nat) (k : Nat) : Option Nat :=
  let c2 := 2 * (plan.1 + k * plan.2.1)
  euSubBands.findIdx? (fun b => decide (2 * b.1 ≤ c2 - plan.2.1) && decide (c2 + plan.2.1 ≤ 2 * b.2.1))

/-- The hop set H for exclusion words: the usable channels in ascending order (R311). -/
def hopSet (variant rate : Nat) (exclude : List Nat) : List Nat :=
  let plan := channelPlan variant rate
  (List.range plan.2.2).filter (fun k =>
    !((exclude.getD (k / 32) 0).testBit (k % 32)) &&
    (variant != 0 || (channelBand plan k).isSome))

/-- The smallest hop set R311 accepts. -/
def hopMinimum (variant rate : Nat) : Nat :=
  if variant = 0 then 8 else if rate = 0 then 50 else 25

/-- H does not fall below its minimum (R311). -/
def hopAccepts (variant rate : Nat) (exclude : List Nat) : Bool :=
  decide (hopMinimum variant rate ≤ (hopSet variant rate exclude).length)

/-- A SET of exclusion words from `first` on sets no bit at or above the plan's channel count (R311). -/
def excludeInPlan (variant rate first : Nat) (vals : List Word) : Bool :=
  let n := (channelPlan variant rate).2.2
  vals.zipIdx.all (fun w => (List.range 32).all (fun k =>
    decide (32 * (first + w.2) + k < n) || !(w.1.toNat.testBit k)))

/-- The exclusion words as a SET would leave them. -/
def State.excludeAfter (s : State) (first : Nat) (vals : List Word) : List Nat :=
  (List.range 5).map (s.after Pid.relayChanExclude first vals)

/-- A snapshot entry names an existing element that a Viewer may read and that is no `_lo` half,
or is the unused word (R365). -/
def snapEntryOk (w : Word) : Bool :=
  if w = 0xFFFFFFFF then true
  else match paramRow (bits w 31 16) with
    | none => false
    | some r => decide (bits w 15 0 < r.count) && r.readRole == 0 && !isLoHalf (bits w 31 16)

/-- The ranges that depend on other parameters or have holes. -/
def State.specialInRange (s : State) (id first : Nat) (vals : List Word) (e : Nat) (v : Int) : Bool :=
  let n := v.toNat
  if id = Pid.drvPeriodNs then decide (40000 ≤ n ∧ n ≤ 1000000 ∧ n % 40 = 0)
  else if id = Pid.drvTeamSize then
    decide (n ≤ 4) && (List.range 4).all (fun k =>
      decide (e < k) || teamFits (s.after Pid.drvTeamSize first vals) (e - k))
  else if id = Pid.drvStatus then decide (n &&& 0xFFCF = 0)
  else if id = Pid.snsLoopStatus then decide (n &&& 0x9F = 0)
  else if id = Pid.diagDerateOffC then decide (v = 0 ∨ (5000 ≤ v ∧ v ≤ 15000))
  else if id = Pid.colourCctMin then decide (1800 ≤ n ∧ n ≤ s.p Pid.colourCctMax e)
  else if id = Pid.colourCctMax then decide (s.p Pid.colourCctMin e ≤ n ∧ n ≤ 10000)
  else if id = Pid.colourProfFlux then decide (1 ≤ n)
  else if id = Pid.colourProfX then true
  else if id = Pid.colourProfY then decide (1 ≤ n)
  else if id = Pid.presPodZone ∨ id = Pid.outTeamZone then decide (n ≤ 511 ∨ n = 0xFFFF)
  else if id = Pid.presPodTeam then decide (n ≤ 767 ∨ n = 0xFFFF)
  else if id = Pid.outEdgeFrom ∨ id = Pid.outEdgeTo then
    decide (n = 0xFFFF) || (decide (n ≤ 767) && s.teamExists n)
  else if id = Pid.outEdgeTminMs then decide (100 ≤ n ∧ n ≤ 600000 ∧ n ≤ s.p Pid.outEdgeTmaxMs e)
  else if id = Pid.outEdgeTmaxMs then decide (n ≤ 600000 ∧ s.p Pid.outEdgeTminMs e ≤ n)
  else if id = Pid.outEdgeTauUs then
    decide (n = 0 ∨ (s.p Pid.outEdgeTminMs e * 1000 ≤ n ∧ n ≤ s.p Pid.outEdgeTmaxMs e * 1000))
  else if id = Pid.cmdAuthRequired then decide (n ≤ 1) && (decide (e < 2) || decide (n = 1))
  else if id = Pid.cmdMaxRole then decide (n ≤ (if e = 3 then 2 else 3))
  else if id = Pid.cmdHpLoWm then decide (n + 256 ≤ s.p Pid.cmdHpHiWm)
  else if id = Pid.netIpMask then contiguousMask n
  else if id = Pid.timeDomNumber then
    decide (n ≤ 127) && decide (s.after id first vals 0 ≠ s.after id first vals 1)
  else if id = Pid.timeCal then
    decide (first = 0 ∧ vals.length = 8 ∧ n % 16 ≤ 9 ∧ n / 16 ≤ 9)
  else if id = Pid.timeWakePeriod then decide (n ≤ 22118400)
  else if id = Pid.timeAlarmNf then decide (n / 4 ≤ 999999999)
  else if id = Pid.timeAlarmPeriodMs then decide (n = 0 ∨ (10 ≤ n ∧ n ≤ 86400000))
  else if id = Pid.relayTxDbm then
    decide (-10 ≤ v) && decide (v ≤ (if s.p Pid.idVariant = 0 then 14 else 20))
  else if id = Pid.relayPodPeriod ∨ id = Pid.relayRtPeriod then
    decide (n = 1 ∨ n = 2 ∨ n = 4 ∨ n = 8 ∨ n = 16 ∨ n = 32 ∨ n = 64)
  else if id = Pid.relayRate then
    decide (n ≤ 2) && hopAccepts (s.p Pid.idVariant) n ((List.range 5).map (fun k => s.p Pid.relayChanExclude k))
  else if id = Pid.relayChanExclude then
    excludeInPlan (s.p Pid.idVariant) (s.p Pid.relayRate) first vals &&
      hopAccepts (s.p Pid.idVariant) (s.p Pid.relayRate) (s.excludeAfter first vals)
  else if id = Pid.wbSnapset then decide (16 ≤ e) && snapEntryOk (word n)
  else if id = Pid.wbRateBurst then decide (e ≠ 1 ∧ e ≠ 2)
  else if id = Pid.wbRatePerH then decide (e ≠ 1 ∧ e ≠ 2) && decide (n ≤ 36000)
  else if id = Pid.keyTamperCfg ∨ id = Pid.keyTamperStatus then decide (n < 16)
  else true

/-- The word is within the format and the range of element `e` (R11, R12, R246). -/
def State.elementInRange (s : State) (r : ParamRow) (first : Nat) (vals : List Word) (e : Nat)
    (w : Word) : Bool :=
  r.format.fits w &&
    (match r.range with
     | .none => false
     | .free => true
     | .span lo hi => decide (lo ≤ r.format.value w) && decide (r.format.value w ≤ hi)
     | .clear0 => w == 0
     | .mask m => w.toNat &&& m == w.toNat
     | .special => s.specialInRange r.id first vals e (r.format.value w))

/-! ### The check of a SET (R10 to R12, R246) -/

/-- Families that a tandem lead carries to its wheeler (R428). -/
def carriedFamily (id : Nat) : Bool :=
  decide (0x1000 ≤ id ∧ id < 0x4000) || decide (0x5800 ≤ id ∧ id < 0x6000)

/-- Profile 0 of the colour tables is read-only (R121): elements 0 to 8. -/
def readOnlyElement (id e : Nat) : Bool :=
  (id == Pid.colourProfFlux || id == Pid.colourProfX || id == Pid.colourProfY) && decide (e < 9)

/-- Pods of a zone as a SET of pres.pod_zone would leave them (R206). -/
def State.zonePodsAfter (s : State) (first : Nat) (vals : List Word) (zone : Nat) : Nat :=
  ((List.range 1536).filter (fun k => s.after Pid.presPodZone first vals k == zone)).length

/-- Refusals of a SET by the present state, after its values are in range. -/
def State.setRefusal (s : State) (id first : Nat) (vals : List Word) : Option Result :=
  if s.wheeler ∧ carriedFamily id ∧
      ¬ ((paramRow id).map (fun r => r.range) = some .clear0 ∧ vals.all (fun w => w == 0)) then
    some (fail stRefusedState 0xFFFB)
  else if id = Pid.tdmEnable ∧ s.wheeler ∧ nth vals 0 = 0 then some (fail stRefusedState 1)
  -- a SET of net.ring_mode during an update session (R33, R281)
  else if id = Pid.netRingMode ∧ s.updateOpen then some (fail stRefusedState)
  else if id = Pid.timeCal ∧ s.p Pid.timeQuality ≤ 1 then some (fail stRefusedState)
  else if id = Pid.keyTamperCfg ∧ s.lifecycle = 2 ∧
      (s.p Pid.keyTamperCfg % 4) &&& (3 - (nth vals 0).toNat % 4) ≠ 0 then some (fail stRefusedState)
  else if id = Pid.keyTamperStatus ∧
      ((bit (nth vals 0) 0 ∧ s.tamperActive 0) ∨ (bit (nth vals 0) 1 ∧ s.tamperActive 1)) then
    some (fail stRefusedState)
  else if id = Pid.sbEject ∧ (List.range vals.length).any (fun k =>
      nth vals k != 0 && !s.inService (1 - (first + k))) then some (fail stRefusedState)
  else if id = Pid.presPodZone then
    match vals.findIdx? (fun w => decide (w.toNat ≤ 511) &&
        decide (64 < s.zonePodsAfter first vals w.toNat)) with
    | some k => some (fail stFull (first + k))
    | none => none
  else none

/-- The check of a SET: none where it is accepted (R10, R12, R246, R251, R252). -/
def State.setFailure (s : State) (q : Request) : Option Result :=
  let id := bits (nth q.payload 0) 31 16
  let first := bits (nth q.payload 0) 15 0
  let count := (nth q.payload 1).toNat
  let vals := q.payload.drop 2
  match paramRow id with
  | none => some (fail stRange 0)
  | some r =>
    if r.writeRole = 15 ∨ q.role < r.writeRole then some (fail stAuth)
    else if q.payload.length < 2 ∨ count = 0 ∨ vals.length ≠ count then
      some (fail stRange (first + min count vals.length))
    else match runBeyond r first count with
      | some k => some (fail stRange k)
      | none =>
        match (List.range count).find? (fun k => readOnlyElement id (first + k)) with
        | some _ => some (fail stAuth)
        | none =>
          match (List.range count).find? (fun k =>
              !s.elementInRange r first vals (first + k) (nth vals k)) with
          | some k => some (fail stRange (first + k))
          | none => s.setRefusal id first vals

/-! ### The write of a SET -/

/-- The parameters whose 1 bits clear (R58, R81, R249, R309, R398). -/
def clearsOnOne (id : Nat) : Bool :=
  id == Pid.cmdHpEvent || id == Pid.drvStatus || id == Pid.snsLoopStatus ||
  id == Pid.timeAlarmStatus || id == Pid.keyTamperStatus

/-- Write one element as a SET does: clamped where its description says so (R12), cleared where
ones clear, restarted from the present value where a 0 restarts it (R262, R264). -/
def State.setElement (s : State) (id e : Nat) (w : Word) : State :=
  if clearsOnOne id then s.setP id e (s.p id e - (s.p id e &&& w.toNat))
  else if id = Pid.snsGainEst then
    let d := 16384 * s.p Pid.snsTrimSpan (e / 32) / 10000
    s.setP id e (clampN (16384 - d) (16384 + d) w.toNat)
  else if id = Pid.colourTrim then
    -- the limit of the channel's team; a channel without one stands under its own index
    let d := 32768 * s.p Pid.colourTrimLimit ((s.teamAt e).getD e) / 10000
    s.setP id e (clampN (32768 - d) (32768 + d) w.toNat)
  else if id = Pid.wbRateBurst ∨ id = Pid.wbRatePerH then
    -- the bucket has filled up to now at the rate in force until now (R366)
    (({ s with waybill := { s.waybill with buckets := s.waybill.buckets.set e (some ⟨s.tokens e, s.now⟩) } } : State)).setW id e w
  else if id = Pid.sysTempDieMax then s.setW id e (s.read Pid.sysTempDie 0)
  else if id = Pid.pwrVinMinMv then s.setW id e (s.w Pid.pwrVinMv 0)
  else s.setW id e w

/-- Write a run of elements, marking each changed persistent element (R259). -/
def State.setElements (s : State) (id : Nat) : Nat → List Word → State
  | _, [] => s
  | e, w :: rest =>
    let s' := s.setElement id e w
    let s' := if s'.w id e = s.w id e then s' else s'.mark id e
    State.setElements s' id (e + 1) rest

/-- Re-base the token bucket of a code before its rate or burst changes, so that it refills at
the old rate up to now (R366). -/
def State.rebaseBucket (s : State) (code : Nat) : State :=
  match s.waybill.buckets.get code with
  | none => s
  | some _ => { s with waybill := { s.waybill with
      buckets := s.waybill.buckets.set code (some ⟨s.tokens code, s.now⟩) } }

/-- An accepted SET: count it and write its elements. -/
def State.setWrite (s : State) (id first : Nat) (vals : List Word) : State :=
  let s := s.bump Pid.sysParamSets
  let s := if id = Pid.wbRateBurst ∨ id = Pid.wbRatePerH then
      (List.range vals.length).foldl (fun s k => s.rebaseBucket (first + k)) s
    else s
  s.setElements id first vals

/-- The kind of a SET: a boundary command where the parameter is applied at the boundary
(R246, R258). -/
def setKind (q : Request) : OpKind :=
  match paramRow (bits (nth q.payload 0) 31 16) with
  | some r => if r.boundary then .boundary else .immediate
  | none => .immediate

/-- A SET: its check, then at once its effect `hook` after the write, or its place among the
boundary commands (R246, R256). -/
def setBody (hook : Nat → Nat → List Word → State → State) : Body := fun q s =>
  match s.setFailure q with
  | some r => (.done r, s)
  | none =>
    if setKind q = .boundary then enqueueBoundary q s
    else
      let id := bits (nth q.payload 0) 31 16
      let first := bits (nth q.payload 0) 15 0
      let vals := q.payload.drop 2
      (.done (ok), hook id first vals (s.setWrite id first vals))

end Sys2Proof.Machine
end

