-- ==== Sys2Proof/Machine/Sessions.lean ====
section
/-! DEFINITION.  The commands of the bridle chapter itself: packets that are discarded or not
assigned, sessions, tickets, PING, GET and DESCRIBE, the host and service ports, and the
deadlines of replies, tickets and sessions (R223 to R257). -/

namespace Sys2Proof.Machine

open Sys2Proof

/-! ### Packets without an opcode of their own -/

/-- PACKET_DISCARD (R226 check 1). -/
def execPacketDiscard (t : Nat) (tr : Transport) (s : State) : Host.Outcome State Fault Refusal :=
  s.run t (fun s => s.onPacket tr .discard (fun _ => .immediate) (fun _ s => (.done (ok), s)))

/-- UNASSIGNED_OPCODE (R226 check 11, R246): accepted, then answered ST_UNKNOWN_OP. -/
def execUnassignedOpcode (t : Nat) (tr : Transport) (s : State) : Host.Outcome State Fault Refusal :=
  s.run t (fun s => s.onPacket tr .unassigned (fun _ => .immediate)
    (fun _ s => (.done (fail stUnknownOp), s)))

/-! ### Sessions (R237 to R239, R391) -/

/-- The identifiers that a new session may not take (R238). -/
def State.usedIdentifiers (s : State) : List Nat :=
  s.bridle.sessions.map (fun k => k.id) ++ s.bridle.kept.map (fun k => k.id)

/-- The first identifier from `c` on, cyclically within 1 to 0xFFFE, that is not used. -/
def freeIdentifier (used : List Nat) : Nat → Nat → Nat
  | 0, c => c
  | n + 1, c => if used.contains c then freeIdentifier used n (c % 0xFFFE + 1) else c

/-- The transport refuses SESSION_OPEN after three failed proofs (R237). -/
def State.lockedOut (s : State) (tr : Transport) : Bool :=
  s.bridle.lockouts.any (fun l => l.1 == tr && decide (s.now < l.2))

/-- The key of a Factory session in the farrier ROM: derived from K00 with label "FCTK" and the
module serial (R415). -/
def State.factoryKey (s : State) : Nat :=
  kdf (Config.rootKey (s.vault.seed.getD 0)) [0x46, 0x43, 0x54, 0x4B]
    (octetsOfNat 8 (s.p64 Pid.idSerial 0)) 256

/-- The key a session of this slot and role proves with. -/
def State.sessionSlotKey (s : State) (slot role : Nat) : Nat :=
  if role = 4 then s.factoryKey else ((s.vault.slots.get slot).key).getD 0

/-- Whether a slot may open a session of this role on this transport (R391, R393, R415), with
the vault's count of a refusal. -/
def State.slotOpens (s : State) (tr : Transport) (slot role : Nat) : Bool × State :=
  if slot = 0xFF then
    (((tr == .host && !s.farrier) || tr == .service) &&
      ((s.lifecycle == 0 && decide (role ≤ 3)) || (s.lifecycle == 4 && role == 0)), s)
  else if role = 4 then (s.farrier, s)
  else if attrKind (s.slotAttr slot) ≠ 7 then (false, s)
  else
    let c := s.vaultCheck .open_ slot tr.master false
    (c.1 && decide (role ≤ attrRole (s.slotAttr slot)), c.2)

/-- SESSION_OPEN with the module nonce drawn by the die's random source (R237 to R239, R391). -/
def openBody (nonce : List Word) : Body := withLength 5 (fun q s =>
  let w0 := nth q.payload 0
  let role := bits w0 31 24
  let slot := bits w0 7 0
  let tr := q.source.transport
  if 4 < role ∨ bits w0 23 8 ≠ 0 ∨ (64 ≤ slot ∧ slot ≠ 0xFF) then refuse stRange 0 s
  else if s.lockedOut tr then refuse stAuth 5 s
  else if s.p Pid.keyRngStatus = 1 then refuse stAuth 6 s
  else if (role = 4 ∧ !s.farrier) ∨ (role < 4 ∧ s.p Pid.cmdMaxRole tr.index < role) ∨
      (s.farrier ∧ (tr = .host ∨ tr = .relay)) then refuse stAuth 0 s
  else if 32 ≤ s.bridle.sessions.length then refuse stFull 0 s
  else
    let c := s.slotOpens tr slot role
    if !c.1 then (.done (fail stAuth), c.2)
    else
      let s := if slot = 0xFF then c.2 else c.2.keyUse .open_ tr.master slot
      let d := s.drawBelow 0xFFFE
      let s := d.2
      let used := s.usedIdentifiers
      let sid := freeIdentifier used (used.length + 1) (d.1 + 1)
      let client := (q.payload.drop 1).take 4
      let mod := (List.range 4).map (nth nonce)
      let key := if slot = 0xFF then 0
        else kdf (s.sessionSlotKey slot role) labelSession (sessionContext sid role client mod) 128
      let k : Session := ⟨sid, q.source, role, slot, false, s.now, s.now, client, mod, key, none, [], [], []⟩
      (.done (ok (pair sid 0 :: mod)),
        { s with bridle := { s.bridle with sessions := s.bridle.sessions ++ [k] } }))

/-- SESSION_OPEN (R237). -/
def execSessionOpen (t : Nat) (tr : Transport) (nonce : List Word) (s : State) :
    Host.Outcome State Fault Refusal :=
  s.run t (fun s => s.onOpcode tr 0x00 .immediate (openBody nonce))

/-- A failed proof: the third on a transport within 60 s locks it for 60 s (R237). -/
def State.proofFailed (s : State) (tr : Transport) : State :=
  let recent := (s.bridle.proofFails ++ [(tr, s.now)]).filter (fun p => decide (s.now < p.2 + 60 * sec))
  let s := s.bump Pid.cmdAuthFails tr.index
  if 3 ≤ (recent.filter (fun p => p.1 == tr)).length then
    { s with bridle := { s.bridle with
        proofFails := recent.filter (fun p => p.1 != tr),
        lockouts := s.bridle.lockouts.filter (fun l => l.1 != tr) ++ [(tr, s.now + 60 * sec)] } }
  else { s with bridle := { s.bridle with proofFails := recent } }

/-- SESSION_PROVE (R237, R391). -/
def proveBody : Body := withLength 8 (fun q s =>
  match s.session q.session with
  | none => refuse stAuth 1 s
  | some k =>
    if k.proved then refuse stRefusedState 3 s
    else
      let tr := q.source.transport
      -- a Factory session proves with the key derived from the root (R415)
      let c := if k.slot = 0xFF ∨ k.role = 4 then (true, s) else s.vaultCheck .prove k.slot tr.master false
      let s := if k.slot = 0xFF then c.2 else c.2.keyUse .prove tr.master k.slot
      if !c.1 then (.done (fail stAuth), c.2)
      else if q.payload = k.proof (s.sessionSlotKey k.slot k.role) then
        (.done (ok), s.modifySession k.id (fun k => { k with proved := true }))
      else (.done (fail stAuth), (s.keyCount .prove 1 tr.master).proofFailed tr))

def execSessionProve (t : Nat) (tr : Transport) (s : State) : Host.Outcome State Fault Refusal :=
  s.run t (fun s => s.onOpcode tr 0x01 .immediate proveBody)

/-- SESSION_CLOSE (R238). -/
def closeBody : Body := withLength 0 (fun q s => (.done (ok), s.closeSession q.session))

def execSessionClose (t : Nat) (tr : Transport) (s : State) : Host.Outcome State Fault Refusal :=
  s.run t (fun s => s.onOpcode tr 0x02 .immediate closeBody)

/-- RESULT reads the ticket named in its header (R244). -/
def resultBody : Body := withLength 0 (fun q s =>
  match (s.session q.session).bind (fun k => k.ticket q.ticket) with
  | none => refuse stTicketGone 0 s
  | some tk =>
    match tk.result with
    | none => refuse stPending 0 s
    | some (at_, r) =>
      if tk.readOnce then
        (.done { status := stRepeat, detail := r.detail, words := r.words, inner := r.status }, s)
      else
        (.done r, s.modifySession q.session (fun k => k.putTicket ⟨tk.number, some (at_, r), true⟩)))

def execResult (t : Nat) (tr : Transport) (s : State) : Host.Outcome State Fault Refusal :=
  s.run t (fun s => s.onOpcode tr 0x03 .immediate resultBody)

/-- The last word of a PING reply: session role or 0xFF, tandem role, firmware build. -/
def State.pingWord (s : State) (role : Nat) : Word :=
  word (role * 2 ^ 24 + s.p Pid.tdmRole * 2 ^ 16 + s.p Pid.idFwBuild)

/-- PING (R247): 0 to 16 words are echoed. -/
def pingBody : Body := fun q s =>
  if 16 < q.payload.length then refuse stRange 16 s
  else (.done (ok (q.payload ++ [s.pingWord q.role])), s)

/-- A broadcast PING with session identifier 0 that passes every check is answered by unicast
after a delay drawn from 0 to 100 ms; any other broadcast packet is discarded (R271). -/
def State.broadcastPing (s : State) (p : Packet) : State :=
  let s' := s.dropPacket .uplink
  let h := headerOf p.data
  match s.verdict p with
  | .accept none _ =>
    let pl := (p.data.drop 3).take h.length
    if 16 < pl.length then s'.bump (0x4900 + 9) 0
    else
      let d := s'.drawBelow (100 * ms + 1)
      let ws := replyWords 0 h.seq h.opcode h.ticket (ok (pl ++ [s.pingWord 0xFF])).payload none false
      let s := d.2.bump Pid.cmdRxPackets 2
      { s with bridle := { s.bridle with
          discovery := s.bridle.discovery ++ [(s.now + d.1, p.source, ws)] } }
  | _ => s'.bump (0x4900 + 9) 0

def execPing (t : Nat) (tr : Transport) (s : State) : Host.Outcome State Fault Refusal :=
  s.run t (fun s =>
    match s.frontPacket tr with
    | some p =>
      if p.broadcast ∧ p.row = .opcode 0x04 ∧ s.awake ∧ s.onTurn tr then s.broadcastPing p
      else s.onOpcode tr 0x04 .immediate pingBody
    | none => s)

/-- One word of SESSION_LIST (R247). -/
def Session.listWord (k : Session) : Word :=
  word (k.id * 65536 + k.source.transport.index * 4096 + k.role * 256 + k.tickets.length)

/-- SESSION_LIST (R247). -/
def listBody : Body := withLength 0 (fun _ s =>
  (.done (ok (s.bridle.sessions.map (fun k => k.listWord))), s))

def execSessionList (t : Nat) (tr : Transport) (s : State) : Host.Outcome State Fault Refusal :=
  s.run t (fun s => s.onOpcode tr 0x05 .immediate listBody)

def execGet (t : Nat) (tr : Transport) (s : State) : Host.Outcome State Fault Refusal :=
  s.run t (fun s => s.onOpcode tr 0x10 .immediate getBody)

def execDescribe (t : Nat) (tr : Transport) (s : State) : Host.Outcome State Fault Refusal :=
  s.run t (fun s => s.onOpcode tr 0x14 .immediate describeBody)

/-- The ports of D1 answer while D1 is powered (R448, R490). -/
def State.runPort (s : State) (t : Nat) (f : State → State) : Host.Outcome State Fault Refusal :=
  s.run t (fun s => if s.domainOn 1 then f s else s)

/-! ### The host port (R228 to R235) -/

/-- The status word that a transaction shifts out (R228). -/
def State.hostStatus (s : State) : Word :=
  let b := s.bridle
  word ((if s.holdIsLow then 2 ^ 31 else 0) + (if b.hostInDrain then 2 ^ 30 else 0) +
    (if b.hostOutDrain then 2 ^ 29 else 0) + (min 8191 (packetCount b.hostOut)) * 65536 +
    (queueCapacity - b.hostIn.length))

/-- A transaction begins: the status word is shifted out. -/
def State.spiBegin (s : State) : State :=
  { s with bridle := { s.bridle with spiStatus := s.hostStatus, spiRead := [] } }

/-- A 40-bit word the host writes, as a queue entry: a parity failure is a poison tag (R229). -/
def hostWord (w : BitVec 40) : QueuedWord :=
  let n := w.toNat
  let data := word (n % 2 ^ 32)
  let endMark := n.testBit 39
  ⟨data, endMark, n.testBit 38 != parityBit data endMark, n.testBit 38, false⟩

/-- A queue entry as the 40-bit word of a READ (R229, R231). -/
def readWord (w : QueuedWord) : BitVec 40 :=
  BitVec.ofNat 40 (flag w.endMark * 2 ^ 39 + flag (parityBit w.data w.endMark) * 2 ^ 38 +
    flag w.readOut.poison * 2 ^ 36 + w.data.toNat)

/-- The word of a READ from an empty queue: the empty bit, data bits 0 (R229). -/
def emptyReadWord : BitVec 40 := BitVec.ofNat 40 (2 ^ 38 + 2 ^ 37)

/-- The host inbound queue as the input stage sees it. -/
def State.hostQueue (s : State) : PortQueue := ⟨s.bridle.hostIn, s.bridle.hostInDrain, 0, 0⟩

/-- The host inbound queue after its input stage, with its counters (R233, R234). -/
def State.putHostQueue (s : State) (q : PortQueue) : State :=
  let s := (s.bump Pid.cmdHpDrainedIn 0 q.drained).bump Pid.cmdHpOverflow 0 q.overflow
  { s with bridle := { s.bridle with hostIn := q.words, hostInDrain := q.drain } }


/-- A packet that completes in a port queue raises the wake request while D5 is off (R17, R456). -/
def State.wakeOnPacket (s : State) (before : Nat) : State :=
  if s.power.asleep ∧ before < packetCount s.bridle.hostIn + packetCount s.bridle.serviceIn then s.raiseWake 1 else s

/-- SPI_NOP (R228): a command octet that is neither 0 nor assigned is counted. -/
def execSpiNop (t : Nat) (octet : Nat) (s : State) : Host.Outcome State Fault Refusal :=
  s.runPort t (fun s =>
    let s := s.spiBegin
    if octet ∈ [0x00, 0x01, 0x02, 0x04, 0x05] then s else s.bump Pid.cmdHpBadCmd)

/-- SPI_WRITE (R228, R229): `words` are the whole words clocked in, `cut` tells that HP_CS_N
rose inside a further word.  Words beyond the count are ignored. -/
def execSpiWrite (t : Nat) (count : Nat) (words : List (BitVec 40)) (cut : Bool) (s : State) :
    Host.Outcome State Fault Refusal :=
  s.runPort t (fun s =>
    let s := s.spiBegin
    let before := packetCount s.bridle.hostIn + packetCount s.bridle.serviceIn
    let ws := (words.take count).map hostWord
    let ws := match ws with
      | w :: rest => if s.bridle.hostPoisonNext then { w with poison := true } :: rest else ws
      | [] => []
    let keep := s.bridle.hostPoisonNext && ws.isEmpty
    let partial_ := cut && decide (words.length < count)
    let s := s.putHostQueue (ws.foldl PortQueue.push s.hostQueue)
    let s := if partial_ then s.bump Pid.cmdHpPartial else s
    ({ s with bridle := { s.bridle with hostPoisonNext := keep || partial_ } }).wakeOnPacket before)

/-- SPI_READ (R228, R229): `clocked` whole words are clocked out, at most the count; `cut` tells
that HP_CS_N rose inside a further word, which stays in the queue. -/
def execSpiRead (t : Nat) (count clocked : Nat) (cut : Bool) (s : State) :
    Host.Outcome State Fault Refusal :=
  s.runPort t (fun s =>
    let s := s.spiBegin
    let n := min count clocked
    let got := s.bridle.hostOut.take n
    let out := got.map readWord ++ List.replicate (n - got.length) emptyReadWord
    let s := { s with bridle := { s.bridle with hostOut := s.bridle.hostOut.drop n, spiRead := out } }
    if cut && decide (clocked < count) then s.bump Pid.cmdHpPartial else s)

/-- FLUSH_IN (R234). -/
def execFlushIn (t : Nat) (s : State) : Host.Outcome State Fault Refusal :=
  s.runPort t (fun s =>
    let s := s.spiBegin
    let b := s.bridle
    let s := s.bump Pid.cmdHpFlushed 0 (packetCount b.hostIn)
    { s with bridle := { s.bridle with hostIn := [], hostInDrain := flushDrains b.hostIn b.hostInDrain } })

/-- FLUSH_OUT (R234). -/
def execFlushOut (t : Nat) (s : State) : Host.Outcome State Fault Refusal :=
  s.runPort t (fun s =>
    let s := s.spiBegin
    let b := s.bridle
    let s := s.bump Pid.cmdHpFlushed 0 (packetCount b.hostOut)
    { s with bridle := { s.bridle with hostOut := [], hostOutDrain := flushDrains b.hostOut b.hostOutDrain } })

/-! ### The service port (R227) -/

/-- One word enters the service-port inbound queue; `ragged` marks a packet whose octet count was
not a multiple of 4. -/
def State.pushService (s : State) (w : QueuedWord) (ragged : Bool) : State :=
  let b := s.bridle
  let q := PortQueue.push ⟨b.serviceIn, b.serviceInDrain, 0, 0⟩ w
  let s := s.bump Pid.cmdSvOverflow 0 q.overflow
  let ended := decide (packetCount b.serviceIn < packetCount q.words)
  { s with bridle := { s.bridle with
      serviceIn := q.words, serviceInDrain := q.drain,
      serviceRagged := if ended then b.serviceRagged ++ [ragged] else b.serviceRagged } }

/-- The word of octets, most significant first, zero-filled below. -/
def wordOfOctets (os : List Byte) : Word :=
  let g := fun k => (os.getD k 0).toNat
  word (g 0 * 2 ^ 24 + g 1 * 2 ^ 16 + g 2 * 2 ^ 8 + g 3)

/-- A data octet after SLIP decoding: the fourth completes a word, which waits to learn whether
END follows it. -/
def State.serviceOctet (s : State) (o : Byte) (bad : Bool) : State :=
  let b := s.bridle
  let os := b.serviceOctets ++ [o]
  let bad' := b.serviceBad || bad
  if os.length < 4 then { s with bridle := { b with serviceOctets := os, serviceBad := bad' } }
  else
    let s := match b.serviceHeld with
      | some w => s.pushService (queued w.1 false w.2) false
      | none => s
    { s with bridle := { s.bridle with
        serviceOctets := [], serviceBad := false,
        serviceHeld := some (wordOfOctets os, bad') } }

/-- The END octet marks the packet's last word (R227); an END with nothing before it marks
nothing. -/
def State.serviceEnd (s : State) : State :=
  let b := s.bridle
  let s := match b.serviceHeld with
    | some w => s.pushService (queued w.1 true w.2) (!b.serviceOctets.isEmpty)
    | none =>
      if b.serviceOctets.isEmpty then s
      else s.pushService (queued (wordOfOctets b.serviceOctets) true b.serviceBad) true
  { s with bridle := { s.bridle with
      serviceOctets := [], serviceBad := false, serviceHeld := none,
      serviceEscape := false } }

/-- One octet on SV_RXD: SLIP framing per RFC 1055 (R227).  An octet with a framing error counts
as data and poisons its word. -/
def State.serviceReceive (s : State) (l : LineOctet) : State :=
  let b := s.bridle
  if !l.framed then { s with bridle := { b with serviceEscape := false } }.serviceOctet l.octet true
  else if b.serviceEscape then
    let o := if l.octet = 0xDC then 0xC0 else if l.octet = 0xDD then 0xDB else l.octet
    { s with bridle := { b with serviceEscape := false } }.serviceOctet o false
  else if l.octet = 0xC0 then s.serviceEnd
  else if l.octet = 0xDB then { s with bridle := { b with serviceEscape := true } }
  else s.serviceOctet l.octet false

/-- SERVICE_PORT_RECEIVE (R227). -/
def execServicePortReceive (t : Nat) (octets : List LineOctet) (s : State) :
    Host.Outcome State Fault Refusal :=
  s.runPort t (fun s =>
    (octets.foldl State.serviceReceive s).wakeOnPacket (packetCount s.bridle.hostIn + packetCount s.bridle.serviceIn))

/-- One octet SLIP-encoded. -/
def slipOctet (o : Nat) : List Byte :=
  if o = 0xC0 then [0xDB, 0xDC] else if o = 0xDB then [0xDB, 0xDD] else [BitVec.ofNat 8 o]

/-- SERVICE_PORT_TRANSMIT (R227): the next words leave at 3 Mbaud, SLIP-encoded, with END after
a packet's last word. -/
def execServicePortTransmit (t : Nat) (count : Nat) (s : State) : Host.Outcome State Fault Refusal :=
  s.runPort t (fun s =>
    let b := s.bridle
    let enc := fun (w : QueuedWord) =>
      (octetsOf w.data).flatMap slipOctet ++ (if w.endMark then [(0xC0 : Byte)] else [])
    { s with bridle := { b with
        serviceOut := b.serviceOut.drop count,
        serviceSent := (b.serviceOut.take count).flatMap enc } })

/-! ### Replies, tickets and deadlines (R236 to R245) -/

/-- The first waiting reply of a port. -/
def State.firstWaiting (s : State) (service : Bool) : Option WaitingReply :=
  s.bridle.waiting.find? (fun w => w.service == service)

/-- The state without the first waiting reply of a port. -/
def State.dropWaiting (s : State) (service : Bool) : State :=
  { s with bridle := { s.bridle with
      waiting := s.bridle.waiting.eraseP (fun w => w.service == service) } }

/-- REPLY_ENQUEUE (R236): a waiting reply is written whole once the outbound queue has room. -/
def execReplyEnqueue (t : Nat) (tr : Transport) (s : State) : Host.Outcome State Fault Refusal :=
  s.run t (fun s =>
    match tr with
    | .host =>
      match s.firstWaiting false with
      | some w =>
        if s.bridle.hostOut.length + w.words.length ≤ queueCapacity then
          (s.dropWaiting false).sendReply .host w.words
        else s
      | none => s
    | .service =>
      match s.firstWaiting true with
      | some w =>
        if s.bridle.serviceOut.length + w.words.length ≤ queueCapacity then
          (s.dropWaiting true).sendReply .service w.words
        else s
      | none => s
    | _ => s)

/-- REPLY_DROP (R236): a reply that has waited 60 s is dropped and counted. -/
def execReplyDrop (t : Nat) (tr : Transport) (s : State) : Host.Outcome State Fault Refusal :=
  s.run t (fun s =>
    match s.firstWaiting (tr == .service) with
    | some w =>
      if (tr = .host ∨ tr = .service) ∧ s.passed w.since (60 * sec) then
        (s.dropWaiting (tr == .service)).bump Pid.cmdRepliesDropped
      else s
    | none => s)

/-- TICKET_EXPIRY (R245): a ticket is retired 60 s after its result became ready. -/
def execTicketExpiry (t : Nat) (sid ticket : Nat) (s : State) : Host.Outcome State Fault Refusal :=
  s.run t (fun s =>
    match ((s.session sid).bind (fun k => k.ticket ticket)).bind (fun x => x.result) with
    | some (at_, _) =>
      if s.passed at_ (60 * sec) then
        (s.modifySession sid (fun k =>
          { k with tickets := k.tickets.filter (fun x => x.number != ticket) })).bump Pid.cmdTicketsExpired
      else s
    | none => s)

/-- SESSION_IDLE_CLOSE (R238). -/
def execSessionIdleClose (t : Nat) (sid : Nat) (s : State) : Host.Outcome State Fault Refusal :=
  s.run t (fun s =>
    match s.session sid with
    | some k => if s.passed k.lastAccept (s.p Pid.cmdSessionIdleS * sec) then s.closeSession sid else s
    | none => s)

/-- PROVISIONAL_TIMEOUT (R237). -/
def execProvisionalTimeout (t : Nat) (sid : Nat) (s : State) : Host.Outcome State Fault Refusal :=
  s.run t (fun s =>
    match s.session sid with
    | some k => if !k.proved ∧ s.passed k.openedAt (5 * sec) then s.closeSession sid else s
    | none => s)

/-- PROOF_LOCKOUT_END (R237). -/
def execProofLockoutEnd (t : Nat) (tr : Transport) (s : State) : Host.Outcome State Fault Refusal :=
  s.run t (fun s =>
    { s with bridle := { s.bridle with
        lockouts := s.bridle.lockouts.filter (fun l => !(l.1 == tr && decide (l.2 ≤ s.now))) } })

/-- REVOKED_IDENTIFIER_RELEASE (R238). -/
def execRevokedIdentifierRelease (t : Nat) (sid : Nat) (s : State) : Host.Outcome State Fault Refusal :=
  s.run t (fun s =>
    { s with bridle := { s.bridle with
        kept := s.bridle.kept.filter (fun k => !(k.id == sid && decide (k.until_ ≤ s.now))) } })

end Sys2Proof.Machine
end

