-- ==== Sys2Proof/Machine/Storage.lean ====
section
/-! DEFINITION.  The storage saddlebags: mirrored writes (R344), reads and repairs (R345, R346),
read thresholds (R347), placement, wear, scrub and bad blocks (R349 to R351), the metering
archive (R352), membership and resilvering (R353 to R357). -/

namespace Sys2Proof.Machine

open Sys2Proof

/-! ### Cassettes -/

/-- Change cassette `c`. -/
def State.modifyCassette (s : State) (c : Nat) (f : Cassette → Cassette) : State :=
  { s with storage := { s.storage with cassettes := s.storage.cassettes.modify c f } }

/-- Cassette `c`. -/
def State.cassette (s : State) (c : Nat) : Cassette := s.storage.cassettes.get c

/-- Count a measure of the storage matrix for operation `d` of region `k` (R362). -/
def State.sbCount (s : State) (d k m c : Nat) (n : Nat := 1) : State :=
  s.bump (0x6100 + 0x10 * (9 * d + k) + m) c n

/-- The cassette's temperature: read from it, or sys.temp_module where it declares no feature for it (R348). -/
def State.cassetteTemp (s : State) (c : Nat) : Int :=
  match (s.cassette c).maker with
  | some m => if m.hasTemperature then s.pI Pid.sbTemp c else s.pI Pid.sysTempModule
  | none => s.pI Pid.sbTemp c

/-- The temperature lies in the TLC program window (R348). -/
def State.inProgramWindow (s : State) (c : Nat) : Bool :=
  decide (s.pI Pid.sbProgTempMin ≤ s.cassetteTemp c) && decide (s.cassetteTemp c ≤ s.pI Pid.sbProgTempMax)

/-- One operation on a region (R362): it counts, with its KiB, with its time, which no rule gives and which is free,
and as cold outside the TLC program window. -/
def State.sbOp (s : State) (d k c kib : Nat) (n : Nat := 1) : State :=
  let s := (s.sbCount d k 0 c n).sbCount d k 1 c kib
  let s := s.sbCount d k 6 c (Config.measured (0x6106 + 0x10 * (9 * d + k)) c s.now)
  if s.inProgramWindow c then s else s.sbCount d k 7 c n

/-- The region a unit belongs to; archive blocks belong to region 8 (R342). -/
def StorageUnit.region : StorageUnit → Nat
  | .pslc r _ => r
  | .archive _ => 8

/-- pSLC units come before archive blocks in a resilver (R354). -/
def StorageUnit.isPslc : StorageUnit → Bool
  | .pslc _ _ => true
  | .archive _ => false

/-- A STORAGE_CHANGE record: cassette and sb.state (R354, R356, R373). -/
def State.storageChange (s : State) (c : Nat) : State := s.raise 0x23 c (s.p Pid.sbState c)

/-- A change of membership increments the mirror generation and writes it to the set part of
every cassette in service (R353). -/
def State.membershipChange (s : State) : State :=
  if !s.storageUp then s
  else
    let s := s.bump Pid.sbMirrorGen
    let g := s.p Pid.sbMirrorGen
    let put := fun (s : State) c =>
      if s.inService c then
        s.modifyCassette c (fun k => { k with set := k.set.map (fun x => { x with generation := g }) })
      else s
    put (put s 0) 1

/-! ### Blocks, families and placement (R342, R347, R349)

A block is named by die × 65,536 + its number in the die.  Blocks 0 and 1 of a die hold the identity and the
checkpoint, blocks 2 to 577 of dies 0 and 1 are pSLC, the others TLC (assumption 106). -/

/-- What cassette `c` keeps about block `b`. -/
def State.block (s : State) (c b : Nat) : BlockInfo := (s.cassette c).blocks.get b

/-- Change what cassette `c` keeps about block `b`. -/
def State.modifyBlock (s : State) (c b : Nat) (f : BlockInfo → BlockInfo) : State :=
  s.modifyCassette c (fun k => { k with blocks := k.blocks.modify b f })

/-- A block is TLC (R342). -/
def blockTlc (b : Nat) : Bool := decide (2 ≤ b / 65536) || decide (578 ≤ b % 65536)

/-- The blocks of a kind in a die of `perDie` blocks. -/
def dieBlocks (perDie : Nat) (tlc : Bool) (die : Nat) : List Nat :=
  let r := fun (first last : Nat) => (List.range (last - first)).map (fun k => die * 65536 + first + k)
  if 2 ≤ die then (if tlc then r 2 perDie else []) else if tlc then r 578 perDie else r 2 578

/-- All blocks of a kind on a cassette. -/
def kindBlocks (m : MakerPart) (tlc : Bool) : List Nat :=
  (List.range m.dies).flatMap (dieBlocks m.blocksPerDie tlc)

/-- The listed blocks of a kind. -/
def Cassette.kin (k : Cassette) (tlc : Bool) : List (Nat × BlockInfo) :=
  k.blocks.cells.filter (fun x => blockTlc x.1 == tlc)

/-- The erased block of a kind in a die with the lowest erase count (R349); the lowest number among equals
(assumption 82). -/
def Cassette.erased (k : Cassette) (perDie : Nat) (tlc : Bool) (die : Nat) : Option Nat :=
  (dieBlocks perDie tlc die).foldl (fun (r : Option Nat) b =>
    let x := k.blocks.get b
    if x.occupied || x.bad then r
    else match r with
      | some a => if x.erases < (k.blocks.get a).erases then some b else r
      | none => some b) none

/-- Show the erase counts and remaining life of cassette `c` (R349). -/
def State.showWear (s : State) (c : Nat) : State :=
  let k := s.cassette c
  match k.maker with
  | none => s
  | some m =>
    let count := fun tlc => (kindBlocks m tlc).length
    let total := fun tlc => sumN ((k.kin tlc).map (fun b => b.2.erases))
    let top := fun tlc => ((k.kin tlc).map (fun b => b.2.erases)).foldl max 0
    let s := (s.setP Pid.sbEraseMax (2 * c) (top false)).setP Pid.sbEraseMax (2 * c + 1) (top true)
    let s := (s.setP Pid.sbEraseMean (2 * c) (total false / count false)).setP Pid.sbEraseMean (2 * c + 1)
      (total true / count true)
    let pct := fun tlc e => if e = 0 then 0 else divUp (total tlc * 100) (count tlc * e * 10)
    s.setP Pid.sbLifePct c (100 - min 100 (max (pct false m.pslcEndurance) (pct true m.tlcEndurance)))

/-- Erase a block (R349): its count rises, and a family without blocks ends. -/
def State.eraseBlock (s : State) (c b : Nat) : State :=
  let s := s.sbOp 2 (s.block c b).region c 0
  let s := s.modifyBlock c b (fun x => { x with erases := x.erases + 1, occupied := false, age := 0, due := false })
  (s.modifyCassette c (fun k => { k with
    families := k.families.filter (fun f => k.blocks.cells.any (fun x => x.2.occupied && x.2.family == f.number)) })).showWear c

/-- The mean of two families' offsets weighted by their blocks, rounded toward zero (R347). -/
def meanOffsets (na nb : Nat) (a b : List Int) : List Int :=
  (a.zip b).map (fun x => if na + nb = 0 then x.1 else Int.tdiv (x.1 * na + x.2 * nb) ((na + nb : Nat) : Int))

/-- With 256 families the two oldest of one die and kind become one (R347). -/
def Cassette.mergeFamilies (k : Cassette) : Cassette :=
  if k.families.length < 256 then k
  else
    let kin := fun (a b : BlockFamily) => a.die == b.die && a.tlc == b.tlc && a.number != b.number
    match k.families.find? (fun a => k.families.any (kin a)) with
    | none => k
    | some a => match k.families.find? (kin a) with
      | none => k
      | some b =>
        let size := fun (n : Nat) => (k.blocks.cells.filter (fun x => x.2.occupied && x.2.family == n)).length
        let one := { a with offsets := meanOffsets (size a.number) (size b.number) a.offsets b.offsets }
        { k with
          families := (k.families.map (fun f => if f.number = a.number then one else f)).filter (fun f => f.number != b.number)
          blocks := { k.blocks with cells := k.blocks.cells.map (fun x =>
            (x.1, if x.2.family = b.number then { x.2 with family := a.number } else x.2)) } }

/-- The family of blocks of a die and kind programmed now: that of the 4 h window and 10 °C band, or a new one with
the offsets of the family before it (R347). -/
def State.familyNow (s : State) (c die : Nat) (tlc : Bool) : Nat × State :=
  let window := s.now / (4 * 3600 * sec)
  let band := Int.fdiv (s.cassetteTemp c) 1000
  let kin := (s.cassette c).families.filter (fun f => f.die == die && f.tlc == tlc)
  match kin.find? (fun f => f.window == window && f.band == band) with
  | some f => (f.number, s)
  | none =>
    let n := (s.cassette c).nextFamily
    let offsets := ((kin.getLast?).map (fun f => f.offsets)).getD (List.replicate (if tlc then 7 else 1) 0)
    (n, s.modifyCassette c (fun k =>
      let k := k.mergeFamilies
      { k with nextFamily := n + 1, families := k.families ++ [⟨n, die, tlc, window, band, offsets, none, 0, 0⟩] }))

/-- Block `b` takes new data of a region now (R347, R350). -/
def State.occupyBlock (s : State) (c b region : Nat) : State :=
  let f := s.familyNow c (b / 65536) (blockTlc b)
  f.2.modifyBlock c b (fun x => { x with
    occupied := true, region, since := s.now, age := 0, family := f.1, due := false, lastRepair := none })

/-- The occupied pSLC block programmed longest ago and not being filled, which is taken back where none is erased
(assumption 106). -/
def Cassette.oldest (k : Cassette) : Option Nat :=
  let free := (k.kin false).filter (fun x => x.2.occupied && !x.2.bad &&
    !(k.filling.cells.any (fun f => (f.2.map (fun y => y.1)) == some x.1)))
  (free.foldl (fun (r : Option (Nat × BlockInfo)) x => match r with
    | some a => if x.2.since < a.2.since then some x else r
    | none => some x) none).map (fun x => x.1)

/-- Take a new block for a region (R349): the dies in turn, in each the erased block with the lowest erase count. -/
def State.nandBlock (s : State) (c : Nat) (tlc : Bool) (region : Nat) : Option Nat × State :=
  match (s.cassette c).maker with
  | none => (none, s)
  | some m =>
    let k := s.cassette c
    let dies := if tlc then m.dies else 2
    let turn := if tlc then k.takenTlc else k.takenPslc
    let found := (List.range dies).findSome? (fun d => k.erased m.blocksPerDie tlc ((turn + d) % dies))
    let s := s.modifyCassette c (fun k =>
      if tlc then { k with takenTlc := turn + 1 } else { k with takenPslc := turn + 1 })
    match found with
    | some b => (some b, s.occupyBlock c b region)
    | none =>
      if tlc then (none, s)
      else match k.oldest with
        | some b => (some b, (s.eraseBlock c b).occupyBlock c b region)
        | none => (none, s)

/-- Program pages of a region into pSLC blocks, one block after the other (R349); the count bounds the blocks. -/
def State.programPages (s : State) (c region : Nat) : Nat → Nat → State
  | 0, _ => s
  | n + 1, pages =>
    let size := (((s.cassette c).maker.map (fun m => m.pslcPages)).getD 256)
    let open_ := (s.cassette c).filling.get region
    let t : Option Nat × State := match open_ with
      | some (b, used) => if used < size then (some b, s) else s.nandBlock c false region
      | none => s.nandBlock c false region
    match t.1 with
    | none => t.2
    | some b =>
      let used := match open_ with
        | some (a, u) => if a = b ∧ u < size then u else 0
        | none => 0
      let here := min pages (size - used)
      let s := t.2.modifyCassette c (fun k => { k with filling := k.filling.set region (some (b, used + here)) })
      if pages ≤ here then s else s.programPages c region n (pages - here)

/-- Program a unit's data on cassette `c`: pages of its region, or the TLC block of its archive slot, whose former
block is erased first (R349, R352). -/
def State.programUnit (s : State) (c : Nat) (u : StorageUnit) (kib : Nat) : State :=
  match u with
  | .pslc r _ => s.programPages c r (kib / 4096 + 2) (divUp kib 16)
  | .archive i =>
    let s := match (s.cassette c).archiveAt.get i with
      | some b => s.eraseBlock c b
      | none => s
    let t := s.nandBlock c true 8
    t.2.modifyCassette c (fun k => { k with archiveAt := k.archiveAt.set i t.1 })

/-! ### Mirrored writes (R344, R355) -/

/-- Add a unit to a list once. -/
def addUnit (u : StorageUnit) (us : List StorageUnit) : List StorageUnit :=
  if us.contains u then us else us ++ [u]

/-- The copier to cassette `c` runs: from a source in service, at no shed step (R355, R357, R358). -/
def State.copierRuns (s : State) (c : Nat) : Bool :=
  match (s.cassette c).resilver with
  | some r => s.p Pid.sbState c == 2 && r.stopped.isNone && s.inService (1 - c) && s.shed == 0 && s.d8On
  | none => false

/-- The unit is being copied to cassette `c`. -/
def State.copying (s : State) (c : Nat) (u : StorageUnit) : Bool :=
  match (s.cassette c).resilver with
  | some r => s.copierRuns c && r.todo.head? == some u
  | none => false

/-- The copier has passed the unit, or never needs to copy it. -/
def State.copied (s : State) (c : Nat) (u : StorageUnit) : Bool :=
  match (s.cassette c).resilver with
  | some r => !r.todo.contains u
  | none => false

/-- The cassettes a write of unit `u` goes to: every one in service, and one that is resilvering
where the copier has passed the unit (R344, R355). -/
def State.writeTargets (s : State) (u : StorageUnit) : List Nat :=
  [0, 1].filter (fun c => s.inService c || (s.p Pid.sbState c == 2 && s.copied c u))

/-- Mark a unit in the dirty map of the cassettes in service (R355). -/
def State.dirtyUnit (s : State) (u : StorageUnit) : State :=
  let put := fun (s : State) c =>
    if s.inService c then
      s.modifyCassette c (fun k => { k with
        dirty := k.dirty.map (fun d => { d with units := addUnit u d.units }) })
    else s
  put (put s 0) 1

/-- Start a mirrored write of a unit, `kib` KiB long; `after` follows when it is complete (R344).
A write to the unit being copied waits until that unit is done (R355). -/
def State.storeWrite (s : State) (u : StorageUnit) (kib : Nat) (after : WriteEnd) : State :=
  let waits := s.copying 0 u || s.copying 1 u
  let ts := s.writeTargets u
  let w : PendingWrite := ⟨s.storage.nextWrite, u, waits, ts, after⟩
  let s := ts.foldl (fun s c => (s.sbOp 1 u.region c kib).programUnit c u kib) s
  let s := if waits then s.setFlag Pid.sbHold 0 4 true else s
  let s := s.dirtyUnit u
  { s with storage := { s.storage with
      mapped := addUnit u s.storage.mapped,
      writes := s.storage.writes ++ [w],
      nextWrite := s.storage.nextWrite + 1 } }

/-- What follows a complete write. -/
def State.writeEnds (s : State) (e : WriteEnd) : State :=
  match e with
  | .nothing => s
  | .result ref r => s.finish ref r

/-- Complete every write that no longer waits for a cassette. -/
def State.settleWrites (s : State) : State :=
  let done := s.storage.writes.filter (fun w => w.targets.isEmpty && !w.waits)
  let s := { s with storage := { s.storage with
      writes := s.storage.writes.filter (fun w => !(w.targets.isEmpty && !w.waits)) } }
  done.foldl (fun s w => s.writeEnds w.after) s

/-- A copier that stops lets go of the writes that waited for its unit (R355). -/
def State.releaseWaits (s : State) : State :=
  let s := { s with storage := { s.storage with
      writes := s.storage.writes.map (fun (w : PendingWrite) => { w with waits := false }) } }
  (s.setFlag Pid.sbHold 0 4 false).settleWrites

/-- Abandon the writes in flight to cassette `c`; they complete on the other (R356). -/
def State.abandonWrites (s : State) (c : Nat) : State :=
  ({ s with storage := { s.storage with
      writes := s.storage.writes.map (fun (w : PendingWrite) => { w with targets := w.targets.filter (· != c) }) } }).settleWrites

/-! ### Presence and identification (R340, R341, R353, R354) -/

/-- CASSETTE_DETECT (R340): DET_N falls and the 100 ms debounce starts. -/
def execCassetteDetect (t : Nat) (c : Nat) (s : State) : Host.Outcome State Fault Refusal :=
  s.run t (fun s =>
    if c < 2 ∧ (s.cassette c).detSince.isNone then
      s.modifyCassette c (fun k => { k with detSince := some s.now })
    else s)

/-- The reference geometry (R342) is the smallest accepted. -/
def makerAccepted (m : MakerPart) : Bool :=
  decide (2 ≤ m.dies ∧ m.dies ≤ 4) && decide (16 ≤ m.pageKiB) && decide (1920 ≤ m.spareOctets) &&
  decide (768 ≤ m.tlcPages) && decide (256 ≤ m.pslcPages) && decide (2732 ≤ m.blocksPerDie)

/-- Flag bits of sb.flags (R361). -/
abbrev sbForeign : Nat := 7
abbrev sbBlank : Nat := 6
abbrev sbStale : Nat := 5
abbrev sbEjectReady : Nat := 4
abbrev sbSpareLow : Nat := 3
abbrev sbColdProgrammed : Nat := 2
abbrev sbGeometry : Nat := 1
abbrev sbBusError : Nat := 0

/-- Put cassette `c` in service: the mirror generation rises and a record is written (R353,
R354). -/
def State.enterService (s : State) (c : Nat) : State :=
  let s := ((s.setP Pid.sbState c 3).setP Pid.sbResilverPct c 100).setP Pid.sbResilverKind c 0
  let s := (s.setFlag Pid.sbFlags c sbStale false).setFlag Pid.sbFlags c sbBlank false
  let s := s.modifyCassette c (fun k => { k with resilver := none })
  -- the dirty map of the source has been served
  let s := s.modifyCassette (1 - c) (fun k => { k with dirty := none })
  s.membershipChange.storageChange c

/-- The remaining time of a resilver in seconds, at 125 MiB/s in pSLC and 40.76 MiB/s in TLC for
the reference geometry (R355). -/
def resilverEta (us : List StorageUnit) : Nat :=
  let p := (us.filter (fun u => u.isPslc)).length
  let a := us.length - p
  divUp (p * 4 * 4076 + a * 12 * 12500) (125 * 4076)

/-- Show the progress of a resilver (R355). -/
def State.showResilver (s : State) (c : Nat) : State :=
  match (s.cassette c).resilver with
  | none => s
  | some r =>
    (s.setP Pid.sbResilverPct c (if r.total = 0 then 100 else (r.total - r.todo.length) * 100 / r.total)).setP
      Pid.sbResilverEtaS c (resilverEta r.todo)

/-- Start resilvering cassette `c` from the other: a delta resilver copies the units of the dirty
map, a full one every mapped unit, pSLC first (R354, R355). -/
def State.startResilver (s : State) (c : Nat) (delta : Bool) : State :=
  let src := s.cassette (1 - c)
  let all := s.storage.mapped
  let us := if delta then ((src.dirty.map (fun d => d.units)).getD []) else all
  let us := us.filter (fun u => u.isPslc) ++ us.filter (fun u => !u.isPslc)
  let s := (s.setP Pid.sbState c 2).setP Pid.sbResilverKind c (if delta then 1 else 2)
  let s := s.modifyCassette c (fun k => { k with
    resilver := some ⟨!delta, us, us.length, none⟩,
    set := some ⟨s.w Pid.sbSetId 0, s.p Pid.sbMirrorGen, (s.w Pid.idSerial 0, s.w Pid.idSerial 1), s.clockSec⟩ })
  let s := s.showResilver c
  if us.isEmpty then s.enterService c else s

/-- Whether cassette `c` is identified and waits for its place (R353). -/
def State.candidate (s : State) (c : Nat) : Bool := s.p Pid.sbState c == 1 && (s.cassette c).maker.isSome

/-- Format cassette `c` and resilver it from the other (R353, R354). -/
def State.formatCassette (s : State) (c : Nat) : State :=
  let s := (s.setFlag Pid.sbFlags c sbBlank false).setFlag Pid.sbFlags c sbForeign false
  s.startResilver c false

/-- A resilver of the other cassette that stopped for want of this source resumes when it returns
unchanged (R357). -/
def State.resumeCopy (s : State) (c : Nat) : State :=
  match (s.cassette (1 - c)).resilver with
  | some r =>
    if s.p Pid.sbState (1 - c) = 2 ∧
        r.stopped = (s.cassette c).set.map (fun x => (x.setId, x.generation)) then
      s.modifyCassette (1 - c) (fun k => { k with resilver := some { r with stopped := none } })
    else s
  | none => s

/-- A set identifier drawn from the random source; never 0 (R341, R353). -/
def State.drawSetId (s : State) : Word × State :=
  let d := s.drawWord
  (if d.1 = 0 then 1 else d.1, d.2)

/-- Cassette `c` carries the set identifier that the module holds; then its mirror generation (R353). -/
def State.matching (s : State) (c : Nat) : Option Nat :=
  if !s.candidate c then none
  else (s.cassette c).set.bind (fun x =>
    if x.setId = s.w Pid.sbSetId 0 ∧ x.setId ≠ 0 then some x.generation else none)

/-- Place a cassette beside one in service (R353, R354): an equal member goes in service, another member is stale, a
blank one is formatted, a foreign one waits. -/
def State.placeBeside (s : State) (c : Nat) : State :=
  if !s.candidate c ∨ !s.inService (1 - c) then s
  else match (s.cassette c).set with
    | none => (s.setFlag Pid.sbFlags c sbBlank true).formatCassette c
    | some _ =>
      match s.matching c with
      | none => s.setFlag Pid.sbFlags c sbForeign true
      | some g =>
        if g = s.p Pid.sbMirrorGen then s.enterService c
        else
          let mine := (s.cassette c).maker.map (fun m => (m.serialHi, m.serialLo))
          let delta := ((s.cassette (1 - c)).dirty.map (fun d => d.byEject && mine == some d.serial)).getD false
          (s.setFlag Pid.sbFlags c sbStale true).startResilver c delta

/-- Cassette `c` of generation `g` goes in service alone (R353): the membership changed, but where it is the source
that a stopped resilver waits for (R357). -/
def State.serveAlone (s : State) (c g : Nat) : State :=
  let s := (s.setP Pid.sbMirrorGen 0 g).setP Pid.sbState c 3
  let s := s.resumeCopy c
  let waits := s.p Pid.sbState (1 - c) = 2
  let s := if waits then s else s.membershipChange
  let s := s.storageChange c
  if waits ∧ ((s.cassette (1 - c)).resilver.map (fun r => r.stopped.isSome)).getD true then s.startResilver (1 - c) false
  else s.placeBeside (1 - c)

/-- Both members went into service together, with equal generations: nothing changed (R353). -/
def State.serveBoth (s : State) (g : Nat) : State :=
  let s := ((s.setP Pid.sbMirrorGen 0 g).setP Pid.sbState 0 3).setP Pid.sbState 1 3
  (s.storageChange 0).storageChange 1

/-- No cassette is in service and every cassette present is identified (R353): the member of the highest generation
goes in service; with no member a foreign one does, SB-A first; two blank ones are formatted as a new set. -/
def State.placeFirst (s : State) : State :=
  let foreign := fun (c : Nat) => s.candidate c && (s.cassette c).set.isSome
  let blank := fun (c : Nat) => s.candidate c && (s.cassette c).set.isNone
  let adopt := fun (s : State) (c : Nat) => match (s.cassette c).set with
    | some x => (s.setW Pid.sbSetId 0 x.setId).serveAlone c x.generation
    | none => s
  match s.matching 0, s.matching 1 with
  | some a, some b => if a = b then s.serveBoth a else if b < a then s.serveAlone 0 a else s.serveAlone 1 b
  | some a, none => s.serveAlone 0 a
  | none, some b => s.serveAlone 1 b
  | none, none =>
    if s.p Pid.sbState 0 = 2 ∨ s.p Pid.sbState 1 = 2 then s
    else if foreign 0 then adopt s 0
    else if foreign 1 then adopt s 1
    else if blank 0 && blank 1 then
      let d := s.drawSetId
      let fresh : SetPart := ⟨d.1, 0, (s.w Pid.idSerial 0, s.w Pid.idSerial 1), s.clockSec⟩
      let put := fun (s : State) c => s.modifyCassette c (fun k => { k with set := some fresh })
      ((put (put (d.2.setW Pid.sbSetId 0 d.1) 0) 1).serveBoth 0).membershipChange
    else
      let show_ := fun (s : State) c => if blank c then s.setFlag Pid.sbFlags c sbBlank true else s
      show_ (show_ s 0) 1

/-- A cassette is present and not yet identified (R340, R354). -/
def State.unidentified (s : State) (c : Nat) : Bool :=
  (s.cassette c).detSince.isSome && !(s.cassette c).powered && !s.flagOf Pid.sbFlags c sbEjectReady

/-- Identified cassettes take their places (R353): beside one in service at once, else once every cassette present is
identified. -/
def State.placeCassettes (s : State) : State :=
  if s.storageUp then (s.placeBeside 0).placeBeside 1
  else if s.unidentified 0 || s.unidentified 1 then s
  else s.placeFirst

/-- The cassette `c` shows its identity: another than the one that was here brings its own blocks, and one that
returns has aged at AF = 1 for the calendar time it was away (R341, R350). -/
def State.cassetteIdentity (s : State) (c : Nat) (report : CassetteReport) : State :=
  let serial := fun (m : Option MakerPart) => m.map (fun m => (m.serialHi, m.serialLo))
  let aged := fun (k : Cassette) => match k.leftAt with
    | some a =>
      let add := (s.clockSec - a) * 1000 / 3600
      k.blocks.cells.map (fun x => (x.1, if x.2.occupied then { x.2 with age := x.2.age + add } else x.2))
    | none => k.blocks.cells
  s.modifyCassette c (fun k =>
    let k := if serial k.maker = serial report.maker then { k with blocks := { k.blocks with cells := aged k } }
      else { Cassette.absent with detSince := k.detSince }
    { k with powered := true, maker := report.maker, set := report.set, checkpointAt := s.now, scrubFrom := s.now, leftAt := none })

/-- CASSETTE_POWER_ON (R340, R354 steps 2 and 3): after 100 ms without a break PEN rises, the
identity block is read and the cassette takes its place in the membership. -/
def execCassettePowerOn (t : Nat) (c : Nat) (report : CassetteReport) (s : State) :
    Host.Outcome State Fault Refusal :=
  s.run t (fun s =>
    match (s.cassette c).detSince with
    | none => s
    | some d =>
      -- an ejected cassette stays off until it has been removed (R356)
      if c < 2 ∧ !(s.cassette c).powered ∧ s.passed d (100 * ms) ∧ s.d8On ∧ !s.flagOf Pid.sbFlags c sbEjectReady then
        let s := s.cassetteIdentity c report
        let s := (s.setP Pid.sbState c 1).setP Pid.sbFlags c 0
        let s := (s.setP Pid.sbBusMode c (if report.mode = 0xFF then 0xFF else
          min report.mode (s.p Pid.sbMaxMode))).setI Pid.sbTemp c report.temperature
        match report.maker with
        | none => (((s.setP Pid.sbState c 4).setFlag Pid.sbFlags c sbBusError true).storageChange c).placeCassettes
        | some m =>
          let s := (s.setW Pid.sbSerial (2 * c) m.serialHi).setW Pid.sbSerial (2 * c + 1) m.serialLo
          if !makerAccepted m then
            (((s.setP Pid.sbState c 4).setFlag Pid.sbFlags c sbGeometry true).storageChange c).placeCassettes
          else
            let extra := m.dies * m.blocksPerDie - 5464
            let s := s.setP Pid.sbSpare (2 * c) (128 - report.factoryBadPslc)
            let s := s.setP Pid.sbSpare (2 * c + 1) (min 65535 (553 + extra - report.factoryBadTlc))
            let s := s.setP Pid.sbFactoryBad c (report.factoryBadPslc + report.factoryBadTlc)
            s.placeCassettes
      else s)

/-- Take cassette `c` off its bus: PEN low, state absent (R340, R356); what it holds stays on it. -/
def State.cassetteOff (s : State) (c : Nat) : State :=
  let s := (s.setP Pid.sbState c 0).setP Pid.sbBusMode c 0xFF
  s.modifyCassette c (fun k => { k with powered := false, resilver := none, leftAt := some s.clockSec })

/-- Cassette `c` has left the membership in the way `leave` says: its writes in flight end on the other, whose dirty
map starts with what a copier had not reached (R355, R356); a resilver whose source leaves stops with its position
kept (R357). -/
def State.memberGone (s : State) (c : Nat) (byEject : Bool) (leave : State → State) : State :=
  let k := s.cassette c
  let serial := (k.maker.map (fun m => (m.serialHi, m.serialLo))).getD (0, 0)
  let uncopied := (k.resilver.map (fun r => r.todo)).getD []
  let member := s.inService c || s.p Pid.sbState c == 2
  let wasSource := s.inService c
  let mine := k.set.map (fun x => (x.setId, x.generation))
  let s := leave (s.abandonWrites c).releaseWaits
  let o := 1 - c
  let s :=
    if s.inService o ∧ member then s.modifyCassette o (fun x => { x with dirty := some ⟨uncopied, serial, byEject⟩ })
    else if wasSource ∧ s.p Pid.sbState o = 2 then
      s.modifyCassette o (fun x => { x with
        resilver := x.resilver.map (fun r => { r with stopped := mine }) })
    else s
  (if member then s.membershipChange else s).storageChange c

/-- Cassette `c` leaves its connector or its power (R355, R356). -/
def State.memberLeft (s : State) (c : Nat) (byEject : Bool) : State :=
  s.memberGone c byEject (fun s => s.cassetteOff c)

/-- Cassette `c` goes to state failed: neither read nor written from then on (R351). -/
def State.memberFails (s : State) (c : Nat) : State :=
  s.memberGone c false (fun s => (s.setP Pid.sbState c 4).modifyCassette c (fun k => { k with resilver := none }))

/-- CASSETTE_REMOVED (R340, R356): DET_N rises, every operation on the cassette ends at once. -/
def execCassetteRemoved (t : Nat) (c : Nat) (s : State) : Host.Outcome State Fault Refusal :=
  s.run t (fun s =>
    let present := (s.cassette c).powered
    let s := (s.modifyCassette c (fun k => { k with detSince := none })).endTest (32 + c) 5
    let s := if c < 2 ∧ present then (s.memberLeft c false).setP Pid.sbFlags c 0
      else s.setFlag Pid.sbFlags c sbEjectReady false
    if s.storageUp then s else s.placeCassettes)

/-- A write of 1 to sb.eject (R356): writes in flight finish, the checkpoint is recorded, the
dirty map starts on the other cassette, PEN falls and eject_ready is set. -/
def State.ejectCassette (s : State) (c : Nat) : State :=
  if (s.cassette c).powered ∧ s.inService (1 - c) then
    let s := s.endTest (32 + c) 5
    let s := s.modifyCassette c (fun k => { k with checkpointAt := s.now })
    ((s.memberLeft c true).setFlag Pid.sbFlags c sbEjectReady true).setP Pid.sbEject c 0
  else s.setP Pid.sbEject c 0

/-- A write of 1 to sb.adopt (R353): a foreign cassette is formatted and resilvered. -/
def State.adoptCassette (s : State) (c : Nat) : State :=
  if s.p Pid.sbState c = 1 ∧ s.flagOf Pid.sbFlags c sbForeign ∧ s.inService (1 - c) then
    (s.formatCassette c).setP Pid.sbAdopt c 0
  else s.setP Pid.sbAdopt c 0

/-- RESILVER_UNIT_COPY (R355, R357): the copier completes the unit at its head and takes the
next; it runs at no shed step and while its source is in service. -/
def execResilverUnitCopy (t : Nat) (c : Nat) (s : State) : Host.Outcome State Fault Refusal :=
  s.run t (fun s =>
    match (s.cassette c).resilver with
    | none => s
    | some r =>
      if s.copierRuns c then
        match r.todo with
        | [] => s
        | u :: rest =>
          let kib := if u.isPslc then 4096 else 12288
          let s := ((s.sbOp 0 u.region (1 - c) kib).sbOp 1 u.region c kib).programUnit c u kib
          let s := s.modifyCassette c (fun k => { k with resilver := some { r with todo := rest } })
          let release := fun (w : PendingWrite) =>
            if w.waits && w.unit == u then { w with waits := false, targets := w.targets ++ [c] } else w
          let s := { s with storage := { s.storage with writes := s.storage.writes.map release } }
          let s := s.setFlag Pid.sbHold 0 4 (s.storage.writes.any (fun w => w.waits))
          let s := s.showResilver c
          if rest.isEmpty then s.enterService c else s
      else s)

/-! ### Refresh, repair and spare (R345, R350, R351) -/

/-- What lies in block `b` moves to a new block of its kind (R344, R350): the archive slot or the filling of its region
follows. -/
def State.moveData (s : State) (c b : Nat) : State :=
  let t := s.nandBlock c (blockTlc b) (s.block c b).region
  t.2.modifyCassette c (fun k => { k with
    archiveAt := { k.archiveAt with cells := k.archiveAt.cells.map (fun x => (x.1, if x.2 = some b then t.1 else x.2)) }
    filling := { k.filling with cells := k.filling.cells.map (fun x => (x.1, match x.2, t.1 with
      | some (a, used), some n => if a = b then some (n, used) else x.2
      | y, _ => y)) } })

/-- Retire a block: its data is rewritten elsewhere, and it is taken from the spare of its kind; spare_low with a
record below sb.spare_warn, and state failed when the spare is exhausted (R344, R351). -/
def State.retireBlock (s : State) (c b : Nat) : State :=
  let kind := flag (blockTlc b)
  let held := (s.block c b).occupied
  let s := s.modifyBlock c b (fun x => { x with bad := true, occupied := false })
  let s := if held then s.moveData c b else s
  let s := s.bumpSat 65535 Pid.sbBadBlocks c
  let left := s.p Pid.sbSpare (2 * c + kind)
  if left ≤ 1 then (s.setP Pid.sbSpare (2 * c + kind) 0).memberFails c
  else
    let s := s.setP Pid.sbSpare (2 * c + kind) (left - 1)
    if left - 1 < s.p Pid.sbSpareWarn ∧ !s.flagOf Pid.sbFlags c sbSpareLow then
      (s.setFlag Pid.sbFlags c sbSpareLow true).raise 0x24 (2 * c + kind) (left - 1)
    else s

/-- PROGRAM_FAILURE (R344, R351): a program or erase fails; the block is retired and the data rewritten elsewhere on
that cassette. -/
def execProgramFailure (t : Nat) (c block : Nat) (s : State) : Host.Outcome State Fault Refusal :=
  s.run t (fun s =>
    if s.p Pid.sbState c = 2 ∨ s.p Pid.sbState c = 3 then
      (s.sbCount 1 (s.block c block).region 5 c).retireBlock c block
    else s)

/-- Refresh a block: its data moves to a new block and the old one is erased (R350); under a shed step the refresh
waits (R358). -/
def State.refreshBlock (s : State) (c b : Nat) : State :=
  if s.shed ≠ 0 then s.modifyBlock c b (fun x => { x with due := x.occupied })
  else
    let s := s.sbOp 3 (s.block c b).region c (if blockTlc b then 12288 else 4096)
    (s.moveData c b).eraseBlock c b

/-- The refreshes of cassette `c` that are due take place (R350, R358). -/
def State.refreshDue (s : State) (c : Nat) : State :=
  let limit := s.p Pid.sbRefreshDays * 24000
  let due := ((s.cassette c).blocks.cells.filter (fun b => b.2.occupied && (b.2.due || decide (limit ≤ b.2.age)))).map
    (fun b => b.1)
  if s.inService c ∨ s.p Pid.sbState c = 2 then due.foldl (fun s b => s.refreshBlock c b) s else s

/-- A repair of a page of block `b` (R345); the second within sb.scrub_days retires the block
(R351). -/
def State.repairBlock (s : State) (c b region : Nat) : State :=
  let s := s.sbCount 0 region 4 c
  match (s.block c b).lastRepair with
  | some r =>
    if s.now < r + s.p Pid.sbScrubDays * 86400 * sec then s.retireBlock c b
    else s.modifyBlock c b (fun x => { x with lastRepair := some s.now })
  | none => s.modifyBlock c b (fun x => { x with lastRepair := some s.now })

/-- Track a family after a read by retry vector: two pages in a row with the same offsets move the
family (R347). -/
def BlockFamily.afterRead (f : BlockFamily) (step : Nat) (offs : List Int) : BlockFamily :=
  if 2 ≤ step ∧ step ≤ 9 then
    { f with
             offsets := if f.lastSuccess = some offs then offs else f.offsets,
             lastSuccess := some offs, retries := f.retries + 1 }
  else { f with lastSuccess := none }

/-- Change the family of a number. -/
def modifyFamily (f : BlockFamily → BlockFamily) (n : Nat) (fs : List BlockFamily) : List BlockFamily :=
  fs.map (fun x => if x.number = n then f x else x)

/-- The hard-decoding capacity of a codeword: 5 × 10⁻³ of its 36,608 bits (R346). -/
abbrev hardCapacity : Nat := 183

/-- READ_COMPLETE (R345 to R347, R350): a page read of cassette `c` ends at ladder step 1 to 11,
or fails the ladder (step 12), when `mirror` tells whether the other cassette's copy decodes. -/
def execReadComplete (t : Nat) (c region block step corrected : Nat) (offsets : List Int)
    (mirror : Bool) (s : State) : Host.Outcome State Fault Refusal :=
  s.run t (fun s =>
    if !s.inService c ∨ region > 8 then s
    else
      let fam := (s.block c block).family
      let s := s.sbOp 0 region c 16
      let s := s.modifyCassette c (fun k => { k with
        families := modifyFamily (fun f => f.afterRead step offsets) fam k.families })
      if step ≤ 11 then
        let s := if 2 ≤ step ∧ step ≤ 9 then s.sbCount 0 region 2 c else s
        let s := if 10 ≤ step then s.sbCount 0 region 3 c else s
        if 10 ≤ step ∨ hardCapacity * s.p Pid.sbRefreshPct < corrected * 100 then s.refreshBlock c block else s
      else
        let s := (s.sbCount 0 region 5 c).bump Pid.sbUncorrectable c
        if s.inService (1 - c) ∧ mirror then s.repairBlock c block region
        else (s.bump Pid.sbLostUnits).raise 0x25 region 0)

/-- MAP_CHECKPOINT (R343): every 10 min the map goes to blocks 0 and 1. -/
def execMapCheckpoint (t : Nat) (c : Nat) (s : State) : Host.Outcome State Fault Refusal :=
  s.run t (fun s =>
    if (s.cassette c).powered ∧ s.d8On ∧ s.passed (s.cassette c).checkpointAt (600 * sec) then
      s.modifyCassette c (fun k => { k with checkpointAt := s.now })
    else s)

/-- One level of `track` (R347): corrected bits at the family's offset, one step below and one
above. -/
def trackLevel (off : Int) (e0 em ep : Nat) : Int :=
  if min em ep + 4 < e0 then (if em < ep then off - 1 else off + 1) else off

/-- The offsets of a family after tracking, bounded by the identity block's largest magnitude. -/
def trackOffsets (bound : Int) : List Int → List (Nat × Nat × Nat) → List Int
  | [], _ => []
  | o :: os, [] => o :: os
  | o :: os, b :: bs => clampI (-bound) bound (trackLevel o b.1 b.2.1 b.2.2) :: trackOffsets bound os bs

/-- PATROL_SCRUB (R347, R350): the family is tracked once per pass, with the corrected bits of
its three reads per level; a pass begins at least once per sb.scrub_days. -/
def execPatrolScrub (t : Nat) (c family : Nat) (bits : List (Nat × Nat × Nat)) (s : State) :
    Host.Outcome State Fault Refusal :=
  s.run t (fun s =>
    if !s.inService c ∨ !s.d8On then s
    else
      let k := s.cassette c
      let due := s.passed k.scrubFrom (s.p Pid.sbScrubDays * 86400 * sec)
      let s := if due then s.modifyCassette c (fun k => { k with scrubPass := k.scrubPass + 1, scrubFrom := s.now }) else s
      let pass := (s.cassette c).scrubPass
      let bound : Int := ((k.maker.map (fun m => m.largestOffset)).getD 0 : Nat)
      let track := fun (f : BlockFamily) =>
        if f.trackedPass = pass + 1 then f
        else { f with offsets := trackOffsets bound f.offsets bits, trackedPass := pass + 1 }
      let region := (((s.cassette c).blocks.cells.find? (fun x => x.2.occupied && x.2.family == family)).map
        (fun x => x.2.region)).getD 8
      -- three reads of a 16 KiB page for each level
      (s.modifyCassette c (fun k => { k with families := modifyFamily track family k.families })).sbOp 0 region c
        (48 * bits.length) (3 * bits.length))

/-- RETENTION_AGE_UPDATE (R350): each hour AF / 24 is added to every block's age at the cassette's
temperature, and blocks at sb.refresh_days are refreshed. -/
def execRetentionAgeUpdate (t : Nat) (temps : List Int) (s : State) : Host.Outcome State Fault Refusal :=
  s.run t (fun s =>
    if !s.passed s.storage.ageAt (3600 * sec) then s
    else
      let step := fun (s : State) c =>
        if !(s.cassette c).powered then s
        else
          let s := s.setI Pid.sbTemp c (temps.getD c (s.pI Pid.sbTemp c))
          let temp := s.cassetteTemp c
          let e := (((s.cassette c).maker.map (fun m => m.activationMeV)).getD 0)
          let add := Config.arrhenius e temp
          let aged := fun (b : BlockInfo) => if b.occupied then { b with age := b.age + add } else b
          let s := s.modifyCassette c (fun k => { k with
            blocks := { k.blocks with cells := k.blocks.cells.map (fun b => (b.1, aged b.2)) } })
          s.refreshDue c
      let s := step (step s 0) 1
      { s with storage := { s.storage with ageAt := s.now } })

/-- The erase counts of a kind differ by more than 200 (R349). -/
def Cassette.uneven (k : Cassette) (tlc : Bool) : Bool :=
  let ns := ((k.kin tlc).filter (fun x => !x.2.bad)).map (fun x => x.2.erases)
  let all := ((k.maker.map (fun m => (kindBlocks m tlc).length)).getD 0)
  let low := if (k.kin tlc).length < all then 0 else ns.foldl min (ns.headD 0)
  decide (low + 200 < ns.foldl max 0)

/-- WEAR_MOVE (R349): when the highest erase count of a kind exceeds the lowest by more than 200,
the data of the least-erased occupied block moves to the most-erased free block, at most once per
10 min; under a shed step it waits (R358). -/
def execWearMove (t : Nat) (c source target : Nat) (s : State) : Host.Outcome State Fault Refusal :=
  s.run t (fun s =>
    let k := s.cassette c
    let a := k.blocks.get source
    let b := k.blocks.get target
    let kin := (k.kin (blockTlc source)).filter (fun x => !x.2.bad)
    let least : Bool := kin.all (fun x => !x.2.occupied || decide (a.erases ≤ x.2.erases))
    let most : Bool := kin.all (fun x => x.2.occupied || decide (x.2.erases ≤ b.erases))
    let free : Bool := match k.lastMove with
      | some m => s.passed m (600 * sec)
      | none => true
    if s.inService c ∧ s.shed = 0 ∧ s.d8On ∧ free ∧ a.occupied ∧ !b.occupied ∧ !b.bad ∧ blockTlc source = blockTlc target ∧
        least ∧ most ∧ k.uneven (blockTlc source) then
      let s := s.modifyCassette c (fun k => { k with
        lastMove := some s.now
        archiveAt := { k.archiveAt with cells := k.archiveAt.cells.map (fun x =>
          (x.1, if x.2 = some source then some target else x.2)) }
        filling := { k.filling with cells := k.filling.cells.map (fun x => (x.1, x.2.map (fun y =>
          (if y.1 = source then target else y.1, y.2)))) } })
      (s.occupyBlock c target a.region).eraseBlock c source
    else s)

/-! ### The metering archive (R352) -/

/-- The landing holds 512 MiB of 16 KiB pages, one minute block each (R342). -/
abbrev landingCapacity : Nat := 32768

/-- Folds run inside the program-temperature window, or anyway once the landing reaches 90 %
(R348). -/
def State.foldAllowed (s : State) (c : Nat) : Bool :=
  !s.inService c || s.inProgramWindow c || decide (landingCapacity * 9 ≤ s.storage.landing.length * 10)

/-- Cassette `c` folds outside its temperature window (R348). -/
def State.foldsCold (s : State) (c : Nat) : Bool := s.inService c && !s.inProgramWindow c

/-- A fold outside the window shows, and the block's retention age starts at three quarters of sb.refresh_days
(R348). -/
def State.coldFold (s : State) (c slot : Nat) : State :=
  let s := s.setFlag Pid.sbFlags c sbColdProgrammed true
  match (s.cassette c).archiveAt.get slot with
  | some b => s.modifyBlock c b (fun x => { x with age := s.p Pid.sbRefreshDays * 18000 })
  | none => s

/-- The landing's pages that a fold has released make their blocks free, oldest first, where they hold no page of the
landing any more (R352). -/
def State.releaseLanding (s : State) (c : Nat) : State :=
  let k := s.cassette c
  let size := ((k.maker.map (fun m => m.pslcPages)).getD 256)
  let used := ((k.filling.get 8).map (fun x => x.2)).getD 0
  let current := (k.filling.get 8).map (fun x => x.1)
  let full := ((k.kin false).filter (fun x => x.2.occupied && x.2.region == 8 && current != some x.1))
  let order := full.mergeSort (fun a b => decide (a.2.since ≤ b.2.since))
  let keep := divUp (s.storage.landing.length - used) size
  (order.take (order.length - keep)).foldl (fun s x => s.eraseBlock c x.1) s

/-- FOLD (R348, R352, R358): 1,533 landing blocks become one archive block; a full ring first
erases its oldest block and writes a record with the first block sequence removed. -/
def execFold (t : Nat) (s : State) : Host.Outcome State Fault Refusal :=
  s.run t (fun s =>
    if s.storage.landing.length < 1533 ∨ s.shed ≠ 0 ∨ !s.d8On ∨ !s.storageUp ∨ !s.foldAllowed 0 ∨ !s.foldAllowed 1 then s
    else
      let s :=
        if s.storage.archive.length < 3755 then s
        else
          let first := ((s.storage.archive.head?.bind (fun b => b.head?)).map (fun b => b.sequence)).getD 0
          ({ s with storage := { s.storage with archive := s.storage.archive.tail } }).raise 0x1C first 0
      let slot := s.storage.folds % 3755
      let s := { s with storage := { s.storage with
          archive := s.storage.archive ++ [s.storage.landing.take 1533],
          landing := s.storage.landing.drop 1533, folds := s.storage.folds + 1 } }
      let s := s.storeWrite (.archive slot) 12288 .nothing
      let after := fun (s : State) c =>
        if !s.inService c then s
        else (if s.foldsCold c then s.coldFold c slot else s).releaseLanding c
      after (after s 0) 1)

/-- The minute blocks of the archive and its landing, oldest first (R352). -/
def State.archivedBlocks (s : State) : List MinuteBlock :=
  s.storage.archive.flatten ++ s.storage.landing

/-- Write one minute block into the landing (R352). -/
def State.archiveBlock (s : State) (b : MinuteBlock) : State :=
  let s := { s with storage := { s.storage with
      landing := s.storage.landing ++ [b], lastArchived := some b.sequence } }
  s.storeWrite (.pslc 8 (b.sequence / 256 % 128)) 16 .nothing

/-- The archive takes writes now: no shed step, D8 on, a cassette in service (R358), and the
module is no wheeler (R359). -/
def State.archiveTakes (s : State) : Bool :=
  s.shed == 0 && s.d8On && s.storageUp && !s.wheeler

/-- ARCHIVE_INFO (R247, R352). -/
def archiveInfoBody : Body := withLength 0 (fun _ s =>
  let bs := s.archivedBlocks
  let close := fun (b : Option MinuteBlock) => (b.map (fun x => x.close)).getD 0
  let w := fun n => [word (n / 2 ^ 32), word n]
  (.done (ok (w (close bs.head?) ++ w (close bs.getLast?) ++ [word bs.length])), s))

def execArchiveInfo (t : Nat) (tr : Transport) (s : State) : Host.Outcome State Fault Refusal :=
  s.run t (fun s => s.onOpcode tr 0x60 .immediate archiveInfoBody)

/-- The block ARCHIVE_READ chooses: the one whose span contains the time, exclusive of its start
and inclusive of its close, else the first that closes after it (R352). -/
def chooseBlock (sec_ : Nat) (bs : List MinuteBlock) : Option MinuteBlock :=
  match bs.find? (fun b => decide (b.close * 1000 - b.durationMs < sec_ * 1000) && decide (sec_ ≤ b.close)) with
  | some b => some b
  | none => bs.find? (fun b => decide (sec_ ≤ b.close))

/-- ARCHIVE_READ (R247, R352, R357). -/
def archiveReadBody : Body := withLength 3 (fun q s =>
  let at_ := bits (nth q.payload 0) 15 0 * 2 ^ 32 + (nth q.payload 1).toNat
  let first := bits (nth q.payload 2) 31 16
  let count := bits (nth q.payload 2) 15 0
  if bits (nth q.payload 0) 31 16 ≠ 0 then refuse stRange 0 s
  else if count = 0 ∨ 512 < first + count then refuse stRange 2 s
  else if !s.storageUp then refuse stRefusedState 0 s
  else match chooseBlock at_ s.archivedBlocks with
    | none => refuse stRange 0 s
    | some b =>
      (.later, s.finish q.ref (ok (b.header ++ ((b.channels.drop first).take count).flatten))))

def execArchiveRead (t : Nat) (tr : Transport) (s : State) : Host.Outcome State Fault Refusal :=
  s.run t (fun s => s.onOpcode tr 0x61 .deferred archiveReadBody)

end Sys2Proof.Machine
end

