-- ==== Sys2Proof/Machine/Waybill.lean ====
section
/-! DEFINITION.  The waybill's own commands: reading (R371), the freeze (R369, R370), clearing
(R372) and the snapshot sets (R365). -/

namespace Sys2Proof.Machine

open Sys2Proof

/-! ### Records as words (R363) -/

/-- Words 7 to 38 of a record: its snapshot entries, zeros beyond them. -/
def entryWords : Nat → List (Nat × Nat × Word) → List Word
  | 0, _ => []
  | n + 1, [] => 0 :: 0 :: entryWords n []
  | n + 1, e :: es => pair e.1 e.2.1 :: e.2.2 :: entryWords n es

/-- The 40 words of a record (R363). -/
def EventRecord.words (r : EventRecord) : List Word :=
  let w0 := word (r.code * 2 ^ 24 + r.severity * 2 ^ 21 + flag r.staged * 2 ^ 20 +
    flag r.held * 2 ^ 19 + r.suppressed)
  let w4 := word (r.quality * 2 ^ 29 + flag r.irregular * 2 ^ 28 + r.snapset * 2 ^ 22 +
    r.entries.length * 2 ^ 17)
  let body := [w0, word r.index, r.date, r.time, w4, r.detailA, r.detailB] ++ entryWords 16 r.entries
  body ++ [crc32 body]

/-- Two lists of records in index order as one. -/
def State.mergeRecords (s : State) : Nat → List EventRecord → List EventRecord → List EventRecord
  | 0, a, b => a ++ b
  | _, [], b => b
  | _, a, [] => a
  | n + 1, x :: xs, y :: ys =>
    if s.indexAge y.index < s.indexAge x.index then x :: s.mergeRecords n xs (y :: ys)
    else y :: s.mergeRecords n (x :: xs) ys

/-- Every stored record in index order (R371). -/
def State.recordsInOrder (s : State) : List EventRecord :=
  s.mergeRecords (s.waybill.general.length + s.waybill.critical.length) s.waybill.general s.waybill.critical

/-- The records at or above an index, or all where it lies below the oldest (R371); where the index has wrapped since the
oldest was stored, those above it and those after the wrap. -/
def State.recordsFrom (s : State) (start : Nat) : List EventRecord :=
  let next := s.p Pid.wbNextIndex
  let oldest := s.oldestIndex.getD next
  if oldest ≤ next then s.recordsInOrder.filter (fun r => decide (start ≤ r.index))
  else if start < next then s.recordsInOrder.filter (fun r => decide (start ≤ r.index ∧ r.index < next))
  else s.recordsInOrder.filter (fun r => decide (start ≤ r.index ∨ r.index < next ∨ start < oldest))

/-! ### Reading, freezing and the snapshot sets -/

/-- WB_READ (R371). -/
def wbReadBody : Body := withLength 2 (fun q s =>
  let start := (nth q.payload 0).toNat
  let count := (nth q.payload 1).toNat
  if count = 0 ∨ (q.limit - 1) / 40 < count then refuse stRange 1 s
  else
    let rs := (s.recordsFrom start).take count
    (.done (ok (rs.flatMap (fun r => r.words))), s))

def execWbRead (t : Nat) (tr : Transport) (s : State) : Host.Outcome State Fault Refusal :=
  s.run t (fun s => s.onOpcode tr 0x50 .immediate wbReadBody)

/-- WB_FREEZE (R369, R370). -/
def wbFreezeBody : Body := withLength 1 (fun q s =>
  let w := nth q.payload 0
  if bits w 31 1 ≠ 0 then refuse stRange 0 s
  else
    let n := word s.waybill.staged.length
    if bit w 0 then
      (.done (ok [n]), { s with waybill := { s.waybill with frozenSince := some s.now } })
    else if s.waybill.frozenSince.isSome then (.done (ok [n]), s.releaseFreeze)
    else (.done (ok [0]), s))

def execWbFreeze (t : Nat) (tr : Transport) (s : State) : Host.Outcome State Fault Refusal :=
  s.run t (fun s => s.onOpcode tr 0x51 .immediate wbFreezeBody)

/-- FREEZE_AUTO_RELEASE (R369): the freeze ends wb.freeze_max_s after the last WB_FREEZE with
1. -/
def execFreezeAutoRelease (t : Nat) (s : State) : Host.Outcome State Fault Refusal :=
  s.run t (fun s =>
    match s.waybill.frozenSince with
    | some a => if s.passed a (s.p Pid.wbFreezeMaxS * sec) then s.releaseFreeze else s
    | none => s)

/-- The WB_CLEARED record of a clear: stored at once, at every shed step (R358, R372). -/
def State.storeCleared (s : State) (erased sid : Nat) : State :=
  let s := s.wbCount 1 .raised
  let r := s.formRecord 1 sevNotice (s.p Pid.wbCodeSnap 1) (word erased) (word sid)
  (s.setP Pid.wbSuppressed 1 0).appendRecord r

/-- WB_SNAPSET (R365): the whole set is written, unused words where no entry is given. -/
def wbSnapsetBody : Body := fun q s =>
  let set := (nth q.payload 0).toNat
  let es := q.payload.drop 1
  if q.payload.isEmpty then refuse stRange 0 s
  else if 17 < q.payload.length then refuse stRange 17 s
  else if set = 0 ∨ 63 < set then refuse stRange 0 s
  else match es.findIdx? (fun w => !snapEntryOk w) with
    | some k => refuse stRange (k + 1) s
    | none =>
      (.done (ok), s.setElements Pid.wbSnapset (set * 16)
        (es ++ List.replicate (16 - es.length) 0xFFFFFFFF))

def execWbSnapset (t : Nat) (tr : Transport) (s : State) : Host.Outcome State Fault Refusal :=
  s.run t (fun s => s.onOpcode tr 0x53 .immediate wbSnapsetBody)

end Sys2Proof.Machine
end

