-- ==== Sys2Proof/Machine/Vault.lean ====
section
/-! DEFINITION.  The tack room: loading and replacing keys (R384 to R388), invalidation and
orphaning (R389, R390), the life cycle (R393), tamper (R394, R395) and the random source. -/

namespace Sys2Proof.Machine

open Sys2Proof

/-! ### Slots -/

/-- Change what the vault keeps for slot `k`. -/
def State.modifySlot (s : State) (k : Nat) (f : KeySlot → KeySlot) : State :=
  { s with vault := { s.vault with slots := s.vault.slots.modify k f } }

/-- A KEY_EVENT Notice record (R373). -/
def State.keyEvent (s : State) (slot b : Nat) : State := s.raiseAs 0x27 sevNotice slot b

/-- Show the most-written slot's share of 10,000 commits (R378). -/
def State.showVaultWear (s : State) : State :=
  let m := s.vault.slots.cells.foldl (fun m c => max m c.2.commits) 0
  s.setP Pid.keyVaultWearPct 0 (min 255 (m / 100))

/-- Write a key into a slot by its commit cells: the older cell takes generation + 1, the other
half and the attributes, and the old half is erased (R377, R387). -/
def State.commitKey (s : State) (k : Nat) (attr : Word) (key : Nat) (check : Word) : State :=
  let slot := s.vault.slots.get k
  let gen := ((slot.cell).map (fun c => c.generation)).getD 0 + 1
  let toB := ((slot.cell).map (fun c => !c.halfB)).getD false
  let c : CommitCell := ⟨gen, toB, attr, check⟩
  let older0 : Bool := match slot.cell0, slot.cell1 with
    | none, _ => true
    | some _, none => false
    | some a, some b => decide (a.generation < b.generation)
  let s := s.modifySlot k (fun x => { x with
    halfA := if toB then none else some key, halfB := if toB then some key else none,
    cell0 := if older0 then some c else x.cell0, cell1 := if older0 then x.cell1 else some c,
    commits := x.commits + 1 })
  let s := (((((s.setP Pid.keySlotState k 1).setW Pid.keySlotAttr k attr).setW Pid.keySlotCheck k check).setP
    Pid.keySlotGen k gen).setP Pid.keySlotHalf k (flag toB)).bump Pid.keyVaultCommits
  s.showVaultWear

/-- The bits of a key of an attribute word's length (R380, R383). -/
def attrBits (a : Word) : Nat := if attrLength a = 1 then 256 else 128

/-- The attribute word of a derived slot (R382): kind, length, parent, master, world; usable in
every life-cycle state but Scrapped. -/
def derivedAttr (kind len256 parent master : Nat) (secure : Bool) : Word :=
  word (kind * 2 ^ 28 + len256 * 2 ^ 22 + parent * 2 ^ 16 + 2 ^ (11 + master) +
    (if secure then 2 ^ 10 else 2 ^ 9) + 0xF0)

/-- Put a key into a derived slot (R383). -/
def State.placeDerived (s : State) (k : Nat) (attr : Word) (key : Nat) : State :=
  let s := s.modifySlot k (fun x => { x with
    halfA := some key, halfB := none, cell1 := none,
    cell0 := some ⟨((x.cell).map (fun c => c.generation)).getD 0 + 1, false, attr, keyCheck key⟩,
    commits := x.commits + 1 })
  let s := ((s.setP Pid.keySlotState k 1).setW Pid.keySlotAttr k attr).setW Pid.keySlotCheck k (keyCheck key)
  let s := (s.bump Pid.keySlotGen k).setP Pid.keySlotHalf k 0
  s.keyUse .kdf 0 (bits attr 21 16)

/-- A derivation from slot `parent` by the key-handling part of the runtime (R381, R383): the parent key where the vault
permits it. -/
def State.deriveFrom (s : State) (parent : Nat) : Option Nat × State :=
  let c := s.vaultCheck .kdf parent 0 true
  (if c.1 then c.2.slotKey parent else none, c.2)

/-- Derive K03, the update key, from K01 and sys.site_id (R382). -/
def State.deriveUpdateKey (s : State) : State :=
  if s.slotKey 1 = none then s
  else
    let d := s.deriveFrom 1
    match d.1 with
    | none => d.2
    | some k =>
      let a := d.2.slotAttr 1
      d.2.placeDerived 3 (derivedAttr 3 (attrLength a) 1 0 true)
        (kdf k labelUpdate (octetsOfNat 4 (s.p Pid.sysSiteId)) (attrBits a))

/-- Derive K07, the tandem key, from K02 and the site and segment numbers (R382). -/
def State.deriveTandemKey (s : State) : State :=
  if s.slotKey 2 = none then s
  else
    let d := s.deriveFrom 2
    match d.1 with
    | none => d.2
    | some k =>
      let a := d.2.slotAttr 2
      d.2.placeDerived 7 (derivedAttr 6 (attrLength a) 2 4 false)
        (kdf k labelTandem (octetsOfNat 4 (s.p Pid.sysSiteId) ++ octetsOfNat 2 (s.p Pid.sysSegmentId)) (attrBits a))

/-- The network key of a generation (R322, R382). -/
def State.networkKey (s : State) (gen : Nat) : Option Nat :=
  (s.slotKey 2).map (fun k => kdf k labelNetwork [gen % 256] 128)

/-- Derive K04, the network key of the present generation, from K02 and relay.key_gen (R382). -/
def State.deriveNetworkKey (s : State) : State :=
  if s.slotKey 2 = none then s
  else
    let d := s.deriveFrom 2
    match d.1, s.networkKey (s.p Pid.relayKeyGen) with
    | some _, some k => d.2.placeDerived 4 (derivedAttr 5 0 2 3 false) k
    | _, _ => d.2

/-- The next generation of the network key comes into use and counters restart at 0 (R322, R389). -/
def State.nextGeneration (s : State) : State :=
  let s := ((s.setP Pid.relayKeyGen 0 ((s.p Pid.relayKeyGen + 1) % 256)).mark Pid.relayKeyGen 0).setP Pid.relayFcOut 0 0
  let s := s.deriveNetworkKey
  s.contexts.foldl (fun s n => s.setP Pid.relayNodeFcIn n 0) s

/-- The join key of a node (R325, R382): usable exactly while K02 is valid. -/
def State.joinKey (s : State) (eui : Nat) : Option Nat :=
  (s.slotKey 2).map (fun k => kdf k labelJoin (octetsOfNat 8 eui) 128)

/-- Refresh the derived descendants of a slot that holds a new key (R383, R388): a new segment
key refreshes K07 at once, leaves a valid K04 in force and asks the relay to announce the next
generation; a new site key refreshes K03 and closes the update session. -/
def State.refreshDerived (s : State) (k : Nat) : State :=
  if k = 1 then (s.deriveUpdateKey).updateKeyLost
  else if k = 2 then
    let s := s.deriveTandemKey
    if s.slotState 4 = 1 then { s with vault := { s.vault with announceNext := true } }
    else s.deriveNetworkKey
  else s

/-! ### KEY_INFO -/

/-- KEY_INFO (R247): attributes, state and check value of a slot. -/
def keyInfoBody : Body := withLength 1 (fun q s =>
  let k := (nth q.payload 0).toNat
  if 63 < k then refuse stRange 0 s
  else (.done (ok [s.slotAttr k, word (s.slotState k), s.w Pid.keySlotCheck k]), s))

def execKeyInfo (t : Nat) (tr : Transport) (s : State) : Host.Outcome State Fault Refusal :=
  s.run t (fun s => s.onOpcode tr 0x80 .immediate keyInfoBody)

/-! ### KEY_LOAD (R384 to R387, R396) -/

/-- A paired tandem lead. -/
def State.pairedLead (s : State) : Bool := s.lead && s.p Pid.tdmState == 3

/-- Hand a message of a given length to the tandem link under the tandem key (R390, R420, R446). -/
def State.linkSend (s : State) (kind octets : Nat) (body : List Word) : State :=
  let r := s.vaultCheck .tdmFrame 7 4 false
  if !r.1 then r.2
  else
    let s := ((r.2.keyUse .tdmFrame 4 7).tdmCount (kind - 1) 0).tdmCount (kind - 1) 2 octets
    s.withTandem (fun k => { k with
      out := k.out ++ [(kind, body)], nextCounter := k.nextCounter.set kind (k.nextCounter.get kind + 1) })

/-- Hand a message of whole words to the tandem link: header, counter and tag make 16 octets more (R420). -/
def State.tandemPost (s : State) (kind : Nat) (body : List Word) : State :=
  s.linkSend kind (16 + 4 * body.length) body

/-- Queue a vault write; a paired lead first carries the command to its wheeler (R396). -/
def State.vaultJob (s : State) (j : VaultJob) (ref : Option TicketRef) (carry : List Word) : State :=
  let waits := s.pairedLead && !carry.isEmpty
  let s := { s with vault := { s.vault with jobs := s.vault.jobs ++ [(j, ref, s.now, waits)] } }
  if waits then s.tandemPost 7 carry else s

/-- The words of the key that a blob carries, by its version and its length in octets (R384). -/
def blobKeyWords (version octets : Nat) : Nat := octets / 4 + (if version = 1 then 2 else 0)

/-- Orders 1 to 5 of R385. -/
def State.keyLoadRefusal (s : State) (q : Request) : Option Result :=
  let k := (nth q.payload 0).toNat
  let attr := nth q.payload 2
  let w1 := nth q.payload 3
  let version := bits w1 31 24
  let octets := bits w1 23 16
  let kind := attrKind attr
  let parent := attrParent attr
  let site := decide (kind = 2)
  let plain := decide (version = 0)
  if q.payload.length < 4 then some (fail stRange q.payload.length)
  else if 63 < k ∨ k = 0 ∨ (3 ≤ k ∧ k ≤ 7) then some (fail stRange 0)
  else if 9 ≤ kind ∨ 2 ≤ attrLength attr ∨ bits attr 3 0 ≠ 0 then some (fail stRange 2)
  else if 1 < version ∨ (octets ≠ 16 ∧ octets ≠ 32) ∨ bits w1 15 0 ≠ 0 ∨
      octets ≠ (if attrLength attr = 1 then 32 else 16) then some (fail stRange 3)
  else if q.payload.length ≠ 4 + blobKeyWords version octets then
    some (fail stRange (min q.payload.length (4 + blobKeyWords version octets)))
  else if site ∧ parent ≠ 0 then some (fail stRange 2)
  else if !site ∧ parent ≠ 1 ∧ parent ≠ 2 ∧ attrKind (s.slotAttr parent) ≠ 8 then some (fail stRange 2)
  else if s.lifecycle = 2 ∧ (s.slotState k = 0 ∨ s.slotAttr k ≠ attr) then some (fail stAuth)
  else if plain ∧ ¬ (site ∧ s.lifecycle = 0 ∧ (q.source = .host ∨ q.source = .service)) then some (fail stAuth)
  else if s.tamperActive 0 ∨ s.tamperActive 1 then some (fail stNotCommitted)
  else if !plain ∧ s.slotState (if site then 1 else parent) ≠ 1 then some (fail stNotCommitted)
  else if !s.storageUp then some (fail stNotCommitted)
  else none

/-- Steps 2 and 3 of R387: the key of an accepted blob. -/
def State.openBlob (s : State) (slot : Nat) (blob : List Word) : Option Nat × State :=
  let attr := nth blob 0
  let key := blob.drop 2
  if bits (nth blob 1) 31 24 = 0 then (some (natOfWords key), s)
  else
    let from_ := if attrKind attr = 2 then 1 else attrParent attr
    let c := s.vaultCheck .unwrap from_ 0 true
    if !c.1 then (none, c.2)
    else match c.2.slotKey from_ with
      | none => (none, c.2)
      | some k =>
        let s := (c.2.keyUse .kdf 0 from_).keyUse .unwrap 0 from_
        let kek := kdf k labelWrap ([slot] ++ octetsOf attr) (attrBits (s.slotAttr from_))
        match Config.aesUnwrap kek key with
        | none => (none, s.keyCount .unwrap 1 0)
        | some v => (some v, s)

/-- KEY_LOAD (R385 to R387). -/
def keyLoadBody : Body := fun q s =>
  if s.wheeler then refuse stRefusedState 0 s
  else match s.keyLoadRefusal q with
    | some r => (.done r, s)
    | none =>
      let k := (nth q.payload 0).toNat
      let blob := q.payload.drop 2
      let o := s.openBlob k blob
      match o.1 with
      | none => (.later, (o.2.bump Pid.keyLoadFails).finish q.ref (fail stNotCommitted))
      | some key =>
        if keyCheck key ≠ nth q.payload 1 then
          (.later, (o.2.bump Pid.keyLoadFails).finish q.ref (fail stNotCommitted))
        else
          (.later, (o.2.keyUse .load 0 k).vaultJob (.load k (nth blob 0) key (nth q.payload 1)) (some q.ref)
            (q.payload))

def execKeyLoad (t : Nat) (tr : Transport) (s : State) : Host.Outcome State Fault Refusal :=
  s.run t (fun s => s.onOpcode tr 0x81 .deferred keyLoadBody)

/-! ### KEY_INVALIDATE (R389) -/

/-- KEY_INVALIDATE (R389). -/
def keyInvalidateBody : Body := withLength 1 (fun q s =>
  let k := (nth q.payload 0).toNat
  if s.wheeler then refuse stRefusedState 0 s
  else if k = 0 ∨ 63 < k ∨ s.slotState k = 0 then refuse stRange 0 s
  else (.later, (s.keyUse .invalidate 0 k).vaultJob (.invalidate k) (some q.ref) [nth q.payload 0]))

def execKeyInvalidate (t : Nat) (tr : Transport) (s : State) : Host.Outcome State Fault Refusal :=
  s.run t (fun s => s.onOpcode tr 0x82 .deferred keyInvalidateBody)

/-! ### LIFECYCLE (R393) -/

/-- The transitions of R393 that this session may ask for. -/
def State.lifecycleAllows (s : State) (q : Request) (target : Nat) : Bool :=
  let cur := s.lifecycle
  if cur = 0 ∧ target = 1 then s.slotState 1 == 1 && s.slotState 2 == 1
  else if cur = 1 ∧ (target = 2 ∨ target = 3) then true
  else if cur = 3 ∧ (target = 1 ∨ target = 2) then true
  else if cur = 2 ∧ target = 3 then q.source == .service
  else if cur ≤ 3 ∧ target = 4 then true
  else if cur = 4 ∧ target = 0 then q.role == 4 && s.farrier
  else false

/-- LIFECYCLE (R393). -/
def lifecycleBody : Body := withLength 1 (fun q s =>
  let target := (nth q.payload 0).toNat
  if 4 < target then refuse stRange 0 s
  else if s.p Pid.updHolder ≠ 0 ∨ !s.lifecycleAllows q target then refuse stRefusedState 0 s
  else (.later, (s.keyCount .lifecycle 0 0).vaultJob (.lifecycle target) (some q.ref) []))

def execLifecycle (t : Nat) (tr : Transport) (s : State) : Host.Outcome State Fault Refusal :=
  s.run t (fun s => s.onOpcode tr 0x83 .deferred lifecycleBody)

/-! ### Commits -/

/-- Erase every half, commit cell, the seed and the session keys (R393, R395); the writes a slot has seen stay counted
(R378). -/
def State.zeroise (s : State) : State :=
  let ks := List.range 64
  let s := s.setRun Pid.keySlotState 0 (List.replicate 64 4)
  let s := ks.foldl (fun s k =>
    (((s.setW Pid.keySlotAttr k 0).setW Pid.keySlotCheck k 0).setP Pid.keySlotGen k 0).setP Pid.keySlotHalf k 0) s
  let slots := s.vault.slots.cells.map (fun c => (c.1, { KeySlot.empty with commits := c.2.commits }))
  let s := { s with vault := { s.vault with
    slots := { s.vault.slots with cells := slots }, seed := none, jobs := [], invalidMarks := 0, orphanMarks := 0,
    previousLeft := 0 } }
  let s := { s with bridle := { s.bridle with
    sessions := s.bridle.sessions.map (fun (k : Session) => { k with key := 0 }) } }
  s.bump Pid.keyZeroisations

/-- Close every session (R238). -/
def State.closeAllSessions (s : State) : State :=
  (s.bridle.sessions.map (fun k => k.id)).foldl State.closeSession s

/-- A new 256-bit vault seed from the die's random source (R393, R395); the root key and its check
value follow (R382, R397). -/
def State.newSeed (s : State) : State :=
  let n := Config.freeNat s.draws % 2 ^ 256
  let s := { s with draws := s.draws + 1, vault := { s.vault with seed := some n } }
  let root := Config.rootKey n
  let attr : Word := word (2 ^ 28 + 2 ^ 22 + 2 ^ 11 + 2 ^ 10 + 0x1F0)
  ((s.setP Pid.keySlotState 0 1).setW Pid.keySlotAttr 0 attr).setW Pid.keyRootCheck 0 (keyCheck root) |>.setW
    Pid.keySlotCheck 0 (keyCheck root)

/-- A life-cycle record commits (R393). -/
def State.enterLifecycle (s : State) (target : Nat) : State :=
  let s := (s.setP Pid.idLifecycle 0 target).bump Pid.keyLifecycleChanges
  if target = 1 then
    (s.bridle.sessions.filter (fun k => k.slot == 0xFF)).foldl (fun s k => s.closeSession k.id) s
  else if target = 4 then
    -- sessions whose keys are erased can go on no more (R395)
    (s.bridle.sessions.filter (fun k => k.slot != 0xFF)).foldl (fun s k => s.closeSession k.id) s.zeroise
  else if target = 0 then s.newSeed
  else s

/-- Steps 5 and 6 of R387: the key is in force and its derived slots are refreshed. -/
def State.commitLoad (s : State) (k : Nat) (attr : Word) (key : Nat) (check : Word) : State :=
  ((s.commitKey k attr key check).refreshDerived k).keyEvent k 0

/-! ### Orphaning (R389, R390) -/

/-- The chain of parents of slot `k` passes through `a` (R382). -/
def descends (attr : Nat → Word) (a : Nat) : Nat → Nat → Bool
  | 0, _ => false
  | n + 1, k =>
    if k = 0 then false
    else
      let parent := attrParent (attr k)
      parent == a || descends attr a n parent

/-- The slots that the invalidation of slot `k` orphans: every valid descendant (R389). -/
def State.orphansOf (s : State) (k : Nat) : List Nat :=
  (List.range 64).filter (fun j =>
    j ≠ k && s.slotState j == 1 && descends s.slotAttr k 64 j)

/-- The sessions opened on a slot close, and their identifiers are kept (R238, R390); unsent replies
are discarded. -/
def State.orphanSessions (s : State) (slot : Nat) : State :=
  let gone := s.bridle.sessions.filter (fun k => k.slot == slot)
  gone.foldl (fun s k =>
    let s := s.closeSession k.id
    let mine := fun (ws : List Word) => (headerOf ws).session == k.id
    { s with bridle := { s.bridle with
        kept := s.bridle.kept ++ [⟨k.id, k.source, s.now + s.p Pid.cmdSessionIdleS * sec⟩],
        waiting := s.bridle.waiting.filter (fun w => !mine w.words),
        uplinkOut := s.bridle.uplinkOut.filter (fun w => !mine w.2),
        relayOut := s.bridle.relayOut.filter (fun w => !mine w.2) } }) s

/-- What follows when a slot becomes unusable (R390). -/
def State.slotLost (s : State) (k : Nat) : State :=
  let s := s.orphanSessions k
  if k = 3 then s.updateKeyLost
  else s

/-- An invalidation of slot `k` commits (R389, R390): how many further slots it orphans. -/
def State.commitInvalidation (s : State) (k : Nat) : Nat × State :=
  let orphans := s.orphansOf k
  let also := if k = 4 ∧ s.slotState 5 = 1 then [5] else []
  let s := { s with vault := { s.vault with
    invalidMarks := (k :: also).foldl setBit s.vault.invalidMarks,
    orphanMarks := orphans.foldl setBit s.vault.orphanMarks,
    invalidationGeneration := (s.vault.invalidationGeneration + 1) % 2 ^ 32 } }
  let s := (s.bump Pid.keyVaultCommits).bump Pid.keyOrphanEvents
  let s := (k :: also).foldl (fun s j => s.setP Pid.keySlotState j 3) s
  let s := orphans.foldl (fun s j => s.setP Pid.keySlotState j 2) s
  let s := ((k :: also) ++ orphans).foldl State.slotLost s
  let n := orphans.length + also.length
  -- naming K04 derives the next generation at once if K02 is valid
  let s := if k = 4 ∧ s.slotState 2 = 1 then
      ({ s with relay := { s.relay with keyMove := none }, vault := { s.vault with previousLeft := 0 } } : State).nextGeneration
    else s
  (n, s.keyEvent k n)

/-- The vault write at the head of the queue takes effect, and its result becomes ready (R387, R389, R393). -/
def State.commitJob (s : State) (j : VaultJob) (ref : Option TicketRef) : State :=
  match j with
  | .load k attr key check => (s.commitLoad k attr key check).finishOpt ref (ok)
  | .lifecycle target => ((s.bump Pid.keyVaultCommits).finishOpt ref (ok)).enterLifecycle target
  | .invalidate k =>
    let x := s.commitInvalidation k
    x.2.finishOpt ref (ok [word x.1])

/-- KEY_COMMIT (R387 steps 5 and 6, R393): the oldest key load or life-cycle record that waits for
nothing commits, its derived slots are refreshed and its result becomes ready. -/
def execKeyCommit (t : Nat) (s : State) : Host.Outcome State Fault Refusal :=
  s.run t (fun s =>
    match s.vault.jobs with
    | (.load k attr key check, ref, _, false) :: rest =>
      ({ s with vault := { s.vault with jobs := rest } } : State).commitJob (.load k attr key check) ref
    | (.lifecycle target, ref, _, _) :: rest =>
      ({ s with vault := { s.vault with jobs := rest } } : State).commitJob (.lifecycle target) ref
    | _ => s)

/-- INVALIDATION_COMMIT (R389, R390): the oldest invalidation that waits for nothing commits. -/
def execInvalidationCommit (t : Nat) (s : State) : Host.Outcome State Fault Refusal :=
  s.run t (fun s =>
    match s.vault.jobs with
    | (.invalidate k, ref, _, false) :: rest =>
      ({ s with vault := { s.vault with jobs := rest } } : State).commitJob (.invalidate k) ref
    | _ => s)

/-- The vault write in progress completes before a stand-down (R396). -/
def State.endCommit (s : State) : State :=
  match s.vault.jobs with
  | (j, ref, _, false) :: rest => ({ s with vault := { s.vault with jobs := rest } } : State).commitJob j ref
  | _ => s

/-! ### Tamper (R394, R395) -/

/-- The firmware's part of R395: a new vault seed, every session closed, a KEY_EVENT Critical
record. -/
def State.tamperActions (s : State) (input : Nat) : State :=
  let s := (s.newSeed).closeAllSessions
  let s := { s with vault := { s.vault with tamperPending := none } }
  s.raiseAs 0x27 sevCritical 0xFF input

/-- The RTC calendar as 64 bits (R395). -/
def State.rtcStamp (s : State) : Nat :=
  let c := s.calNow
  (calDateWord c.1).toNat * 2 ^ 32 + (calTimeWord c.1 c.2).toNat

/-- Four ticks of 32.768 kHz, in spine steps (R394: 122 µs). -/
abbrev tamperTime : Nat := 97656

/-- TAMPER_DETECT (R394, R395): a level on TAMP0 or TAMP1 changes or, held at its active level for 4
ticks, is detected; detection erases the vault with no firmware involved. -/
def execTamperDetect (t : Nat) (input : Nat) (level : Bool) (s : State) : Host.Outcome State Fault Refusal :=
  s.run t (fun s =>
    let cfg := s.p Pid.keyTamperCfg
    let s := if 1 < input then s else { s with vault := { s.vault with tamperLevel := s.vault.tamperLevel.set input level } }
    let active : Bool := cfg.testBit input && (level == cfg.testBit (2 + input))
    if 1 < input ∨ !s.time.retained then s
    else if !active then
      { s with vault := { s.vault with
          tamperSince := s.vault.tamperSince.set input none, tamperDone := s.vault.tamperDone.set input false } }
    else match s.vault.tamperSince.get input with
      | none => { s with vault := { s.vault with tamperSince := s.vault.tamperSince.set input (some s.now) } }
      | some a =>
        if s.vault.tamperDone.get input ∨ !s.passed a tamperTime then s
        else
          let s := s.setFlag Pid.keyTamperStatus 0 input true
          let s := { s with vault := { s.vault with
              tamperTime := s.vault.tamperTime.set input s.rtcStamp, tamperDone := s.vault.tamperDone.set input true } }
          let s := (s.bump Pid.keyTamperEvents).zeroise
          let s := if s.lifecycle = 4 then s else s.setP Pid.idLifecycle 0 0
          -- D9 is on while D5, D6 or D7 is on (R396)
          if s.domainOn 9 then s.tamperActions input
          else { s with vault := { s.vault with tamperPending := some input } })

/-- A write of key.tamper_cfg: an input is active while it is enabled and holds its active level (R394, R398). -/
def State.tamperConfigured (s : State) : State :=
  let cfg := s.p Pid.keyTamperCfg
  [0, 1].foldl (fun s (k : Nat) =>
    let active : Bool := cfg.testBit k && (s.vault.tamperLevel.get k == cfg.testBit (2 + k))
    let since := if active then some ((s.vault.tamperSince.get k).getD s.now) else none
    { s with vault := { s.vault with
        tamperSince := s.vault.tamperSince.set k since, tamperDone := s.vault.tamperDone.set k (active && s.vault.tamperDone.get k) } }) s

/-- RNG_HEALTH_FAILURE (R391): the random source fails its health test. -/
def execRngHealthFailure (t : Nat) (s : State) : Host.Outcome State Fault Refusal :=
  s.run t (fun s => s.setP Pid.keyRngStatus 0 1)

end Sys2Proof.Machine
end

