-- ==== Sys2Proof/Machine/Presence.lean ====
section
/-! DEFINITION.  Presence fusion (R205 to R210), onsets, learning and prediction (R211 to R216) and
what a write of an edge does (R212). -/

namespace Sys2Proof.Machine

open Sys2Proof

/-! ### Pods (R205 to R208) -/

/-- Presence bit, motion-began bit, confidence and illuminance of data word 1 (R133). -/
def wordPresence (w : Word) : Bool := bit w 15
def wordMotion (w : Word) : Bool := bit w 14
def wordConfidence (w : Word) : Nat := bits w 7 0
def wordLux (w : Word) : Nat := bits w 31 16

/-- Target count and heading sector of data word 2 (R133). -/
def wordTargets (w : Word) : Nat := bits w 31 24
def wordHeading (w : Word) : Nat := bits w 15 11

/-- The age of a table entry at the present instant, in µs, saturating (R20, R207). -/
def State.podAgeUs (s : State) (e : PodEntry) : Nat := satU32 ((((s.now : Int) - e.ref) / us).toNat)

/-- The zone of a pod, none for 0xFFFF (R206). -/
def State.podZone (s : State) (pod : Nat) : Option Nat :=
  let z := s.p Pid.presPodZone pod
  if z ≤ 511 then some z else none

/-- An entry is fresh at the present instant (R208). -/
def State.entryFresh (s : State) (pod : Nat) (e : Option PodEntry) : Bool :=
  match e with
  | none => false
  | some e => !e.fault && (match s.podZone pod with
      | none => true
      | some z => decide (s.podAgeUs e ≤ s.p Pid.presMaxAgeMs z * 1000))

/-- The pod is fresh (R208). -/
def State.podFresh (s : State) (pod : Nat) : Bool := s.entryFresh pod (s.presence.pods.get pod)

/-- A pod's source is lost: its record is not valid until the next one (R20). -/
def State.voidPod (s : State) (pod : Nat) : State :=
  { s with presence := { s.presence with
    pods := if (s.presence.pods.get pod).isNone then s.presence.pods
      else s.presence.pods.modify pod (fun o => o.map (fun x => { x with valid := false }))
    arrivals := s.presence.arrivals.map (fun w => if w.pod = pod then { w with valid := false } else w) } }

/-- The pods of a zone that enter its fusion: the first 64 in index order (R206). -/
def State.zonePods (s : State) (z : Nat) : List Nat :=
  ((s.listed Pid.presPodZone).filter (fun k => s.p Pid.presPodZone k == z)).take 64

/-- An onset (R211). -/
structure Onset where
  pod : Nat
  ref : Int
  timed : Bool
  crowd : Bool
  heading : Nat
  deriving DecidableEq, Repr

/-- A delivered word as the pod table keeps it. -/
def PodWord.entry (w : PodWord) (gap : Bool) : PodEntry :=
  ⟨w.word1, w.word2, w.fault, w.seq, w.ref, w.untimed, gap, w.stamp, w.valid⟩

/-- The pod table takes one delivered word (R207); whether it is an onset (R211). -/
def State.takePodWord (s : State) (w : PodWord) : Option Onset × State :=
  let old := s.presence.pods.get w.pod
  let prevClear : Bool := match old with
    | none => true
    | some e => !wordPresence e.word1 || !s.entryFresh w.pod old
  let gap := match old with
    | none => 0
    | some e => (w.seq + 256 - e.seq - 1) % 256
  let e := w.entry (decide (gap ≠ 0))
  let s := if gap = 0 then s else s.bump Pid.presPodSeqGaps w.pod gap
  let s := { s with presence := { s.presence with pods := s.presence.pods.set w.pod (some e) } }
  let s := (s.setW Pid.presPodData (2 * w.pod) w.word1).setW Pid.presPodData (2 * w.pod + 1) w.word2
  let o : Onset := ⟨w.pod, w.ref, !w.untimed, decide (1 < wordTargets w.word2), wordHeading w.word2⟩
  (if wordMotion w.word1 || (wordPresence w.word1 && prevClear) then some o else none, s)

/-- A presence word reaches its record (R134, R334): an onset of a pod that wakes raises the wake request
while D5 is off (R219). -/
def State.deliverPod (s : State) (w : PodWord) : State :=
  let last := (s.presence.arrivals.reverse.find? (fun (x : PodWord) => x.pod == w.pod)).map (fun x => x.entry false)
  let before : Bool := match last.orElse (fun _ => s.presence.pods.get w.pod) with
    | none => false
    | some e => wordPresence e.word1 && s.entryFresh w.pod (some e)
  let onset := wordMotion w.word1 || (wordPresence w.word1 && !before)
  let s := { s with presence := { s.presence with arrivals := s.presence.arrivals ++ [w] } }
  if s.power.asleep ∧ onset ∧ s.pB Pid.presPodWake w.pod then s.raiseWake 2 else s

/-- Show the ages and status of every delivered pod at t_s, and the stale pods of the zones (R207,
R208, R222). -/
def State.showPods (s : State) : State :=
  let s := s.presence.pods.cells.foldl (fun s c =>
    match c.2 with
    | none => s
    | some e =>
      let st := putBit (putBit (putBit (putBit 0 0 (!s.podFresh c.1)) 1 e.fault) 2 e.untimed) 3 e.seqGap
      (s.setP Pid.presPodAgeMs c.1 (s.podAgeUs e / 1000)).setP Pid.presPodStatus c.1 st) s
  -- the zones that have pods, and those that showed stale ones
  let zones := ((s.listed Pid.presPodZone).filterMap (fun k => s.podZone k) ++ s.listed Pid.presZoneStale).eraseDups
  zones.foldl (fun s z =>
    s.setP Pid.presZoneStale z ((s.zonePods z).filter (fun k => !s.podFresh k)).length) s

/-! ### Learning and prediction (R212 to R215) -/

/-- The edges in use, in index order (R212). -/
def State.edges (s : State) : List Nat :=
  (s.listed Pid.outEdgeFrom).filter (fun e =>
    s.p Pid.outEdgeFrom e != 0xFFFF && s.p Pid.outEdgeTo e != 0xFFFF)

/-- An edge is learned (R212). -/
def State.edgeLearned (s : State) (e : Nat) : Bool :=
  decide (s.p Pid.outLearnMin ≤ s.p Pid.outEdgeSamples e)

/-- The outrider unit is frozen (R220). -/
def State.outFrozen (s : State) : Bool := decide (2 ≤ s.shed)

/-- learn(e, d) of R213, with d in µs. -/
def State.learnEdge (s : State) (e : Nat) (d : Int) : State :=
  let n := s.p Pid.outEdgeSamples e
  let tau : Int := s.p Pid.outEdgeTauUs e
  let count := fun (s : State) => s.setP Pid.outEdgeSamples e (min (n + 1) 65535)
  if n < s.p Pid.outLearnMin then
    count (s.setI Pid.outEdgeTauUs e (Int.fdiv (tau * n + d) (n + 1)))
  else if (s.p Pid.outRejectPct : Int) * tau < ((d - tau).natAbs : Int) * 10000 then
    s.bumpSat 65535 Pid.outEdgeRejects e
  else
    count (s.setI Pid.outEdgeTauUs e (tau + Int.fdiv (d - tau) (2 ^ s.p Pid.outLearnShift)))

/-- The learning part of on_onset for one in-edge of team B (R213). -/
def State.pairEdge (s : State) (t : Int) (crowd : Bool) (e : Nat) : State :=
  let a := s.p Pid.outEdgeFrom e
  match s.presence.lastOnset.get a with
  | none => s
  | some tA =>
    if s.presence.used.get e = some tA ∨ t ≤ tA then s
    else
      let d := (t - tA) / us
      if d < s.p Pid.outEdgeTminMs e * 1000 ∨ (s.p Pid.outEdgeTmaxMs e : Int) * 1000 < d then s
      else
        let s := { s with presence := { s.presence with used := s.presence.used.set e (some tA) } }
        if crowd || s.presence.crowdAt.get a then s.bump Pid.outCrowdSkips
        else s.learnEdge e d

/-- A prediction run in progress (R215). -/
structure Predicting where
  state : State
  made : Nat
  next : List (Nat × Int × Nat)
  cut : Bool
  deriving DecidableEq, Repr

/-- One learned edge of a frontier entry (R215). -/
def Predicting.edge (h : Nat) (tx : Int) (hop : Nat) (p : Predicting) (e : Nat) : Predicting :=
  let s := p.state
  if p.cut ∨ (hop = 1 ∧ h ≠ 31 ∧ !(s.p Pid.outEdgeHeading e).testBit h) then p
  else if p.made = 64 then { p with state := s.bump Pid.outChainCut, cut := true }
  else
    let ta := tx + (s.p Pid.outEdgeTauUs e : Int) * us
    let b := s.p Pid.outEdgeTo e
    let s :=
      if s.p Pid.outTeamZone b = 0xFFFF then s
      else
        let entry := match s.presence.predictions.get b with
          | none => (ta, ta)
          | some q => (min q.1 ta, max q.2 ta)
        { s with presence := { s.presence with
            predictions := s.presence.predictions.set b (some entry) } }
    { p with
      state := s, made := p.made + 1,
      next := if hop < s.p Pid.outHops then p.next ++ [(b, ta, hop + 1)] else p.next }

/-- The frontier loop of predict (R215): at most 64 predictions are made, so 65 entries are
visited. -/
def predictGo (h : Nat) : Nat → Predicting → Predicting
  | 0, p => p
  | n + 1, p =>
    match p.next with
    | [] => p
    | (x, tx, hop) :: rest =>
      let es := p.state.edges.filter (fun e => p.state.p Pid.outEdgeFrom e == x && p.state.edgeLearned e)
      let p := es.foldl (Predicting.edge h tx hop) { p with next := rest }
      if p.cut then p else predictGo h n p

/-- predict(A, t, h) of R215. -/
def State.predict (s : State) (a : Nat) (t : Int) (h : Nat) : State :=
  (predictGo h 66 ⟨s, 0, [(a, t, 1)], false⟩).state

/-- on_onset(B, t, timed, crowd, h) of R213. -/
def State.onOnset (s : State) (b : Nat) (o : Onset) : State :=
  let frozen := s.outFrozen
  let into := if o.timed && !frozen then s.edges.filter (fun e => s.p Pid.outEdgeTo e == b) else []
  let s := into.foldl (fun s e => s.pairEdge o.ref o.crowd e) s
  let s := { s with presence := { s.presence with predictions := s.presence.predictions.set b none } }
  let s := if frozen then s else s.predict b o.ref o.heading
  { s with presence := { s.presence with
      lastOnset := s.presence.lastOnset.set b (if o.timed then some o.ref else none),
      crowdAt := s.presence.crowdAt.set b o.crowd } }

/-- The team of a pod's onsets (R211). -/
def State.podTeam (s : State) (pod : Nat) : Option Nat :=
  let t := s.p Pid.presPodTeam pod
  if t ≠ 0xFFFF then some t else if pod < 512 then s.teamOf pod else none

/-- Insert an onset by stamp, then pod index (R211). -/
def insertOnset (o : Onset) : List Onset → List Onset
  | [] => [o]
  | x :: rest =>
    if o.ref < x.ref ∨ (o.ref = x.ref ∧ o.pod < x.pod) then o :: x :: rest else x :: insertOnset o rest

/-- The pod table takes the words new to the snapshot (R207): the onsets among them in order (R211). -/
def State.podTable (s : State) : List Onset × State :=
  let ws := s.presence.arrivals
  let s := { s with presence := { s.presence with arrivals := [] } }
  let r := ws.foldl (fun (r : List Onset × State) w =>
    let x := r.2.takePodWord w
    (match x.1 with
     | some o => insertOnset o r.1
     | none => r.1, x.2)) ([], s)
  (r.1, r.2.showPods)

/-- The outrider unit at step 1: prediction entries past their hold are removed, and the onsets are processed
in order (R213, R215, R220). -/
def State.processOnsets (s : State) (onsets : List Onset) : State :=
  let expired := fun (s : State) (c : Nat × Option (Int × Int)) =>
    match c.2 with
    | some p => decide (p.2 + (s.p Pid.outHoldMs (s.p Pid.outTeamZone c.1) : Int) * ms < s.now)
    | none => false
  let s := (s.presence.predictions.cells.filter (expired s)).foldl (fun (s : State) c =>
    { s with presence := { s.presence with predictions := s.presence.predictions.set c.1 none } }) s
  onsets.foldl (fun s o =>
    match s.podTeam o.pod with
    | some b => s.onOnset b o
    | none => s) s

/-- Freeze the outrider unit at shed step 2: its entries are discarded (R220). -/
def State.freezeOutrider (s : State) : State :=
  { s.setP Pid.outFrozen 0 1 with presence := { s.presence with predictions := Tab.const none } }

/-! ### What a write of an edge does (R212) -/

/-- A write of edge_from or edge_to: τ and n return to 0. -/
def State.edgeReset (s : State) (e : Nat) : State :=
  (s.setP Pid.outEdgeTauUs e 0).setP Pid.outEdgeSamples e 0

/-- A write of edge_tau_us: a non-zero value seeds the edge, 0 unlearns it. -/
def State.edgeSeed (s : State) (e : Nat) : State :=
  s.setP Pid.outEdgeSamples e (if s.p Pid.outEdgeTauUs e = 0 then 0 else s.p Pid.outLearnMin)

/-- A write of the bounds: τ outside them moves to the nearer bound, that of a partly trained edge too, for τ stays
inside the bounds (R213, R221; DEDUCED, assumption 100). -/
def State.edgeRebound (s : State) (e : Nat) : State :=
  if 0 < s.p Pid.outEdgeSamples e then
    s.setP Pid.outEdgeTauUs e (clampN (s.p Pid.outEdgeTminMs e * 1000) (s.p Pid.outEdgeTmaxMs e * 1000)
      (s.p Pid.outEdgeTauUs e))
  else s

/-! ### Zone presence (R209, R210) and the OUTRIDER cell (R216) -/

/-- What a PRESENCE cell computes: OCC, CONF, LUX (none where no lux pod is fresh), AGE in ms. -/
structure ZonePresence where
  occ : Bool
  conf : Nat
  lux : Option Nat
  age : Nat
  noPods : Bool
  anyStale : Bool
  noneFresh : Bool
  deriving DecidableEq, Repr

/-- lux_mode of R209: least, truncated mean, greatest. -/
def luxOf (mode : Nat) (xs : List Nat) : Option Nat :=
  match xs with
  | [] => none
  | x :: rest =>
    if mode = 0 then some (rest.foldl min x)
    else if mode = 1 then some (sumN xs / xs.length)
    else some (rest.foldl max x)

/-- The least of a list, `d` for an empty one. -/
def leastOf (d : Nat) (xs : List Nat) : Nat := xs.foldl min d

/-- presence_run(z) of R209 and R210, on the ages at t_s. -/
def State.presenceRun (s : State) (z : Nat) : ZonePresence :=
  let pods := s.zonePods z
  let stale := fun k => (s.p Pid.presPodStatus k).testBit 0
  let entry := fun k => s.presence.pods.get k
  let fresh := pods.filter (fun k => !stale k)
  let w1 := fun k => ((entry k).map (fun e => e.word1)).getD 0
  let votes := fresh.filter (fun k => wordPresence (w1 k) && decide (s.p Pid.presConfMin z ≤ wordConfidence (w1 k)))
  let ages := fun (ks : List Nat) => ks.map (fun k => min 4294967 (s.p Pid.presPodAgeMs k))
  { occ := decide (s.p Pid.presQuorum z ≤ votes.length),
    conf := (votes.map (fun k => wordConfidence (w1 k))).foldl max 0,
    lux := luxOf (s.p Pid.presLuxMode z) ((fresh.filter (fun k => s.pB Pid.presPodLux k)).map (fun k => wordLux (w1 k))),
    age := leastOf 4294967 (ages (if fresh.isEmpty then pods else fresh)),
    noPods := pods.isEmpty,
    anyStale := pods.any stale,
    noneFresh := fresh.isEmpty }

/-- outrider_run(z, LEAD, RAISE) of R216 at snapshot instant `ts`: LEVEL and ETA. -/
def State.outriderRun (s : State) (z : Nat) (ts : Int) (lead raise_ : Int) : Int × Int :=
  let es := s.presence.predictions.cells.filterMap (fun c =>
    if s.p Pid.outTeamZone c.1 = z then c.2 else none)
  let hold : Int := (s.p Pid.outHoldMs z : Int) * ms
  let act := es.any (fun p => decide (p.1 - lead * ms ≤ ts) && decide (ts ≤ p.2 + hold))
  let eta : Int := match es with
    | [] => -1
    | p :: rest => max 0 (Int.fdiv (rest.foldl (fun m q => min m q.1) p.1 - ts) ms)
  (if act then raise_ else 0, eta)

end Sys2Proof.Machine
end

