-- ==== Sys2Proof/Machine/Relay.lean ====
section
/-! DEFINITION.  The relay mesh: slots, hopping and cells (R313 to R316), air time (R317, R318), the
yoke (R319, R320), frames and keys (R321 to R324), hitching (R325 to R328), time (R330, R331),
flooding (R332), targets (R333) and pod reports (R334). -/

namespace Sys2Proof.Machine

open Sys2Proof

/-! ### The ASN, channels and sequences (R313, R314) -/

/-- Change the relay's own state. -/
def State.withRelay (s : State) (f : RelayState → RelayState) : State := { s with relay := f s.relay }

/-- The stride g: the smallest number not below n / 3 that is coprime with n. -/
def strideFrom (n : Nat) : Nat → Nat → Nat
  | 0, g => g
  | k + 1, g => if Nat.gcd g n = 1 then g else strideFrom n k (g + 1)

/-- seq[i] of a hop set (R314). -/
def hopAt (set : List Nat) (i : Nat) : Nat :=
  let n := set.length
  if n = 0 then 0 else set.getD ((i % n) * strideFrom n n (divUp n 3) % n) 0

/-- The hop set H in force (R311). -/
def State.hops (s : State) : List Nat :=
  hopSet (s.p Pid.idVariant) s.relay.config.rate s.relay.config.exclude

/-- The beacon set (R314): on EU the members of H in sub-bands of 1 % or 10 %. -/
def State.beaconSet (s : State) : List Nat :=
  if s.p Pid.idVariant ≠ 0 then s.hops
  else
    let plan := channelPlan 0 s.relay.config.rate
    s.hops.filter (fun k => match channelBand plan k with
      | some b => b != 0 && b != 3
      | none => false)

/-- Channel of a cell at offset c over a set (R314). -/
def State.cellChannel (s : State) (set : List Nat) (c : Nat) : Nat := hopAt set (s.asn + c)

/-! ### Air time (R317, R318) -/

/-- Kilobits per second of a rate. -/
def rateKbps (rate : Nat) : Nat := if rate = 0 then 50 else if rate = 1 then 100 else 200

/-- The time on air in µs of a frame with this many octets of relay payload beyond its header, with 18
octets of MAC, 2 of relay header (6 more when flooded), 6 more for an extended address, and 8 of SHR
and PHR (R313, R335's example). -/
def State.airUs (s : State) (octets : Nat) (flooded extended : Bool) : Nat :=
  (8 + 18 + 2 + (if flooded then 6 else 0) + (if extended then 6 else 0) + octets) * 8000 /
    rateKbps s.relay.config.rate

/-- The accounting unit of a channel: the sub-band on EU, the channel itself on NA (R317). -/
def State.airBand (s : State) (channel : Nat) : Nat :=
  if s.p Pid.idVariant = 0 then (channelBand (channelPlan 0 s.relay.config.rate) channel).getD 0 else channel

/-- Count a measure of the relay matrix for a radio (R338). -/
def State.relayCount (s : State) (d k m radio : Nat) (n : Nat := 1) : State :=
  s.bump (0x5900 + 0x10 * (12 * d + k) + m) radio n

/-- Count a measure under each of the kinds a frame is of (R338). -/
def State.relayTally (s : State) (d : Nat) (ks : List Nat) (m radio : Nat) (n : Nat := 1) : State :=
  ks.foldl (fun s k => s.relayCount d k m radio n) s

/-- The kinds that the matrix counts a frame of a message type under (R338): the type's own, 8 for a reserved
type, beside it 9 for a fragment of a longer message and 10 in a shared slot (assumption 105). -/
def frameKinds (type_ : Nat) (fragment shared : Bool) : List Nat :=
  (if 1 ≤ type_ ∧ type_ ≤ 7 then type_ else 8) :: ((if fragment then [9] else []) ++ (if shared then [10] else []))

/-- The radios that run: both, or from shed step 3 on the one of relay.shed_radio (R320); none under a test
(R473). -/
def State.radios (s : State) : List Nat :=
  (if 3 ≤ s.shed then [s.p Pid.relayShedRadio] else [0, 1]).filter (fun r => !s.radioTested r)

/-- The module transmits on the relay: D7 on, enabled, no wheeler, no farrier mode, and a network key
to secure frames with (R335, R395, R414). -/
def State.relaySends (s : State) : Bool :=
  s.domainOn 7 && s.pB Pid.relayEnable && !s.wheeler && !s.farrier && (s.slotKey 4).isSome

/-- Forget transmissions that no window holds any more. -/
def State.trimAir (s : State) : State :=
  s.withRelay (fun r => { r with air := r.air.filter (fun a => decide (s.now < a.at_ + 3600 * sec)) })

/-- What the module puts on the air in one slot: the kinds it counts under, the message type (0 a beacon), the
destination, the time on air in µs, the relay payload with its header, whether it is flooded and whether it
carries an extended address. -/
structure OutFrame where
  kinds : List Nat
  type_ : Nat
  dest : Nat
  dur : Nat
  octets : List Nat
  flooded : Bool
  extended : Bool
  deriving DecidableEq, Repr

/-- One radio's copy of a frame (R314, R318): it defers where its channel or sub-band has no room. -/
def State.sendCopyOn (s : State) (set : List Nat) (off : Nat) (f : OutFrame) (radio : Nat) : Bool × State :=
  let ch := s.cellChannel set off
  let band := s.airBand ch
  if (s.airLimit band).2 < s.airUsed band + f.dur then
    (false, (s.bump Pid.relayAirDefers (if s.p Pid.idVariant = 0 then band else 6)).relayTally 1 f.kinds 6 radio)
  else
    let s := s.withRelay (fun r => { r with
      air := r.air ++ [⟨band, s.now, f.dur⟩],
      sent := r.sent ++ [⟨radio, ch, f.dest, f.type_, s.p Pid.relayFcOut, s.p Pid.relayKeyGen, f.octets⟩] })
    let s := (s.relayTally 1 f.kinds 0 radio).relayTally 1 f.kinds 1 radio f.octets.length
    let s := if f.extended then s.relayTally 1 f.kinds 8 radio else s
    (true, if f.flooded then s.relayTally 1 f.kinds 9 radio else s)

/-- Send one frame, yoked, in a cell at offset c over a set (R314, R318, R319): RFA uses offset c, RFB
c + floor(n / 2), and a radio that runs alone under R320 offset c; whether any copy went out. -/
def State.sendYoked (s : State) (set : List Nat) (c : Nat) (f : OutFrame) : Bool × State :=
  let one := fun (r : Bool × State) radio =>
    let x := r.2.sendCopyOn set (if radio = 0 ∨ 3 ≤ s.shed then c else c + set.length / 2) f radio
    (r.1 || x.1, x.2)
  let r := s.radios.foldl one (false, s)
  if !r.1 then r
  else
    let fc := s.p Pid.relayFcOut + 1
    let s := r.2.setP Pid.relayFcOut 0 fc
    let s := if fc % 32768 = 0 then s.mark Pid.relayFcOut 0 else s
    (true, if f.type_ = 0 then s.keyUse .beacon 3 4 else s.keyUse .ccmEnc 3 4)

/-- The relay header of a frame (R323). -/
def headerOctets (type_ ttl : Nat) (more : Bool) (index origin dest seq : Nat) : List Nat :=
  [type_ % 16 * 16 + ttl % 16, flag more * 128 + index % 32] ++
    (if ttl = 0 then [] else octetsOfNat 2 origin ++ octetsOfNat 2 dest ++ octetsOfNat 2 seq)

/-- A direct frame for short address `dest` (R323). -/
def State.directFrame (s : State) (dest type_ index : Nat) (more : Bool) (body : List Nat) : OutFrame :=
  { kinds := frameKinds type_ (more || index != 0) false, type_, dest, dur := s.airUs body.length false false,
    octets := headerOctets type_ 0 more index 0 0 0 ++ body, flooded := false, extended := false }

/-! ### Node contexts and cells (R316, R326) -/

/-- The context of a short address (R326). -/
def nodeOfShort (a : Nat) : Option Nat := if 0x100 ≤ a ∧ a ≤ 0x4FF then some (a - 0x100) else none

/-- The context that holds an extended address. -/
def State.contextOf (s : State) (eui : Nat) : Option Nat :=
  s.contexts.find? (fun n => s.p64 Pid.relayNodeEui n == eui)

/-- Change what the relay keeps about node `n`. -/
def State.modifyNode (s : State) (n : Nat) (f : RelayNode → RelayNode) : State :=
  s.withRelay (fun r => { r with nodes := r.nodes.modify n f })

/-- A node's cell (R336): period, phase, uplink slot, position B, downlink slot, flood node. -/
structure NodeCell where
  log2P : Nat
  phase : Nat
  up : Nat
  posB : Bool
  down : Nat
  flood : Bool
  deriving DecidableEq, Repr

/-- relay.node_cell as fields. -/
def State.cellOf (s : State) (n : Nat) : NodeCell :=
  let w := s.w Pid.relayNodeCell n
  ⟨bits w 31 29, bits w 28 23, bits w 22 13, bit w 12, bits w 11 2, bit w 1⟩

/-- The fields as relay.node_cell. -/
def NodeCell.word (c : NodeCell) : Word :=
  Sys2Proof.word (c.log2P * 2 ^ 29 + c.phase * 2 ^ 23 + c.up * 2 ^ 13 + flag c.posB * 2 ^ 12 + c.down * 4 +
    flag c.flood * 2)

/-- Two cells of these periods and phases meet in some slotframe. -/
def phasesMeet (p1 f1 p2 f2 : Nat) : Bool := let m := 2 ^ min p1 p2; f1 % m == f2 % m

/-- The uplink position (slot, B) is free for a period and phase: no node's uplink cell meets it there
and no node's downlink uses the slot (R315, R316). -/
def upFree (cells : List NodeCell) (slot : Nat) (posB : Bool) (p f : Nat) : Bool :=
  cells.all (fun c =>
    !(c.up == slot && c.posB == posB && phasesMeet c.log2P c.phase p f) && c.down != slot)

/-- The downlink slot is free for a period and phase, and no uplink cell uses it. -/
def downFree (cells : List NodeCell) (slot p f : Nat) : Bool :=
  cells.all (fun c => !(c.down == slot && phasesMeet c.log2P c.phase p f) && c.up != slot)

/-- A cell at period 2^p: the first free phase, uplink slot and position, and downlink slot in
ascending order (the order of search is the model's, assumption 12). -/
def cellAt (cells : List NodeCell) (shared slotframe p : Nat) (wantsDown : Bool) : Option NodeCell :=
  let slots := (List.range (slotframe - shared - 1)).map (fun k => k + shared + 1)
  (List.range (2 ^ p)).findSome? (fun f =>
    (slots.flatMap (fun k => [(k, false), (k, true)])).findSome? (fun u =>
      if upFree cells u.1 u.2 p f then
        if wantsDown then
          (slots.find? (fun k => k != u.1 && downFree cells k p f)).map (fun d => ⟨p, f, u.1, u.2, d, false⟩)
        else some ⟨p, f, u.1, u.2, 0, false⟩
      else none))

/-- The base-2 logarithm of a period from 1 to 64. -/
def log2Period (n : Nat) : Nat := min 6 (Nat.log2 n)

/-- The period the module asks for a node's kind (R316). -/
def State.kindPeriod (s : State) (kind : Nat) : Nat :=
  match Config.nodeKind kind % 4 with
  | 0 => log2Period (s.p Pid.relayPodPeriod)
  | 1 => log2Period (s.p Pid.relayRtPeriod)
  | _ => 0

/-- A node of this kind receives a downlink slot (R316): all but pods. -/
def wantsDownlink (kind : Nat) : Bool := Config.nodeKind kind % 4 != 0

/-- A cell for a node of a kind beside the others: the shortest period with room, from the one asked
for on; and whether it is longer (R316). -/
def State.giveCell (s : State) (others : List NodeCell) (kind : Nat) : Option (NodeCell × Bool) :=
  let p0 := s.kindPeriod kind
  ((List.range (7 - p0)).map (fun k => p0 + k)).findSome? (fun p =>
    (cellAt others s.relay.config.shared s.relay.config.slotframe p (wantsDownlink kind)).map
      (fun c => (c, decide (p ≠ p0))))

/-- Count the contexts held (relay.nodes). -/
def State.showNodes (s : State) : State := s.setP Pid.relayNodes 0 s.contexts.length

/-- Free context `n` (R326). -/
def State.freeContext (s : State) (n : Nat) : State :=
  let s := (s.setP Pid.relayNodeEui (2 * n) 0).setP Pid.relayNodeEui (2 * n + 1) 0
  let s := ((s.setP Pid.relayNodeKind n 0).setP Pid.relayNodeState n 0).setP Pid.relayNodeCell n 0
  let s := ((s.setP Pid.relayNodeDriftPpb n 0).setP Pid.relayNodeFcIn n 0).modifyNode n (fun _ => .fresh)
  let s := ((s.mark Pid.relayNodeEui (2 * n)).mark Pid.relayNodeEui (2 * n + 1)).mark Pid.relayNodeKind n
  let s := (s.mark Pid.relayNodeCell n).mark Pid.relayNodeFcIn n
  ((s.withRelay (fun r => { r with down := r.down.filter (fun d => d.node != n) })).voidPod (512 + n)).showNodes

/-- The context of a node being evicted is freed, and what waits for it is ready (R326). -/
def State.evicted (s : State) (n : Nat) : State :=
  let refs := s.relay.evicting.filter (fun x => x.1 == n)
  let s := (s.freeContext n).withRelay (fun r => { r with evicting := r.evicting.filter (fun x => x.1 != n) })
  refs.foldl (fun s x => s.finish x.2 (ok)) s

/-! ### Remote teams (R328, R333) -/

/-- The context bound to remote team `rt`, if it is held (R328). -/
def State.rtContext (s : State) (rt : Nat) : Option Nat :=
  let n := s.p Pid.relayRtNode rt
  if n < 1024 ∧ s.contextHeld n then some n else none

/-- The remote team of a context: the first that names it (R328). -/
def State.rtOfNode (s : State) (n : Nat) : Option Nat :=
  (s.listed Pid.relayRtNode).find? (fun rt => s.p Pid.relayRtNode rt == n)

/-- Show pending and unbound of relay.rt_status (R337). -/
def State.showRt (s : State) (rt : Nat) : State :=
  let pending := (s.relay.level.get rt).isSome || (s.relay.form2.get rt).isSome
  (s.setFlag Pid.relayRtStatus rt 0 pending).setFlag Pid.relayRtStatus rt 3 (s.rtContext rt).isNone

/-- The next target sequence of a remote team (R333). -/
def State.nextTargetSeq (s : State) (rt : Nat) : Nat × State :=
  let n := (s.relay.targetSeq.get rt + 1) % 256
  (n, s.withRelay (fun r => { r with targetSeq := r.targetSeq.set rt n }))

/-- A flooded target for node `n` that waits for a shared slot. -/
def SharedFrame.isTarget (f : SharedFrame) (n : Nat) : Bool := f.type_ == 2 && f.dest == 0x100 + n && f.heldFrom.isNone

/-- What waits to be flooded to a remote team's luminaire is taken back: a newer target or an acknowledgement
replaces it (R333). -/
def State.dropTargets (s : State) (rt : Nat) : State :=
  let n := s.p Pid.relayRtNode rt
  s.withRelay (fun r => { r with sharedOut := r.sharedOut.filter (fun f => !f.isTarget n) })

/-- Queue a level target for a bound remote team; a newer one replaces the older (R333).  `octets`
follow the sequence octet. -/
def State.queueLevel (s : State) (rt : Nat) (octets : List Nat) : State :=
  if (s.rtContext rt).isNone then s.showRt rt
  else
    let q := s.nextTargetSeq rt
    ((q.2.withRelay (fun r => { r with level := r.level.set rt (some ⟨q.1, octets, 0⟩) })).dropTargets rt).showRt rt

/-- The octets of a target after its sequence octet (R324). -/
def Target.octets (g : Target) : List Nat :=
  let tail := if g.ratio then (List.range 4).flatMap (fun k => octetsOfNat 2 (g.ratios.getD k 0))
    else octetsOfNat 2 g.cct ++ octetsOfNat 2 (Int.emod g.duv 65536).toNat
  octetsOfNat 2 g.level ++ [flag g.ratio] ++ tail ++ octetsOfNat 4 (g.fade.getD u32max)

/-- At the re-hitch of a bound luminaire the present target of its remote team is queued (R390). -/
def State.queuePresent (s : State) (rt : Nat) : State :=
  match s.drive.remoteSent.get (512 + rt) with
  | some g => s.queueLevel rt g.octets
  | none => s.showRt rt

/-- Queue a form-2 target with the fallback level and fade (R324, R328). -/
def State.queueFallback (s : State) (rt : Nat) : State :=
  if (s.rtContext rt).isNone then s.showRt rt
  else
    let q := s.nextTargetSeq rt
    let octets := octetsOfNat 2 (s.p Pid.relayRtFallback rt) ++ [2] ++ octetsOfNat 4 (s.p Pid.relayRtFallbackFadeMs rt)
    ((q.2.withRelay (fun r => { r with form2 := r.form2.set rt (some ⟨q.1, octets, 0⟩) })).dropTargets rt).showRt rt

/-- Sequence `a` is not after `b`, by the 8-bit series. -/
def seqCovered (a b : Nat) : Bool := decide ((b + 256 - a) % 256 < 128)

/-- The queued target of lower sequence of a remote team, and whether it is the form-2 one (R328). -/
def State.dueTarget (s : State) (rt : Nat) : Option (QueuedTarget × Bool) :=
  match s.relay.level.get rt, s.relay.form2.get rt with
  | none, none => none
  | some a, none => some (a, false)
  | none, some b => some (b, true)
  | some a, some b => if seqCovered a.seq b.seq then some (a, false) else some (b, true)

/-- The due target has been sent once more (R333). -/
def State.targetSent (s : State) (rt : Nat) (form2 : Bool) : State :=
  let up := fun (o : Option QueuedTarget) => o.map (fun q => { q with sends := q.sends + 1 })
  let again := match s.dueTarget rt with
    | some (q, _) => decide (0 < q.sends)
    | none => false
  let s := s.withRelay (fun r =>
    if form2 then { r with form2 := r.form2.modify rt up } else { r with level := r.level.modify rt up })
  if again then s.bump Pid.relayRtResends else s

/-! ### Frames waiting to be sent -/

/-- The largest relay payload of a frame beyond its relay header (R313). -/
def State.maxPayload (s : State) (flooded : Bool) : Nat :=
  (if s.relay.config.rate = 0 then 18 else if s.relay.config.rate = 1 then 65 else 159) - (if flooded then 6 else 0)

/-- Two octets of a list as a number. -/
def octet2 (os : List Nat) (k : Nat) : Nat := os.getD k 0 % 256 * 256 + os.getD (k + 1) 0 % 256

/-- Octets in pieces of at most `k`. -/
def piecesOf (k : Nat) : Nat → List Nat → List (List Nat)
  | 0, _ => []
  | n + 1, os => if os.length ≤ k ∨ k = 0 then [os] else os.take k :: piecesOf k n (os.drop k)

/-- A backoff of 0 to 2² − 1 shared slots (R315). -/
def State.backoff (s : State) : Nat × State := s.drawBelow 4

/-- Queue a message for the shared slots, in fragments, flooded with TTL relay.ttl or direct (R315,
R323, R332); an extended address takes 6 octets of the payload (R313). -/
def State.queueShared (s : State) (dest type_ : Nat) (octets : List Nat) (flooded : Bool)
    (joinEui : Option Nat) : State :=
  let parts := piecesOf (s.maxPayload flooded - (if joinEui.isSome then 6 else 0)) 32 octets
  let n := parts.length
  (parts.zipIdx).foldl (fun s p =>
    let b := s.backoff
    let s := b.2
    let f : SharedFrame := ⟨dest, type_, p.2, decide (p.2 + 1 < n), p.1, if flooded then s.p Pid.relayTtl else 0, 0,
      s.relay.originSeq, b.1, joinEui, none⟩
    s.withRelay (fun r => { r with
      sharedOut := r.sharedOut ++ [f],
      originSeq := if flooded then (r.originSeq + 1) % 65536 else r.originSeq })) s

/-- Queue a message for a node: in its downlink cells, or flooded where it has none (R315, R332). -/
def State.queueDown (s : State) (n type_ : Nat) (octets : List Nat) : State :=
  let c := s.cellOf n
  if c.flood ∨ c.down = 0 then s.queueShared (0x100 + n) type_ octets true none
  else s.withRelay (fun r => { r with down := r.down ++ [⟨n, type_, 0, piecesOf (s.maxPayload false) 32 octets⟩] })

/-- Bridle replies built for relay nodes go out as messages of type 0x6 (R227, R324). -/
def State.takeReplies (s : State) : State :=
  let outs := s.bridle.relayOut
  let s := { s with bridle := { s.bridle with relayOut := [] } }
  outs.foldl (fun s o =>
    match o.1 with
    | .relay a => match nodeOfShort a with
      | some n => if s.contextHeld n then s.queueDown n 6 (o.2.flatMap octetsOf) else s
      | none => s
    | _ => s) s

/-! ### RELAY_SLOT (R313, R315) -/

/-- A beacon goes out (R315, R322, R335): intervals of the announcements and of the previous key count
down. -/
def State.sendBeacon (s : State) : State :=
  -- the length of an Enhanced Beacon is not stated
  let d := s.drawBelow 7501
  let r := d.2.sendYoked d.2.beaconSet 0 ⟨[0], 0, 0xFFFF, d.1, [], false, false⟩
  if !r.1 then r.2
  else
    let s := r.2
    let left := s.vault.previousLeft
    let s := { s with vault := { s.vault with previousLeft := left - 1 } }
    let s := if left = 1 then (s.setP Pid.keySlotState 5 0).modifySlot 5 (fun _ => KeySlot.empty) else s
    let due : Bool := decide (2 ^ 31 < s.p Pid.relayFcOut) ||
      s.contexts.any (fun n => decide (2 ^ 31 < s.p Pid.relayNodeFcIn n)) || s.vault.announceNext
    let s := { s with vault := { s.vault with announceNext := false } }
    s.withRelay (fun r => { r with
      lastBeacon := some s.now,
      keyMove := match r.keyMove with
        | some n => some (n - 1)
        | none => if due then some 16 else none,
      announced := r.announced.map (fun a => (a.1, a.2 - 1)) })

/-- Due targets of flood nodes are put among the frames for the shared slots, after a backoff each (R315, R333). -/
def State.floodTargets (s : State) : State :=
  (s.listed Pid.relayRtNode).foldl (fun s rt =>
    match s.rtContext rt, s.dueTarget rt with
    | some n, some (q, _) =>
      if (s.cellOf n).flood && s.relay.sharedOut.all (fun f => !f.isTarget n) then
        s.queueShared (0x100 + n) 2 (q.seq :: q.octets) true none
      else s
    | _, _ => s) s

/-- The octets of a frame for a shared slot after its relay header: a pod report that is passed on has its holding
time, rounded up to ms, added to its age (R332, R334). -/
def SharedFrame.body (f : SharedFrame) (now : Nat) : List Nat :=
  match f.heldFrom with
  | some a =>
    if f.type_ = 1 ∧ f.index = 0 then
      let age := octet2 f.octets 2
      f.octets.take 2 ++ octetsOfNat 2 (min 65535 (age + divUp (now - a) ms)) ++ f.octets.drop 4
    else f.octets
  | none => f.octets

/-- A frame for a shared slot as it goes on the air. -/
def State.sharedFrame (s : State) (f : SharedFrame) : OutFrame :=
  let body := f.body s.now
  { kinds := frameKinds f.type_ (f.more || f.index != 0) true, type_ := f.type_,
    dest := if f.ttl = 0 then f.dest else 0xFFFF,
    dur := s.airUs body.length (decide (0 < f.ttl)) f.joinEui.isSome,
    octets := headerOctets f.type_ f.ttl f.more f.index f.origin f.dest f.originSeq ++ body,
    flooded := decide (0 < f.ttl), extended := f.joinEui.isSome }

/-- What follows when a frame of a shared slot has gone out: a target counts its send (R333), and the leave of a
node being evicted frees its context (R326). -/
def State.sharedSent (s : State) (f : SharedFrame) : State :=
  match nodeOfShort f.dest with
  | none => s
  | some n =>
    if f.isTarget n then
      match s.rtOfNode n with
      | some rt => match s.dueTarget rt with
        | some (_, form2) => s.targetSent rt form2
        | none => s
      | none => s
    else if f.type_ = 7 ∧ f.heldFrom.isNone ∧ s.relay.evicting.any (fun x => x.1 == n) then s.evicted n
    else s

/-- A shared slot (R315): the module's frames for the shared slots go out one after the other, each after its
backoff (assumption 105). -/
def State.sharedSlot (s : State) : State :=
  let s := s.floodTargets
  match s.relay.sharedOut with
  | [] => s
  | f :: rest =>
    if f.wait ≠ 0 then s.withRelay (fun r => { r with sharedOut := { f with wait := f.wait - 1 } :: rest })
    else
      let r := s.sendYoked s.hops 0 (s.sharedFrame f)
      if r.1 then (r.2.withRelay (fun r => { r with sharedOut := rest })).sharedSent f else r.2

/-- A downlink cell of node `n` (R315, R326, R328, R333): the leave of a node being evicted, the due target of its
remote team, else the next fragment of a message. -/
def State.downlinkCell (s : State) (n : Nat) : State :=
  let off := Config.cellOffset (s.p Pid.relayNodeCell n)
  if s.relay.evicting.any (fun x => x.1 == n) then
    let r := s.sendYoked s.hops off (s.directFrame (0x100 + n) 7 0 false [0])
    if r.1 then r.2.evicted n else r.2
  else match (s.rtOfNode n).bind (fun rt => (s.dueTarget rt).map (fun q => (rt, q))) with
  | some (rt, q, form2) =>
    let r := s.sendYoked s.hops off (s.directFrame (0x100 + n) 2 0 false (q.seq :: q.octets))
    if r.1 then r.2.targetSent rt form2 else r.2
  | none =>
    match s.relay.down.find? (fun d => d.node == n) with
    | none => s
    | some d =>
      match d.parts with
      | [] => s.withRelay (fun r => { r with down := r.down.erase d })
      | part :: rest =>
        let r := s.sendYoked s.hops off (s.directFrame (0x100 + n) d.type_ d.index (!rest.isEmpty) part)
        if !r.1 then r.2
        else r.2.withRelay (fun r => { r with
          down := r.down.flatMap (fun x =>
            if x = d then (if rest.isEmpty then [] else [{ d with index := d.index + 1, parts := rest }]) else [x]) })

/-- What the module sends in the present slot, by the slot's use (R315). -/
def State.serveSlot (s : State) : State :=
  let s := s.takeReplies
  let cfg := s.relay.config
  let slot := s.asn % cfg.slotframe
  let frame := s.slotframeNow
  if slot = 0 ∧ frame % s.p Pid.relayBeaconEvery = 0 then s.sendBeacon
  else if slot ≤ cfg.shared then s.sharedSlot
  else match s.contexts.find? (fun n =>
      let c := s.cellOf n
      c.down == slot && frame % 2 ^ c.log2P == c.phase) with
    | some n => s.downlinkCell n
    | none => s

/-- RELAY_SLOT (R313, R315, R333): the slot of the present ASN is served once, by its use.  Where the module sends
nothing, no leave can go out and an eviction ends (R326). -/
def execRelaySlot (t : Nat) (s : State) : Host.Outcome State Fault Refusal :=
  s.run t (fun s =>
    if s.relay.served = some s.asn then s
    else if !s.domainOn 7 ∨ !s.relaySends then (s.relay.evicting.map (fun x => x.1)).eraseDups.foldl State.evicted s
    else ((s.withRelay (fun r => { r with served := some s.asn, sent := [] })).trimAir).serveSlot)

/-! ### Receiving node frames (R321, R330) -/

/-- The network key that a key index names: K04, or K05 while it is kept (R321, R382). -/
def State.indexKey (s : State) (index : Nat) : Option Nat :=
  if index = s.p Pid.relayKeyGen then s.slotKey 4
  else if (index + 1) % 256 = s.p Pid.relayKeyGen ∧ 0 < s.vault.previousLeft then s.slotKey 5
  else none

/-- The highest counter accepted from a node under a key index. -/
def RelayNode.counter (k : RelayNode) (index : Nat) : Option Nat := Tab.look index k.counters

/-- learned drift and window of R330: whether a frame `dev` µs from its expected start lies inside its
window, and the drift after it. -/
def State.windowOf (s : State) (n : Nat) (dev : Int) : Bool × Int :=
  let el : Int := match s.relay.lastBeacon with
    | some b => (((s.now - b) / us : Nat) : Int)
    | none => 0
  let drift := s.pI Pid.relayNodeDriftPpb n
  let centre := drift * el / 1000000000
  let guard := min 1400 ((s.p Pid.relayGuardUs : Int) + 5000 * el / 1000000000)
  let inside := decide ((dev - centre).natAbs ≤ guard.natAbs)
  let d := if el < 100000 then drift
    else
      let x := Int.tdiv (dev * 1000000000) el
      if 100000 < x.natAbs then drift else drift + Int.tdiv (x - drift) 8
  (inside, d)

/-- The relay header of a frame's octets (R323): type, TTL, more, index, origin, final destination,
origin sequence, and the octets after it. -/
structure RelayHeader where
  type_ : Nat
  ttl : Nat
  more : Bool
  index : Nat
  origin : Nat
  dest : Nat
  seq : Nat
  body : List Nat
  deriving DecidableEq, Repr

/-- The relay header of a frame from short address `source`. -/
def relayHeader (source : Nat) (os : List Nat) : RelayHeader :=
  let a := os.getD 0 0
  let b := os.getD 1 0
  let flooded := a % 16 ≠ 0
  { type_ := a / 16 % 16, ttl := a % 16, more := decide (128 ≤ b % 256), index := b % 32,
    origin := if flooded then octet2 os 2 else source,
    dest := if flooded then octet2 os 4 else 0,
    seq := if flooded then octet2 os 6 else 0,
    body := os.drop (if flooded then 8 else 2) }

/-- Words of octets, most significant first, zero-padded. -/
def wordsOfOctets : Nat → List Nat → List Word
  | 0, _ => []
  | n + 1, os =>
    if os.isEmpty then []
    else word (os.getD 0 0 % 256 * 2 ^ 24 + os.getD 1 0 % 256 * 2 ^ 16 + os.getD 2 0 % 256 * 256 + os.getD 3 0 % 256)
      :: wordsOfOctets n (os.drop 4)

/-- A pod report that completed at `at_` (R334): a repeated sequence is discarded, as in R134. -/
def State.podReport (s : State) (n at_ : Nat) (os : List Nat) : State :=
  let seq := os.getD 0 0 % 256
  let age := octet2 os 2
  if (s.relay.nodes.get n).podSeq = some seq ∨ os.length < 12 then s
  else
    let ws := wordsOfOctets 2 (os.drop 4)
    let stamp := (at_ : Int) - age * ms
    let w : PodWord := ⟨512 + n, nth ws 0, nth ws 1, (os.getD 1 0).testBit 7, seq, stamp, decide (age = 65535), stamp, true⟩
    let s := s.modifyNode n (fun k => { k with podSeq := some seq })
    s.deliverPod w

/-- A luminaire status (R324, R333, R337): it acknowledges every target up to its sequence. -/
def State.luminaireStatus (s : State) (n : Nat) (os : List Nat) : State :=
  match s.rtOfNode n with
  | none => s
  | some rt =>
    let ack := os.getD 0 0 % 256
    let f := os.getD 3 0
    let keep := fun (q : Option QueuedTarget) => match q with
      | some x => if seqCovered x.seq ack then none else some x
      | none => none
    let s := s.withRelay (fun r => { r with level := r.level.modify rt keep, form2 := r.form2.modify rt keep })
    let st := s.p Pid.relayRtStatus rt
    let st := putBit (putBit (os.getD 4 0 % 256 * 256 + st % 16) 1 (f.testBit 7)) 2 (f.testBit 6)
    let s := if f.testBit 6 then s.bump Pid.relayDesyncs else s
    ((s.setP Pid.relayRtStatus rt st).dropTargets rt).showRt rt

/-- A whole relay message from node `n`, complete at `at_`, is taken (R324); a packet or a status wakes the module (R456). -/
def State.relayMessage (s : State) (n at_ type_ : Nat) (os : List Nat) : State :=
  let s := if s.power.asleep && (type_ == 3 || type_ == 6) then s.raiseWake 4 else s
  match type_ with
  | 1 => s.podReport n at_ os
  | 3 => s.luminaireStatus n os
  | 6 =>
    let ws := (wordsOfOctets (os.length / 4 + 1) os)
    let p : Packet := ⟨.relay (0x100 + n), ws.map (fun w => queued w false false), decide (os.length % 4 ≠ 0), false⟩
    { s with bridle := { s.bridle with relayIn := s.bridle.relayIn ++ [p] } }
  | _ => s

/-- Discard the message being reassembled from node `n` (R323). -/
def State.dropPartial (s : State) (n : Nat) : State :=
  (s.modifyNode n (fun k => { k with partial_ := none })).bump Pid.relayFragDrops

/-- One fragment of a message from node `n`, received at `at_` (R323); `number` is its counter or origin sequence.  A
reserved type is discarded (R324). -/
def State.relayFragment (s : State) (n at_ : Nat) (h : RelayHeader) (number : Nat) : State :=
  if h.type_ = 0 ∨ 7 < h.type_ then s
  else
    let start := fun (s : State) =>
      if h.index ≠ 0 then s.bump Pid.relayFragDrops
      else if h.more then
        s.modifyNode n (fun k => { k with partial_ := some ⟨at_, 1, number, h.type_, h.body⟩ })
      else s.relayMessage n at_ h.type_ h.body
    match (s.relay.nodes.get n).partial_ with
    | none => start s
    | some p =>
      if h.index = p.due ∧ h.type_ = p.type_ ∧ number = p.last + 1 then
        let os := p.octets ++ h.body
        if h.more then
          s.modifyNode n (fun k => { k with partial_ := some ⟨p.since, p.due + 1, number, p.type_, os⟩ })
        else (s.modifyNode n (fun k => { k with partial_ := none })).relayMessage n at_ h.type_ os
      else start (s.dropPartial n)

/-- What a node's accepted frame carries is taken: at once, or after a warm restart, during which messages wait in a
64-frame buffer and excess frames are dropped and counted (R335). -/
def State.takeFrame (s : State) (n : Nat) (f : RadioFrame) : State :=
  let h := relayHeader f.source f.payload
  if s.power.phase = .reloading then
    if s.relay.buffered.length < 64 then
      s.withRelay (fun r => { r with buffered := r.buffered ++ [.frame s.now n f] })
    else s.relayTally 0 (frameKinds h.type_ (h.more || h.index != 0) (decide (h.ttl ≠ 0))) 7 f.radio
  else s.relayFragment n s.now h (if h.ttl = 0 then f.counter else h.seq)

/-- Accept a node's frame after its MIC: counters, age and state (R321, R330, R336). -/
def State.acceptFrame (s : State) (n : Nat) (f : RadioFrame) : State :=
  let s := s.modifyNode n (fun k => { k with
    counters := Tab.place f.keyIndex f.counter k.counters,
    heard := some s.now,
    lastCopy := some (f.keyIndex, f.counter, f.radio, s.now) })
  let s := if f.keyIndex = s.p Pid.relayKeyGen then
      (s.setP Pid.relayNodeFcIn n (f.counter % 2 ^ 32)).mark Pid.relayNodeFcIn n
    else s
  let s := s.setP Pid.relayNodeState n (if (s.cellOf n).flood then 3 else 2)
  s.keyUse .ccmDec 3 (if f.keyIndex = s.p Pid.relayKeyGen then 4 else 5)

/-- The checks of a received frame (R319, R321): MIC, yoke duplicate, replay; whether it is taken. -/
def State.checkFrame (s : State) (n : Nat) (kinds : List Nat) (f : RadioFrame) : Bool × State :=
  if s.indexKey f.keyIndex ≠ some f.key then
    (false, (s.relayTally 0 kinds 2 f.radio).keyCount .ccmDec 1 3)
  else
    let k := s.relay.nodes.get n
    let replay := (false, (s.bump Pid.relayReplays).relayTally 0 kinds 3 f.radio)
    match k.counter f.keyIndex with
    | some top =>
      if top < f.counter then (true, s)
      else match k.lastCopy with
        | some (i, c, r, at_) =>
          if i = f.keyIndex ∧ c = f.counter ∧ r ≠ f.radio ∧ s.now < at_ + 10 * ms then
            (false, (s.bump Pid.relayYokeDups).relayTally 0 kinds 4 f.radio)
          else replay
        | none => replay
    | none => (true, s)

/-- The position that a radio hears (R315, R320): in an uplink slot RFA hears position A and RFB position B; one radio
alone hears the position of the node due, and with nodes due on both A in even slotframes and B in odd ones. -/
def State.positionHeard (s : State) (n radio : Nat) : Bool :=
  let c := s.cellOf n
  let frame := s.slotframeNow
  if c.flood ∨ s.asn % s.relay.config.slotframe ≠ c.up then true
  else if s.shed < 3 then radio == flag c.posB
  else
    let other := s.contexts.any (fun k =>
      let d := s.cellOf k
      !d.flood && d.up == c.up && d.posB != c.posB && frame % 2 ^ d.log2P == d.phase)
    !other || c.posB == decide (frame % 2 = 1)

/-- UPLINK_FRAME (R320, R330): a direct frame of a node is checked against its window, MIC and counter, its
drift is learned and its message taken. -/
def execUplinkFrame (t : Nat) (f : RadioFrame) (s : State) : Host.Outcome State Fault Refusal :=
  s.run t (fun s =>
    let h := relayHeader f.source f.payload
    let kinds := frameKinds h.type_ (h.more || h.index != 0) false
    match nodeOfShort f.source with
    | none => s
    | some n =>
      if !s.domainOn 7 ∨ !s.contextHeld n ∨ !(s.radios.contains f.radio) ∨ h.ttl ≠ 0 ∨ !s.positionHeard n f.radio then s
      else
        let w := s.windowOf n f.arrivalUs
        if !w.1 then (s.bump Pid.relayWindowMisses).relayTally 0 kinds 5 f.radio
        else
          let c := s.checkFrame n kinds f
          if !c.1 then c.2
          else
            let s := (c.2.relayTally 0 kinds 0 f.radio).relayTally 0 kinds 1 f.radio f.payload.length
            let s := (s.acceptFrame n f).setI Pid.relayNodeDriftPpb n w.2
            let s := s.modifyNode n (fun k => { k with
              frames := (s.slotframeNow :: k.frames.filter (fun a => a != s.slotframeNow)).take 2 })
            s.takeFrame n f)

/-- A flooded frame that its relayer has secured is handled (R332): dropped as seen, delivered, or passed on. -/
def State.onFlood (s : State) (h : RelayHeader) (f : RadioFrame) : State :=
  if s.relay.seen.contains (h.origin, h.seq) then s.bump Pid.relaySeenDrops
  else
    let keep := fun (l : List (Nat × Nat)) => if 256 ≤ l.length then l.drop (l.length - 255) else l
    let s := s.withRelay (fun r => { r with seen := keep r.seen ++ [(h.origin, h.seq)] })
    let s :=
      if h.dest = 0 ∨ h.dest = 0xFFFF then
        match nodeOfShort h.origin with
        | some n =>
          if s.contextHeld n then
            let s := s.modifyNode n (fun k => { k with heard := some s.now })
            (s.setP Pid.relayNodeState n (if (s.cellOf n).flood then 3 else 2)).takeFrame n f
          else s
        | none => s
      else s
    if h.dest ≠ 0 ∧ 1 < h.ttl ∧ s.pB Pid.relayModuleRelays ∧ s.relaySends then
      let b := s.backoff
      let fr : SharedFrame := ⟨h.dest, h.type_, h.index, h.more, h.body, h.ttl - 1, h.origin, h.seq, b.1, none, some s.now⟩
      (b.2.withRelay (fun r => { r with sharedOut := r.sharedOut ++ [fr] })).relayTally 2
        (frameKinds h.type_ (h.more || h.index != 0) true) 0 f.radio
    else s

/-- FLOOD_RECEIVE (R321, R332): a flooded frame is checked as its relayer secured it, then handled. -/
def execFloodReceive (t : Nat) (f : RadioFrame) (s : State) : Host.Outcome State Fault Refusal :=
  s.run t (fun s =>
    let h := relayHeader f.source f.payload
    let kinds := frameKinds h.type_ (h.more || h.index != 0) true
    match nodeOfShort f.source with
    | none => s
    | some k =>
      if !s.domainOn 7 ∨ !s.contextHeld k ∨ h.ttl = 0 ∨ !(s.radios.contains f.radio) then s
      else
        let c := s.checkFrame k kinds f
        if !c.1 then c.2
        else
          let s := (c.2.relayTally 0 kinds 0 f.radio).relayTally 0 kinds 1 f.radio f.payload.length
          ((s.relayTally 0 kinds 9 f.radio).acceptFrame k f).onFlood h f)

/-- FRAGMENT_TIMEOUT (R323): a message not complete within relay.frag_timeout_ms is discarded. -/
def execFragmentTimeout (t : Nat) (node : Nat) (s : State) : Host.Outcome State Fault Refusal :=
  s.run t (fun s =>
    match (s.relay.nodes.get node).partial_ with
    | some p => if s.passed p.since (s.p Pid.relayFragTimeoutMs * ms) then s.dropPartial node else s
    | none => s)

/-! ### Hitching (R325 to R328) -/

/-- The segment heard within 10 min with the most free contexts, as PAN and count (R327). -/
def State.bestNeighbour (s : State) : Nat × Nat :=
  let live := s.relay.neighbours.filter (fun n => decide (s.now < n.2.2 + 600 * sec))
  live.foldl (fun b n => if b.1 = 0xFFFF ∨ b.2 < n.2.1 then (n.1, n.2.1) else b) (0xFFFF, 0)

/-- The hitch reply (R325), flooded where the request came so (R332). -/
def State.hitchReply (s : State) (h : HitchRequest) (join status detail short : Nat) (cell : Word)
    (neighbour : Nat × Nat) : State :=
  let rt := (nodeOfShort short).bind (fun n => s.rtOfNode n)
  let level := match rt with
    | some r => s.p Pid.relayRtFallback r
    | none => s.p Pid.relayUnboundFallback
  let fade := match rt with
    | some r => s.p Pid.relayRtFallbackFadeMs r
    | none => 0
  let key := match s.slotKey 4 with
    | some k => if status = stOk then Config.aesWrap join k else List.replicate 16 0
    | none => List.replicate 16 0
  let os := [status, detail] ++ octetsOfNat 2 short ++ octetsOf cell ++ [s.p Pid.relayKeyGen] ++ key.take 16 ++
    octetsOfNat 2 level ++ octetsOfNat 4 fade ++ octetsOfNat 2 0xFFFF ++ octetsOfNat 2 neighbour.1 ++ octetsOfNat 2 neighbour.2
  (s.keyCount .hitch 0 3).queueShared short 5 os h.flooded (some h.eui)

/-- Install a node in context `n` with a cell, and answer it. -/
def State.placeNode (s : State) (n join : Nat) (h : HitchRequest) (cell : NodeCell) (known : Bool) : State :=
  let s := s.set64 Pid.relayNodeEui n h.eui
  let s := ((s.setP Pid.relayNodeKind n (h.kind % 256)).setP Pid.relayNodeState n 1).setW Pid.relayNodeCell n cell.word
  let s := s.modifyNode n (fun k => { k with relays := h.relays, partial_ := none, counters := if known then k.counters else [] })
  let s := ((s.mark Pid.relayNodeEui (2 * n)).mark Pid.relayNodeEui (2 * n + 1)).mark Pid.relayNodeKind n
  let s := (s.mark Pid.relayNodeCell n).showNodes
  let s := s.hitchReply h join stOk 0 (0x100 + n) cell.word (0xFFFF, 0)
  match s.rtOfNode n with
  | some rt => if known then s.queuePresent rt else s.showRt rt
  | none => s

/-- The cell of a flood node: no dedicated one (R332). -/
def NodeCell.flooded : NodeCell := ⟨0, 0, 0, false, 0, true⟩

/-- The cells of the other direct nodes. -/
def State.otherCells (s : State) (n : Nat) : List NodeCell :=
  (s.contexts.filter (fun k => k != n && !(s.cellOf k).flood)).map s.cellOf

/-- A hitch whose request has passed its MIC is answered (R325 to R328). -/
def State.takeHitch (s : State) (join : Nat) (h : HitchRequest) : State :=
  let stretch := fun (s : State) (longer : Bool) => if longer then s.bump Pid.relayCellStretch else s
  match s.contextOf h.eui with
  | some n =>
    let c := s.cellOf n
    if h.flooded then s.placeNode n join h .flooded true
    else if !c.flood ∧ c.up ≠ 0 then s.placeNode n join h c true
    else match s.giveCell (s.otherCells n) h.kind with
      | some (x, longer) => (stretch s longer).placeNode n join h x true
      | none => s.placeNode n join h c true
  | none =>
    let open_ : Bool := match s.relay.permitUntil with
      | some e => decide (s.now < e)
      | none => false
    if !open_ then s.hitchReply h join stRefusedState 0 0xFFFF 0 (0xFFFF, 0)
    else match (List.range 1024).find? (fun n => !s.contextHeld n) with
      | none =>
        let s := (s.bump Pid.relayRefused).raise 0x22 (h.eui / 2 ^ 32) (h.eui % 2 ^ 32)
        s.hitchReply h join stFull 0 0xFFFF 0 s.bestNeighbour
      | some n =>
        if h.flooded then s.placeNode n join h .flooded false
        else match s.giveCell (s.otherCells n) h.kind with
          | none => s.hitchReply h join stFull 1 0xFFFF 0 (0xFFFF, 0)
          | some (c, longer) => (stretch s longer).placeNode n join h c false

/-- A hitch request is checked under the node's join key (R325): a wrong MIC is counted and not answered. -/
def State.onHitch (s : State) (h : HitchRequest) : State :=
  -- the row names no radio: which one heard the request is free
  let r := s.drawBelow 2
  let kinds := frameKinds 4 false true
  match r.2.joinKey h.eui with
  | none => r.2.relayTally 0 kinds 2 r.1
  | some join =>
    if join ≠ h.key then (r.2.relayTally 0 kinds 2 r.1).keyCount .hitch 1 3
    else
      let s := (r.2.relayTally 0 kinds 0 r.1).relayTally 0 kinds 8 r.1
      (if h.flooded then s.relayTally 0 kinds 9 r.1 else s).takeHitch join h

/-- HITCH_REQUEST (R325 to R328, R335). -/
def execHitchRequest (t : Nat) (h : HitchRequest) (s : State) : Host.Outcome State Fault Refusal :=
  s.run t (fun s =>
    if !s.domainOn 7 ∨ s.farrier ∨ s.wheeler then s
    else if s.power.phase = .reloading then
      if s.relay.buffered.length < 64 then s.withRelay (fun r => { r with buffered := r.buffered ++ [.hitch h] })
      else
        let r := s.drawBelow 2
        r.2.relayTally 0 (frameKinds 4 false true) 7 r.1
    else s.onHitch h)

/-- What waited in the buffer of a warm restart is taken, oldest first (R335). -/
def State.takeBuffered (s : State) : State :=
  let held := s.relay.buffered
  let s := s.withRelay (fun r => { r with buffered := [] })
  held.foldl (fun s m => match m with
    | .frame at_ n f =>
      let h := relayHeader f.source f.payload
      s.relayFragment n at_ h (if h.ttl = 0 then f.counter else h.seq)
    | .hitch h => s.onHitch h) s

/-- JOIN_WINDOW_CLOSE (R325). -/
def execJoinWindowClose (t : Nat) (s : State) : Host.Outcome State Fault Refusal :=
  s.run t (fun s =>
    match s.relay.permitUntil with
    | some e => if e ≤ s.now then s.withRelay (fun r => { r with permitUntil := none }) else s
    | none => s)

/-- RELAY_PERMIT (R325). -/
def relayPermitBody : Body := withLength 1 (fun q s =>
  let n := (nth q.payload 0).toNat
  if 3600 < n then refuse stRange 0 s
  else (.done (ok), s.withRelay (fun r => { r with permitUntil := if n = 0 then none else some (s.now + n * sec) })))

def execRelayPermit (t : Nat) (tr : Transport) (s : State) : Host.Outcome State Fault Refusal :=
  s.run t (fun s => s.onOpcode tr 0x71 .immediate relayPermitBody)

/-- The age of a node's last frame in ms (R336). -/
def State.nodeAgeMs (s : State) (n : Nat) : Nat :=
  match (s.relay.nodes.get n).heard with
  | some a => s.msSince a
  | none => u32max

/-- RELAY_NODES (R247). -/
def relayNodesBody : Body := withLength 1 (fun q s =>
  let first := bits (nth q.payload 0) 31 16
  let count := bits (nth q.payload 0) 15 0
  if count = 0 ∨ 1024 < first + count then refuse stRange 0 s
  else (.done (ok ((List.range count).flatMap (fun k =>
    let n := first + k
    [word ((0x100 + n) * 65536 + s.p Pid.relayNodeKind n * 256 + s.p Pid.relayNodeState n), word (s.nodeAgeMs n)]))), s))

def execRelayNodes (t : Nat) (tr : Transport) (s : State) : Host.Outcome State Fault Refusal :=
  s.run t (fun s => s.onOpcode tr 0x70 .immediate relayNodesBody)

/-- RELAY_EVICT (R326): a leave message goes out in the node's next downlink cell or is flooded, then the context is
freed and the result ready. -/
def relayEvictBody : Body := withLength 1 (fun q s =>
  let n := (nth q.payload 0).toNat
  if 1023 < n ∨ !s.contextHeld n then refuse stRange 0 s
  else
    let asked := s.relay.evicting.any (fun x => x.1 == n)
    let wait := s.withRelay (fun r => { r with evicting := r.evicting ++ [(n, q.ref)] })
    if !s.relaySends then (.later, wait.evicted n)
    else if asked ∨ !((s.cellOf n).flood || (s.cellOf n).down == 0) then (.later, wait)
    else (.later, wait.queueShared (0x100 + n) 7 [0] true none))

def execRelayEvict (t : Nat) (tr : Transport) (s : State) : Host.Outcome State Fault Refusal :=
  s.run t (fun s => s.onOpcode tr 0x72 .deferred relayEvictBody)

/-- CONTEXT_FORGET (R326): relay.forget_days of silence frees a context. -/
def execContextForget (t : Nat) (node : Nat) (s : State) : Host.Outcome State Fault Refusal :=
  s.run t (fun s =>
    let days := s.p Pid.relayForgetDays
    if days = 0 ∨ !s.contextHeld node then s
    else match (s.relay.nodes.get node).heard with
      | some a => if s.passed a (days * 86400 * sec) then s.evicted node else s
      | none => if s.passed s.coldAt (days * 86400 * sec) then s.evicted node else s)

/-- NODE_SILENT (R20, R336): a node not heard for 8 of its periods reads silent. -/
def execNodeSilent (t : Nat) (node : Nat) (s : State) : Host.Outcome State Fault Refusal :=
  s.run t (fun s =>
    let period := 2 ^ (s.cellOf node).log2P * s.relay.config.slotframe * 10 * ms
    match (s.relay.nodes.get node).heard with
    | some a =>
      if s.contextHeld node ∧ s.p Pid.relayNodeState node ≠ 0 ∧ s.passed a (8 * period) then
        (s.setP Pid.relayNodeState node 4).voidPod (512 + node)
      else s
    | none => s)

/-! ### The time parent (R330, R331) -/

/-- The module follows the beacons of a parent: by relay.time_role, or as a wheeler (R330). -/
def State.hasParent (s : State) : Bool := s.p Pid.relayTimeRole == 1 || s.wheeler

/-- PARENT_BEACON (R327, R330, R331): a beacon of another module is heard; the parent's corrects the
slot timing by at most 50 µs. -/
def execParentBeacon (t : Nat) (node pan free : Nat) (offsetUs : Int) (s : State) :
    Host.Outcome State Fault Refusal :=
  s.run t (fun s =>
    if !s.domainOn 7 then s
    else
      let r := s.drawBelow 2
      let s := r.2.relayCount 0 0 0 r.1
      let s := if pan = s.relay.config.pan then s
        else s.withRelay (fun r => { r with
          neighbours := r.neighbours.filter (fun n => n.1 != pan) ++ [(pan, free, s.now)] })
      let primary := s.p Pid.relayTimeParent 0
      let secondary := s.p Pid.relayTimeParent 1
      let source := if 3 ≤ s.relay.missed ∧ secondary ≠ 0xFFFF then secondary else primary
      if !s.hasParent ∨ ((node ≠ source ∧ node ≠ primary) ∧ !s.wheeler) then s
      else
        let got := s.relay.received + 1
        let follow := s.relay.following || decide (3 ≤ got)
        s.withRelay (fun r => { r with
          missed := 0, received := got, following := follow,
          phaseNs := if follow then r.phaseNs + clampI (-50) 50 offsetUs * 1000 else r.phaseNs }))

/-- PARENT_BEACONS_MISSED (R331): one more expected beacon of the parent is missed; after eight the
module keeps its slot timing as its own root. -/
def execParentBeaconsMissed (t : Nat) (s : State) : Host.Outcome State Fault Refusal :=
  s.run t (fun s =>
    if !s.hasParent ∨ !s.domainOn 7 then s
    else
      let n := s.relay.missed + 1
      let s := (s.bump Pid.relayMissedBeacons).withRelay (fun r => { r with missed := n, received := 0 })
      if n = 8 ∧ s.relay.following then
        (s.bump Pid.relayDesyncs).withRelay (fun r => { r with following := false })
      else s)

/-! ### Generations and settings (R322, R335) -/

/-- KEY_GENERATION_CHANGE (R322, R382): after 16 announcing beacons the next generation comes into
use; the previous key is kept for 16 beacon intervals and counters restart at 0. -/
def execKeyGenerationChange (t : Nat) (s : State) : Host.Outcome State Fault Refusal :=
  s.run t (fun s =>
    if s.relay.keyMove ≠ some 0 then s
    else
      let s := s.withRelay (fun r => { r with keyMove := none })
      let gen := (s.p Pid.relayKeyGen + 1) % 256
      match s.networkKey gen with
      | none => s
      | some _ =>
        let s := match s.slotKey 4 with
          | some k => { s.placeDerived 5 (derivedAttr 5 0 2 3 false) k with
              vault := { (s.placeDerived 5 (derivedAttr 5 0 2 3 false) k).vault with previousLeft := 16 } }
          | none => s
        s.nextGeneration)

/-- A write of one of the five announced settings (R335): announced for 16 beacon intervals with the
ASN at which it applies. -/
def State.announceRelay (s : State) : State :=
  let apply := (s.asn + 17 * s.p Pid.relayBeaconEvery * s.relay.config.slotframe) % 2 ^ 40
  s.withRelay (fun r => { r with announced := some (apply, 16) })

/-- Give every direct node a new cell in context order (R335). -/
def State.reallocateCells (s : State) : State :=
  let go := fun (a : List NodeCell × State) n =>
    if (a.2.cellOf n).flood then a
    else match a.2.giveCell a.1 (a.2.p Pid.relayNodeKind n) with
      | some (c, _) => (a.1 ++ [c], (a.2.setW Pid.relayNodeCell n c.word).mark Pid.relayNodeCell n)
      | none => a
  (s.contexts.foldl go ([], s)).2

/-- The settings of the parameters come into force on the air. -/
def State.applyRelayConfig (s : State) : State :=
  let s := s.withRelay (fun r => { r with
    announced := none,
    config := ⟨s.p Pid.relayRate, s.p Pid.relayPanId, s.pRun Pid.relayChanExclude 0 5, s.p Pid.relaySlotframe,
      s.p Pid.relaySharedSlots⟩ })
  (s.setP Pid.relayHopCount 0 s.hops.length).reallocateCells

/-- RELAY_CONFIG_APPLY (R335): at the announced ASN every cell is reallocated; short addresses stay. -/
def execRelayConfigApply (t : Nat) (s : State) : Host.Outcome State Fault Refusal :=
  s.run t (fun s =>
    match s.relay.announced with
    | some (a, _) => if a ≤ s.asn then s.applyRelayConfig else s
    | none => s)

end Sys2Proof.Machine
end

