-- ==== Sys2Proof/Machine/Time.lean ====
section
/-! DEFINITION.  Network time (R285 to R295), the calendar (R296 to R299), the wake timer (R300), alarms
(R301, R302) and schedules (R303 to R305). -/

namespace Sys2Proof.Machine

open Sys2Proof

/-- Change the clocks' own state. -/
def State.withTime (s : State) (f : TimeState → TimeState) : State := { s with time := f s.time }

/-- A linear clock at an instant of the counter in spine steps of 1.25 ns, in 2⁻¹⁶ ns (R285, R287). -/
def LinearClock.atStep (k : LinearClock) (c : Nat) : Int :=
  k.offset + Int.fdiv (((c : Int) - 32 * k.ref) * 40 * 65536 * (1099511627776 + k.rate)) (32 * 1099511627776)

/-- A clock at an ingress instant: the stamp less the PHY's receive delay (R287). -/
def State.ingressAt (s : State) (k : LinearClock) (port step : Nat) : Int :=
  k.atStep step - (s.p Pid.timePhyDelayNs (2 * port) : Int) * nsUnit

/-- A clock at an egress instant: the stamp with the PHY's transmit delay (R287). -/
def State.egressAt (s : State) (k : LinearClock) (port step : Nat) : Int :=
  k.atStep step + (s.p Pid.timePhyDelayNs (2 * port + 1) : Int) * nsUnit

/-- The free-running counter in spine steps. -/
def State.countSteps (s : State) : Nat := s.now - s.tickBase

/-! ### The local clock, alarms and the calendar -/

/-- Target of alarm `i`, ns (R301). -/
def State.alarmTarget (s : State) (i : Nat) : Int :=
  ((s.p64 Pid.timeAlarmS i : Int)) * 1000000000 + (s.p Pid.timeAlarmNf i / 4 : Nat)

/-- Alarm `i` is armed (R309). -/
def State.alarmArmed (s : State) (i : Nat) : Bool := s.flagOf Pid.timeAlarmCtrl i 0

/-- Alarm `i` fires (R301, R302): fired and, by an adjustment or a late write, late are set; a one-shot
alarm is disarmed, a repeating one takes its first target after the clock. -/
def State.fireAlarm (s : State) (i : Nat) (late : Bool) : State :=
  let s := s.setFlag Pid.timeAlarmStatus i 0 true
  let s := if late then s.setFlag Pid.timeAlarmStatus i 1 true else s
  let s := if s.flagOf Pid.timeAlarmCtrl i 1 then s.raiseWake 3 else s
  let period := s.p Pid.timeAlarmPeriodMs i
  if period = 0 then s.setFlag Pid.timeAlarmCtrl i 0 false
  else
    let t := s.alarmTarget i
    let p : Int := (period : Int) * 1000000
    let n := Int.fdiv (s.clockNs - t) p + 1
    let t' := t + (if n < 1 then 1 else n) * p
    let ns := (Int.fmod t' 1000000000).toNat
    (s.set64 Pid.timeAlarmS i (Int.fdiv t' 1000000000).toNat).setP Pid.timeAlarmNf i (ns * 4)

/-- Fire every armed alarm whose target the clock has reached. -/
def State.fireDue (s : State) (late : Bool) : State :=
  (List.range 8).foldl (fun s i =>
    if s.alarmArmed i ∧ s.alarmTarget i ≤ s.clockNs then s.fireAlarm i late else s) s

/-- The weekday of a date, counted on from the calendar's own weekday (R296). -/
def State.weekdayAt (s : State) (day : Nat) : Nat :=
  let c := s.calNow.1
  if c.real then
    (Int.fmod ((c.weekday + 6 : Int) + ((day : Int) - daysOfDate c.fullYear c.month c.day)) 7).toNat + 1
  else weekdayOf day

/-- Rewrite the calendar from the local clock (R296). -/
def State.rewriteCalendar (s : State) : State :=
  let t := s.civilMs
  let c := civilOfSeconds (Int.fdiv t 1000)
  let day := (Int.fdiv (Int.fdiv t 1000) 86400 + epochDay).toNat
  let wd := ((((s.weekdayAt day : Nat) : Int)) - 1).toNat % 7 + 1
  s.setCal { c with weekday := wd } ((Int.fmod t 1000).toNat * 32768 / 1000)

/-- The calendar follows the local clock (R296, R309). -/
def State.calSynced (s : State) : Bool := s.flagOf Pid.timeCalStatus 0 1

/-- An adjustment of the local clock by `e` in 2⁻¹⁶ ns (R286): counted, shown, recorded; alarms crossed
by it fire late; the calendar is rewritten. -/
def State.adjust (s : State) (e : Int) : State :=
  let s := s.withTime (fun k => { k with clock := { k.clock with offset := k.clock.offset + e } })
  let size := Int.tdiv e (nsUnit * 1000000)
  let s := (s.bump Pid.timeAdjustments).setI Pid.timeLastAdjustMs 0 (satS32 size)
  let s := if 0 < e then s.fireDue true else s
  let s := if s.calSynced then s.rewriteCalendar else s
  s.raiseWith 0x1D sevNotice (s.p Pid.wbCodeSnap 0x1D) (wordI (satS32 size)) 0

/-- Change the rate of the local clock without a step (R285). -/
def State.setRate (s : State) (r : Int) : State :=
  s.withTime (fun k => { k with clock := k.clock.withRate s.count r })

/-- Time quality changes (R292): recorded, as a Warning into holdover; the calendar becomes synced, and
is rewritten as an adjustment when a slot comes to drive an unsynced one (R296, R297). -/
def State.setQuality (s : State) (q : Nat) : State :=
  let old := s.p Pid.timeQuality
  if old = q then s
  else
    let s := (s.setP Pid.timeQuality 0 q).setFlag Pid.timeCalStatus 0 0 (q == 4)
    let s := s.withTime (fun k => { k with
      holdoverSince := if q = 2 then some s.now else none,
      bySlot := k.bySlot && decide (q ≤ 2) })
    let s :=
      if !s.calSynced ∧ (q ≤ 1 ∨ (q ≤ 3 ∧ !s.irregular ∧ old = 4)) then
        let s := (s.setFlag Pid.timeCalStatus 0 1 true).setFlag Pid.timeCalStatus 0 3 false
        s.rewriteCalendar
      else s
    s.raiseAs 0x1E (if q = 2 then sevWarning else sevNotice) q old

/-- A valid time has arrived (R299). -/
def State.timeValid (s : State) : State := s.setP Pid.timeContinuity 0 1

/-! ### Slots (R288 to R292) -/

/-- Change domain slot `d`. -/
def State.modifySlotPtp (s : State) (d : Nat) (f : PtpSlot → PtpSlot) : State :=
  s.withTime (fun k => { k with slots := k.slots.modify d f })

/-- Domain slot `d`. -/
def State.ptpSlot (s : State) (d : Nat) : PtpSlot := s.time.slots.get d

/-- Slot `d` is locked. -/
def State.slotLocked (s : State) (d : Nat) : Bool := s.p Pid.timeDomState d == 3

/-- Choose the selected slot and the time quality (R291, R292). -/
def State.selectSlot (s : State) : State :=
  let old := s.p Pid.timeSelected
  let new :=
    if old = 1 ∧ s.slotLocked 1 then 1
    else if s.slotLocked 0 then 0
    else if s.slotLocked 1 then 1
    else 2
  let s := if old = new then s else s.setP Pid.timeSelected 0 new
  let s := if old < 2 ∧ new < 2 ∧ old ≠ new then s.bump Pid.timeSwitches else s
  if new < 2 then (s.timeValid).setQuality new
  else if s.p Pid.timeQuality ≤ 1 then s.setQuality (if s.time.bySlot then 2 else 3)
  else s

/-- A slot goes to a state of R289 that is not locked. -/
def State.slotTo (s : State) (d st : Nat) : State :=
  ((s.setP Pid.timeDomState d st).modifySlotPtp d (fun k => { k with consecutive := 0, lockedSince := none })).selectSlot

/-- Data set `a` is better than `b` (R288: default data set comparison). -/
def DataSet.better (a b : DataSet) : Bool :=
  if a.identity = b.identity then decide (a.stepsRemoved < b.stepsRemoved)
  else if a.priority1 ≠ b.priority1 then decide (a.priority1 < b.priority1)
  else if a.clockClass ≠ b.clockClass then decide (a.clockClass < b.clockClass)
  else if a.accuracy ≠ b.accuracy then decide (a.accuracy < b.accuracy)
  else if a.variance ≠ b.variance then decide (a.variance < b.variance)
  else if a.priority2 ≠ b.priority2 then decide (a.priority2 < b.priority2)
  else decide (a.identity < b.identity)

/-- The best announcer; of equal data sets the one on UPA (R289). -/
def bestAnnouncer : List Announcer → Option Announcer
  | [] => none
  | a :: rest =>
    match bestAnnouncer rest with
    | none => some a
    | some b =>
      if b.set.better a.set then some b
      else if a.set.better b.set then some a
      else if a.port ≤ b.port then some a else some b

/-- Choose a slot's timeTransmitter and port (R289); a change restarts it at uncalibrated. -/
def State.bmca (s : State) (d : Nat) : State :=
  let k := s.ptpSlot d
  let best := bestAnnouncer k.announcers
  let new := best.map (fun a => (a.port, a.source))
  let s := match best with
    | some a =>
      let s := s.setRun Pid.timeDomGmId (2 * d) [a.set.identity / 2 ^ 32 % 2 ^ 32, a.set.identity % 2 ^ 32]
      s.setP Pid.timeDomSteps d (a.set.stepsRemoved % 65536)
    | none => s
  if new = k.chosen then s
  else
    let moved := k.chosen.isSome && new.isSome
    let s := s.modifySlotPtp d (fun k => { k with
      chosen := new, sync := none, request := none, response := none, lastMeasure := none, lastSync := some s.now })
    let s := if moved then s.bump Pid.timeSwitches else s
    s.slotTo d (if new.isNone then 1 else 2)

/-- Slot `d` is lost (R289): its timeTransmitter is forgotten and it returns to listening. -/
def State.slotLostPtp (s : State) (d : Nat) : State :=
  let k := s.ptpSlot d
  let s := s.slotTo d 4
  let s := s.modifySlotPtp d (fun x => { x with
    announcers := x.announcers.filter (fun a => some (a.port, a.source) != k.chosen), chosen := none, sync := none })
  if (s.ptpSlot d).announcers.isEmpty then s.slotTo d 1 else s.bmca d

/-- slot_measure of R290 with θ in 2⁻¹⁶ ns: the model steps or is steered; 16 measurements within
time.lock_ns lock the slot. -/
def State.slotMeasure (s : State) (d : Nat) (theta : Int) : State :=
  let k := s.ptpSlot d
  let gain : Int := s.p Pid.timeServoGain
  let m := k.model
  let c := s.count
  let limit : Int := s.p Pid.timeStepNs
  let ns := Int.tdiv theta nsUnit
  let steps : Bool := !s.slotLocked d && decide (limit * nsUnit < theta.natAbs)
  let dt : Int := match k.lastMeasure with
    | some a => ((toNs (s.now - a) : Nat) : Int)
    | none => 0
  let here : LinearClock := ⟨m.at_ c, c, m.rate⟩
  let model : LinearClock :=
    if steps then { here with offset := here.offset - theta }
    else
      { here with
        offset := here.offset - Int.tdiv (gain * theta) 256,
        rate := if dt = 0 then here.rate
          else clampI (-2147483648) 2147483647
            (here.rate - Int.tdiv (gain * gain * theta * 1099511627776) (4 * 65536 * dt * nsUnit)) }
  let good : Bool := decide (ns.natAbs ≤ s.p Pid.timeLockNs) && !steps
  let n := if good then k.consecutive + 1 else 0
  let s := s.modifySlotPtp d (fun k => { k with model := model, lastMeasure := some s.now, consecutive := n })
  let s := ((s.setI Pid.timeDomOffsetNs d (satS32 ns)).setI Pid.timeDomRatePpb d (satS32 (ratePpb model.rate)))
  if s.p Pid.timeDomState d = 2 ∧ 16 ≤ n then
    ((s.setP Pid.timeDomState d 3).modifySlotPtp d (fun k => { k with lockedSince := some s.now })).selectSlot
  else s

/-- The mean path delay in ns of slot `d` on a port (R288): end-to-end or peer-to-peer. -/
def State.pathDelay (s : State) (d port : Nat) : Int :=
  if s.p Pid.timeDomDelayMech d = 1 then s.p Pid.timePdelayNs port else (s.ptpSlot d).pathNs

/-- An offset measurement: `t1` with its corrections in 2⁻¹⁶ ns, `t2` in spine steps (R287, R290). -/
def State.measureOffset (s : State) (d port : Nat) (t1 : Int) (t2 : Nat) : State :=
  let k := s.ptpSlot d
  let path := s.pathDelay d port
  let rx := s.ingressAt k.model port t2
  let theta := rx - t1 - (path + s.pI Pid.timeAsymNs port) * nsUnit
  let s := s.modifySlotPtp d (fun k => { k with t1 := Int.fdiv t1 nsUnit, t2 := t2 })
  (s.setI Pid.timeDomPathNs d path).slotMeasure d theta

/-- Column of a message type in the PTP statistics (R308). -/
def ptpKind (messageType : Nat) : Option Nat :=
  match messageType with
  | 0 => some 0
  | 1 => some 1
  | 2 => some 2
  | 3 => some 3
  | 8 => some 4
  | 9 => some 5
  | 10 => some 6
  | 11 => some 7
  | 12 => some 8
  | 13 => some 9
  | _ => none

/-- Count a measure of the PTP matrix (R308). -/
def State.ptpCount (s : State) (d k m port : Nat) : State := s.bump (0x5100 + 0x10 * (10 * d + k) + m) port

/-- The slot that serves a message: enabled, of its domain and transport (R288, R289). -/
def State.slotOf (s : State) (m : PtpMessage) : Option Nat :=
  [0, 1].find? (fun d => s.pB Pid.timeDomEnable d && s.p Pid.timeDomNumber d == m.domain &&
    (s.p Pid.timeDomTransport d == 1) == m.annexC)

/-- Where a PTP message goes: the address of peer messages or of the others, of Annex E or the multicast of Annex C
(R288). -/
def ptpAddress (peer annexC : Bool) : Nat :=
  if annexC then (if peer then 0x01005E00006B else 0x01005E000181)
  else if peer then 0x0180C200000E else 0x011B19000000

/-- A PTP frame of the module's own (R288), with the time stamp it carries in ns. -/
def State.ptpFrame (s : State) (port type_ seq : Nat) (domain : Nat) (annexC : Bool) (timeNs : Int := 0) : Frame :=
  let m : PtpMessage := ⟨type_, 2, domain, true, 0, s.p64 Pid.idMac port, seq, 0, timeNs, false, none, annexC⟩
  let octets := if type_ = 1 then 44 else 54
  ⟨ptpAddress (type_ != 1) annexC, s.p64 Pid.idMac port, max 64 (18 + octets + (if annexC then 28 else 0)), true,
    none, none, none, .ptp m⟩

/-- Take the egress stamp of a message out of the queue (R295). -/
def State.takeStamp (s : State) (port type_ seq : Nat) : Option Nat × State :=
  let is := fun (e : StampEntry) => e.port == port && e.messageType == type_ && e.sequence == seq
  match s.time.stamps.find? is with
  | some e => (some e.stamp, s.withTime (fun k => { k with stamps := k.stamps.erase e }))
  | none => (none, s)

/-- An Announce (R289, R296): the announcer is noted, the UTC offset and a leap second are taken from
the timeTransmitter chosen. -/
def State.onAnnounce (s : State) (d port : Nat) (m : PtpMessage) (a : AnnounceFields) : State :=
  let set : DataSet := ⟨a.priority1, a.clockClass, a.accuracy, a.variance, a.priority2, a.grandmaster, a.stepsRemoved⟩
  let s := s.modifySlotPtp d (fun k => { k with
    announcers := k.announcers.filter (fun x => !(x.port == port && x.source == m.source)) ++
      [⟨port, m.source, set, s.now, m.interval⟩] })
  let s := s.bmca d
  if (s.ptpSlot d).chosen = some (port, m.source) then
    let s := if a.utcValid ∧ a.utcOffset ≠ s.pI Pid.timeUtcOffsetS then
        (s.setI Pid.timeUtcOffsetS 0 (satS16 a.utcOffset)).mark Pid.timeUtcOffsetS 0 else s
    let u := s.pI Pid.timeUtcOffsetS
    let midnight : Int := (Int.fdiv ((s.clockSec : Int) - u) 86400 + 1) * 86400 + u
    (s.setFlag Pid.timeCalStatus 0 2 a.leap61).withTime (fun k => { k with leapAt := if a.leap61 then some midnight else none })
  else s

/-- A received PTP message with its ingress instant in spine steps (R288 to R290). -/
def State.ptpReceive (s : State) (port step : Nat) (m : PtpMessage) : State :=
  match ptpKind m.messageType with
  | none => s
  | some k =>
    let s := s.ptpCount 0 k 0 port
    if m.version ≠ 2 then s.ptpCount 0 k 6 port
    else match s.slotOf m with
      | none => s.ptpCount 0 k 3 port
      | some d =>
        let s := (s.ptpCount 0 k (1 + d) port).ptpCount 0 k (if m.twoStep then 5 else 4) port
        let x := s.ptpSlot d
        let mine := x.chosen == some (port, m.source)
        match m.messageType with
        | 2 =>
          -- a peer's Pdelay_Req is answered two-step, with the time it arrived
          if s.p Pid.timeDomDelayMech d = 1 then
            s.originate [port] (s.ptpFrame port 3 m.sequence m.domain m.annexC
              (Int.fdiv (s.ingressAt s.time.clock port step) nsUnit)) (some d)
          else s
        | 0 =>
          if !mine then s
          else
            let s := s.modifySlotPtp d (fun x => { x with lastSync := some s.now })
            if m.twoStep then s.modifySlotPtp d (fun x => { x with sync := some (m.sequence, step, m.correction) })
            else s.measureOffset d port (m.timeNs * nsUnit + m.correction) step
        | 8 =>
          match x.sync with
          | some (q, t2, corr) =>
            if mine && q == m.sequence then
              (s.modifySlotPtp d (fun x => { x with sync := none })).measureOffset d port
                (m.timeNs * nsUnit + corr + m.correction) t2
            else s
          | none => s
        | 9 =>
          if x.request = some (port, m.sequence) ∧ m.toMe then
            let t := s.takeStamp port 1 m.sequence
            let s := t.2.modifySlotPtp d (fun x => { x with request := none })
            match t.1 with
            | none => s.ptpCount 1 1 8 port
            | some t3 =>
              let down := Int.fdiv (s.ingressAt x.model port x.t2) nsUnit - x.t1
              let up := m.timeNs - Int.fdiv m.correction nsUnit - Int.fdiv (s.egressAt x.model port t3) nsUnit
              s.modifySlotPtp d (fun x => { x with pathNs := Int.fdiv (down + up) 2 })
          else s
        | 3 =>
          if x.request = some (port, m.sequence) ∧ m.toMe then
            s.modifySlotPtp d (fun x => { x with response := some (m.timeNs - Int.fdiv m.correction nsUnit, step) })
          else s
        | 10 =>
          match x.response with
          | some (t2, t4) =>
            if x.request = some (port, m.sequence) ∧ m.toMe then
              let t := s.takeStamp port 2 m.sequence
              let s := t.2.modifySlotPtp d (fun x => { x with request := none, response := none })
              match t.1 with
              | none => s.ptpCount 1 2 8 port
              | some t1 =>
                let turn := m.timeNs + Int.fdiv m.correction nsUnit - t2
                let round := Int.fdiv (s.ingressAt s.time.clock port t4 - s.egressAt s.time.clock port t1) nsUnit
                s.setP Pid.timePdelayNs port (satU32 (Int.fdiv (round - turn) 2).toNat)
            else s
          | none => s
        | 11 =>
          match m.announce with
          | some a => s.onAnnounce d port m a
          | none => s
        | _ => s

/-- SYNC_TIMEOUT (R289): no Sync for time.sync_timeout_ms. -/
def execSyncTimeout (t : Nat) (slot : Nat) (s : State) : Host.Outcome State Fault Refusal :=
  s.run t (fun s =>
    let st := s.p Pid.timeDomState slot
    match (s.ptpSlot slot).lastSync with
    | some a =>
      if slot < 2 ∧ (st = 2 ∨ st = 3) ∧ s.passed a (s.p Pid.timeSyncTimeoutMs * ms) then s.slotLostPtp slot else s
    | none => s)

/-- An announce interval of 2^i seconds, in spine steps. -/
def intervalSteps (i : Int) : Nat := if 0 ≤ i then 2 ^ i.toNat * sec else sec / 2 ^ (-i).toNat

/-- ANNOUNCE_TIMEOUT (R289): no Announce of the chosen timeTransmitter within announceReceiptTimeout
intervals. -/
def execAnnounceTimeout (t : Nat) (slot : Nat) (s : State) : Host.Outcome State Fault Refusal :=
  s.run t (fun s =>
    let k := s.ptpSlot slot
    let late := fun (a : Announcer) => s.passed a.heard (s.p Pid.timeAnnounceTimeout * intervalSteps a.interval)
    match k.announcers.find? (fun a => some (a.port, a.source) == k.chosen) with
    | some a => if slot < 2 ∧ late a then s.slotLostPtp slot else s
    | none =>
      s.modifySlotPtp slot (fun k => { k with announcers := k.announcers.filter (fun a => !late a) }))

/-- DOMAIN_REVERT (R291): slot 0 has been locked for time.revert_s without a break. -/
def execDomainRevert (t : Nat) (s : State) : Host.Outcome State Fault Refusal :=
  s.run t (fun s =>
    match (s.ptpSlot 0).lockedSince with
    | some a =>
      if s.p Pid.timeSelected = 1 ∧ s.p Pid.timeRevertS ≠ 0 ∧ s.slotLocked 0 ∧ s.passed a (s.p Pid.timeRevertS * sec) then
        ((s.setP Pid.timeSelected 0 0).bump Pid.timeSwitches).setQuality 0
      else s
    | none => s)

/-- HOLDOVER_EXPIRY (R292). -/
def execHoldoverExpiry (t : Nat) (s : State) : Host.Outcome State Fault Refusal :=
  s.run t (fun s =>
    match s.time.holdoverSince with
    | some a => if s.p Pid.timeQuality = 2 ∧ s.passed a (s.p Pid.timeHoldoverS * sec) then s.setQuality 3 else s
    | none => s)

/-- A request still open when the next one goes out is abandoned; its stamp leaves the queue and counts as timed out
(R295, R308). -/
def State.abandonRequest (s : State) (slot type_ : Nat) : State :=
  match (s.ptpSlot slot).request with
  | none => s
  | some (port, seq) => (s.takeStamp port type_ seq).2.ptpCount 1 type_ 8 port

/-- PTP_REQUEST_SEND (R288): a Delay_Req of an end-to-end slot, or a Pdelay_Req on a port. -/
def execPtpRequestSend (t : Nat) (slot port : Nat) (s : State) : Host.Outcome State Fault Refusal :=
  s.run t (fun s =>
    if 1 < slot ∨ 1 < port ∨ !s.pB Pid.timeDomEnable slot ∨ !s.domainOn 6 then s
    else
      let k := s.ptpSlot slot
      let p2p := s.p Pid.timeDomDelayMech slot = 1
      if !p2p ∧ (k.chosen.map (fun c => c.1)) ≠ some port then s
      else
        let seq := k.nextSequence
        let type_ := if p2p then 2 else 1
        let s := s.abandonRequest slot type_
        let s := s.modifySlotPtp slot (fun k => { k with
          request := some (port, seq), response := none, nextSequence := (seq + 1) % 65536 })
        s.originate [port] (s.ptpFrame port type_ seq (s.p Pid.timeDomNumber slot) (s.p Pid.timeDomTransport slot == 1)) (some slot))

/-- Bit `seq mod 64` of time.ts_missed (R295). -/
def State.missedBit (s : State) (seq : Nat) (b : Bool) : State :=
  let k := seq % 64
  s.setFlag Pid.timeTsMissed (if 32 ≤ k then 0 else 1) (k % 32) b

/-- TX_TIMESTAMP (R295): the egress stamp of a frame just sent enters the queue of 32, or is lost; a
Pdelay_Resp's stamp is used at once for its follow-up. -/
def execTxTimestamp (t : Nat) (s : State) : Host.Outcome State Fault Refusal :=
  s.run t (fun s =>
    match s.time.awaiting with
    | [] => s
    | e :: rest =>
      let s := s.withTime (fun k => { k with awaiting := rest })
      if 32 ≤ s.time.stamps.length then
        let first : Bool := match s.time.overflowNotice with
          | some a => s.passed a (60 * sec)
          | none => true
        let s := (s.missedBit e.sequence true).bump Pid.timeTsOverflows
        let s := s.ptpCount 1 ((ptpKind e.messageType).getD 1) 8 e.port
        -- the exchange is abandoned
        let s := s.modifySlotPtp e.slot (fun k =>
          if k.request = some (e.port, e.sequence) ∧ e.messageType ≠ 3 then { k with request := none, response := none } else k)
        if first then
          (s.withTime (fun k => { k with overflowNotice := some s.now })).raise 0x20 (s.p Pid.timeTsOverflows) 0
        else s
      else
        let s := s.withTime (fun k => { k with stamps := k.stamps ++ [e] })
        let s := (s.missedBit e.sequence false).raiseTo Pid.timeTsQueuePeak 0 s.time.stamps.length
        if e.messageType = 3 then
          let s := s.withTime (fun k => { k with stamps := k.stamps.erase e })
          s.originate [e.port] (s.ptpFrame e.port 10 e.sequence (s.p Pid.timeDomNumber e.slot)
            (s.p Pid.timeDomTransport e.slot == 1) (Int.fdiv (s.egressAt s.time.clock e.port e.stamp) nsUnit))
        else s)

/-! ### Steering (R290, R293) -/

/-- A TIME_SET is carried out at a steering instant (R293); one that a slot has overtaken since its acceptance is
refused as it would be then (DEDUCED, assumption 104). -/
def State.doTimeSet (s : State) (p : PendingTimeSet) : State :=
  let elapsed : Int := ((s.count : Int) - p.count) * 40
  let target : Int := (p.seconds : Int) * 1000000000 + p.nanoseconds + elapsed
  let diff := target * nsUnit - s.clockNow
  -- a slew that is still under way ends, with the rate before it
  let s := match s.time.slewLeft with
    | some (_, base) => (s.setRate base).withTime (fun k => { k with slewLeft := none })
    | none => s
  if s.p Pid.timeSelected < 2 then s.finish p.ref (fail stRefusedState)
  else
    let s :=
      if p.slew then s.withTime (fun k => { k with slewLeft := some (Int.tdiv diff nsUnit, k.clock.rate) })
      else s.adjust diff
    ((s.timeValid).setQuality 3).finish p.ref (ok)

/-- A slew's rate for the next 125 ms: time.slew_ppb toward the difference, or what is left (R293). -/
def State.slewStep (s : State) : State :=
  match s.time.slewLeft with
  | none => s
  | some (left, base) =>
    let slew : Int := s.p Pid.timeSlewPpb
    let perStep := Int.tdiv slew 8
    let d := clampI (-perStep) perStep left
    if left = 0 then (s.setRate base).withTime (fun k => { k with slewLeft := none })
    else (s.setRate (base + ofPpb (d * 8))).withTime (fun k => { k with slewLeft := some (left - d, base) })

/-- LOCAL_STEER (R290, R293): at each whole multiple of 3,125,000 TCXO periods the TIME_SETs that wait
are carried out and the clock is steered toward the selected slot's model. -/
def execLocalSteer (t : Nat) (s : State) : Host.Outcome State Fault Refusal :=
  s.run t (fun s =>
    let k := s.count / 3125000
    if k ≤ s.time.steered then s
    else
      let s := s.withTime (fun x => { x with steered := k })
      let ps := s.time.pendingSet
      let s := ps.foldl State.doTimeSet (s.withTime (fun x => { x with pendingSet := [] }))
      let sel := s.p Pid.timeSelected
      if 1 < sel then s.slewStep
      else
        let m := (s.ptpSlot sel).model
        let e := m.at_ s.count - s.clockNow
        let ns := Int.tdiv e nsUnit
        let s := (s.setI Pid.timeOffsetNs 0 (satS32 ns)).withTime (fun x => { x with slewLeft := none, bySlot := true })
        if (s.p Pid.timeStepNs : Int) * nsUnit < e.natAbs then s.adjust e
        else
          let slew : Int := s.p Pid.timeSlewPpb
          s.setRate (m.rate + ofPpb (clampI (-slew) slew ns)))

/-- TIME_READ (R247). -/
def timeReadBody : Body := withLength 0 (fun _ s =>
  let l := s.clockNow
  let ns := Int.fdiv l nsUnit
  let sc := (Int.fdiv ns 1000000000).toNat
  let c := s.calNow.1
  (.done (ok [word (sc / 2 ^ 32 % 65536), word (sc % 2 ^ 32), word (Int.fmod ns 1000000000).toNat,
    word (Int.fmod l nsUnit).toNat, word (s.p Pid.timeQuality),
    word (bcd c.century * 2 ^ 24 + bcd c.year * 2 ^ 16 + bcd c.month * 2 ^ 8 + bcd c.day),
    word (bcd c.weekday * 2 ^ 24 + bcd c.hour * 2 ^ 16 + bcd c.minute * 2 ^ 8 + bcd c.second)]), s))

def execTimeRead (t : Nat) (tr : Transport) (s : State) : Host.Outcome State Fault Refusal :=
  s.run t (fun s => s.onOpcode tr 0x40 .immediate timeReadBody)

/-- TIME_SET (R293): the time as of the acceptance stamp. -/
def timeSetBody : Body := withLength 4 (fun q s =>
  let hi := nth q.payload 0
  let n := (nth q.payload 2).toNat
  let w3 := nth q.payload 3
  let secs : Nat := bits hi 15 0 * 2 ^ 32 + (nth q.payload 1).toNat
  if s.p Pid.timeQuality ≤ 1 then refuse stRefusedState 0 s
  else if bits hi 31 16 ≠ 0 then refuse stRange 0 s
  else if 1000000000 ≤ n then refuse stRange 2 s
  else if bits w3 31 1 ≠ 0 then refuse stRange 3 s
  else
    let diff : Int := (secs : Int) * 1000000000 + (n : Int) - s.clockNs
    if bit w3 0 ∧ 10000000000 < diff.natAbs then refuse stRange 0 s
    else (.later, s.withTime (fun k => { k with pendingSet := k.pendingSet ++ [⟨s.count, secs, n, bit w3 0, q.ref⟩] })))

def execTimeSet (t : Nat) (tr : Transport) (s : State) : Host.Outcome State Fault Refusal :=
  s.run t (fun s => s.onOpcode tr 0x41 .deferred timeSetBody)

/-! ### The calendar (R296 to R299) -/

/-- CALENDAR_SECOND (R296, R297): a pending leap second takes effect at UTC midnight, a calendar that
differs by more than 2 ms is rewritten, and irregular clears once every field is in range. -/
def execCalendarSecond (t : Nat) (s : State) : Host.Outcome State Fault Refusal :=
  s.run t (fun s =>
    let s := match s.time.leapAt with
      | some m =>
        if m ≤ s.clockSec then
          let s := (s.setI Pid.timeUtcOffsetS 0 (s.pI Pid.timeUtcOffsetS + 1)).mark Pid.timeUtcOffsetS 0
          (s.setFlag Pid.timeCalStatus 0 2 false).withTime (fun k => { k with leapAt := none })
        else s
      | none => s
    let s := if s.flagOf Pid.timeCalStatus 0 3 ∧ s.calNow.1.real then s.setFlag Pid.timeCalStatus 0 3 false else s
    if s.calSynced ∧ s.p Pid.timeQuality ≤ 3 ∧ 2 < (s.calMs - s.civilMs).natAbs then s.rewriteCalendar else s)

/-- RTC_TRIM_WINDOW (R298): while quality is 0 or 1, `ticks` raw ticks counted in a window of 1,024 s of
the local clock give the trim, in steps of 29.8 ppb. -/
def execRtcTrimWindow (t : Nat) (ticks : Nat) (s : State) : Host.Outcome State Fault Refusal :=
  s.run t (fun s =>
    if 1 < s.p Pid.timeQuality then s.withTime (fun k => { k with trimWindow := none })
    else match s.time.trimWindow with
      | none => s.withTime (fun k => { k with trimWindow := some (s.clockNs, k.rtcTicks) })
      | some (from_, _) =>
        let dt := s.clockNs - from_
        if dt < 1024000000000 ∨ ticks = 0 then s
        else
          -- ticks expected in dt, times 10⁹
          let expected := dt * 32768
          let ppb := Int.tdiv ((expected - (ticks : Int) * 1000000000)) (ticks : Int)
          let steps := divRoundI (ppb * 10) 298
          let s := (s.setI Pid.timeRtcTrimPpb 0 (clampI (-200000) 200000 (Int.tdiv (steps * 298) 10))).mark Pid.timeRtcTrimPpb 0
          s.withTime (fun k => { k with trimWindow := some (s.clockNs, k.rtcTicks) }))

/-- The local clock is set from the calendar (R296, R299). -/
def State.clockFromCalendar (s : State) : State :=
  let msTai := s.calMs + s.pI Pid.timeUtcOffsetS * 1000 - s.pI Pid.timeTzOffsetMin * 60000
  s.withTime (fun k => { k with clock := ⟨msTai * 1000000 * nsUnit, s.count, k.clock.rate⟩ })

/-- What a SET of time.cal does after its fields are written (R297): a real date adjusts the clock, any
other runs as written. -/
def State.calendarWritten (s : State) : State :=
  let s := s.withTime (fun k => { k with calAt := s.now, calTicks := 0 })
  let c := s.calStored
  if c.real then
    let target := (c.seconds + s.pI Pid.timeUtcOffsetS - s.pI Pid.timeTzOffsetMin * 60) * 1000000000 * nsUnit
    let s := (s.setFlag Pid.timeCalStatus 0 3 false).setFlag Pid.timeCalStatus 0 1 true
    ((s.adjust (target - s.clockNow)).timeValid).setQuality 3
  else (s.setFlag Pid.timeCalStatus 0 3 true).setFlag Pid.timeCalStatus 0 1 false

/-- RETENTION_LOSS (R299): D0 falls below its retention level while VIN is away; the continuity latch
and what D0 held are lost. -/
def execRetentionLoss (t : Nat) (s : State) : Host.Outcome State Fault Refusal :=
  s.run t (fun s =>
    if s.power.d0OnVin then s
    else
      let s := s.setP Pid.timeContinuity 0 0
      let s := { s with power := { s.power with standDownFlag := false, resetCause := none, sleepDeadline := none } }
      s.withTime (fun k => { k with retained := false, wakeAt := none }))

/-- D0_SUPPLY_CHANGEOVER (R299): D0 draws on VIN from 10.0 V up and on VBAT below, above retention
throughout. -/
def execD0SupplyChangeover (t : Nat) (onVin : Bool) (s : State) : Host.Outcome State Fault Refusal :=
  s.run t (fun s =>
    let s := { s with power := { s.power with d0OnVin := onVin } }
    if onVin then s.withTime (fun k => { k with retained := true }) else s)

/-! ### Wake timer and alarms (R300 to R302) -/

/-- The wake timer runs from a write of its period (R300). -/
def State.startWakeTimer (s : State) : State :=
  let p := s.p Pid.timeWakePeriod
  s.withTime (fun k => { k with wakeAt := if p = 0 then none else some (s.now + p * sec / 256) })

/-- WAKE_SET (R300). -/
def wakeSetBody : Body := withLength 1 (fun q s =>
  let n := (nth q.payload 0).toNat
  if 22118400 < n then refuse stRange 0 s
  else (.done (ok), (s.setP Pid.timeWakePeriod 0 n).startWakeTimer))

def execWakeSet (t : Nat) (tr : Transport) (s : State) : Host.Outcome State Fault Refusal :=
  s.run t (fun s => s.onOpcode tr 0x44 .immediate wakeSetBody)

/-- WAKE_TIMER_EXPIRY (R300). -/
def execWakeTimerExpiry (t : Nat) (s : State) : Host.Outcome State Fault Refusal :=
  s.run t (fun s =>
    match s.time.wakeAt with
    | some a =>
      if a ≤ s.now then
        let s := (s.bump Pid.timeWakeCount).raiseWake 3
        s.withTime (fun k => { k with wakeAt := some (a + s.p Pid.timeWakePeriod * sec / 256) })
      else s
    | none => s)

/-- ALARM_FIRE (R302): the running clock crosses the target of an armed alarm. -/
def execAlarmFire (t : Nat) (alarm : Nat) (s : State) : Host.Outcome State Fault Refusal :=
  s.run t (fun s =>
    if alarm < 8 ∧ s.alarmArmed alarm ∧ s.alarmTarget alarm ≤ s.clockNs then s.fireAlarm alarm false else s)

/-- What a write of an alarm's target, period or control does (R301): an armed alarm whose target is not
after the clock fires at once, late. -/
def State.alarmWritten (s : State) (i : Nat) : State :=
  if s.alarmArmed i ∧ s.alarmTarget i ≤ s.clockNs then s.fireAlarm i true else s

/-! ### Schedules (R303 to R305) -/

/-- An entry of a schedule table (R303): kind, weekday mask, milliseconds of day, value. -/
structure SchedEntry where
  pulse : Bool
  days : Nat
  ofDay : Nat
  value : Int
  deriving DecidableEq, Repr

/-- The entries of table words. -/
def schedEntries : List Word → List SchedEntry
  | w0 :: w1 :: rest =>
    ⟨bit w0 31, bits w0 30 24, (bits w0 23 13 * 60 + bits w0 12 7) * 1000, w1.toInt⟩ :: schedEntries rest
  | _ => []

/-- The first word of an entry list that is out of range (R303), as an index. -/
def schedBad : Nat → List Word → Option Nat
  | _, [] => none
  | k, [_] => some k
  | k, w0 :: _ :: rest =>
    if 1440 ≤ bits w0 23 13 ∨ 60 ≤ bits w0 12 7 ∨ bits w0 6 0 ≠ 0 then some k else schedBad (k + 2) rest

/-- An occurrence: instant in calendar ms, whether it is a pulse, its place in the table, value. -/
structure Occurrence where
  at_ : Int
  pulse : Bool
  place : Nat
  value : Int
  deriving DecidableEq, Repr

/-- Order of R303: by instant, state before pulse, then table order. -/
def Occurrence.before (a b : Occurrence) : Bool :=
  decide (a.at_ < b.at_) || (a.at_ == b.at_ && ((!a.pulse && b.pulse) || (a.pulse == b.pulse && decide (a.place < b.place))))

/-- Insert an occurrence in order. -/
def insertOccurrence (o : Occurrence) : List Occurrence → List Occurrence
  | [] => [o]
  | x :: rest => if o.before x then o :: x :: rest else x :: insertOccurrence o rest

/-- The weekday, 1 to 7, of a day counted from the epoch, by the calendar's own weekday (R296). -/
def State.weekdayOfDay (s : State) (d : Int) : Nat := s.weekdayAt (d + epochDay).toNat

/-- The occurrences of a table in (a, b], in order; b − a is at most some days. -/
def State.occurrences (s : State) (table : Nat) (a b : Int) : List Occurrence :=
  let es := (schedEntries (s.time.tables.get table)).zipIdx
  let d0 := Int.fdiv a 86400000
  let days := (Int.fdiv b 86400000 - d0 + 1).toNat
  let all := (List.range (min days 10)).flatMap (fun (k : Nat) =>
    let d : Int := d0 + k
    let wd := s.weekdayOfDay d
    es.filterMap (fun e =>
      let t := d * 86400000 + e.1.ofDay
      if e.1.days.testBit (wd - 1) ∧ a < t ∧ t ≤ b then some ⟨t, e.1.pulse, e.2, e.1.value⟩ else none))
  all.foldl (fun l o => insertOccurrence o l) []

/-- The number of pulse occurrences of a table in (a, b], however long that is. -/
def State.pulsesIn (s : State) (table : Nat) (a b : Int) : Nat :=
  if b ≤ a then 0
  else
    let es := (schedEntries (s.time.tables.get table)).filter (fun e => e.pulse)
    let weeks := (Int.fdiv (b - a) 604800000).toNat
    let perWeek := sumN (es.map (fun e => onesBelow e.days 7))
    let rest := (s.occurrences table (a + weeks * 604800000) b).filter (fun o => o.pulse)
    weeks * perWeek + rest.length

/-- The latest state occurrence of the 7 days up to `now` (R305). -/
def State.latestState (s : State) (table : Nat) (now : Int) : Option Int :=
  (((s.occurrences table (now - 604800000) now).filter (fun o => !o.pulse)).getLast?).map (fun o => o.value)

/-- The checks of SCHED_LOAD on its words (R303). -/
def schedLoadFailure (ws : List Word) : Option Result :=
  if ws.isEmpty then some (fail stRange 0)
  else if bits (nth ws 0) 31 8 ≠ 0 then some (fail stRange 0)
  else if 129 < ws.length then some (fail stRange 129)
  else match schedBad 1 (ws.drop 1) with
    | some k => some (fail stRange k)
    | none => none

/-- SCHED_LOAD (R303): its words are checked at acceptance; it is applied at the boundary. -/
def schedLoadBody : Body := fun q s =>
  match schedLoadFailure q.payload with
  | some r => (.done r, s)
  | none => enqueueBoundary q s

def execSchedLoad (t : Nat) (tr : Transport) (s : State) : Host.Outcome State Fault Refusal :=
  s.run t (fun s => s.onOpcode tr 0x42 .boundary schedLoadBody)

/-- A schedule table is replaced at the boundary (R303). -/
def State.loadTable (s : State) (ws : List Word) : State :=
  let n := bits (nth ws 0) 7 0
  (s.withTime (fun k => { k with tables := k.tables.set n (ws.drop 1) })).setP Pid.timeSchedEntries n ((ws.length - 1) / 2)

/-- SCHED_READ (R247). -/
def schedReadBody : Body := withLength 1 (fun q s =>
  if bits (nth q.payload 0) 31 8 ≠ 0 then refuse stRange 0 s
  else (.done (ok (s.time.tables.get (bits (nth q.payload 0) 7 0))), s))

def execSchedRead (t : Nat) (tr : Transport) (s : State) : Host.Outcome State Fault Refusal :=
  s.run t (fun s => s.onOpcode tr 0x43 .immediate schedReadBody)

/-! ### Restarts (R299) -/

/-- Power-on (R299): with continuity intact the clock is loaded from the calendar and quality is 3;
with it lost the calendar takes its last good value and quality is 4. -/
def State.timePowerOn (s : State) (lastGood : Option (Civil × Nat)) : State :=
  if s.pB Pid.timeContinuity then
    let s := (s.clockFromCalendar).setP Pid.timeSelected 0 2
    s.setQuality 3
  else
    let s := match lastGood with
      | some c => s.setCal c.1 c.2
      | none =>
        let d := s.pRun Pid.idMfgDate 0 4
        let y := unbcd (d.getD 0 0) * 100 + unbcd (d.getD 1 0)
        let m := unbcd (d.getD 2 0)
        let k := unbcd (d.getD 3 0)
        s.setCal ⟨y / 100, y % 100, m, k, weekdayOf (daysOfDate y m k), 0, 0, 0⟩ 0
    let s := (s.clockFromCalendar).setP Pid.timeSelected 0 2
    let s := (s.setP Pid.timeQuality 0 4).setFlag Pid.timeCalStatus 0 0 true
    s.raise 0x1F 0 0

/-- A cold restart that keeps VIN (R299): the counter starts again at zero, the clock reads on without a
step, and quality is 2 if a slot was selected. -/
def State.timeColdRestart (s : State) : State :=
  let l := s.clockNow
  let sel := s.p Pid.timeSelected
  let q := s.p Pid.timeQuality
  let s := { s with tickBase := s.now, tcxoStopped := none }
  let s := s.withTime (fun k => { k with
    clock := ⟨l, 0, k.clock.rate⟩, steered := 0, slots := Tab.const .fresh, stamps := [], awaiting := [],
    pendingSet := [], slewLeft := none, trimWindow := none })
  let s := s.setP Pid.timeSelected 0 2
  let s := (List.range 2).foldl (fun s d => s.setP Pid.timeDomState d (if s.pB Pid.timeDomEnable d then 1 else 0)) s
  if sel < 2 then s.setQuality 2 else s.setP Pid.timeQuality 0 q

end Sys2Proof.Machine
end

