-- ==== Sys2Proof/Machine/Net.lean ====
section
/-! DEFINITION.  The uplink ring (R266 to R284): links, energy-efficient Ethernet, LLDP, the receive
and transmit paths, HSR and PRP, the network layer, and witness messages (R433). -/

namespace Sys2Proof.Machine

open Sys2Proof

/-! ### Ports -/

/-- A port beside its parameters. -/
def State.port (s : State) (p : Nat) : NetPort := s.net.ports.get p

/-- Change the uplink's state. -/
def State.withNet (s : State) (f : NetState → NetState) : State := { s with net := f s.net }

/-- Change a port. -/
def State.modifyPort (s : State) (p : Nat) (f : NetPort → NetPort) : State :=
  s.withNet (fun n => { n with ports := n.ports.modify p f })

/-- The link of a port is up (R283). -/
def State.linkUp (s : State) (p : Nat) : Bool := s.flagOf Pid.netLink p 0

/-- The speed of a port's link: 0 none, 1 to 3 for 10, 100, 1000 Mbit/s (R283). -/
def State.linkSpeed (s : State) (p : Nat) : Nat := s.p Pid.netLink p / 2 % 4

/-- The ports that the mode in force uses (R272). -/
def State.usedPorts (s : State) : List Nat :=
  match s.net.mode with
  | 2 => [0]
  | 3 => [1]
  | _ => [0, 1]

/-- The module's MAC address at a port. -/
def State.mac (s : State) (p : Nat) : Nat := s.p64 Pid.idMac p

/-- A MAC address of the module itself. -/
def State.ownMac (s : State) (m : Nat) : Bool := m == s.mac 0 || m == s.mac 1

/-- A group address: multicast or broadcast. -/
def groupMac (m : Nat) : Bool := m.testBit 40

/-- The nearest-bridge address (R268), and the address of PAUSE frames beside it. -/
abbrev nearestBridge : Nat := 0x0180C200000E

/-- The PHY's minimum wake time for a link's speed, in 0.1 µs (R268). -/
def phyTw (speed : Nat) : Nat :=
  match speed with
  | 3 => 165
  | 2 => 300
  | _ => 0

/-- The resolved transmit wake time of a port in 0.1 µs (R268). -/
def State.resolvedTw (s : State) (p : Nat) : Nat :=
  let own := phyTw (s.linkSpeed p)
  match (s.port p).neighbour with
  | some n => if n.receiveTw = 0 then own else max own (min 10000 n.receiveTw)
  | none => own

/-- Show the wake times of a port (R268). -/
def State.showTw (s : State) (p : Nat) : State :=
  let s := s.setP Pid.netEeeTw p (if s.linkUp p then s.resolvedTw p else 0)
  s.setP Pid.netLldpPartnerTw p (match (s.port p).neighbour with
    | some n => min 65535 n.receiveTw
    | none => 0)

/-- Low-power idle of a port ends: its time is counted (R267). -/
def State.leaveLpi (s : State) (p : Nat) : State :=
  match (s.port p).lpiSince with
  | none => s
  | some a =>
    (s.setFlag Pid.netLink p 4 false).modifyPort p (fun k => { k with
      lpiSince := none, lpiTime := k.lpiTime + (s.now - a) })

/-! ### Statistics (R284) -/

/-- Kind of a frame in the statistics matrix (R284). -/
def State.frameKind (s : State) (f : Frame) : Nat :=
  match f.body with
  | .ptp m => if m.messageType ≤ 3 then 1 else 2
  | .lldp _ _ _ _ _ => 3
  | .supervision _ => 4
  | .arp _ _ _ _ => 5
  | .icmp _ _ _ _ => 6
  | .udp _ _ _ port _ _ => if port = s.p Pid.cmdUdpPort then 0 else 7
  | .ipOther => 8
  | .other => 9
  | .pause => 10
  | .ipBad => 11

/-- The kind of a frame the module sends or forwards: a bridle datagram comes from the bridle port or goes to it. -/
def State.sentKind (s : State) (f : Frame) : Nat :=
  match f.body with
  | .udp _ port _ dport _ _ => if port = s.p Pid.cmdUdpPort ∨ dport = s.p Pid.cmdUdpPort then 0 else 7
  | _ => s.frameKind f

/-- Count one measure of the matrix. -/
def State.netCount (s : State) (d k m p : Nat) : State := s.bump (0x4900 + 0x10 * (12 * d + k) + m) p

/-- The size class of a frame. -/
def sizeMeasure (n : Nat) : Nat :=
  if n ≤ 64 then 3 else if n ≤ 127 then 4 else if n ≤ 255 then 5 else if n ≤ 511 then 6
  else if n ≤ 1023 then 7 else 8

/-- A frame is dropped: counted by its kind, and a PTP message by its own too (R284, R308). -/
def State.countDrop (s : State) (d k p : Nat) (f : Frame) : State :=
  let s := s.netCount d k 9 p
  match f.body with
  | .ptp m => match ptpKind m.messageType with
    | some j => s.ptpCount d j 7 p
    | none => s
  | _ => s

/-- Count a whole frame. -/
def State.countFrame (s : State) (d k p : Nat) (f : Frame) : State :=
  let s := s.netCount d k 0 p
  let s := s.bump (0x4900 + 0x10 * (12 * d + k) + 1) p f.length
  let s := if f.vlan.isSome then s.netCount d k 2 p else s
  s.netCount d k (sizeMeasure f.length) p

/-! ### Transmit queues (R278) -/

/-- The frame belongs to the high queue: a PTP event message or a supervision frame. -/
def highQueue (f : Frame) : Bool :=
  match f.body with
  | .ptp m => decide (m.messageType ≤ 3)
  | .supervision _ => true
  | _ => false

/-- Octets that a normal queue holds. -/
def NetPort.normalOctets (k : NetPort) : Nat := sumN (k.normal.map (fun q => q.frame.length))

/-- A normal queue of 16 KiB has room for a frame. -/
def NetPort.fits (k : NetPort) (f : Frame) : Bool := decide (k.normalOctets + f.length ≤ 16384)

/-- Queue a frame on a port: dropped where its link is down, or where it is forwarded and finds the
normal queue full; a frame queued in low-power idle waits for the wake (R267, R278). -/
def State.enqueueFrame (s : State) (p : Nat) (q : QueuedFrame) : State :=
  let k := s.sentKind q.frame
  let d := if q.own then 1 else 2
  if !s.linkUp p ∨ s.portTested p then (s.bump Pid.netTxDrops p).countDrop d k p q.frame
  else if !(highQueue q.frame) ∧ !(s.port p).fits q.frame ∧ !q.own then
    (s.bump Pid.netFwdDrops p).countDrop d k p q.frame
  else
    let inLpi := (s.port p).lpiSince.isSome
    let tw := s.resolvedTw p
    let s := if inLpi then
        (s.leaveLpi p).modifyPort p (fun x => { x with wakeUntil := some (s.now + ofNs (tw * 100)) })
      else s
    let waits : Bool := match (s.port p).wakeUntil with
      | some u => decide (s.now < u)
      | none => false
    let s := if waits then s.netCount d k 11 p else s
    s.modifyPort p (fun x =>
      if highQueue q.frame then { x with high := x.high ++ [q] } else { x with normal := x.normal ++ [q] })

/-- The link of a port is lost: its queued frames are dropped and the loss is counted (R278, R281). -/
def State.linkLost (s : State) (p : Nat) : State :=
  if !s.linkUp p then s
  else
    let s := (s.leaveLpi p).endTests [34 + p, 36 + p] 6
    let s := ((s.port p).high ++ (s.port p).normal).foldl (fun s (q : QueuedFrame) =>
      (s.bump Pid.netTxDrops p).countDrop (if q.own then 1 else 2) (s.sentKind q.frame) p q.frame) s
    let s := s.modifyPort p (fun x => { x with high := [], normal := [], idleSince := s.now, wakeUntil := none, partnerEee := false })
    let s := (s.setP Pid.netLink p (if s.flagOf Pid.netLink p 5 then 32 else 0)).bump Pid.netLinkDowns p
    (s.showTw p).raise 0x21 p (s.p Pid.netLink p)

/-! ### Changing mode and address (R270, R279) -/

/-- No bridle reply waits in the uplink. -/
def State.repliesGone (s : State) : Bool :=
  let reply := fun (q : QueuedFrame) => q.own && s.sentKind q.frame == 0
  s.bridle.uplinkOut.isEmpty && !(s.net.originated.any (fun x => reply x.2)) &&
    [0, 1].all (fun p => !((s.port p).high ++ (s.port p).normal).any reply)

/-- The ports as the mode, the shed step and the power state have them from their start: a port that the mode leaves
unused is powered down, and so is all but one from shed step 4 on (R272, R279, R280, R449). -/
def State.placePorts (s : State) : State :=
  let used := s.usedPorts
  let shed := decide (4 ≤ s.shed)
  let want := s.p Pid.netShedPort
  let kept := if want ∈ used then want else used.headD 0
  let s := [0, 1].foldl (fun s p => s.modifyPort p (fun k => { k with
    phyOn := decide (p ∈ used) && (!shed || p == kept), only100 := shed || decide (2 ≤ s.p Pid.pwrState) })) s
  s.withNet (fun n => { n with reduced := shed, keptPort := kept, reduceStep := none })

/-- The ring mode changes (R279). -/
def State.applyRingMode (s : State) : State :=
  let m := s.p Pid.netRingMode
  let s := [0, 1].foldl (fun s p => s.modifyPort p (fun k => { k with high := [], normal := [], idleSince := s.now })) s
  let s := [0, 1].foldl (fun s p => ((s.linkLost p).setFlag Pid.netLink p 5 false).modifyPort p (fun k => { k with
    refusedAt := none })) s
  (s.withNet (fun n => { n with dups := [], nodes := [], mode := m, modeWaits := false })).placePorts.raise 0x21 0xFF m

/-- Begin the claim of a link-local address (R270): a random candidate, first probe within 1 s. -/
def State.beginClaim (s : State) : State :=
  let a := s.drawBelow 65024
  let d := a.2.drawBelow sec
  d.2.withNet (fun n => { n with probing := some (0xA9FE0100 + a.1, 0, s.now + d.1) })

/-- Mask and gateway come into force: those of net.ip_mask and net.ip_gateway beside an address of net.ip_addr, else
those of the link-local network 169.254/16, which has no gateway (R270, RFC 3927). -/
def State.applyMask (s : State) : State :=
  let fixed := s.p Pid.netIpAddr ≠ 0
  s.withNet (fun n => { n with
    mask := if fixed then s.p Pid.netIpMask else 0xFFFF0000, gateway := if fixed then s.p Pid.netIpGateway else 0 })

/-- The address in force follows net.ip_addr; at 0 a link-local address is claimed (R270). -/
def State.applyIp (s : State) : State :=
  let s := (s.withNet (fun n => { n with ipWaits := false, probing := none, defended := none })).applyMask
  if s.p Pid.netIpAddr ≠ 0 then s.setP Pid.netIpInUse 0 (s.p Pid.netIpAddr)
  else (s.setP Pid.netIpInUse 0 0).beginClaim

/-- Carry out what waited for a reply to leave (R270, R279). -/
def State.applyWaiting (s : State) : State :=
  let s := if s.net.modeWaits then s.applyRingMode else s
  if s.net.ipWaits then s.applyIp else s

/-- The same, once no reply waits in the uplink any more. -/
def State.afterReply (s : State) : State := if s.repliesGone then s.applyWaiting else s

/-- After a SET of the ring mode or of an address: its reply has been sent once a port or the relay holds it, and on the
uplink once it has left (assumption 103); `waited` tells that an earlier SET waits for its own reply. -/
def State.replySent (s : State) (tr : Transport) (waited : Bool) : State :=
  if tr = .uplink ∨ waited then s.afterReply else s.applyWaiting

/-! ### Link events (R266, R267) -/

/-- Low-power idle is wanted on a port: by net.eee_enable, and on both ports in Walk and Stand (R449). -/
def State.eeeWanted (s : State) (p : Nat) : Bool := s.pB Pid.netEeeEnable p || decide (3 ≤ s.p Pid.pwrState)

/-- A speed that the port may resolve to: what net.speed and the reductions of R280 and R449 allow. -/
def State.speedAllowed (s : State) (p speed : Nat) : Bool :=
  if (s.port p).only100 then speed == 2
  else match s.p Pid.netSpeed p with
    | 0 => decide (1 ≤ speed ∧ speed ≤ 3)
    | 1 => decide (1 ≤ speed ∧ speed ≤ 2)
    | 2 => speed == 2
    | _ => speed == 1

/-- The PHY of a port runs: D6 is on, the PHY is powered and the mode uses it. -/
def State.phyRuns (s : State) (p : Nat) : Bool :=
  decide (p ∈ s.usedPorts) && (s.port p).phyOn && s.domainOn 6

/-- LINK_UP (R266): negotiation ends; a link that resolves to half duplex is held down. -/
def execLinkUp (t : Nat) (port speed : Nat) (halfDuplex partnerEee : Bool) (s : State) :
    Host.Outcome State Fault Refusal :=
  s.run t (fun s =>
    if 2 ≤ port ∨ !s.phyRuns port ∨ s.linkUp port ∨ !s.speedAllowed port speed then s
    else if halfDuplex then
      (s.setFlag Pid.netLink port 5 true).modifyPort port (fun k => { k with refusedAt := some s.now })
    else
      let eee := s.eeeWanted port && partnerEee && decide (2 ≤ speed)
      let s := s.setP Pid.netLink port (1 + 2 * speed + 8 * flag eee)
      let s := s.modifyPort port (fun k => { k with
        refusedAt := none, idleSince := s.now, lpiSince := none, wakeUntil := none, partnerEee := partnerEee })
      let s := (s.showTw port).raise 0x21 port (s.p Pid.netLink port)
      if s.p Pid.netIpAddr = 0 ∧ s.p Pid.netIpInUse = 0 ∧ s.net.probing.isNone then s.beginClaim else s)

/-- LINK_DOWN (R266, R278). -/
def execLinkDown (t : Nat) (port : Nat) (s : State) : Host.Outcome State Fault Refusal :=
  s.run t (fun s => if 2 ≤ port then s else (s.linkLost port).afterReply)

/-- HALF_DUPLEX_RETRY (R266): 2 s after a refusal the negotiation starts again. -/
def execHalfDuplexRetry (t : Nat) (port : Nat) (s : State) : Host.Outcome State Fault Refusal :=
  s.run t (fun s =>
    match (s.port port).refusedAt with
    | some a =>
      if port < 2 ∧ s.passed a (2 * sec) then s.modifyPort port (fun k => { k with refusedAt := some s.now }) else s
    | none => s)

/-- LPI_ENTRY (R267). -/
def execLpiEntry (t : Nat) (port : Nat) (s : State) : Host.Outcome State Fault Refusal :=
  s.run t (fun s =>
    let k := s.port port
    if port < 2 ∧ s.linkUp port ∧ s.flagOf Pid.netLink port 3 ∧ k.lpiSince.isNone ∧ k.high.isEmpty ∧ k.normal.isEmpty ∧
        s.passed k.idleSince (s.p Pid.netEeeIdleUs * us) then
      (s.setFlag Pid.netLink port 4 true).modifyPort port (fun k => { k with lpiSince := some s.now, wakeUntil := none })
    else s)

/-- A write of net.eee_enable changes what a port advertises: EEE is no longer resolved where it is
withdrawn (R267). -/
def State.eeeWritten (s : State) (p : Nat) : State :=
  let on := s.eeeWanted p && (s.port p).partnerEee && s.linkUp p && decide (2 ≤ s.linkSpeed p)
  let s := if on then s else s.leaveLpi p
  s.setFlag Pid.netLink p 3 on

/-! ### LLDP (R268) -/

/-- The EEE TLV that a port sends (R268): the PHY minimum as transmit Tw, the partner's request granted up to
1,000 µs, and the partner's values echoed.  The receive Tw it asks for itself is the PHY minimum (DESIGN CHOICE,
assumption 102). -/
def State.eeeTlv (s : State) (port : Nat) : EeeTlv :=
  let own := phyTw (s.linkSpeed port)
  match (s.port port).neighbour with
  | some n => ⟨own, own, min 10000 n.receiveTw, n.transmitTw, n.receiveTw⟩
  | none => ⟨own, own, own, 0, 0⟩

/-- Octets of a zero-padded name. -/
def nameOctets (ws : List Nat) : Nat :=
  ((ws.flatMap (fun w => octetsOf (word w))).takeWhile (fun o => o != 0)).length

/-- Length of an LLDPDU's frame: the TLVs of chassis, port, time-to-live, name, EEE and end (R268, R269;
assumption 102). -/
def lldpLength (name : List Nat) : Nat := max 64 (14 + 9 + 9 + 4 + (2 + nameOctets name) + 16 + 2 + 4)

/-- LLDP_SEND (R268): an LLDPDU to the nearest-bridge address every interval, with a time-to-live of
four intervals, the module's identity and its wake times. -/
def execLldpSend (t : Nat) (port : Nat) (s : State) : Host.Outcome State Fault Refusal :=
  s.run t (fun s =>
    let interval := s.p Pid.netLldpIntervalS
    let due : Bool := match (s.port port).lldpSent with
      | some a => s.passed a (interval * sec)
      | none => true
    if 2 ≤ port ∨ !s.phyRuns port ∨ !due then s
    else
      let name := s.pRun Pid.sysName 0 8
      let f : Frame := ⟨nearestBridge, s.mac port, lldpLength name, true, none, none, none,
        .lldp (4 * interval) (s.mac 0) (s.mac port) (name.map word) (some (s.eeeTlv port))⟩
      (s.modifyPort port (fun k => { k with lldpSent := some s.now })).originate [port] f)

/-- LLDP_NEIGHBOUR_EXPIRY (R268): the PHY minimum applies again. -/
def execLldpNeighbourExpiry (t : Nat) (port : Nat) (s : State) : Host.Outcome State Fault Refusal :=
  s.run t (fun s =>
    match (s.port port).neighbour with
    | some n =>
      if n.expires ≤ s.now then (s.modifyPort port (fun k => { k with neighbour := none })).showTw port else s
    | none => s)

/-! ### Redundancy (R272 to R275) -/

/-- The sequence number by which the mode in force knows a frame's copies. -/
def State.copySeq (s : State) (f : Frame) : Option Nat :=
  match s.net.mode with
  | 0 => f.hsr
  | 1 => f.prp.map (fun x => x.1)
  | _ => none

/-- SUPERVISION_SEND (R274). -/
def execSupervisionSend (t : Nat) (s : State) : Host.Outcome State Fault Refusal :=
  s.run t (fun s =>
    let due : Bool := match s.net.lifeSent with
      | some a => s.passed a (s.p Pid.netLifeCheckMs * ms)
      | none => true
    if 2 ≤ s.net.mode ∨ !s.domainOn 6 ∨ !due then s
    else
      let f : Frame := ⟨0x01154E000100 + s.p Pid.netSupAddrLsb, s.mac 0, 64, true, none, none, none, .supervision (s.mac 0)⟩
      (s.withNet (fun n => { n with lifeSent := some s.now })).originate [0, 1] f)

/-- A node is heard (R274): a new source replaces the least recently heard of 512, whose registered
frames are forgotten with it (R275). -/
def State.hearNode (s : State) (source : Nat) : State :=
  let others := s.net.nodes.filter (fun n => n.1 != source)
  if others.length < 512 ∨ others.length ≠ s.net.nodes.length then
    s.withNet (fun n => { n with nodes := others ++ [(source, s.now)] })
  else
    let oldest := others.foldl (fun b n => if n.2 < b.2 then n else b) (others.headD (0, 0))
    let s := s.withNet (fun n => { n with
      nodes := (others.filter (fun x => x.1 != oldest.1)) ++ [(source, s.now)],
      dups := n.dups.filter (fun e => e.source != oldest.1) })
    s.bump Pid.netNodeEvictions

/-- NODE_FORGET (R274). -/
def execNodeForget (t : Nat) (source : Nat) (s : State) : Host.Outcome State Fault Refusal :=
  s.run t (fun s => s.withNet (fun n => { n with
    nodes := n.nodes.filter (fun x => !(x.1 == source && s.passed x.2 (s.p Pid.netNodeForgetS * sec))) }))

/-- DUPLICATE_ENTRY_FORGET (R275): a frame whose other copy never came counts against the port that
delivered it. -/
def execDuplicateEntryForget (t : Nat) (source seq : Nat) (s : State) : Host.Outcome State Fault Refusal :=
  s.run t (fun s =>
    match s.net.dups.find? (fun e => e.source == source && e.seq == seq && s.passed e.at_ (s.p Pid.netEntryForgetMs * ms)) with
    | none => s
    | some e =>
      let s := s.withNet (fun n => { n with dups := n.dups.erase e })
      if e.both then s else s.bump Pid.netSinglePath e.port)

/-! ### The network layer (R270, R271) -/

/-- Length of an IPv4 frame that carries `octets` of UDP or ICMP data, with its FCS. -/
def ipLength (octets : Nat) : Nat := max 64 (14 + 20 + 8 + octets + 4)

/-- The subnet broadcast address. -/
def State.subnetBroadcast (s : State) : Nat :=
  let m := s.net.mask
  (s.p Pid.netIpInUse &&& m) ||| (4294967295 - m)

/-- The address that ARP resolves for a destination: its own on the subnet, else the gateway's. -/
def State.nextHop (s : State) (ip : Nat) : Nat :=
  let m := s.net.mask
  if s.net.gateway = 0 ∨ (ip &&& m) = (s.p Pid.netIpInUse &&& m) then ip else s.net.gateway

/-- The MAC address cached for an IPv4 address. -/
def State.arpLook (s : State) (ip : Nat) : Option Nat := (s.net.arp.find? (fun e => e.1 == ip)).map (fun e => e.2)

/-- Learn an address: the cache holds 64, the oldest entry giving way (R270). -/
def State.arpLearn (s : State) (ip mac : Nat) : State :=
  if ip = 0 then s
  else s.withNet (fun n =>
    let others := n.arp.filter (fun e => e.1 != ip)
    { n with arp := (if others.length < 64 then others else others.tail) ++ [(ip, mac)] })

/-- An ARP frame of the module's own (R270): operation, sender and target addresses. -/
def State.arpFrame (s : State) (op senderIp targetIp dest : Nat) : Frame :=
  ⟨dest, s.mac 0, 64, true, none, none, none, .arp op senderIp (s.mac 0) targetIp⟩

/-- The broadcast MAC address. -/
abbrev broadcastMac : Nat := 0xFFFFFFFFFFFF

/-- Originate a UDP datagram, or an ARP request where its next hop is not cached; the second part says
whether it went out. -/
def State.sendUdp (s : State) (ip port source : Nat) (ws : List Word) : State × Bool :=
  let hop := s.nextHop ip
  match s.arpLook hop with
  | some m =>
    (s.originate [0, 1] ⟨m, s.mac 0, ipLength (4 * ws.length), true, none, none, none,
      .udp (s.p Pid.netIpInUse) source ip port ws 0⟩, true)
  | none => (s.originate [0, 1] (s.arpFrame 1 (s.p Pid.netIpInUse) hop broadcastMac), false)

/-- An ARP packet from another station (R270): requests for the address in force are answered, a
conflicting claim is defended once in 10 s and otherwise given up (RFC 3927). -/
def State.onArp (s : State) (op senderIp senderMac targetIp : Nat) : State :=
  let own := s.p Pid.netIpInUse
  let foreign := !s.ownMac senderMac
  match s.net.probing with
  | some (cand, sent, _) =>
    if sent < 4 ∧ foreign ∧ (senderIp = cand ∨ (senderIp = 0 ∧ targetIp = cand)) then s.beginClaim
    else s.arpLearn senderIp senderMac
  | none =>
    if foreign ∧ own ≠ 0 ∧ senderIp = own ∧ s.p Pid.netIpAddr = 0 then
      let again : Bool := match s.net.defended with
        | some a => !s.passed a (10 * sec)
        | none => false
      if again then (s.setP Pid.netIpInUse 0 0).beginClaim
      else (s.withNet (fun n => { n with defended := some s.now })).originate [0, 1] (s.arpFrame 1 own own broadcastMac)
    else
      let s := s.arpLearn senderIp senderMac
      if op = 1 ∧ targetIp = own ∧ own ≠ 0 then s.originate [0, 1] (s.arpFrame 2 own senderIp senderMac) else s

/-- LINK_LOCAL_PROBE (R270): three probes 1 to 2 s apart, then after 2 s the address is taken into use
with two announcements 2 s apart (RFC 3927). -/
def execLinkLocalProbe (t : Nat) (s : State) : Host.Outcome State Fault Refusal :=
  s.run t (fun s =>
    match s.net.probing with
    | none => s
    | some (cand, sent, due) =>
      if s.now < due ∨ s.p Pid.netIpAddr ≠ 0 then s
      else if sent < 3 then
        let d := s.drawBelow sec
        let wait := if sent = 2 then 2 * sec else sec + d.1
        (d.2.withNet (fun n => { n with probing := some (cand, sent + 1, s.now + wait) })).originate [0, 1]
          (s.arpFrame 1 0 cand broadcastMac)
      else
        let s := s.setP Pid.netIpInUse 0 cand
        (s.withNet (fun n => { n with probing := if sent = 3 then some (cand, 4, s.now + 2 * sec) else none })).originate [0, 1]
          (s.arpFrame 1 cand cand broadcastMac))

/-! ### Witness messages (R433) -/

/-- A witness message or ring heartbeat of this module (R433): type, word 2, serial, word 5. -/
def State.witnessWords (s : State) (type_ low serial w5 : Nat) : List Word :=
  let ws := [word (0x57540000 + type_), word (s.p Pid.sysSiteId), pair (s.p Pid.sysSegmentId) low,
    word (serial / 2 ^ 32), word serial, word w5]
  ws ++ [crc32 ws]

/-- The module's own serial number. -/
def State.serial (s : State) : Nat := s.p64 Pid.idSerial 0

/-- Keep a claim: up to two distinct serials per segment, for 16 segments, each for 1 s (R433). -/
def State.keepClaim (s : State) (segment serial w : Nat) : State :=
  let live := (s.tandem.claims.map (fun (r : ClaimRow) => { r with claims := r.claims.filter (fun c => s.now < c.2.2) })).filter
    (fun r => !r.claims.isEmpty)
  let row := ((live.find? (fun r => r.segment == segment)).map (fun r => r.claims)).getD []
  let others := row.filter (fun c => c.1 != serial)
  let row' := if others.length < 2 then others ++ [(serial, w, s.now + sec)] else others
  let rest := live.filter (fun r => r.segment != segment)
  s.withTandem (fun k => { k with claims := if rest.length < 16 then rest ++ [⟨segment, row'⟩] else rest })

/-- The live claim of another serial of the segment. -/
def State.otherClaim (s : State) (segment serial : Nat) : Option (Nat × Nat) :=
  ((s.tandem.claims.find? (fun r => r.segment == segment)).bind (fun r =>
    r.claims.find? (fun c => c.1 != serial && decide (s.now < c.2.2)))).map (fun c => (c.1, c.2.1))

/-- A frame of the partner arrived during a contest (R432). -/
def State.heardPartner (s : State) : State :=
  s.withTandem (fun k => { k with contest := k.contest.map (fun (c : Contest) => { c with heard := true }) })

/-- A witness request, a witness answer or a ring heartbeat arrives (R430, R432, R433). -/
def State.witnessReceive (s : State) (ip port : Nat) (ws : List Word) : State :=
  let w0 := nth ws 0
  let serial := (nth ws 3).toNat * 2 ^ 32 + (nth ws 4).toNat
  let segment := bits (nth ws 2) 31 16
  let low := bits (nth ws 2) 15 0
  let partner := s.p64 Pid.tdmPartnerSerial 0
  if ws.length ≠ 7 ∨ bits w0 31 16 ≠ 0x5754 ∨ crc32 (ws.take 6) ≠ nth ws 6 ∨ (nth ws 1).toNat ≠ s.p Pid.sysSiteId then s
  else
    let octets := 4 * ws.length
    match bits w0 15 0 with
    | 1 =>
      let s := (s.tdmCount 10 1).tdmCount 10 3 octets
      let s := if serial = partner ∧ partner ≠ 0 then s.heardPartner else s
      let s := s.keepClaim segment serial low
      let other := s.otherClaim segment serial
      let answer := [word 0x57540002, nth ws 1, pair segment ((other.map (fun o => o.2)).getD 0xFFFF),
        word (((other.map (fun o => o.1)).getD 0) / 2 ^ 32), word ((other.map (fun o => o.1)).getD 0), nth ws 5]
      let r := s.sendUdp ip port (s.p Pid.tdmWitnessPort) (answer ++ [crc32 answer])
      if r.2 then (r.1.tdmCount 11 0).tdmCount 11 2 octets else r.1
    | 2 =>
      let s := (s.tdmCount 11 1).tdmCount 11 3 octets
      match s.tandem.contest with
      | none => s
      | some c =>
        if (nth ws 5).toNat ≠ c.sequence ∨ segment ≠ s.p Pid.sysSegmentId ∨
            !((s.pRun Pid.tdmWitnessAddr 0 8).filter (fun a => a ≠ 0)).contains ip then s
        else s.withTandem (fun k => { k with contest := some { c with
          answered := if c.answered.contains ip then c.answered else c.answered ++ [ip],
          partnerW := if low = 0xFFFF then c.partnerW else some low } })
    | 3 =>
      if serial ≠ partner ∨ partner = 0 ∨ segment ≠ s.p Pid.sysSegmentId then s
      else
        let s := (s.tdmCount 9 1).tdmCount 9 3 octets
        let s := (s.heardPartner).withTandem (fun k => { k with ringHeard := some s.now, ringLost := false })
        -- a lead alone whose partner shows itself on the ring is detached (R431)
        let s := if s.p Pid.tdmState = 1 ∧ s.tandem.linkLost then s.setP Pid.tdmState 0 4 else s
        s.setFlag Pid.tdmStatus 0 3 true
    | _ => s

/-! ### Delivery -/

/-- A datagram for the bridle port (R271): a unicast one is one packet; a broadcast one is accepted
only as a PING with session identifier 0 that passes every check. -/
def State.bridleDatagram (s : State) (port source sourcePort dest : Nat) (ws : List Word) (extra : Nat) : State :=
  let queued := ws.zipIdx.map (fun w => Machine.queued w.1 (w.2 + 1 == ws.length) false)
  let own := s.p Pid.netIpInUse
  let place := fun (b : Bool) (s : State) =>
    { s with bridle := { s.bridle with uplinkIn := s.bridle.uplinkIn ++ [⟨.uplink source sourcePort, queued, extra != 0, b⟩] } }
  if dest = own ∧ own ≠ 0 then place false s
  else
    let p : Packet := ⟨.uplink source sourcePort, queued, extra != 0, true⟩
    let h := headerOf ws
    let good : Bool := match s.verdict p with
      | .accept none _ => h.opcode == 0x04 && decide (h.length ≤ 16)
      | _ => false
    if (dest = 0xFFFFFFFF ∨ dest = s.subnetBroadcast) ∧ good then place true s
    else s.netCount 0 0 9 port

/-- The service core or the PTP engine takes a stored frame (R268, R270, R271, R288). -/
def State.deliver (s : State) (port : Nat) (h : HeldFrame) : State :=
  let own := s.p Pid.netIpInUse
  match h.frame.body with
  | .ptp m => s.ptpReceive port (h.sfd - s.tickBase) m
  | .supervision _ => s
  | .lldp ttl chassis portId name eee =>
    let tw := eee.getD ⟨0, 0, 0, 0, 0⟩
    (s.modifyPort port (fun k => { k with
      neighbour := if ttl = 0 then none
        else some ⟨s.now + ttl * sec, chassis, portId, name, tw.transmit, tw.receive⟩ })).showTw port
  | .arp op senderIp senderMac targetIp => s.onArp op senderIp senderMac targetIp
  | .icmp op source dest octets =>
    if op ≠ 8 ∨ dest ≠ own ∨ own = 0 then s.bump Pid.netIpDiscards
    else
      let recent := s.net.echoes.filter (fun a => !s.passed a sec)
      if 10 ≤ recent.length then s.netCount 0 6 9 port
      else
        let s := s.withNet (fun n => { n with echoes := recent ++ [s.now] })
        s.originate [0, 1] ⟨h.frame.source, s.mac 0, ipLength octets.length, true, none, none, none, .icmp 0 own source octets⟩
  | .udp source sourcePort dest destPort ws extra =>
    if destPort = s.p Pid.cmdUdpPort then
      (s.arpLearn (s.nextHop source) h.frame.source).bridleDatagram port source sourcePort dest ws extra
    else if destPort = s.p Pid.tdmWitnessPort ∧ dest = own ∧ own ≠ 0 ∧ extra = 0 then
      (s.arpLearn (s.nextHop source) h.frame.source).witnessReceive source sourcePort ws
    else s.bump Pid.netIpDiscards
  | .ipOther => s.bump Pid.netIpDiscards
  | .ipBad => s.bump Pid.netIpDiscards
  | .pause => s
  | .other => s.bump Pid.netIpDiscards

/-- A PTP message: the PTP engine in D6 takes it whether D5 runs or not (R7). -/
def HeldFrame.forPtp (h : HeldFrame) : Bool :=
  match h.frame.body with
  | .ptp _ => true
  | _ => false

/-- Take a ring's frames that satisfy `f`; their descriptors go back to the ring (R277). -/
def RxRing.take (r : RxRing) (f : HeldFrame → Bool) : List HeldFrame × RxRing :=
  let gone := r.held.filter f
  (gone, ⟨r.free ++ gone.flatMap (fun h => h.descriptors), r.held.filter (fun h => !f h)⟩)

/-- Insert a frame in order of arrival. -/
def insertHeld (x : Nat × HeldFrame) : List (Nat × HeldFrame) → List (Nat × HeldFrame)
  | [] => [x]
  | y :: rest => if x.2.sfd < y.2.sfd then x :: y :: rest else y :: insertHeld x rest

/-- Take the stored frames that can be taken now, in order of arrival. -/
def State.takeFrames (s : State) : State :=
  let can := fun (h : HeldFrame) => s.awake || h.forPtp
  let taken := s.net.rings.map (fun r => r.take can)
  let frames := (taken.zipIdx.flatMap (fun x => x.1.1.map (fun h => (x.2 / 2, h)))).foldl
    (fun l x => insertHeld x l) []
  frames.foldl (fun s x => s.deliver x.1 x.2) (s.withNet (fun n => { n with rings := taken.map (fun x => x.2) }))

/-! ### Reception (R274, R276, R277) -/

/-- The frame asks for the bridle port of this module. -/
def State.bridleFrame (s : State) (f : Frame) : Bool :=
  match f.body with
  | .udp _ _ _ port _ _ => port == s.p Pid.cmdUdpPort
  | _ => false

/-- Forward a frame that is not addressed to this module alone to the other port (R274). -/
def State.forward (s : State) (port sfd : Nat) (f : Frame) : State :=
  let peer : Bool := match f.body with
    | .ptp m => m.messageType == 2 || m.messageType == 3 || m.messageType == 10
    | .pause => true
    | _ => false
  if s.net.mode = 0 ∧ !s.ownMac f.dest ∧ f.dest ≠ nearestBridge ∧ !peer then
    s.enqueueFrame (1 - port) ⟨f, false, some (sfd, port), none⟩
  else s

/-- The outcome of a received frame whose header came at `sfd` (R276); `overflow` says that an octet found the FIFO
full. -/
def State.receiveFrame (s : State) (port sfd : Nat) (f : Frame) (overflow : Bool) : State :=
    if s.portTested port then s else
    let k := s.frameKind f
    let forMe := s.ownMac f.dest || groupMac f.dest
    let vidGood : Bool := match f.vlan with
      | some v => v.1 == s.p Pid.netVlanId
      | none => true
    let stored := forMe && vidGood && f.body != .pause
    let ri := 2 * port + (if highQueue f then 0 else 1)
    let ring := s.net.rings.getD ri (.full 0)
    let need := divUp (f.length - 4) 256
    let own := s.net.mode == 0 && s.ownMac f.source
    let seq := s.copySeq f
    let entry := seq.bind (fun q => s.net.dups.find? (fun e => e.source == f.source && e.seq == q &&
      !s.passed e.at_ (s.p Pid.netEntryForgetMs * ms)))
    let atHeader : Bool := match entry with
      | some e => decide (e.at_ ≤ sfd)
      | none => false
    if 2 ≤ port ∨ !s.phyRuns port ∨ !s.linkUp port then s
    else
      let s := if s.net.mode = 1 ∧ f.prp.any (fun x => x.2 != port) then s.bump Pid.netRxWrongLan port else s
      if f.length < 64 then s.bump Pid.netRxRunts port
      else if 1536 < f.length then s.bump Pid.netRxOversize port
      else if !f.fcsGood then s.bump Pid.netRxFcs port
      else if overflow then (s.bump Pid.netRxOverflow port).countDrop 0 k port f
      else if stored ∧ !own ∧ !atHeader ∧ ring.free.length < need then
        (s.bump Pid.netRxBufferDrops port).countDrop 0 k port f
      else if own then s.bump Pid.netRxOwnRemoved port
      else match entry with
        | some e =>
          let s := if s.net.mode ≤ 1 then s.hearNode f.source else s
          let s := (s.bump Pid.netRxDupDiscards port).netCount 0 k 10 port
          s.withNet (fun n => { n with dups := n.dups.map (fun (x : DupEntry) => if x = e then { x with both := true } else x) })
        | none =>
          let s : State := match seq with
            | some q => s.withNet (fun n => { n with dups := n.dups ++ [DupEntry.mk f.source q s.now port false] })
            | none => s
          let s := if s.net.mode ≤ 1 then s.hearNode f.source else s
          let s := s.forward port sfd f
          let s :=
            if !forMe then s
            else if !vidGood then s.netCount 0 9 9 port
            else if f.body = .pause then (s.countFrame 0 10 port f).netCount 0 10 9 port
            else
              let s := s.countFrame 0 k port f
              let ring := s.net.rings.getD ri (.full 0)
              s.withNet (fun n => { n with
                rings := n.rings.set ri (RxRing.mk (ring.free.drop need) (ring.held ++ [HeldFrame.mk f sfd (ring.free.take need)])) })
          if s.power.asleep ∧ stored ∧ s.bridleFrame f then s.raiseWake 5 else s

/-- FRAME_RECEIVE (R276, R277): the frame ends in exactly one outcome; unless it is `busy`, the service core then takes
what the rings hold. -/
def execFrameReceive (t : Nat) (port sfd : Nat) (f : Frame) (overflow busy : Bool) (s : State) :
    Host.Outcome State Fault Refusal :=
  s.run t (fun s =>
    let s := s.receiveFrame port sfd f overflow
    if busy then s else s.takeFrames)

/-- DISCOVERY_REPLY (R271): a broadcast PING is answered by unicast once its delay is over. -/
def execDiscoveryReply (t : Nat) (s : State) : Host.Outcome State Fault Refusal :=
  s.run t (fun s =>
    match s.bridle.discovery.find? (fun d => decide (d.1 ≤ s.now)) with
    | none => s
    | some d =>
      { s with bridle := { s.bridle with
          discovery := s.bridle.discovery.erase d, uplinkOut := s.bridle.uplinkOut ++ [(d.2.1, d.2.2)] } })

/-! ### Originated frames (R269, R272, R278) -/

/-- The frame as it leaves a port: tagged with the VLAN, and with the HSR tag or PRP trailer where it
goes out on both ports. -/
def State.dress (s : State) (port : Nat) (both : Bool) (q : QueuedFrame) : QueuedFrame :=
  let f := q.frame
  let v := s.p Pid.netVlanId
  let f := if v = 0 then f else { f with vlan := some (v, s.p Pid.netVlanPcp), length := f.length + 4 }
  let f :=
    if !both then f
    else if s.net.mode = 0 then { f with hsr := some s.net.sequence, length := f.length + 6 }
    else if s.net.mode = 1 then { f with prp := some (s.net.sequence, port), length := f.length + 6 }
    else f
  { q with frame := f }

/-- Queue an originated frame on its ports, if every one of them whose link is up has room (R278). -/
def State.placeOwn (s : State) (ports : List Nat) (q : QueuedFrame) : Option State :=
  let ports := ports.filter (fun p => p ∈ s.usedPorts)
  let both := decide (2 ≤ ports.length)
  let dressed := ports.map (fun p => (p, s.dress p both q))
  if dressed.all (fun x => highQueue x.2.frame || !s.linkUp x.1 || (s.port x.1).fits x.2.frame) then
    let s := dressed.foldl (fun s x => s.enqueueFrame x.1 x.2) s
    some (if both then s.withNet (fun n => { n with sequence := (n.sequence + 1) % 65536 }) else s)
  else none

/-- The next frame of the module's own, or the next bridle reply of the uplink, is queued if there is room. -/
def State.queueOriginated (s : State) : State :=
    if !s.domainOn 6 then s
    else match s.net.originated with
      | (ports, q) :: rest =>
        match s.placeOwn ports q with
        | some s' => s'.withNet (fun n => { n with originated := rest })
        | none => s
      | [] =>
        match s.bridle.uplinkOut with
        | [] => s
        | (src, ws) :: rest =>
          match src with
          | .uplink ip port =>
            let r := s.sendUdp ip port (s.p Pid.cmdUdpPort) ws
            let s' := { r.1 with bridle := { r.1.bridle with uplinkOut := if r.2 then rest else rest ++ [(src, ws)] } }
            match s'.net.originated with
            | (ports, q) :: more =>
              match s'.placeOwn ports q with
              | some s'' => s''.withNet (fun n => { n with originated := more })
              | none => s'
            | [] => s'
          | _ => { s with bridle := { s.bridle with uplinkOut := rest } }

/-- ORIGINATED_FRAME_QUEUE (R278). -/
def execOriginatedFrameQueue (t : Nat) (s : State) : Host.Outcome State Fault Refusal :=
  s.run t (fun s => s.queueOriginated.afterReply)

/-! ### Transmission (R278) -/

/-- A PTP message leaves: what the statistics of R308 count of it. -/
def State.ptpSent (s : State) (d port : Nat) (f : Frame) (corrected : Bool) : State :=
  match f.body with
  | .ptp m =>
    match ptpKind m.messageType with
    | some k =>
      let s := (s.ptpCount d k 0 port).ptpCount d k (match s.slotOf m with
        | some slot => 1 + slot
        | none => 3) port
      let s := s.ptpCount d k (if m.twoStep then 5 else 4) port
      if corrected then s.ptpCount d k 9 port else s
    | none => s
  | _ => s

/-- FRAME_TRANSMIT (R278): a port sends the next frame, the high queue first; a forwarded PTP event
message gets its residence (R294), an own one awaits its egress stamp (R295). -/
def execFrameTransmit (t : Nat) (port : Nat) (s : State) : Host.Outcome State Fault Refusal :=
  s.run t (fun s =>
    let k := s.port port
    let waits : Bool := match k.wakeUntil with
      | some u => decide (s.now < u)
      | none => false
    let next := if s.portTested port then none else match k.high with
      | q :: r => some (q, r, k.normal)
      | [] => match k.normal with
        | q :: r => some (q, [], r)
        | [] => none
    match next with
    | none => s
    | some (q, hi, lo) =>
      if 2 ≤ port ∨ !s.linkUp port ∨ waits then s
      else
        let residence := fun (ingress : Nat) =>
          let steps : Int := ((s.now - ingress : Nat) : Int) * 81920
          let sel := s.p Pid.timeSelected
          let rate := if sel < 2 then (s.ptpSlot sel).model.rate else s.time.clock.rate
          steps + Int.tdiv (steps * rate) 1099511627776
        let r : Frame × Nat := match q.frame.body, q.ingress with
          | .ptp m, some (i, from_) =>
            if s.pB Pid.timeTcEnable ∧ m.messageType ≤ 3 then
              let res := residence i
              let peer : Bool := m.messageType == 0 && (match s.slotOf m with
                | some d => s.p Pid.timeDomDelayMech d == 1
                | none => false)
              let extra : Int := if peer then (s.p Pid.timePdelayNs from_ : Int) * 65536 else 0
              ({ q.frame with body := .ptp { m with correction := m.correction + res + extra } }, (Int.fdiv res 65536).toNat)
            else (q.frame, 0)
          | _, _ => (q.frame, 0)
        let s := s.raiseTo Pid.timeTcResMaxNs 0 (satU32 r.2)
        let s := s.countFrame (if q.own then 1 else 2) (s.sentKind q.frame) port r.1
        let s := s.ptpSent (if q.own then 1 else 2) port r.1 (r.1 != q.frame)
        let s := s.modifyPort port (fun x => { x with high := hi, normal := lo, wakeUntil := none, idleSince := s.now })
        let s := match q.stampSlot, q.frame.body with
          | some d, .ptp m =>
            s.withTime (fun k => { k with awaiting := k.awaiting ++ [StampEntry.mk port d m.messageType m.sequence s.countSteps] })
          | _, _ => s
        (s.withNet (fun n => { n with sent := [(port, r.1)] })).afterReply)

/-! ### Fewer ports and lower speed (R280, R449) -/

/-- A port renegotiates: its link drops, but not while a test runs on it (R474). -/
def State.renegotiate (s : State) (p : Nat) (only100 : Bool) : State :=
  (if s.portTested p then s else s.linkLost p).modifyPort p (fun k => { k with only100 := only100 })

/-- Step 1 of R280: the kept port renegotiates for 100BASE-TX only; in a single-port mode that is all there is (R466).
An entry that comes while a restore goes on keeps the port that still carries traffic at 100 Mbit/s. -/
def State.reduceUplink (s : State) : State :=
  let restoring : Bool := match s.net.reduceStep with
    | some (3, _) => true
    | _ => false
  if s.net.reduced ∧ !restoring then s
  else if 2 ≤ s.net.mode then
    let p := s.usedPorts.headD 0
    (s.withNet (fun n => { n with reduced := true, keptPort := p, reduceStep := none })).renegotiate p true
  else
    let want := s.p Pid.netShedPort
    let kept := if s.linkUp want then want else 1 - want
    let still := s.net.reduced && kept == s.net.keptPort
    let s := s.withNet (fun n => { n with reduced := true, keptPort := kept, reduceStep := some (1, s.now) })
    if still then s else s.renegotiate kept true

/-- Step 3 of R280: the other port powers up again; `slow` keeps it at 100BASE-TX (R449).  In a single-port mode the
one port renegotiates. -/
def State.restoreUplink (s : State) (slow : Bool) : State :=
  if !s.net.reduced then s
  else if 2 ≤ s.net.mode then (s.withNet (fun n => { n with reduced := false, reduceStep := none })).renegotiate s.net.keptPort slow
  else
    let other := 1 - s.net.keptPort
    (s.modifyPort other (fun k => { k with phyOn := true, only100 := slow })).withNet (fun n => { n with reduceStep := some (3, s.now) })

/-- The ports move one at a time to 100BASE-TX or back (R449). -/
def State.portsTo (s : State) (slow : Bool) : State :=
  let first := (s.usedPorts.headD 0)
  if (s.port first).only100 = slow ∧ s.net.reduceStep.isNone then s
  else if s.net.reduced then s
  else (s.renegotiate first slow).withNet (fun n => { n with reduceStep := some (if slow then 5 else 7, s.now) })

/-- REDUCED_UPLINK_STEP (R280): the next step comes when the port that renegotiated is up, or after 5 s. -/
def execReducedUplinkStep (t : Nat) (s : State) : Host.Outcome State Fault Refusal :=
  s.run t (fun s =>
    match s.net.reduceStep with
    | none => s
    | some (k, a) =>
      let late := s.passed a (5 * sec)
      let kept := s.net.keptPort
      let other := 1 - kept
      let first := s.usedPorts.headD 0
      let after := fun (s : State) (n : Option Nat) => s.withNet (fun x => { x with reduceStep := n.map (fun m => (m, s.now)) })
      match k with
      | 1 =>
        if s.linkUp kept ∨ late then
          after ((s.linkLost other).modifyPort other (fun x => { x with phyOn := false })) none
        else s
      | 3 =>
        if s.linkUp other ∨ late then
          let slow := (s.port other).only100
          after ((s.renegotiate kept slow).withNet (fun n => { n with reduced := false })) none
        else s
      | 5 =>
        if s.linkUp first ∨ late then
          after (if 2 ≤ s.usedPorts.length then s.renegotiate 1 true else s) none
        else s
      | 7 =>
        if s.linkUp first ∨ late then
          after (if 2 ≤ s.usedPorts.length then s.renegotiate 1 false else s) none
        else s
      | _ => after s none)

/-- The uplink after a cold restart or a power-on of D6 (R281): both links are down, tables, queues and
counters clear. -/
def State.netRestart (s : State) : State :=
  let m := s.p Pid.netRingMode
  let fresh := NetState.reset
  let ports := (fresh.ports.set 0 { NetPort.fresh with idleSince := s.now }).set 1 { NetPort.fresh with idleSince := s.now }
  let s := ({ s with net := { fresh with mode := m, ports := ports } }).placePorts.applyMask
  let s := [0, 1].foldl (fun s p => ((s.setP Pid.netLink p 0).setP Pid.netEeeTw p 0).setP Pid.netLldpPartnerTw p 0) s
  s.setP Pid.netIpInUse 0 (s.p Pid.netIpAddr)

end Sys2Proof.Machine
end

