-- ==== Sys2Proof/Machine/Drive.lean ====
section
/-! DEFINITION.  The drive engine (R34 to R58): bank period starts, lane pulses and the split, amplitude
epochs, the emergency override and ride-through. -/

namespace Sys2Proof.Machine

open Sys2Proof

/-! ### Diagnosis accessors used by the engine -/

def State.cg (s : State) (c : Nat) : ChannelDiag := s.diag.channels.get c

def State.modCg (s : State) (c : Nat) (f : ChannelDiag → ChannelDiag) : State :=
  { s with diag := { s.diag with channels := s.diag.channels.modify c f } }

/-- A channel of the sense unit. -/
def State.cs (s : State) (c : Nat) : ChannelSense := s.sense.channels.get c

def State.modCs (s : State) (c : Nat) (f : ChannelSense → ChannelSense) : State :=
  { s with sense := { s.sense with channels := s.sense.channels.modify c f } }

def State.modBs (s : State) (b : Nat) (f : BankSense → BankSense) : State :=
  { s with sense := { s.sense with banks := s.sense.banks.modify b f } }

/-- A bank of the sense unit. -/
def State.bs (s : State) (b : Nat) : BankSense := s.sense.banks.get b

/-- A bank of the harness. -/
def State.bh (s : State) (b : Nat) : BankHarness := s.harness.banks.get b

def State.modBh (s : State) (b : Nat) (f : BankHarness → BankHarness) : State :=
  { s with harness := { s.harness with banks := s.harness.banks.modify b f } }

/-! ### Pauses of the proving windows (R97) -/

/-- What holds a channel pauses its proving window (R97). -/
def State.windowPaused (s : State) (ch : Nat) : Bool :=
  let b := ch / 32
  if s.rung1 b then !(s.p Pid.drvEmltMask b).testBit (ch % 32) else (s.bd b).riding || (s.bd b).test

/-- A channel's window timer pauses or resumes with its elapsed time (R97). -/
def State.pauseWindow (s : State) (ch : Nat) : State :=
  match s.windowPaused ch, (s.cg ch).pausedAt with
  | true, none => s.modCg ch (fun g => { g with pausedAt := some s.now })
  | false, some a => s.modCg ch (fun g => { g with
      windowFrom := g.windowFrom + (s.now - a), agedFrom := g.agedFrom.map (fun x => x + (s.now - a)), pausedAt := none })
  | _, _ => s

/-- The windows of a bank pause or resume. -/
def State.pauseWindows (s : State) (b : Nat) : State := (bankChannels b).foldl State.pauseWindow s

/-! ### Period marks (R37, R139) -/

/-- A transaction is in progress on a bank, a test transaction among them (R125, R470). -/
def State.inTransaction (s : State) (b : Nat) : Bool := decide (s.now < max (s.bh b).busyUntil (s.bh b).testUntil)

/-- Send a period mark, unless a transaction is in progress or the bank's bus is off (R139, R150). -/
def State.mark_ (s : State) (b at_ : Nat) : State :=
  if s.inTransaction b ∨ !s.pB Pid.harnessEnable b then s
  else s.modBd b (fun d => { d with marks := d.marks + 1, markAt := some at_ })

/-- The drive domain of a bank is on (R16). -/
def State.bankPowered (s : State) (b : Nat) : Bool := s.domainOn (if b < 8 then 2 else 3)

/-! ### Period starts (R24, R35, R37, R54, R55) -/

/-- The duty, in units of 1/65,535, of an on-time in ticks.  The spec states no rounding between the two: half up,
here and in `ticksOf` (DESIGN CHOICE, assumption 84; R55, R127). -/
def dutyOf (ticks n : Nat) : Nat := min 65535 (divRound (ticks * 65535) n)

/-- The on-time in ticks of a duty in units of 1/65,535 (R55), rounded half up (assumption 84). -/
def ticksOf (duty n : Nat) : Nat := min n (divRound (duty * n) 65535)

/-- Rung 2 takes or leaves a bank at its period start (R29, R55); on release each team resumes from its
ride-through light, with the amplitude that light stands for in force (R508). -/
def State.rideAt (s : State) (b : Nat) : State :=
  let want := decide (5 ≤ s.shed)
  let n := (s.bd b).period
  if want = (s.bd b).riding then s
  else if want then
    let s := s.modBd b (fun d => { d with riding := true })
    (bankChannels b).foldl (fun s c =>
      let ticks := if s.p Pid.drvRideMode b = 1 then ticksOf (s.p Pid.drvRideDuty c) n else (s.cd c).onNow
      (s.modCd c (fun d => { d with rideTicks := ticks })).modCg c (fun g => { g with grant := none })) s
  else
    let s := s.modBd b (fun d => { d with riding := false })
    let light := fun (s : State) (c : Nat) => s.startFraction c (s.cd c).setpoint (dutyOf (s.cd c).rideTicks n)
    let s := (s.bankTeams b).foldl (fun s t => s.resumeTeam t (fun c => (light s c).1)) s
    (bankChannels b).foldl (fun s c => s.setP Pid.drvOutAmp c (light s c).2) s

/-- A team of another size begins: it starts from λ = 0 in its initial colour, with no sensor word, and its shown
colour status begins anew, frozen where shed step 2 holds (R50, R115, R122). -/
def State.formTeam (s : State) (t n : Nat) : State :=
  let was := s.td t
  let s := s.modTd t (fun _ => { TeamDrive.fresh with
    size := n, method := was.methodNext, methodNext := was.methodNext, newSize := was.newSize
    program := was.program, override_ := was.override_, waiting := was.waiting })
  let s := s.modTc t (fun k => { TeamColour.fresh with yNext := k.yNext, yDirty := k.yDirty, tempAt := s.now })
  let s := s.setP Pid.colourStatus t (if 0 < n ∧ 2 ≤ s.shed then 64 else 0)
  { s with diag := { s.diag with teams := s.diag.teams.set t { TeamDiag.fresh with since := s.now } } }

/-- A changed team definition takes effect (R50, R82, R120). -/
def State.redefine (s : State) (b : Nat) : State :=
  let changed := (bankChannels b).filter (fun t => match (s.td t).commitSize with
    | some n => n != (s.td t).size
    | none => false)
  let s := changed.foldl (fun s t => s.formTeam t (((s.td t).commitSize).getD 0)) s
  let s := (bankChannels b).foldl (fun s t => s.modTd t (fun d => { d with commitSize := none })) s
  if changed.isEmpty then s
  else
    (bankChannels b).foldl (fun s c =>
      match s.teamAt c with
      | none =>
        let s := ((s.setP Pid.diagState c 0xFF).setP Pid.drvOutFrac c 0).setP Pid.drvOutAmp c 0
        (s.modCd c (fun d => { ChannelDrive.fresh with lastStart := d.lastStart, pulseFrom := d.pulseFrom, pulseTo := d.pulseTo })).modCg c
          (fun _ => ChannelDiag.fresh)
      | some t =>
        if changed.contains t then
          let s := if s.p Pid.diagState c = 0xFF then s.setP Pid.diagState c 0 else s
          let s := (s.setP Pid.colourTrim c 32768).modCc c (fun k => { k with
            trim := 32768, trimNext := 32768, latched := k.theta.getD k.latched, latchedNext := k.theta.getD k.latchedNext })
          (s.modCg c (fun _ => { ChannelDiag.fresh with windowFrom := s.now })).modCd c (fun d => { d with
            glide := none, res := 0, gather := 0, mode := s.p Pid.drvDimMode t })
        else s) s

/-- A team takes what the commit carried for it: method, Y_ref and target (R24, R104, R105, R108).  Where a card's
light stands for it, it starts from there (R508). -/
def State.takeCommit (s : State) (t : Nat) : State :=
  let s := s.modTd t (fun d => { d with method := d.methodNext })
  let s := match (s.tc t).yNext with
    | some y => (s.modTd t (fun d => { d with yRef := some y })).modTc t (fun k => { k with yNext := none })
    | none => s
  match (s.td t).waiting with
  | none => s
  | some (r, g) =>
    let s := s.modTd t (fun d => { d with waiting := none })
    let s := s.setFlag Pid.colourStatus t 4 (s.targetClamped t g)
    if (s.chansOf t).any (fun c => (s.cd c).start.isSome) then
      let s := s.modTd t (fun d => { d with taken := some (r, g) })
      s.resumeTeam t (fun c => (s.cd c).start.getD 0)
    else s.takeTarget t r g

/-- A committed bank's teams and channels take their targets and latched colour inputs (R24, R108). -/
def State.applyCommit (s : State) (b : Nat) : State :=
  if !(s.bd b).commitWaits then s
  else
    let s := s.redefine b
    -- what held each channel before, and the fade time of a new override
    let before := (bankChannels b).map (fun c =>
      (c, s.overrideLevel c, ((s.cd c).waiting.bind (fun o => o)).bind (fun o => o.2)))
    let s := (bankChannels b).foldl (fun s c =>
      let s := s.modCc c (fun k => { k with latched := k.latchedNext, trim := k.trimNext })
      match (s.cd c).waiting with
      | some o => s.modCd c (fun d => { d with taken := o.map (fun x => x.1), waiting := none })
      | none => s) s
    let s := (s.bankTeams b).foldl State.takeCommit s
    let s := before.foldl (fun (s : State) (x : Nat × Option Nat × Option Nat) => s.moveOverride x.1 x.2.1 x.2.2) s
    let s := (bankChannels b).foldl (fun s c => s.modCd c (fun d => { d with atCommit := (d.res, d.gather) })) s
    s.modBd b (fun d => { d with commitWaits := false })

/-- The colour stage of a team and its channels' fractions at a period start (R39, R110, R508): resumption fades
take their step with it where `moves`. -/
def State.stageTeam (s : State) (t : Nat) (moves : Bool := true) : State :=
  let out := s.colourStage t (s.td t).lam (s.colourOf t)
  let s := s.setFlag Pid.colourStatus t 3 out.scaled
  let s := match s.colourOf t with
    | .gains _ => s
    | _ => s.setFlag Pid.colourStatus t 5 out.degenerate
  let s := if out.scaled then s.setFlag Pid.drvStatus (t / 32) 5 true else s
  let on := moves && !(s.td t).halted
  ((s.chansOf t).zip out.fractions).foldl (fun s x =>
    let s := s.modCd x.1 (fun d => { d with glide := d.glide.map (fun (g : Glide) => { g with step := if on then min (g.step + 1) g.steps else g.step }) })
    let f := s.channelFraction t x.1 x.2 0
    let s := if 16777216 < f then s.setFlag Pid.drvStatus (t / 32) 5 true else s
    let s := s.setP Pid.drvOutFrac x.1 (min 16777216 f)
    s.modCd x.1 (fun d => { d with glide := d.glide.bind (fun g => if on && decide (g.steps ≤ g.step) then none else some g) })) s

/-- A changed period or stagger takes effect at the end of the old period (R37, R48). -/
def State.changePeriod (s : State) (b at_ : Nat) : State :=
  let old := (s.bd b).period
  let n := s.p Pid.drvPeriodNs b * 4 / 5
  let st := s.p Pid.drvStaggerMode b
  let at' := s.alignAt at_ n (bankOffset b n st)
  let s := s.modBd b (fun d => { d with
    period := n, stagger := st, change := false, gap := at' != at_, nextStart := some at',
    extra := if n = old then d.extra else some ⟨old, at_⟩ })
  if n = old then s
  else
    let s := (s.bankTeams b).foldl (fun s t => s.modTd t (fun d =>
      if d.step < d.steps then { d with
        lam0 := d.lam, colour0 := d.colour, steps := convertSteps (d.steps - d.step) old n, step := 0 } else d)) s
    (bankChannels b).foldl (fun s c => s.modCd c (fun d => { d with
      glide := d.glide.map (fun (g : Glide) => { g with
        from_ := s.p Pid.drvOutFrac c, steps := convertSteps (g.steps - g.step) old n, step := 0 }) })) s

/-- Pulses still high at an instant are cut there (R52, R140). -/
def State.cutPulses (s : State) (ch x : Nat) : State :=
  s.modCs ch (fun k => { k with pulses := k.pulses.map (fun (p : Pulse) => { p with to_ := min p.to_ (max p.from_ x) }) })

/-- A bank stops at a period start: DRV low, no mark (R14, R140). -/
def State.stopBank (s : State) (b at_ : Nat) : State :=
  let s := s.modBd b (fun d => { d with
    running := false, stopping := false, stoppedAt := some at_, gap := false, emltEnds := false, extra := none })
  (bankChannels b).foldl (fun s c => (s.cutPulses c at_).modCd c (fun d => { d with pulseTo := min d.pulseTo at_, onNow := 0 })) s

/-- The timebase moves by whole ticks, and every bank's period starts with it: they fall where the count says
(R35, R422). -/
def State.shiftTimebase (s : State) (by_ : Int) : State :=
  let s := { s with tickBase := ((s.tickBase : Int) + by_).toNat }
  (List.range 16).foldl (fun s b => s.modBd b (fun d => { d with
    nextStart := d.nextStart.map (fun x => ((x : Int) + by_).toNat) })) s

/-- A wheeler's correction of its timebase by one spine tap (R422). -/
def State.tapCorrection (s : State) : State :=
  let o := s.pI Pid.tdmLockPs
  if !s.wheeler then s
  else if 625 < o then (s.shiftTimebase 1).setI Pid.tdmLockPs 0 (o - 1250)
  else if o < -625 then (s.shiftTimebase (-1)).setI Pid.tdmLockPs 0 (o + 1250)
  else s

/-- The work of one bank period start at instant `at_` (R24, R35, R47, R54, R110, R139).  Beneath rung 2 fades
stand still and the colour stage goes on (R55, R118). -/
def State.periodStart (s : State) (b at_ : Nat) : State :=
  let s := if (s.bd b).emltEnds then
      (bankChannels b).foldl (fun s c => s.modCd c (fun d => { d with res := 0 }))
        (s.modBd b (fun d => { d with emltEnds := false }))
    else s
  let s := s.rideAt b
  let s := s.modBd b (fun d => { d with test := s.test.banks.get b })
  let s := if s.bankHeld b then s.modBs b (fun k => { k with frozenIn := true }) else s
  let s := s.pauseWindows b
  let s := s.applyCommit b
  let riding := (s.bd b).riding
  let s := (s.bankTeams b).foldl (fun s t => (if riding then s else s.fadeStep t).stageTeam t (!riding)) s
  let s := (bankChannels b).foldl (fun s c =>
    if (s.cd c).realign = 0 then s else s.modCd c (fun d => { d with res := d.res + d.realign, realign := 0 })) s
  let s := s.mark_ b at_
  (s.modBd b (fun d => { d with lastStart := some at_, nextStart := some (at_ + d.period), gap := false })).tapCorrection

/-- BANK_PERIOD_START (R35): the bank's next period start has come. -/
def execBankPeriodStart (t bank : Nat) (s : State) : Host.Outcome State Fault Refusal :=
  s.run t (fun s =>
    let d := s.bd bank
    let at_ := s.nextPeriod bank
    if 16 ≤ bank ∨ !d.running ∨ s.now < at_ then s
    else if d.stopping then s.stopBank bank at_
    else if d.change then
      let s := s.changePeriod bank at_
      if s.nextPeriod bank = at_ then s.periodStart bank at_ else s
    else s.periodStart bank at_)

/-- EXTRA_PERIOD_MARK (R37): a mark at an instant of the old period, until the card has accepted the new
one. -/
def execExtraPeriodMark (t bank : Nat) (s : State) : Host.Outcome State Fault Refusal :=
  s.run t (fun s =>
    match (s.bd bank).extra with
    | some e =>
      if bank < 16 ∧ (s.bd bank).running ∧ e.next ≤ s.now then
        (s.mark_ bank e.next).modBd bank (fun d => { d with extra := some { e with next := e.next + e.period } })
      else s
    | none => s)

/-! ### The split (R41, R42) -/

/-- What the split decides for one period. -/
structure SplitOut where
  on : Nat
  res : Int
  gather : Nat
  saturated : Bool
  floor : Bool
  deriving DecidableEq, Repr

/-- The exact on-time of a period with 16 fractional bits, truncated and clamped to N, and whether it was
clamped (R41).  For an amplitude of 0 the quotient does not exist: a fraction above 0 then gives N with saturation
(DESIGN CHOICE, assumption 85). -/
def exactOn (f a n : Nat) : Nat × Bool :=
  if a = 0 then (if f = 0 then (0, false) else (n * 65536, true))
  else
    let x := f * 4095 * n * 65536 / (a * 16777216)
    if n * 65536 < x then (n * 65536, true) else (x, false)

/-- The split of a channel that is not in amplitude-only mode (R41, R42): fraction, amplitude, period,
least on-time, gathering limit, width of a granted pulse. -/
def split (f a n nMin gMax : Nat) (grant : Option Nat) (res : Int) (g : Nat) : SplitOut :=
  match f, grant with
  | 0, none => ⟨0, 0, g, false, false⟩
  | _, _ =>
    let x := exactOn f a n
    let res := res + x.1
    match grant with
    | some p => ⟨p, res - p * 65536, 0, x.2, false⟩
    | none =>
      if res ≤ 0 then ⟨0, res, g, x.2, false⟩
      else
        let k := min n (Int.fdiv res 65536).toNat
        if nMin ≤ k ∨ k = n then ⟨k, res - k * 65536, 0, x.2, false⟩
        else if gMax ≤ g + 1 then ⟨nMin, 0, 0, x.2, true⟩
        else ⟨0, res, g + 1, x.2, false⟩

/-- The least on-time of a bank in ticks (R42). -/
def State.leastOn (s : State) (b : Nat) : Nat :=
  let n := (s.bd b).period
  max 1 (min n (divUp (s.p Pid.drvMinPulseNs b * 4) 5))

/-- The proving width of a bank in ticks (R84). -/
def State.proveWidth (s : State) (b : Nat) : Nat :=
  min (s.bd b).period (divUp (s.p Pid.diagProveWidthNs b * 4) 5)

/-- The lane period start of a channel that is due, if any; none between two periods (R37). -/
def State.laneStart (s : State) (ch : Nat) : Option Nat :=
  let b := ch / 32
  let d := s.bd b
  match d.lastStart with
  | none => none
  | some x =>
    let at_ := x + lanePhase (ch % 32) d.period d.stagger
    if d.running && !d.gap && decide (at_ ≤ s.now) && (s.cd ch).lastStart != some at_ then some at_ else none

/-! ### Amplitude epochs (R43) -/

/-- A channel's proving grant is for the period that begins at `at_` (R93, R95): in amplitude-only mode only under
the amplitude sent for it (R96). -/
def State.grantNow (s : State) (ch at_ : Nat) (ampOnly dark : Bool) : Option Grant :=
  match (s.cg ch).grant with
  | some g => if g.from_ ≤ at_ ∧ (!ampOnly || dark) then some g else none
  | none => none

/-- What the split gives a lane's period that begins at `at_` under an amplitude, its dark mark and its mode
(R41, R96): nothing is granted to a bank held by rung 1, 2 or 3. -/
def State.splitAt (s : State) (ch at_ a mode : Nat) (dark : Bool) : Option Grant × SplitOut :=
  let b := ch / 32
  let d := s.cd ch
  let n := (s.bd b).period
  let ampOnly : Bool := mode == 1
  let grant := if s.bankHeld b then none else s.grantNow ch at_ ampOnly dark
  let p := s.proveWidth b
  (grant,
    if ampOnly then
      match grant with
      | some _ => ⟨p, 0, d.gather, false, false⟩
      | none => ⟨if 0 < a ∧ !dark then n else 0, 0, d.gather, false, false⟩
    else split (s.p Pid.drvOutFrac ch) a n (s.leastOn b) (s.p Pid.drvGatherMax b) (grant.map (fun _ => p)) d.res d.gather)

/-- A lane's period that begins at `at_` would begin with a pulse under an amplitude sent. -/
def State.wouldEmit (s : State) (ch at_ : Nat) (a : SentAmp) : Bool :=
  let b := ch / 32
  if (s.teamAt ch).isNone then false
  else if s.rung1 b then (s.p Pid.drvEmltMask b).testBit (ch % 32)
  else if (s.bd b).riding then decide (0 < (s.cd ch).rideTicks)
  else if (s.bd b).test then decide (0 < (s.cd ch).onNow)
  else decide (0 < (s.splitAt ch at_ a.amp a.mode a.dark).2.on)

/-- The channel's amplitude epoch is now: at a rising edge from E + 4.0 µs on, or T later without one
(R43). -/
def State.epochDue (s : State) (ch : Nat) : Bool :=
  match (s.cd ch).sent with
  | none => false
  | some a =>
    (decide (a.from_ + (s.bd (ch / 32)).period ≤ s.now) ||
      (match s.laneStart ch with
       | some x => decide (a.from_ ≤ x) && decide ((s.cd ch).pulseTo < x ∨ (s.cd ch).onNow = 0) && s.wouldEmit ch x a
       | none => false))

/-- The drive engine switches to the amplitude sent, and to the dimming mode it was formed by (R43, R45). -/
def State.takeEpoch (s : State) (ch : Nat) : State :=
  match (s.cd ch).sent with
  | none => s
  | some a =>
    (s.setP Pid.drvOutAmp ch a.amp).modCd ch (fun d => { d with
      setpoint := a.setpoint, darkAmp := a.dark, mode := a.mode, sent := d.queued, queued := none })

/-- AMPLITUDE_EPOCH (R43). -/
def execAmplitudeEpoch (t ch : Nat) (s : State) : Host.Outcome State Fault Refusal :=
  s.run t (fun s => if ch < 512 ∧ s.epochDue ch then s.takeEpoch ch else s)

/-! ### Lane pulses (R36, R41, R93, R96) -/

/-- A pulse joins those that the sense unit attributes to scan intervals (R65, R67, R84). -/
def State.countPulse (s : State) (ch rise on amp : Nat) : State :=
  s.modCs ch (fun k => { k with pulses := ⟨rise, rise + on, (s.cd ch).setpoint, amp⟩ :: k.pulses })

/-- Emit the pulse of a lane's period: the new pulse rises when an old tail ends (R36, R37). -/
def State.emit (s : State) (ch at_ on amp : Nat) : State :=
  let d := s.cd ch
  let rise := max at_ d.pulseTo
  let on' := on - (rise - at_)
  let s := s.setP Pid.drvOutTicks ch d.onNow
  let s := s.modCd ch (fun k => { k with
    lastStart := some at_, onNow := on',
    pulseFrom := if on' = 0 then k.pulseFrom else if k.pulseTo = rise ∧ k.onNow ≠ 0 then k.pulseFrom else rise,
    pulseTo := if on' = 0 then k.pulseTo else rise + on' })
  if on' = 0 then s else s.countPulse ch rise on' amp

/-- The period of a lane in a team (R36, R41, R93): the split decides its on-time, and a proving grant its pulse; a
grant whose period finds the bank held by rung 1, 2 or 3 is cancelled (R95).  drv.sat_count counts each channel's
saturated periods (DESIGN CHOICE, assumption 86; R44). -/
def State.lanePulse (s : State) (ch at_ team : Nat) : State :=
  let b := ch / 32
  let n := (s.bd b).period
  let s := if s.epochDue ch then s.takeEpoch ch else s
  let d := s.cd ch
  let f := s.p Pid.drvOutFrac ch
  let a := s.p Pid.drvOutAmp ch
  let ampOnly : Bool := d.mode == 1
  let held := s.bankHeld b
  let x := s.splitAt ch at_ a d.mode d.darkAmp
  let grant := x.1
  let out := x.2
  let s := if held then s.modCg ch (fun g => { g with grant := g.grant.filter (fun y => at_ < y.from_) }) else s
  -- a debt that F = 0 discards (R93)
  let unpaid : Bool := (s.cg ch).debt && f == 0 && decide (d.res < 0)
  let s := if unpaid then s.bump Pid.diagUnbalancedCount ch else s
  let s := s.modCg ch (fun g => { g with
    debt := if grant.isSome then !ampOnly && f != 0 else g.debt && f != 0 && decide (out.res ≤ 0)
    grant := if grant.isSome then none else g.grant })
  let s := if grant.isSome then s.bump Pid.diagProveCount ch else s
  let s := if out.saturated then (s.setFlag Pid.drvStatus b 5 true).bump Pid.drvSatCount team else s
  let s := if out.floor ∧ !held then s.setFlag Pid.drvStatus b 4 true else s
  let s := s.modCd ch (fun k => { k with res := if f = 0 ∧ grant.isSome ∧ !ampOnly then 0 else out.res, gather := out.gather })
  if s.rung1 b then
    s.emit ch at_ (if (s.p Pid.drvEmltMask b).testBit (ch % 32) then n else 0) (s.p Pid.drvEmltAmp ch)
  else if (s.bd b).riding then s.emit ch at_ d.rideTicks a
  else if (s.bd b).test then s.emit ch at_ d.onNow a
  else s.emit ch at_ out.on a

/-- LANE_PULSE_START (R36, R41): the lane's period start has come; the split decides its on-time. -/
def execLanePulseStart (t ch : Nat) (s : State) : Host.Outcome State Fault Refusal :=
  s.run t (fun s =>
    match s.laneStart ch with
    | none => s
    | some at_ =>
      if 512 ≤ ch then s
      else match s.teamAt ch with
        | none =>
          s.emit ch at_
            (if s.rung1 (ch / 32) ∧ (s.p Pid.drvEmltMask (ch / 32)).testBit (ch % 32) then (s.bd (ch / 32)).period else 0) 0
        | some team => s.lanePulse ch at_ team)

/-! ### Emergency override (R52 to R54) -/

/-- The level of a DRV pad (R36, R52); a class 0 test drives its pattern, one bit per 100 ns (R467).  A bank whose
generation has stopped holds it low (R14), and so does the passive resistor while D1 is off (R490). -/
def State.drvPad (s : State) (ch : Nat) : Bool :=
  if !s.domainOn 1 then false
  else if s.rung1 (ch / 32) then (s.p Pid.drvEmltMask (ch / 32)).testBit (ch % 32)
  else if (s.bd (ch / 32)).running && (s.bd (ch / 32)).test && s.underTest (ch / 32) then
    patternBit (s.lt (ch / 32)).pattern (s.lt (ch / 32)).user ((s.now - (s.lt (ch / 32)).since) / 80 + 1024 * (ch % 32))
  else decide ((s.cd ch).pulseFrom ≤ s.now ∧ s.now < (s.cd ch).pulseTo)

/-- A pad takes its emergency state inside a period (R52): the pulse in progress is cut, and a pad held high is on
until the lane's next period start, where the next pulse begins (R65).  With generation stopped there is none. -/
def State.emergencyPad (s : State) (ch : Nat) : State :=
  let b := ch / 32
  let d := s.cd ch
  let high : Bool := decide (d.pulseFrom ≤ s.now ∧ s.now < d.pulseTo)
  -- what the period has emitted so far
  let gone := min d.onNow (min d.pulseTo s.now - max d.pulseFrom (d.lastStart.getD s.now))
  let s := s.cutPulses ch s.now
  if (s.p Pid.drvEmltMask b).testBit (ch % 32) ∧ (s.bd b).running then
    let on := s.laneFrom ch (s.now + 1) - s.now
    let s := s.modCd ch (fun k => { k with
      pulseFrom := if high then d.pulseFrom else s.now, pulseTo := s.now + on, onNow := gone + on })
    s.countPulse ch s.now on (s.p Pid.drvEmltAmp ch)
  else s.modCd ch (fun k => { k with pulseTo := min k.pulseTo s.now, onNow := gone })

/-- EMLT_RISE (R52, R53): every pad takes its emergency state and rung 1 is in force, which the host learns of
(R249).  With D1 off only the level is there, until D1 powers up. -/
def execEmltRise (t : Nat) (s : State) : Host.Outcome State Fault Refusal :=
  s.run t (fun s =>
    if s.drive.emlt then s
    else if !s.domainOn 1 then s.withDrive (fun d => { d with emlt := true })
    else
      let was := s.drive.emltHeld
      let s := s.withDrive (fun d => { d with emlt := true, emltHeld := true, emltLow := none })
      let s := if was then s else
        (List.range 512).foldl (fun s c => s.emergencyPad c) (s.withDrive (fun d => { d with emltSince := some s.now }))
      let s := (List.range 16).foldl (fun s b => (s.pauseWindows b).modBs b (fun k => { k with frozenIn := true })) s
      let s := s.endTests (List.range 32) 2
      let s := if s.power.asleep then s.raiseWake 6 else s
      if was then s else (s.hpEvent 2).raise 0x09 0 0)

/-- EMLT_FALL (R54): the release count starts. -/
def execEmltFall (t : Nat) (s : State) : Host.Outcome State Fault Refusal :=
  s.run t (fun s =>
    if s.drive.emlt then
      s.withDrive (fun d => { d with emlt := false, emltLow := if s.domainOn 1 then some s.now else none })
    else s)

/-- The emission of a pad that rung 1 holds high while its bank is stopped (R52, R65), up to instant `x`. -/
def State.heldPulse (s : State) (ch x : Nat) : List Pulse :=
  let d := s.bd (ch / 32)
  if s.rung1 (ch / 32) && !d.running && (s.p Pid.drvEmltMask (ch / 32)).testBit (ch % 32) then
    [⟨max (s.drive.emltSince.getD 0) (d.stoppedAt.getD 0), x, (s.cd ch).setpoint, s.p Pid.drvEmltAmp ch⟩]
  else []

/-- That emission ends at instant `x` and joins the channel's pulses. -/
def State.endHeld (s : State) (ch x : Nat) : State :=
  let ps := s.heldPulse ch x
  if ps.isEmpty then s else s.modCs ch (fun k => { k with pulses := ps ++ k.pulses })

/-- EMLT_RELEASE (R54): EMLT has been low for drv.emlt_release_us; each bank resumes at its next period
start. -/
def execEmltRelease (t : Nat) (s : State) : Host.Outcome State Fault Refusal :=
  s.run t (fun s =>
    match s.drive.emltLow with
    | some a =>
      if s.drive.emltHeld ∧ s.passed a (s.p Pid.drvEmltReleaseUs * us) then
        let s := (List.range 512).foldl (fun s c => s.endHeld c s.now) s
        let s := (List.range 16).foldl (fun s b => s.modBd b (fun d => { d with emltEnds := d.running })) s
        s.withDrive (fun d => { d with emltHeld := false, emltLow := none })
      else s
    | none => s)

/-! ### Boundary settings of the engine (R37, R45, R50) -/

/-- A SET of drv.period_ns or drv.stagger_mode is applied at the boundary (R37). -/
def State.periodWritten (s : State) (b : Nat) : State :=
  let d := s.bd b
  let n := s.p Pid.drvPeriodNs b * 4 / 5
  s.modBd b (fun d' => { d' with change := n != d.period || s.p Pid.drvStaggerMode b != d.stagger })

/-- A SET of drv.team_size is applied at the boundary: it waits for the period start at which this
cycle's commit applies (R50). -/
def State.teamSizeWritten (s : State) (t : Nat) : State :=
  s.modTd t (fun d => { d with newSize := some (s.p Pid.drvTeamSize t) })

end Sys2Proof.Machine
end

