-- ==== Sys2Proof/Machine/Sense.lean ====
section
/-! DEFINITION.  Sense inputs, the current loop and metering (R59 to R81): streams, decimators, scan
intervals, zero density, gain estimates, energy and minute blocks. -/

namespace Sys2Proof.Machine

open Sys2Proof

/-! ### Streams (R62 to R64) -/

/-- Sense domain D4 is on (R450), and not held in reset by RST_N (R486). -/
def State.d4On (s : State) : Bool := s.domainOn 4 && s.power.phase != .held

/-- The lane has an enumerated card (R62, R144). -/
def State.hasCard (s : State) (ch : Nat) : Bool :=
  let b := ch / 32
  s.p Pid.harnessState b == 4 && s.pB Pid.harnessEnable b && decide (ch % 32 < s.p Pid.harnessCardCaps b % 64)

/-- The channel's stream is invalid (R62). -/
def State.streamInvalid (s : State) (ch : Nat) : Bool := (s.cs ch).invalid || !s.hasCard ch

/-- The decimation ratio M of a bank (R63). -/
def State.decimation (s : State) (b : Nat) : Nat := 2 ^ (6 + s.p Pid.snsDecimRatio b)

/-- Spine steps of a number of bits at 10 MHz. -/
def bitTime (n : Nat) : Nat := 80 * n

/-- How many bits a stretch holds, and how many of them are ones. -/
def bitCount (r : LaneBits) : Nat := r.foldl (fun n x => n + x.2) 0
def oneCount (r : LaneBits) : Nat := r.foldl (fun n x => if x.1 then n + x.2 else n) 0

/-- Weight of bit `i` of the 3(M − 1) + 1 bits that a third-order sinc decimator of ratio M spans: the coefficient
of [(1 − z^−M) / (1 − z^−1)]³ (R63). -/
def sincWeight (m i : Nat) : Nat :=
  let tri := fun (n : Nat) => n * (n - 1) / 2
  tri (i + 2) + 3 * tri (i + 2 - 2 * m) - 3 * tri (i + 2 - m)

/-- The raw output word of a decimator over the bits it spans (R63). -/
def sincWord (m : Nat) (r : LaneBits) : Nat :=
  ((r.flatMap (fun x => List.replicate x.2 x.1)).zipIdx).foldl (fun n x => if x.1 then n + sincWeight m x.2 else n) 0

/-- A raw decimator word in µA, rounded half up (R59, R63). -/
def State.sampleUa (s : State) (b raw : Nat) : Int :=
  let m3 : Int := (s.decimation b) ^ 3
  -- I_sfs × (raw / M³ − 1/8) × 4/3
  divRoundI ((s.p Pid.snsIsfsUa b : Int) * ((raw : Int) * 8 - m3) * 4) (m3 * 24)

/-- The delay that R61 takes off a sample time. -/
def State.senseLag (s : State) (b : Nat) : Nat := ofNs (100 + s.p Pid.snsDelayNs b + s.p Pid.snsCableNs b)

/-- The lane was high from `x` to `y` without a falling edge: pulses, newest first, that join (R36, R64). -/
def highThrough (ps : List Pulse) (x y : Nat) : Bool :=
  decide (y ≤ ps.reverse.foldl (fun r (p : Pulse) => if p.from_ ≤ r then max r p.to_ else r) x) &&
    ps.any (fun p => decide (p.from_ ≤ x) && decide (x < p.to_))

/-- DECIMATOR_SAMPLE (R63, R64): the bits that a channel's decimator spans at a sample instant. -/
def execDecimatorSample (t ch : Nat) (bits : LaneBits) (s : State) : Host.Outcome State Fault Refusal :=
  s.run t (fun s =>
    let b := ch / 32
    let settling := 3 * (s.decimation b - 1) + 1
    if 512 ≤ ch ∨ !s.d4On ∨ s.streamInvalid ch then s
    else
      let s := if (s.bs b).restart then
          s.modBs b (fun k => { k with restart := false, settledFrom := s.now + bitTime settling })
        else s
      if s.now < (s.bs b).settledFrom ∨ bitCount bits ≠ settling then s
      else
        let i := s.sampleUa b (sincWord (s.decimation b) bits)
        let s := s.setI Pid.snsIInst ch (satS32 i)
        -- the settling span, attributed under R61, lies inside one pulse
        let to_ := s.now - s.senseLag b
        if highThrough (s.cs ch).pulses (to_ - bitTime settling) to_ then
          s.modCs ch (fun k => { k with sampleSum := k.sampleSum + i, samples := k.samples + 1 })
        else s)

/-- STREAM_STUCK (R62): 64 identical bits. -/
def execStreamStuck (t ch : Nat) (s : State) : Host.Outcome State Fault Refusal :=
  s.run t (fun s =>
    if 512 ≤ ch ∨ !s.d4On ∨ !s.hasCard ch then s
    else (s.setFlag Pid.snsLoopStatus ch 6 true).modCs ch (fun k => { k with invalid := true, wasInvalid := true }))

/-- STREAM_VALID_AGAIN (R62): 1,024 bits without a run above 16. -/
def execStreamValidAgain (t ch : Nat) (s : State) : Host.Outcome State Fault Refusal :=
  s.run t (fun s =>
    if 512 ≤ ch ∨ !s.d4On ∨ !s.hasCard ch then s else s.modCs ch (fun k => { k with invalid := false }))

/-- ZERO_STALE (R66): 600 s without a zero update. -/
def execZeroStale (t ch : Nat) (s : State) : Host.Outcome State Fault Refusal :=
  s.run t (fun s =>
    if ch < 512 ∧ s.passed (s.cs ch).zeroAt (600 * sec) then s.setFlag Pid.snsLoopStatus ch 4 true else s)

/-- A SET of sns.decim_ratio is applied at the boundary: the decimators restart (R63). -/
def State.decimWritten (s : State) (b : Nat) : State := s.modBs b (fun k => { k with restart := true })

/-! ### The scan interval (R65, R66) -/

/-- The card runs its own ride-through because DRV activity has stopped, or the spine is unlocked: charge is taken
as measured (R65). -/
def State.ungated (s : State) (ch : Nat) : Bool :=
  let b := ch / 32
  !(s.bd b).running || !s.spineLocked || s.flagOf Pid.harnessCardStatus b 11

/-- The channel's charge is gated: the module is the source of its DRV edges (R65). -/
def State.gated (s : State) (ch : Nat) : Bool := s.pB Pid.harnessFollowsMe (ch / 32) && !s.ungated ch

/-- Charge in pC of a count of ones among some bits at zero density d0 in 2⁻¹⁶ (R65). -/
def chargeOf (ones count d0 isfs : Nat) : Q :=
  Q.mk' ((((ones : Int) * 65536) - (d0 : Int) * count) * isfs * 2) (65536 * 15)

/-- Expected charge in pC of a sum of setpoint × ticks (R67). -/
def expectedOf (drive iafs : Nat) : Q := Q.mk' ((iafs * drive : Nat) * 5) (4 * 4095 * 1000)

/-- Add flags to the minute in progress (R77). -/
def State.meterFlag (s : State) (ch k : Nat) (b : Bool) : State :=
  if b then s.setFlag Pid.meterFlags ch k true else s

/-- The spans in which a bit is no off bit: from a rising edge to `settle` after the falling edge, overlapping ones
joined (R66). -/
def busySpans (settle : Nat) (ps : List Pulse) : List (Nat × Nat) :=
  ps.reverse.foldl (fun (acc : List (Nat × Nat)) (p : Pulse) => match acc with
    | (a, b) :: rest => if p.from_ ≤ b then (a, max b (p.to_ + settle)) :: rest else (p.from_, p.to_ + settle) :: acc
    | [] => [(p.from_, p.to_ + settle)]) []

/-- Off bits of a stretch whose first bit is attributed to `t0`, and the ones among them: those outside every busy
span (R66). -/
def offCounts (t0 : Int) (spans : List (Nat × Nat)) (r : LaneBits) : Nat × Nat :=
  -- index of the first bit attributed to instant y or later
  let idx := fun (y : Nat) => (-(Int.fdiv (t0 - y) 80)).toNat
  let out := r.foldl (fun (acc : Nat × Nat × Nat) x =>
    let i1 := acc.1 + x.2
    let busy := spans.foldl (fun n sp => n + (min i1 (idx sp.2) - max acc.1 (idx sp.1))) 0
    let off := x.2 - busy
    (i1, acc.2.1 + off, acc.2.2 + (if x.1 then off else 0))) (0, 0, 0)
  out.2

/-- Off bits and off ones of an interval's stretch that ends now (R60, R61, R66). -/
def State.offBits (s : State) (ch : Nat) (r : LaneBits) : Nat × Nat :=
  let b := ch / 32
  offCounts ((s.now : Int) - bitTime (bitCount r) - s.senseLag b)
    (busySpans (ofNs (s.p Pid.snsSettleNs b)) (s.heldPulse ch s.now ++ (s.cs ch).pulses)) r

/-- Update the zero density of a channel from an interval's off bits (R66). -/
def State.zeroUpdate (s : State) (ch : Nat) (off : Nat × Nat) : State :=
  if off.1 < 100 then s
  else
    let d0 : Int := s.p Pid.snsZeroDensity ch
    -- d0 + (d_off − d0) / 64, rounded half up, in 2⁻¹⁶
    let n := divRoundI (d0 * 63 * off.1 + (off.2 : Int) * 65536) (64 * off.1)
    if 4096 ≤ n ∧ n ≤ 12288 then
      let s := ((s.setI Pid.snsZeroDensity ch n).setFlag Pid.snsLoopStatus ch 3 false).setFlag Pid.snsLoopStatus ch 4 false
      s.modCs ch (fun k => { k with zeroAt := s.now })
    else (s.setFlag Pid.snsLoopStatus ch 3 true).setFlag Pid.snsLoopStatus ch 4 true

/-- The channel's loop is frozen (R70). -/
def State.loopFrozen (s : State) (ch : Nat) : Bool :=
  s.bankHeld (ch / 32) || s.wheeler || s.streamInvalid ch || !s.pB Pid.snsLoopEnable (ch / 32)

/-- The loop was frozen at some time in the interval that closes now (R70). -/
def State.intervalFrozen (s : State) (ch : Nat) : Bool :=
  s.loopFrozen ch || (s.cs ch).wasFrozen || (s.cs ch).lastInvalid || (s.bs (ch / 32)).frozenIn

/-- A SET of sns.loop_enable to 0 freezes the interval in progress (R70). -/
def State.loopEnableWritten (s : State) (b : Nat) : State :=
  if s.pB Pid.snsLoopEnable b then s else s.modBs b (fun k => { k with frozenIn := true })

/-- The channel's card holds its own current limit (R69). -/
def State.cardLimit (s : State) (ch : Nat) : Bool := (s.p Pid.harnessLaneClimit (ch / 32)).testBit (ch % 32)

/-- The loop at the end of a scan interval (R67 to R70).  With an expected charge of 0, where ρ does not exist, it
goes on accumulating (DESIGN CHOICE, assumption 87); the trim span is rounded down to Q2.14 (DESIGN CHOICE,
assumption 88). -/
def State.loopInterval (s : State) (ch : Nat) : State :=
  let b := ch / 32
  let k := s.cs ch
  let frozen := s.intervalFrozen ch
  let s := s.modCs ch (fun k => { k with wasFrozen := s.loopFrozen ch })
  if frozen then
    let s := s.modCs ch (fun k => { k with qm := Q.zero, qu := Q.zero, ton := 0 })
    (s.setFlag Pid.snsLoopStatus ch 2 true).setFlag Pid.snsLoopStatus ch 0 false
  else
    let s := s.setFlag Pid.snsLoopStatus ch 2 false
    if (s.bs b).discard then s.modCs ch (fun k => { k with qm := Q.zero, qu := Q.zero, ton := 0 })
    else
      let qm := k.qm.add k.charge
      let qu := k.qu.add (expectedOf k.last.drive (s.p Pid.snsIafsUa b))
      let ton := k.ton + k.last.on
      if ton * 5 < s.p Pid.snsLoopMinOnUs b * 4000 ∨ qu.num = 0 then
        s.modCs ch (fun k => { k with qm := qm, qu := qu, ton := ton })
      else
        let g := Q.mk' (s.p Pid.snsGainEst ch) 16384
        let rho := qm.div qu
        let s := s.modCs ch (fun k => { k with qm := Q.zero, qu := Q.zero, ton := 0 })
        let s := s.setFlag Pid.snsLoopStatus ch 0 true
        let diff := rho.sub g
        if (Q.mk' (s.p Pid.snsFaultSpan b) 10000).lt diff.abs then s.setFlag Pid.snsLoopStatus ch 5 true
        else if s.cardLimit ch ∧ rho.lt g then s.modCs ch (fun k => { k with cardHit := true })
        else
          let new := ((g.add ((diff.scale (s.p Pid.snsLoopGain b)).over_ 256)).scale 16384).round
          let span : Int := 16384 * s.p Pid.snsTrimSpan b / 10000
          let held := clampI (16384 - span) (16384 + span) new
          let s := s.setI Pid.snsGainEst ch held
          let s := s.modCs ch (fun k => { k with trimHit := held != new, cardHit := false })
          s.setFlag Pid.snsLoopStatus ch 1 ((rho.sub (Q.mk' held 16384)).abs.le (Q.mk' 1 400))

/-- sns.loop_limit: the highest limit that holds (R69). -/
def State.showLimit (s : State) (ch : Nat) : State :=
  let k := s.cs ch
  let derated : Bool := match s.teamAt ch with
    | some t => decide (s.derate t < 32768)
    | none => false
  let n := if k.cardHit && s.cardLimit ch then 4 else if k.dacHit then 3 else if k.trimHit then 2 else if derated then 1 else 0
  let s := s.setP Pid.snsLoopLimit ch n
  let s := s.modCs ch (fun k => { k with
    limitSince := if 3 ≤ n then some (k.limitSince.getD s.now) else none,
    limitTold := k.limitTold && decide (3 ≤ n) })
  s.meterFlag ch 4 (decide (3 ≤ n))

/-- LOOP_LIMIT_WARNING (R69): 10 s in limit 3 or 4. -/
def execLoopLimitWarning (t ch : Nat) (s : State) : Host.Outcome State Fault Refusal :=
  s.run t (fun s =>
    let k := s.cs ch
    match k.limitSince with
    | some a =>
      if ch < 512 ∧ !k.limitTold ∧ s.passed a (10 * sec) then
        (s.modCs ch (fun k => { k with limitTold := true })).raise 0x15 ch (s.p Pid.snsLoopLimit ch)
      else s
    | none => s)

/-- Accumulations add up. -/
def Metering.plus (a b : Metering) : Metering := ⟨a.energy.add b.energy, a.charge.add b.charge, a.on + b.on⟩

/-- On-ticks of a pulse between two instants. -/
def Pulse.within (p : Pulse) (x y : Nat) : Nat := min p.to_ y - max p.from_ x

/-- Close the emission of a channel's scan interval (R61, R65, R84): what its pulses put between the attributed
instants of the scan starts.  Rung 1 counts a pad held high with generation stopped as on for the whole of it. -/
def State.closeEmission (s : State) (ch : Nat) : State :=
  let b := ch / 32
  let from_ := (s.bs b).closedTo
  let to_ := s.now - s.senseLag b
  let ps := s.heldPulse ch to_ ++ (s.cs ch).pulses
  let p := s.proveWidth b
  -- a pulse is kept while an off bit or a decimator sample may still reach back to it
  let kept := max (ofNs (s.p Pid.snsSettleNs b)) (bitTime (3 * (s.decimation b - 1) + 1))
  s.modCs ch (fun k => { k with
    last := ⟨ps.foldl (fun n x => n + x.within from_ to_) 0,
      ps.foldl (fun n x => n + x.setpoint * x.within from_ to_) 0,
      (ps.find? (fun x => decide (p ≤ x.to_ - x.from_) && decide (0 < x.within from_ to_))).map (fun x => x.amp)⟩ 
    pulses := k.pulses.filter (fun x => decide (to_ < x.to_ + kept)) })

/-- Close a channel's scan interval with its sense bits (R64 to R67).  The mean that gives sns.i_pulse is rounded
half up (DESIGN CHOICE, assumption 89). -/
def State.closeInterval (s : State) (ch : Nat) (x : LaneBits) : State :=
  let b := ch / 32
  let off := s.offBits ch x
  let s := s.closeEmission ch
  let k := s.cs ch
  let isfs := s.p Pid.snsIsfsUa b
  let card := s.hasCard ch
  let invalid := k.wasInvalid || s.streamInvalid ch
  let q : Q :=
    if !card then Q.zero
    else if invalid then
      (expectedOf k.last.drive (s.p Pid.snsIafsUa b)).mul (Q.mk' (s.p Pid.snsGainEst ch) 16384)
    else if s.gated ch ∧ k.last.on = 0 then Q.zero
    else chargeOf (oneCount x) (bitCount x) (s.p Pid.snsZeroDensity ch) isfs
  let s := if card ∧ !invalid then s.zeroUpdate ch off else s
  let s := s.modCs ch (fun k => { k with
    charge := q, gathered := k.gathered.plus ⟨Q.zero, q, k.last.on⟩, wasInvalid := s.streamInvalid ch, lastInvalid := invalid })
  let s := s.loopInterval ch
  -- the mean of the interval's samples inside a pulse (R64)
  let s := if 0 < k.samples then
      (s.setI Pid.snsIPulse ch (satS32 (divRoundI k.sampleSum k.samples))).setFlag Pid.snsLoopStatus ch 7 true
    else s.setFlag Pid.snsLoopStatus ch 7 false
  let s := s.modCs ch (fun k => { k with sampleSum := 0, samples := 0 })
  let s := s.showLimit ch
  let r := s.rung ch
  let s := s.meterFlag ch 11 (card && s.ungated ch)
  let s := s.meterFlag ch 10 (r == 2)
  let s := s.meterFlag ch 9 (r == 1)
  let s := s.meterFlag ch 8 (s.p Pid.meterClass b == 1)
  let s := s.meterFlag ch 5 invalid
  s.meterFlag ch 3 (s.flagOf Pid.snsLoopStatus ch 4)

/-- Close a bank's scan interval; its measurement set completes (R65, R171). -/
def State.closeScan (s : State) (b : Nat) (bits_ : List LaneBits) : State :=
  if !s.d4On then s
  else
    let s := (bankChannels b).foldl (fun s c => s.closeInterval c (bits_.getD (c % 32) [])) s
    s.modBs b (fun k => { k with
      discard := false, frozenIn := false, closedTo := s.now - s.senseLag b
      stamp := if s.p Pid.harnessState b = 4 then some s.now else k.stamp
      recordValid := k.recordValid || s.p Pid.harnessState b == 4 })

/-! ### Energy (R73, R74) -/

/-- Pair the charge of the interval closed last with a forward voltage in mV (R74). -/
def State.addEnergy (s : State) (ch mv : Nat) : State :=
  s.modCs ch (fun k =>
    let e := k.charge.scale mv
    { k with gathered := k.gathered.plus ⟨e, Q.zero, 0⟩, powers := (e :: k.powers).take 1000 })

/-- No voltage can pair with the interval: the last good one is held, from the ninth interval in a row as an
estimate (R73).  An interval without charge needs none. -/
def State.holdVoltage (s : State) (ch : Nat) : State :=
  let s := s.addEnergy ch (s.p Pid.snsVfMv ch)
  if (s.cs ch).charge.num = 0 then s
  else
    let s := s.modCs ch (fun k => { k with heldV := k.heldV + 1, vfHeld := true })
    if 8 < (s.cs ch).heldV then (s.meterFlag ch 2 true).meterFlag ch 8 true else s

/-- A valid readback's voltage of a lane pairs with its interval (R73): 0xFFFF is no reading, which an interval
without charge ignores. -/
def State.pairVoltage (s : State) (ch mv : Nat) : State :=
  if mv = 0xFFFF then
    if (s.cs ch).charge.num = 0 then
      (s.addEnergy ch 0).modCs ch (fun k => { k with heldV := 0, vfHeld := false })
    else s.holdVoltage ch
  else ((s.setP Pid.snsVfMv ch mv).modCs ch (fun k => { k with heldV := 0, vfHeld := false })).addEnergy ch mv

/-! ### Minute blocks (R76 to R79) -/

/-- A signed octet, saturating to −127 … 127. -/
def octetOf (n : Int) : Nat := (Int.fmod (clampI (-127) 127 n) 256).toNat

/-- A minute record's energy or charge as its 32 bits: a sum that noise around d0 has made negative is written as 0
and carried whole into the next minute (DESIGN CHOICE, assumption 90; R74, R77). -/
def recordOf32 (q : Q) : Int := max 0 q.round

/-- The service core adds a channel's accumulations to its open minute (R18). -/
def State.addMinute (s : State) (x : Nat × Metering) : State := s.modCs x.1 (fun k => { k with minute := k.minute.plus x.2 })

/-- The accumulations of D4 move into a committed record (R18, R26). -/
def State.takeMetering (s : State) : List (Nat × Metering) × State :=
  let xs := (List.range 512).filterMap (fun c =>
    let g := (s.cs c).gathered
    if g = .zero then none else some (c, g))
  (xs, xs.foldl (fun s x => s.modCs x.1 (fun k => { k with gathered := .zero })) s)

/-- Before a minute closes, everything accumulated up to its end is transferred: what waits in committed records and
what D4 still holds (DEDUCED, assumption 92; R18, R26, R76). -/
def State.transferAll (s : State) : State :=
  let waiting := s.prog.records.flatMap (fun r => r.metering)
  let emptied := s.prog.records.map (fun (r : CommittedRecord) => { r with metering := [] })
  let s := { s with prog := { s.prog with records := emptied } }
  let x := s.takeMetering
  (waiting ++ x.1).foldl State.addMinute x.2

/-- The four words of a channel's minute record, and the state with the channel's minute begun anew
(R74, R77). -/
def State.closeChannel (s : State) (ch extra : Nat) : List Word × State :=
  let k := s.cs ch
  -- fJ to 2⁻¹⁶ mWh: 65,536 / (3.6 × 10¹⁵)
  let e := k.energyRest.add ((k.minute.energy.scale 65536).over_ 3600000000000000)
  let en := recordOf32 e
  let c := k.chargeRest.add (k.minute.charge.over_ 1000000)
  let cn := recordOf32 c
  let on := k.onRest + k.minute.on
  let onUs := divRoundI (on * 5) 4000
  let flags := (s.p Pid.meterFlags ch) ||| extra ||| s.classFlag ch
  let temp := match k.hottest with
    | some h => octetOf (divRoundI h 100)
    | none => 128
  let hi := s.p Pid.meterTotalMwhHi ch
  let lo := s.p Pid.meterTotalMwhLo ch
  let sum := hi * 2 ^ 32 + lo + en.toNat
  let s := (s.setP Pid.meterTotalMwhHi ch (sum / 2 ^ 32)).setP Pid.meterTotalMwhLo ch sum
  let s := (s.setP Pid.meterMinuteEnergy ch en.toNat).setP Pid.meterFlags ch 0
  let s := { s with sense := { s.sense with closedFlags := s.sense.closedFlags.set ch flags } }
  let s := s.modCs ch (fun k => { k with
    minute := .zero, energyRest := e.sub (Q.ofInt en),
    chargeRest := c.sub (Q.ofInt cn), onRest := on - onUs * 800, hottest := none
    minuteOn := if k.minute.on = 0 then Q.zero else (k.minute.charge.scale 800).over_ k.minute.on })
  ([word en.toNat, word cn.toNat, word onUs.toNat, word (temp * 2 ^ 24 + s.p Pid.diagState ch % 256 * 65536 + flags % 65536)], s)

/-- Words of a block's header (R77). -/
def blockHeader (close duration quality shed seq : Nat) : List Word :=
  [word (close / 65536), word (close % 65536 * 65536 + duration / 65536 % 65536),
   word (duration % 65536 * 65536 + quality * 256 + shed), word (seq % 65536 * 65536)]

/-- Merge two channel records (R78). -/
def mergeRecord (a b : List Word) : List Word :=
  let ta := sbits (nth a 3) 31 24
  let tb := sbits (nth b 3) 31 24
  let temp := (Int.fmod (max ta tb) 256).toNat
  [nth a 0 + nth b 0, nth a 1 + nth b 1, nth a 2 + nth b 2,
   word (temp * 2 ^ 24 + bits (nth b 3) 23 16 * 65536 + ((bits (nth a 3) 15 0) ||| (bits (nth b 3) 15 0) ||| 2))]

/-- Merge two blocks into one (R78). -/
def mergeBlocks (a b : MinuteBlock) : MinuteBlock :=
  let q := max (bits (nth a.header 2) 15 8) (bits (nth b.header 2) 15 8)
  let sh := max (bits (nth a.header 2) 7 0) (bits (nth b.header 2) 7 0)
  let d := a.durationMs + b.durationMs
  ⟨b.sequence, b.close, d, blockHeader b.close d q sh b.sequence, (a.channels.zip b.channels).map (fun x => mergeRecord x.1 x.2)⟩

/-- The block that the latest recording of the totals names (R79). -/
def State.namedBlock (s : State) (b : MinuteBlock) : Bool := s.sense.recorded == some (b.sequence, b.close)

/-- A block joins the buffer; a 21st causes the two oldest that may be merged to become one (R78). -/
def State.bufferBlock (s : State) (b : MinuteBlock) : State :=
  let all := s.sense.buffer ++ [b]
  let put := fun (s : State) (l : List MinuteBlock) =>
    ({ s with sense := { s.sense with buffer := l } }).setP Pid.meterBufferedMin 0 l.length
  if all.length ≤ 20 then put s all
  else
    let merged : List MinuteBlock := match all with
      | x :: y :: z :: rest =>
        if s.namedBlock x then x :: mergeBlocks y z :: rest
        else if s.namedBlock y then x :: y :: (match rest with
          | w :: rest' => mergeBlocks z w :: rest'
          | [] => [z])
        else mergeBlocks x y :: z :: rest
      | l => l
    put ((s.bump Pid.meterMergedCount).mark Pid.meterMergedCount 0) merged

/-- The first minute of a former wheeler closes (R79, R435 step 6): METER_GAP, and after a takeover the
TANDEM_ROLE record and the lasting tdm.state.  The last sequence that the former lead archived is not among what
it copies (R425), so the record's detail is a free value (assumption 31). -/
def State.takeoverClosed (s : State) : State :=
  let x := s.drawWord
  let s := x.2.raise 0x1B (x.1.toNat % 65536) 0
  if s.lead ∧ s.p Pid.tdmState = 6 then
    (s.raise 0x29 1 2).setP Pid.tdmState 0 (if s.tandem.linkLost && !s.tandem.ringLost then 4 else 1)
  else s

/-- Close the minute of every channel as a block with the given flags added (R76, R77). -/
def State.closeMinute (s : State) (extra : Nat) : State :=
  let s := s.transferAll
  let close := s.clockSec
  let dur := satU32 ((s.now - s.sense.minuteFrom) / ms)
  let quality := s.p Pid.timeQuality
  let flags := extra ||| s.openFlags ||| (if quality = 4 then 64 else 0)
  let seq := s.sense.sequence
  let r := (List.range 512).foldl (fun (acc : List (List Word) × State) c =>
    let x := acc.2.closeChannel c flags
    (x.1 :: acc.1, x.2)) ([], s)
  let s := r.2
  let b : MinuteBlock := ⟨seq, close, dur, blockHeader close dur quality (max s.sense.shedMax s.shed) seq, r.1.reverse⟩
  let s := if s.sense.takeover then s.takeoverClosed else s
  let s := { s with sense := { s.sense with
    minuteFrom := s.now, partial_ := false, shedMax := s.shed, sequence := (seq + 1) % 65536,
    newest := some (seq, close), takeover := false } }
  s.bufferBlock b

/-- Milliseconds of the calendar minute that have passed. -/
def State.minuteMs (s : State) : Nat := (Int.fmod s.calMs 60000).toNat

/-- The instant of the next close: 60 s after the last; at the next calendar minute where the cadence is not yet
set, where time has become valid since, or where it has drifted by more than 1 s (R76). -/
def State.scheduleClose (s : State) (at_ : Nat) : State :=
  let off := s.minuteMs
  let valid := decide (s.p Pid.timeQuality ≠ 4)
  let far := decide (1000 < off ∧ off < 59000)
  let align := s.sense.nextClose.isNone || far || (valid && !s.sense.aligned)
  let next := if off < 30000 then s.now + (60000 - off) * ms else s.now + (120000 - off) * ms
  { s with sense := { s.sense with
      nextClose := some (if !align then at_ + 60 * sec else if far then s.now + (60000 - off) * ms else next),
      partial_ := s.sense.partial_ || (far && s.sense.nextClose.isSome), aligned := valid } }

/-- The minute is due to close. -/
def State.minuteDue (s : State) : Bool :=
  match s.sense.nextClose with
  | some a => decide (a ≤ s.now)
  | none =>
    let gone : Int := ((s.now - s.sense.minuteFrom) / ms : Nat)
    decide (Int.fdiv (s.calMs - gone) 60000 < Int.fdiv s.calMs 60000)

/-- MINUTE_CLOSE (R76): every 60 s, aligned to the calendar minute. -/
def execMinuteClose (t : Nat) (s : State) : Host.Outcome State Fault Refusal :=
  s.run t (fun s =>
    if !s.d4On ∨ !s.minuteDue then s
    else
      let at_ := s.sense.nextClose.getD s.now
      (s.closeMinute 0).scheduleClose at_)

/-! ### Recording totals and settings (R79, R259) -/

/-- Settings may be written now (R358). -/
def State.settingsTake (s : State) : Bool := decide (s.shed < 3) && s.d8On && s.storageUp

/-- The module's own persistent counters that run with time: recorded at most once per hour (R259). -/
def timeCounters : List Nat := [Pid.sysHours, Pid.sysTempDieMax]

/-- Operating hours and the highest temperature run on into their counters (R262). -/
def State.settleHours (s : State) : State :=
  let h := s.hoursOn
  let s := s.setI Pid.sysTempDieMax 0 s.dieTempMax
  if h = 0 then s
  else
    let s := s.bump Pid.sysHours 0 h
    { s with power := { s.power with hoursFrom := s.power.hoursFrom + h * 3600 * sec } }

/-- The newest settings generation that is not abandoned, a first one where there is none (R411). -/
def State.newestGeneration (s : State) : SettingsGeneration :=
  let gs := s.storage.generations
  (gs.find? (fun g => !g.abandoned)).getD
    ⟨((gs.head?).map (fun g => g.number)).getD 0 + 1, 1, s.p Pid.idFwBuild, 0, false, false, [], none⟩

/-- A settings generation is written: in place of the one of its number, or as the newest of 16 (R411). -/
def State.writeGeneration (s : State) (g : SettingsGeneration) : State :=
  let gs := s.storage.generations
  let gs := if gs.any (fun x => x.number == g.number) then gs.map (fun x => if x.number = g.number then g else x)
    else (g :: gs).take 16
  let s := { s with storage := { s.storage with generations := gs } }
  let s := ((s.setP Pid.sysSettingsGen 0 g.number).bump Pid.sysSettingsWrites)
  s.storeWrite (.pslc 3 (g.number % 16)) 16 .nothing

/-- Record elements by key in the active settings generation (R259). -/
def State.recordKeys (s : State) (keys : List Nat) : State :=
  let g := s.newestGeneration
  let values := keys.foldl (fun l k => Tab.place k (s.w (k / 65536) (k % 65536)) l) g.values
  s.writeGeneration { g with values := values }

/-- Record every marked element (R259). -/
def State.recordMarks (s : State) : State :=
  if s.marked.isEmpty then s
  else
    let keys := s.marked.map (fun m => m.1)
    ({ s with marked := [] }).recordKeys keys

/-- Record the energy totals with the newest block that they include (R79). -/
def State.recordTotals (s : State) : State :=
  let keys := (List.range 512).flatMap (fun c => [paramKey Pid.meterTotalMwhHi c, paramKey Pid.meterTotalMwhLo c])
  let g := s.newestGeneration
  let values := keys.foldl (fun l k => Tab.place k (s.w (k / 65536) (k % 65536)) l) g.values
  let s := s.writeGeneration { g with values := values, totals := s.sense.newest }
  { s with sense := { s.sense with recorded := s.sense.newest, totalsAt := some s.now } }

/-- SETTINGS_RECORD (R259): marked elements are recorded, and once per hour the counters that run with
time. -/
def execSettingsRecord (t : Nat) (s : State) : Host.Outcome State Fault Refusal :=
  s.run t (fun s =>
    if !s.settingsTake ∨ !(s.awake || s.power.flushing) then s
    else
      let hourly : Bool := match s.storage.countersAt with
        | some a => s.passed a (3600 * sec)
        | none => true
      let s := s.recordMarks
      if hourly then
        let s := (s.settleHours).recordKeys (timeCounters.map (fun i => paramKey i 0))
        { s with storage := { s.storage with countersAt := some s.now } }
      else s)

/-- METER_TOTALS_RECORD (R79): at most once per hour. -/
def execMeterTotalsRecord (t : Nat) (s : State) : Host.Outcome State Fault Refusal :=
  s.run t (fun s =>
    let due : Bool := match s.sense.totalsAt with
      | some a => s.passed a (3600 * sec)
      | none => true
    if s.settingsTake && (s.awake || s.power.flushing) && due then s.recordTotals else s)

/-- Buffered minute blocks go to the archive, oldest first (R78, R358); a wheeler archives none (R79). -/
def State.archiveMinutes (s : State) : State :=
  if !s.archiveTakes then s
  else
    let bs := s.sense.buffer
    let s := ({ s with sense := { s.sense with buffer := [] } }).setP Pid.meterBufferedMin 0 0
    bs.foldl State.archiveBlock s

/-- METER_TOTALS (R247). -/
def meterTotalsBody : Body := withLength 1 (fun q s =>
  let first := bits (nth q.payload 0) 31 16
  let count := bits (nth q.payload 0) 15 0
  if count = 0 ∨ 512 < first + count then refuse stRange 0 s
  else (.done (ok ((List.range count).flatMap (fun k =>
    [s.w Pid.meterTotalMwhHi (first + k), s.w Pid.meterTotalMwhLo (first + k)]))), s))

def execMeterTotals (t : Nat) (tr : Transport) (s : State) : Host.Outcome State Fault Refusal :=
  s.run t (fun s => s.onOpcode tr 0x62 .immediate meterTotalsBody)

/-! ### Restarts and power (R71, R79) -/

/-- A cold restart: accumulators, ĝ and d0 are reset (R71, R79). -/
def State.senseReset (s : State) : State :=
  { s with sense := { s.sense with
      channels := Tab.const { ChannelSense.fresh with zeroAt := s.now }, banks := s.sense.banks, minuteFrom := s.now, partial_ := false,
      nextClose := none, aligned := false, shedMax := s.shed, takeover := false, darkSince := none } }

/-- No limit of the loop holds any longer (R69). -/
def State.clearLimits (s : State) (ch : Nat) : State :=
  (s.modCs ch (fun k => { k with trimHit := false, dacHit := false, cardHit := false })).showLimit ch

/-- ĝ and d0 of a bank's channels are reset (R71). -/
def State.resetGains (s : State) (b : Nat) : State :=
  (bankChannels b).foldl (fun s c => ((s.setP Pid.snsGainEst c 16384).setP Pid.snsZeroDensity c 8192).clearLimits c) s

/-- A block was written after the one that a sequence number names: it follows in the numbering, which wraps
(R79). -/
def writtenAfter (r b : Nat × Nat) : Bool :=
  let d := (b.1 + 65536 - r.1) % 65536
  decide (0 < d ∧ d < 32768)

/-- After a cold restart the totals take in every block written after the recorded one; where that block itself is
gone, those at the end of the archive and the buffer that follow it in the numbering (R79). -/
def State.reloadTotals (s : State) : State :=
  let all := s.archivedBlocks ++ s.sense.buffer
  let after := match s.sense.recorded with
    | some r =>
      match all.findIdx? (fun (b : MinuteBlock) => (b.sequence, b.close) == r) with
      | some i => all.drop (i + 1)
      | none => (all.reverse.takeWhile (fun (b : MinuteBlock) => writtenAfter r (b.sequence, b.close))).reverse
    | none => all
  after.foldl (fun (s : State) (b : MinuteBlock) => (List.range 512).foldl (fun (s : State) (c : Nat) =>
    let sum := s.p Pid.meterTotalMwhHi c * 2 ^ 32 + s.p Pid.meterTotalMwhLo c + (nth (b.channels.getD c []) 0).toNat
    (s.setP Pid.meterTotalMwhHi c (sum / 2 ^ 32)).setP Pid.meterTotalMwhLo c sum) s) s

/-- D4 goes off (R79): the minute in progress closes as a partial block and none is produced. -/
def State.senseDark (s : State) : State :=
  if s.sense.darkSince.isSome then s
  else
    let s := s.closeMinute 1
    { s with sense := { s.sense with darkSince := some s.now } }

/-- D4 comes back: blocks of zero energy span the dark interval, at most 2³² − 1 ms each (R79). -/
def State.senseLight (s : State) : State :=
  match s.sense.darkSince with
  | none => s
  | some a =>
    let span := (s.now - a) / ms
    let n := divUp (max 1 span) 4294967295
    let late := if s.p Pid.timeQuality = 4 then 64 else 0
    let zero := (List.range 512).map (fun c =>
      [(0 : Word), 0, 0, word (128 * 2 ^ 24 + s.p Pid.diagState c % 256 * 65536 + (1 ||| late ||| s.classFlag c))])
    let close := s.clockSec
    let s := (List.range (min n 20)).foldl (fun s i =>
      let dur := if i + 1 = n then span - i * 4294967295 else 4294967295
      let seq := s.sense.sequence
      let s := { s with sense := { s.sense with sequence := (seq + 1) % 65536, newest := some (seq, close) } }
      s.bufferBlock ⟨seq, close, dur, blockHeader close dur (s.p Pid.timeQuality) s.shed seq, zero⟩) s
    { s with sense := { s.sense with
      darkSince := none, minuteFrom := s.now, shedMax := s.shed
      banks := ⟨{ s.sense.banks.dflt with closedTo := s.now }, s.sense.banks.cells.map (fun x => (x.1, { x.2 with closedTo := s.now }))⟩ } }

end Sys2Proof.Machine
end

