-- ==== Sys2Proof/Machine/Diag.lean ====
section
/-! DEFINITION.  Lamp diagnosis and thermal derating (R82 to R103): windows, evidence, verdicts, baselines,
proving grants, the card-fault state and the derating factor. -/

namespace Sys2Proof.Machine

open Sys2Proof

/-! ### Windows (R83, R97) -/

/-- The proving window W of a team in spine steps. -/
def State.proveWindow (s : State) (t : Nat) : Nat := s.p Pid.diagProveWindowS t * sec

/-- The instant a channel's timers stand at: now, or the instant it paused. -/
def State.windowNow (s : State) (ch : Nat) : Nat := ((s.cg ch).pausedAt).getD s.now

/-- The instant the channel's window began: not before the first commit (R98). -/
def State.windowStart (s : State) (ch : Nat) : Nat := max (s.cg ch).windowFrom (s.diag.started.getD s.now)

/-- The elapsed time of a channel's window. -/
def State.windowElapsed (s : State) (ch : Nat) : Nat := s.windowNow ch - s.windowStart ch

/-- The channel's last evidence is older than its window, or it has none (R83). -/
def State.evidenceStale (s : State) (ch t : Nat) : Bool :=
  match (s.cg ch).agedFrom with
  | some a => decide (s.proveWindow t < s.windowNow ch - a)
  | none => true

/-! ### Causes and verdicts (R82, R87, R90, R103) -/

/-- The bank is in the card-fault state (R88). -/
def State.inCardFault (s : State) (b : Nat) : Bool := s.diag.cardFault.get b

/-- diag.cause of a channel with the bits that follow the present state; dark and budget are kept
(R86, R88, R89, R91, R97). -/
def State.causeOf (s : State) (ch t : Nat) : Nat :=
  let b := ch / 32
  let card := s.p Pid.harnessState b != 4 || s.inCardFault b
  let unproven := s.p Pid.diagState ch == 0
  let c := s.p Pid.diagCause ch &&& 6
  let c := putBit c 6 (s.p Pid.diagVfRefMv ch == 0)
  -- D4 was off, and no evidence has come since
  let c := putBit c 5 (!s.d4On || (s.flagOf Pid.diagCause ch 5 && unproven && (s.cg ch).agedFrom.isNone))
  let c := putBit c 4 card
  let c := putBit c 3 (!card && s.streamInvalid ch)
  putBit c 0 (unproven && s.p Pid.diagPolicy t == 2)

/-- Show the cause bits of a channel. -/
def State.showCause (s : State) (ch t : Nat) : State := s.setP Pid.diagCause ch (s.causeOf ch t)

/-- The module records verdicts: not a wheeler (R98). -/
def State.verdictRecord (s : State) (code a b : Nat) : State := if s.wheeler then s else s.raise code a b

/-- A channel's verdict becomes `v` (R82, R83, R90). -/
def State.setVerdict (s : State) (ch t v : Nat) : State :=
  let old := s.p Pid.diagState ch
  if old = v then s
  else
    let s := if v = 0 then s.setP Pid.diagLastVerdict ch old else s
    let s := (s.setP Pid.diagState ch v).modCg ch (fun g => { g with run := none })
    let s := s.showCause ch t
    match v with
    | 0 => s.verdictRecord 0x11 ch (s.p Pid.diagCause ch)
    | 1 => s.verdictRecord 0x12 ch 0
    | 2 => s.verdictRecord 0x10 ch 0
    | _ => s.verdictRecord 0x0F ch v

/-- A classification arrives (R87). -/
def State.advanceVerdict (s : State) (ch t v : Nat) (byMark : Bool) : State :=
  let old := s.p Pid.diagState ch
  if byMark ∨ (old = 0 ∧ v = 1) then (s.setVerdict ch t v).modCg ch (fun g => { g with run := none })
  else if v = old then s.modCg ch (fun g => { g with run := none })
  else
    let n := match (s.cg ch).run with
      | some (c, k) => if c = v then k + 1 else 1
      | none => 1
    if s.p Pid.diagConfirm (ch / 32) ≤ n then s.setVerdict ch t v
    else s.modCg ch (fun g => { g with run := some (v, n) })

/-- Evidence of R83 has come for a channel; its age begins where the window's timer stands (R97). -/
def State.evidenceNow (s : State) (ch : Nat) : State :=
  s.modCg ch (fun g => { g with evidence := some s.now, agedFrom := some (s.windowNow ch) })

/-- A channel's window and the age of its evidence take their effect (R83, R89, R91). -/
def State.expireWindow (s : State) (ch t : Nat) : State :=
  let w := s.proveWindow t
  let e := s.windowElapsed ch
  let s := if w ≤ e then
      s.modCg ch (fun g => { g with windowFrom := s.windowStart ch + e / w * w, inWindow := false })
    else s
  let v := s.p Pid.diagState ch
  if 1 ≤ v ∧ v ≤ 4 ∧ s.evidenceStale ch t then s.setVerdict ch t 0 else s.showCause ch t

/-- PROVING_WINDOW_EXPIRY (R83). -/
def execProvingWindowExpiry (t ch : Nat) (s : State) : Host.Outcome State Fault Refusal :=
  s.run t (fun s =>
    match s.teamAt ch with
    | some team => if ch < 512 then s.expireWindow ch team else s
    | none => s)

/-! ### Evidence (R84 to R86) -/

/-- What a valid readback tells of one lane: forward voltage in mV, the lamp temperature that R86 takes, and
the card's marks while its stage is enabled. -/
structure LaneReading where
  mv : Option Nat
  theta : Option Int
  openMark : Bool
  shortMark : Bool
  deriving DecidableEq, Repr

/-- V_exp at a lamp temperature (R86). -/
def State.expectedMv (s : State) (ch t : Nat) (theta : Int) : Q :=
  -- c in ppm per °C, temperatures in 0.01 °C
  let d := theta - s.pI Pid.diagVfRefTemp ch
  (Q.ofNat (s.p Pid.diagVfRefMv ch)).mul (Q.one.add (Q.mk' (s.pI Pid.diagVfTcPpm t * d) 100000000))

/-- The interval closed last is an evidence set of the channel (R84): the amplitude of its qualifying
pulse. -/
def State.evidenceSet (s : State) (ch : Nat) (x : LaneReading) : Option Nat :=
  let b := ch / 32
  let k := s.cs ch
  if k.lastInvalid || x.mv.isNone || (s.bd b).test || s.inCardFault b || decide (k.last.on = 0) then none
  else k.last.qualifying

/-- I_on of the interval closed last, in µA. -/
def State.onCurrent (s : State) (ch : Nat) : Q :=
  let k := s.cs ch
  (k.charge.scale 800).over_ k.last.on

/-- Row of R85 for an evidence set, with the voltage terms or without them. -/
def State.classify (s : State) (ch t a : Nat) (x : LaneReading) (voltage : Bool) : Nat :=
  let b := ch / 32
  let iexp := Q.mk' (s.p Pid.snsIafsUa b * a) 4095
  let mv := Q.ofNat (x.mv.getD 0)
  let vexp := s.expectedMv ch t (x.theta.getD 0)
  let use := voltage && x.theta.isSome && s.p Pid.diagVfRefMv ch != 0
  if x.openMark || (s.onCurrent ch).lt ((iexp.scale (s.p Pid.diagOpenPct b)).over_ 10000) then 3
  else if x.shortMark || (use && mv.lt ((vexp.scale (s.p Pid.diagShortPct b)).over_ 10000)) then 4
  else if (use && ((vexp.scale (s.p Pid.diagDegradePct b)).over_ 10000).lt (mv.sub vexp).abs) ||
      decide (2 ≤ s.p Pid.snsLoopLimit ch) then 2
  else 1

/-- The baseline gathers a set; the sixteenth fixes it (R86). -/
def State.learnBaseline (s : State) (ch mv : Nat) (theta : Int) : State :=
  let g := s.cg ch
  let n := g.learned + 1
  let v := g.sumV + mv
  let th := g.sumT + theta
  if n < 16 then s.modCg ch (fun g => { g with learned := n, sumV := v, sumT := th })
  else
    let s := (s.setP Pid.diagVfRefMv ch (divRound v 16)).setI Pid.diagVfRefTemp ch (divRoundI th 16)
    s.modCg ch (fun g => { g with learned := 0, sumV := 0, sumT := 0, vfSet := false })

/-- A valid readback's word on one channel: marks and evidence (R83 to R88). -/
def State.takeEvidence (s : State) (ch : Nat) (x : LaneReading) : State :=
  match s.teamAt ch with
  | none => s
  | some t =>
    let b := ch / 32
    -- R97: no evidence under rung 3, nor under rung 1 at a low mask bit
    if (s.bd b).test || (s.rung1 b && !(s.p Pid.drvEmltMask b).testBit (ch % 32)) then s
    else match s.evidenceSet ch x with
      | some a =>
        let v := s.classify ch t a x true
        let plain := s.classify ch t a x false
        let s := (s.evidenceNow ch).modCg ch (fun g => { g with inWindow := true })
        let s := s.setI Pid.diagLastIOnUa ch (satS32 (s.onCurrent ch).round)
        let s := match x.mv, x.theta with
          | some mv, some th => if s.p Pid.diagVfRefMv ch = 0 ∧ plain = 1 then s.learnBaseline ch mv th else s
          | _, _ => s
        (s.advanceVerdict ch t v (x.openMark || (v == 4 && x.shortMark))).showCause ch t
      | none =>
        if x.openMark || x.shortMark then
          ((s.evidenceNow ch).advanceVerdict ch t (if x.openMark then 3 else 4) true).showCause ch t
        else s

/-- V_ref and θ_ref of a bank's channels are cleared for a card with a new serial (R71, R86). -/
def State.clearBaselines (s : State) (b : Nat) : State :=
  (bankChannels b).foldl (fun s c =>
    ((s.setP Pid.diagVfRefMv c 0).setP Pid.diagVfRefTemp c 0).modCg c (fun g =>
      { g with learned := 0, sumV := 0, sumT := 0, vfSet := false })) s

/-- A SET of diag.vf_ref_mv: a non-zero value installs with the present lamp temperature, 0 relearns
(R86). -/
def State.vfRefWritten (s : State) (ch : Nat) : State :=
  let s := s.modCg ch (fun g => { g with learned := 0, sumV := 0, sumT := 0, vfSet := true })
  if s.p Pid.diagVfRefMv ch = 0 then s.setP Pid.diagVfRefTemp ch 0 else s.setI Pid.diagVfRefTemp ch (s.pI Pid.snsLampTemp ch)

/-! ### The card-fault state (R88) -/

/-- CARD_FAULT_STATE (R88): FLTn_N has stayed low for 10 ms and the card's status marks no lane or cannot be
read. -/
def execCardFaultState (t bank : Nat) (s : State) : Host.Outcome State Fault Refusal :=
  s.run t (fun s =>
    let h := s.bh bank
    let marks := s.p Pid.harnessLaneOpen bank ||| s.p Pid.harnessLaneShort bank ||| s.p Pid.harnessLaneClimit bank
    if 16 ≤ bank ∨ s.p Pid.harnessState bank ≠ 4 ∨ h.fltHigh ∨ !s.passed h.fltSince (10 * ms) ∨ s.inCardFault bank ∨
        (marks ≠ 0 ∧ h.missed = 0) ∨ !s.d4On then s
    else
      let s := { s with diag := { s.diag with cardFault := s.diag.cardFault.set bank true } }
      let s := (bankChannels bank).foldl (fun s c =>
        match s.teamAt c with
        | some team => ((s.modCg c (fun g => { g with grant := none })).setVerdict c team 0).showCause c team
        | none => s) s
      s.raise 0x17 bank 0)

/-- FLTn_N is high again: the state ends, and evidence, proving and windows start again (R88). -/
def State.endCardFault (s : State) (b : Nat) : State :=
  if s.inCardFault b then
    let s := { s with diag := { s.diag with cardFault := s.diag.cardFault.set b false } }
    (bankChannels b).foldl (fun s c => s.modCg c (fun g => { g with windowFrom := s.now, inWindow := false })) s
  else s

/-! ### Grants (R91 to R96) -/

/-- The amplitude that R40 gives a channel of a team at a steady fraction. -/
def State.ampAt (s : State) (ch t f : Nat) : Nat :=
  match (s.cd ch).mode with
  | 0 => s.p Pid.drvPwmAmp t
  | 1 => ampRound f
  | _ => max (s.codeX t) (ampUp f)

/-- The channel's fraction when the team's fade ends (R92). -/
def State.fadeEndFraction (s : State) (ch t : Nat) : Nat :=
  let glide := match (s.cd ch).glide with
    | some g => g.steps - g.step
    | none => 0
  let k := max ((s.td t).steps - (s.td t).step) glide
  ((s.fractionsAt t k).getD (ch - t) 0)

/-- x of R92 with 16 fractional bits: the on-time under R41 of a fraction at an amplitude; in amplitude-only mode
the whole period while the amplitude is above 0 (R40). -/
def State.onAt (s : State) (ch f a : Nat) : Nat :=
  let n := (s.bd (ch / 32)).period
  if (s.cd ch).mode = 1 then (if a = 0 then 0 else n * 65536) else (exactOn f a n).1

/-- x at the channel's present fraction: against the amplitude in force, or the one that R40 gives where none is
(R41, R92). -/
def State.onNowAt (s : State) (ch t f : Nat) : Nat :=
  let a := s.p Pid.drvOutAmp ch
  s.onAt ch f (if a = 0 ∨ (s.cd ch).mode = 1 then s.ampAt ch t f else a)

/-- The channel's verdict needs evidence (R94). -/
def State.needsEvidence (s : State) (ch : Nat) : Bool := !(s.cg ch).inWindow || (s.cg ch).run.isSome

/-- consider_grant(ch) of R94, at a commit of a single module or a lead. -/
def State.considerGrant (s : State) (ch t : Nat) : State :=
  let b := ch / 32
  let g := s.cg ch
  let policy := s.p Pid.diagPolicy t
  let dark := fun (s : State) (x : Bool) => s.setFlag Pid.diagCause ch 1 x
  let budget := fun (s : State) (x : Bool) => s.setFlag Pid.diagCause ch 2 x
  -- a channel that emits is not at level zero (R96, R103)
  let s := if s.p Pid.drvOutFrac ch = 0 then s else dark s false
  if policy = 2 then budget (dark s false) false
  else if s.bankHeld b ∨ s.inCardFault b ∨ !s.d4On ∨ !s.needsEvidence ch ∨ g.debt ∨ g.grant.isSome then s
  else
    let f0 := s.p Pid.drvOutFrac ch
    let f1 := s.fadeEndFraction ch t
    let w := s.proveWindow t
    let left := w - s.windowElapsed ch
    let from_ := s.now + s.p Pid.progCycleMs * ms
    let p := s.proveWidth b * 65536
    -- in amplitude-only mode a code of 0 is level zero (R51)
    let zero := fun (f : Nat) => if (s.cd ch).mode = 1 then decide (ampRound f = 0) else decide (f = 0)
    if zero f0 && zero f1 then
      if policy ≠ 1 then dark s true
      else
        let s := dark s false
        if s.windowElapsed ch + sec < w then s else s.modCg ch (fun g => { g with grant := some ⟨from_, true⟩ })
    else
      let s := dark s false
      let x := min (s.onNowAt ch t f0) (s.onAt ch f1 (s.ampAt ch t f1))
      if p ≤ x then budget s false
      else if x * (left / (s.bd b).period) < p then budget s true
      else (budget s false).modCg ch (fun g => { g with grant := some ⟨from_, false⟩ })

/-- What a commit does for diagnosis: windows run, causes show, and a single module or a lead considers its
grants (R91 to R98). -/
def State.diagCommit (s : State) : State :=
  let s := if s.diag.started.isNone then { s with diag := { s.diag with started := some s.now } } else s
  (List.range 512).foldl (fun s ch =>
    match s.teamAt ch with
    | none => s
    | some t =>
      let s := s.expireWindow ch t
      if s.wheeler then s else s.considerGrant ch t) s

/-- D4 goes off: every channel is unproven with the power bit; grants and debts are discarded (R97, R98). -/
def State.diagDark (s : State) : State :=
  (List.range 512).foldl (fun s ch =>
    match s.teamAt ch with
    | none => s
    | some t =>
      let s := s.modCg ch (fun g => { g with grant := none, debt := false, windowFrom := s.now, inWindow := false, agedFrom := none })
      (s.setVerdict ch t 0).showCause ch t) s

/-! ### Derating (R99 to R101) -/

/-- The derating target at a temperature in 0.01 °C, and whether θ has reached derate_off_c and is not yet 5 °C below
it (R99). -/
def State.derateFormula (s : State) (t : Nat) (theta : Int) : Nat × Bool :=
  let off := s.pI Pid.diagDerateOffC t
  let hot := (s.diag.teams.get t).hot
  if off ≠ 0 ∧ (off ≤ theta ∨ (hot ∧ off - 500 ≤ theta)) then (0, true)
  else
    let d := divRoundI (32768 * (s.p Pid.diagDerateSlope t : Int) * (theta - s.pI Pid.diagDerateKneeC t)) 1000000
    ((clampI (s.p Pid.diagDerateFloor t) 32768 (32768 - d)).toNat, false)

def State.modDt (s : State) (t : Nat) (f : TeamDiag → TeamDiag) : State :=
  { s with diag := { s.diag with teams := s.diag.teams.modify t f } }

/-- The derating target becomes `n` (R99). -/
def State.derateTarget (s : State) (t n : Nat) : State :=
  let old := (s.diag.teams.get t).target
  let s := s.modDt t (fun k => { k with target := n })
  let s := s.setFlag Pid.diagDerateStatus t 1 (n == 0)
  if n = 0 ∧ old ≠ 0 then s.raise 0x14 t 0 else s

/-- A valid temperature of the team has come (R99, R100). -/
def State.derateTemp (s : State) (t : Nat) (theta : Int) : State :=
  let s := s.setI Pid.diagTeamTemp t theta
  let x := s.derateFormula t theta
  let s := s.modDt t (fun k => { k with tempAt := some s.now, hot := x.2 })
  (s.setFlag Pid.diagDerateStatus t 2 false).derateTarget t x.1

/-- f moves towards its target by one scan (R100); a wheeler takes the lead's factor (R101). -/
def State.derateStep (s : State) (t : Nat) : State :=
  if s.wheeler then s
  else
    let f := s.p Pid.diagDerateFactor t
    let n := (s.diag.teams.get t).target
    let f' := if n = 0 then 0 else if n < f then max n (f - 4) else min n (f + 1)
    let s := if f' = f then s else s.setP Pid.diagDerateFactor t f'
    let s := s.setFlag Pid.diagDerateStatus t 0 (decide (f' < 32768))
    if f = 32768 ∧ f' < 32768 then s.raise 0x13 t 0 else s

/-- DERATE_BLIND (R100): 10 s without a valid temperature of the team. -/
def execDerateBlind (t team : Nat) (s : State) : Host.Outcome State Fault Refusal :=
  s.run t (fun s =>
    let k := s.diag.teams.get team
    if 512 ≤ team ∨ (s.td team).size = 0 ∨ !s.passed (k.tempAt.getD (max k.since s.coldAt)) (10 * sec) then s
    else
      let blind := s.p Pid.diagDerateBlind team
      let n := if k.tempAt.isSome then min blind (s.derateFormula team (s.pI Pid.diagTeamTemp team)).1 else blind
      (s.setFlag Pid.diagDerateStatus team 2 true).derateTarget team n)

end Sys2Proof.Machine
end

