-- ==== Sys2Proof/Machine/Trim.lean ====
section
/-! DEFINITION.  What feeds the colour stage: the filtered lamp temperature (R107, R108), sensor words
(R115), calibration (R116), sensor trims (R117), and the writes of colour parameters (R105, R109). -/

namespace Sys2Proof.Machine

open Sys2Proof

/-! ### Filtered lamp temperature (R107, R119) -/

/-- A temperature of 0.01 °C reaches the filter of a channel; held from shed step 2 on (R119). -/
def State.filterTemp (s : State) (ch : Nat) (theta : Int) : State :=
  let x := theta * 4294967296
  let tau : Int := s.p Pid.colourTempTauMs (ch / 32)
  if 2 ≤ s.shed then s
  else s.modCc ch (fun k => { k with
    theta := some (match k.theta with
      | some f => f + divRoundI (x - f) tau
      | none => x) })

/-- A valid temperature of the team has come: no_temp clears (R107). -/
def State.teamTemp (s : State) (t : Nat) : State :=
  (s.setFlag Pid.colourStatus t 0 false).modTc t (fun k => { k with tempAt := s.now })

/-- NO_TEMP_TIMEOUT (R107): 10 s without a valid temperature of the team; θ_f holds. -/
def execNoTempTimeout (t team : Nat) (s : State) : Host.Outcome State Fault Refusal :=
  s.run t (fun s =>
    if 512 ≤ team ∨ (s.td team).size = 0 ∨ !s.passed (max (s.tc team).tempAt s.coldAt) (10 * sec) then s
    else s.setFlag Pid.colourStatus team 0 true)

/-- The size of a team under the definition that this cycle's commit carries (R50). -/
def State.comingSize (s : State) (t : Nat) : Nat :=
  let d := s.td t
  match d.newSize, d.commitSize with
  | some n, _ => n
  | none, some n => n
  | none, none => d.size

/-- What the commit latches for the next period start: θ_f, trims, method and Y_ref (R105, R108, R109), with the
shown values.  Y_ref is that of the composition which the commit brings. -/
def State.latchColour (s : State) : State :=
  let s := (List.range 512).foldl (fun s c =>
    match s.teamAt c with
    | none => s
    | some _ =>
      let th := ((s.cc c).theta).getD (s.cc c).latchedNext
      let s := s.modCc c (fun k => { k with latchedNext := th, trimNext := s.p Pid.colourTrim c })
      let s := s.setI Pid.colourTempFilt c (satS16 (divRoundI th 4294967296))
      s.setP Pid.colourFluxFactor c (min 65535 ((((s.lampAt c th).k).scale 32768).round).toNat)) s
  (List.range 512).foldl (fun s t =>
    let n := s.comingSize t
    let s := s.modTd t (fun d => { d with methodNext := s.p Pid.colourMethod t })
    if n = 0 ∨ (!(s.tc t).yDirty ∧ (s.td t).yRef.isSome ∧ n = (s.td t).size) then s
    else s.modTc t (fun k => { k with yDirty := false, yNext := some (s.computeYRef t n) })) s

/-! ### Sensor words (R115) -/

/-- A colour record of a lane: it becomes the team's sensor word, or is discarded (R115). -/
def State.sensorWord (s : State) (x : SensorWord) : State × Bool :=
  match s.teamAt x.lane with
  | none => (s, false)
  | some t =>
    match (s.tc t).sensor with
    | some old => if old.lane < x.lane then (s, false) else (s.modTc t (fun k => { k with sensor := some x }), true)
    | none => (s.modTc t (fun k => { k with sensor := some x }), true)

/-! ### Trim updates (R116, R117) -/

/-- The sensor word is valid and young enough (R115, R117). -/
def State.sensorFresh (s : State) (t : Nat) : Bool :=
  match (s.tc t).sensor with
  | some x => !x.fault && decide (x.x ≠ 0 ∨ x.y ≠ 0 ∨ x.z ≠ 0) &&
      decide ((s.now : Int) - x.ref < (s.p Pid.colourSensorMaxAgeMs * ms : Nat))
  | none => false

/-- The conditions of R117. -/
def State.trimConditions (s : State) (t : Nat) : Bool :=
  let d := s.td t
  let r := s.teamRung t
  decide (2 ≤ d.method) && !d.faded && !s.fading t && !s.resumes t &&
    decide (fractionOf (s.p Pid.colourSensorMinLevel t) ≤ d.lam) && s.sensorFresh t && s.derate t == 32768 &&
    !s.bankHeld (t / 32) && s.bankPowered (t / 32) && decide (r ≠ 6) && !s.wheeler && s.awake && decide (s.shed < 2)

/-- Tristimulus components of a vector. -/
def xyzList (v : Q × Q × Q) : List Q := [v.1, v.2.1, v.2.2]

/-- The sum of tristimulus vectors weighted by amounts. -/
def mixXyz (ls : List Lamp) (w : List Q) : Q × Q × Q :=
  let vs := (ls.zip w).map (fun x => (x.1.xyz, x.2))
  (Q.sum (vs.map (fun v => v.1.1.mul v.2)), Q.sum (vs.map (fun v => v.1.2.1.mul v.2)), Q.sum (vs.map (fun v => v.1.2.2.mul v.2)))

/-- The inner product of two vectors. -/
def dot3 (a b : Q × Q × Q) : Q := ((a.1.mul b.1).add (a.2.1.mul b.2.1)).add (a.2.2.mul b.2.2)

/-- The least-squares change of amounts for a difference of tristimulus values (R117): one channel from Y
alone, two by the normal equations, three exactly, four with the white lane at 0; none where the matrix
has no inverse. -/
def leastSquares (ls : List Lamp) (white : Nat) (d : Q × Q × Q) : Option (List Q) :=
  let three := fun (a b c : Lamp) =>
    if (det3 a.xyz b.xyz c.xyz).num = 0 then none else some (solve3 a.xyz b.xyz c.xyz d)
  match ls with
  | [a] => some [d.2.1.div a.flux]
  | [a, b] =>
    let aa := dot3 a.xyz a.xyz
    let bb := dot3 b.xyz b.xyz
    let ab := dot3 a.xyz b.xyz
    let ad := dot3 a.xyz d
    let bd := dot3 b.xyz d
    let det := (aa.mul bb).sub (ab.mul ab)
    if det.num = 0 then none
    else some [((bb.mul ad).sub (ab.mul bd)).div det, ((aa.mul bd).sub (ab.mul ad)).div det]
  | [a, b, c] => three a b c
  | [_, _, _, _] =>
    match ls.eraseIdx white with
    | [a, b, c] => (three a b c).map (fun l => l.insertIdx white Q.zero)
    | _ => none
  | _ => none

/-- A free quotient between −1 and 1 for what R117 leaves without a value. -/
def State.drawShare (s : State) : Q × State :=
  let x := s.drawWord
  (Q.mk' x.1.toInt 2147483648, x.2)

/-- The stage's amounts with trims and scaling, before the derating factor (R110, R112). -/
def State.trimmedAmounts (s : State) (t : Nat) : List Q :=
  let w := ((s.untrimmed t).zip (s.chansOf t)).map (fun x =>
    if s.trims t then (x.1.scale (s.cc x.2).trim).over_ 32768 else x.1)
  let m := Q.maxOf w
  if Q.one.lt m then w.map (fun x => x.div m) else w

/-- One channel's trim at an update: the change in amount over the amount, halved and held to the step, then
to the limit; whether the limit held it (R117). -/
def State.trimChannel (s : State) (t ch : Nat) (dw w : Option Q) : State × Bool :=
  let r : Q × State := match dw, w with
    | some a, some b => if b.num = 0 then s.drawShare else ((a.div b).over_ 2, s)
    | _, _ => s.drawShare
  let s := r.2
  let step := Q.mk' (s.p Pid.colourTrimStep t) 10000
  let d := r.1.clamp step.neg step
  let new := ((Q.one.add d).scale (s.p Pid.colourTrim ch)).round
  let lim : Int := 32768 * s.p Pid.colourTrimLimit t / 10000
  let held := clampI (32768 - lim) (32768 + lim) new
  (s.setI Pid.colourTrim ch held, held != new)

/-- A trim update (R117). -/
def State.trimUpdate (s : State) (t : Nat) (x : SensorWord) : State :=
  let ls := s.stageLamps t
  let gain := fun (i v : Nat) => Q.mk' (s.p Pid.colourSensorGain (3 * t + i) * v) 65536
  let meas := [gain 0 x.x, gain 1 x.y, gain 2 x.z]
  let want := xyzList (mixXyz ls (s.untrimmed t))
  let d := (want.zip meas).map (fun v => v.1.sub v.2)
  let dw := leastSquares ls (s.p Pid.colourWLane t) (Q.at_ d 0, Q.at_ d 1, Q.at_ d 2)
  let w := s.trimmedAmounts t
  let r := (List.range (s.chansOf t).length).foldl (fun (acc : State × Bool) i =>
    let y := acc.1.trimChannel t (t + i) (dw.bind (fun l => l[i]?)) w[i]?
    (y.1, acc.2 || y.2)) (s, false)
  let s := r.1.setFlag Pid.colourStatus t 2 r.2
  s.modTc t (fun k => { k with
    limitedSince := if r.2 then some (k.limitedSince.getD s.now) else none, limitedTold := k.limitedTold && r.2 })

/-- An armed calibration stores the team's sensor gains (R116): a reading of 0 has no stated gain. -/
def State.calibrate (s : State) (t : Nat) (x : SensorWord) : State :=
  let model := xyzList (mixXyz (s.stageLamps t) (s.trimmedAmounts t))
  let readings := [x.x, x.y, x.z]
  let s := (List.range 3).foldl (fun s i =>
    let r := readings.getD i 0
    if r = 0 then
      let f := s.drawWord
      f.2.setW Pid.colourSensorGain (3 * t + i) f.1
    else s.setP Pid.colourSensorGain (3 * t + i) (satU32 ((((Q.at_ model i).scale 65536).over_ r).round).toNat)) s
  let s := (List.range 3).foldl (fun s i => s.mark Pid.colourSensorGain (3 * t + i)) s
  s.setP Pid.colourSensorCal t 0

/-- A trim opportunity is due: once per colour.trim_period_s (R117), and after a new lead's first full
period (R120). -/
def State.trimDue (s : State) (t : Nat) : Bool :=
  let p := s.p Pid.colourTrimPeriodS t * sec
  s.passed s.colour.holdTrims p && (match (s.tc t).trimAt with
    | some a => s.passed a p
    | none => true)

/-- TRIM_UPDATE (R116, R117): the team's trim opportunity. -/
def execTrimUpdate (t team : Nat) (s : State) : Host.Outcome State Fault Refusal :=
  s.run t (fun s =>
    if 512 ≤ team ∨ (s.td team).size = 0 ∨ !s.trimDue team then s
    else
      let good := s.trimConditions team
      let s := (s.modTc team (fun k => { k with trimAt := some s.now })).modTd team (fun d => { d with faded := s.fading team })
      match (s.tc team).sensor with
      | some x =>
        if !good then s.setFlag Pid.colourStatus team 1 true
        else if s.pB Pid.colourSensorCal team then (s.calibrate team x).setFlag Pid.colourStatus team 1 false
        else if (List.range 3).any (fun i => s.p Pid.colourSensorGain (3 * team + i) == 0) then
          s.setFlag Pid.colourStatus team 1 true
        else (s.trimUpdate team x).setFlag Pid.colourStatus team 1 false
      | none => s.setFlag Pid.colourStatus team 1 true)

/-- TRIM_LIMITED_WARNING (R117): 10 min trim_limited. -/
def execTrimLimitedWarning (t team : Nat) (s : State) : Host.Outcome State Fault Refusal :=
  s.run t (fun s =>
    match (s.tc team).limitedSince with
    | some a =>
      if team < 512 ∧ !(s.tc team).limitedTold ∧ s.passed a (600 * sec) then
        (s.modTc team (fun k => { k with limitedTold := true })).raise 0x16 team 0
      else s
    | none => s)

/-! ### Writes of colour parameters (R105, R109) -/

/-- A SET of colour.method is applied at the boundary: methods 0 and 1 set the team's trims to 1 (R105). -/
def State.methodWritten (s : State) (t : Nat) : State :=
  if 2 ≤ s.p Pid.colourMethod t then s
  else (List.range (s.p Pid.drvTeamSize t)).foldl (fun s k => s.setP Pid.colourTrim (t + k) 32768) s

/-- An input of the team's Y_ref has changed (R109). -/
def State.fluxDirty (s : State) (t : Nat) : State := s.modTc t (fun k => { k with yDirty := true })

/-- A channel's flux or profile has changed (R109). -/
def State.channelFluxWritten (s : State) (ch : Nat) : State :=
  match s.teamAt ch with
  | some t => s.fluxDirty t
  | none => s

/-- A point of a profile has changed: every team that names it (R109). -/
def State.profileWritten (s : State) (profile : Nat) : State :=
  (List.range 512).foldl (fun s c => if s.p Pid.colourProfile c = profile then s.channelFluxWritten c else s) s

/-- Colour tuning freezes at shed step 2 (R119). -/
def State.freezeColours (s : State) : State :=
  (List.range 512).foldl (fun s t => if (s.td t).size = 0 then s else s.setFlag Pid.colourStatus t 6 true) s

/-- The shed step falls below 2: every team fades to the colour held back (R119). -/
def State.unfreezeColours (s : State) : State :=
  (List.range 512).foldl (fun s t =>
    if (s.td t).size = 0 then s else (s.setFlag Pid.colourStatus t 6 false).releaseColour t) s

end Sys2Proof.Machine
end

