-- ==== Sys2Proof/Machine/LinkTest.lean ====
section
/-! DEFINITION.  Link tests (R467 to R475): checkers, TEST_START, TEST_READ, TEST_STOP and what ends or
feeds a test. -/

namespace Sys2Proof.Machine

open Sys2Proof

/-! ### Checkers (R469) -/

/-- What one received bit counted: bits, bit errors, word errors, sync losses. -/
structure Counted where
  bits : Nat
  errors : Nat
  words : Nat
  losses : Nat
  deriving DecidableEq, Repr

/-- One bit received while searching. -/
def Checker.search (pattern : Nat) (user : Word) (c : Checker) (b : Bool) : Checker :=
  if pattern = 4 then
    let reg := shiftIn 32 c.reg b
    let k := (c.seen + 1) % 32
    let runs := if c.runs.isEmpty then List.replicate 32 0 else c.runs
    let r := if 32 ≤ c.seen + 1 ∧ reg = user.toNat then runs.getD k 0 + 1 else 0
    if 4 ≤ r then { Checker.fresh with synced := true, reg := reg }
    else { c with reg := reg, seen := c.seen + 1, runs := runs.set k r }
  else
    let t := prbsTaps pattern
    if c.loaded < t.1 then { c with reg := shiftIn t.1 c.reg b, loaded := c.loaded + 1, matched := 0 }
    else
      let p := prbsNext t.1 t.2 c.reg
      if p = b then
        let reg := shiftIn t.1 c.reg p
        if 64 ≤ c.matched + 1 then { Checker.fresh with synced := true, reg := reg }
        else { c with reg := reg, matched := c.matched + 1 }
      else Checker.fresh

/-- The bit a synchronised checker expects, and its register after it. -/
def Checker.expect (pattern : Nat) (user : Word) (c : Checker) : Bool × Nat :=
  if pattern = 4 then (bit user (31 - c.since % 32), c.reg)
  else
    let t := prbsTaps pattern
    let p := prbsNext t.1 t.2 c.reg
    (p, shiftIn t.1 c.reg p)

/-- One received bit. -/
def Checker.step (pattern : Nat) (user : Word) (c : Checker) (b : Bool) : Checker × Counted :=
  if !c.synced then (c.search pattern user b, ⟨0, 0, 0, 0⟩)
  else
    let e := c.expect pattern user
    let wrong := e.1 != b
    let blockErrors := (if c.since % 1024 = 0 then 0 else c.blockErrors) + flag wrong
    let group := c.since % 32 ≠ 0 && c.groupError
    let n : Counted := ⟨1, flag wrong, flag (wrong && !group), 0⟩
    if 100 < blockErrors then (Checker.fresh, { n with losses := 1 })
    else ({ c with reg := e.2, since := c.since + 1, blockErrors := blockErrors, groupError := group || wrong }, n)

/-- A run of received bits. -/
def Checker.run (pattern : Nat) (user : Word) (c : Checker) (bs : List Bool) : Checker × Counted :=
  bs.foldl (fun (acc : Checker × Counted) b =>
    let r := acc.1.step pattern user b
    (r.1, ⟨acc.2.bits + r.2.bits, acc.2.errors + r.2.errors, acc.2.words + r.2.words, acc.2.losses + r.2.losses⟩))
    (c, ⟨0, 0, 0, 0⟩)

/-- Add what a checker counted to a link (R469). -/
def State.addCounts (s : State) (l : Nat) (n : Counted) : State :=
  let s := ((s.add64 Pid.testBits l n.bits).add64 Pid.testBitErrors l n.errors).add64 Pid.testWordErrors l n.words
  if n.losses = 0 then s else s.bump (0x9100 + 0x10 * (9 * linkClass l + (s.lt l).pattern) + 4) 0 n.losses

/-- Received bits reach the checker of a lane of a link under test (R469). -/
def State.feedChecker (s : State) (l lane : Nat) (bs : List Bool) : State :=
  let k := s.lt l
  if !k.running ∨ 4 < k.pattern then s
  else
    let r := (k.checkers.get lane).run k.pattern k.user bs
    let s := (s.modLt l (fun k => { k with checkers := k.checkers.set lane r.1 })).addCounts l r.2
    let s := s.setP Pid.testState l (if r.1.synced then 3 else 2)
    if l < 16 then s.bumpSat u32max Pid.testLaneErrors (32 * l + lane % 32) r.2.errors else s

/-- PN9 reception (R473): a frame with a correct FCS counts its PSDU bits; an empty one stands for a failing
frame. -/
def State.feedRadio (s : State) (l : Nat) (bs : List Bool) : State :=
  let k := s.lt l
  if !k.running ∨ k.pattern ≠ 8 then s
  else if bs.isEmpty then s.addCounts l ⟨0, 0, 1, 0⟩ else s.addCounts l ⟨bs.length, 0, 0, 0⟩

/-- Links whose checkers take a continuous pattern, or frames, from outside (R467). -/
def State.feedLink (s : State) (l lane : Nat) (bs : List Bool) : State :=
  if linkClass l = 0 ∨ linkClass l = 3 ∨ linkClass l = 4 ∨ linkClass l = 6 then
    if l < 42 then s.feedChecker l lane bs else s
  else if linkClass l = 5 then s.feedRadio l bs
  else s

/-- PATTERN_CHECKER_SYNC (R469): the bits received since the last report, with which the checker comes into
sync, or in sync counts. -/
def execPatternCheckerSync (t link lane : Nat) (bs : List Bool) (s : State) : Host.Outcome State Fault Refusal :=
  s.run t (fun s => s.feedLink link lane bs)

/-- PATTERN_CHECKER_SYNC_LOSS (R469): the bits received since the last report, with which a block shows more
than 100 errors. -/
def execPatternCheckerSyncLoss (t link lane : Nat) (bs : List Bool) (s : State) : Host.Outcome State Fault Refusal :=
  s.run t (fun s => s.feedLink link lane bs)

/-- TEST_FRAME_TIMEOUT (R469): a class 4 frame has not returned within 1 ms. -/
def execTestFrameTimeout (t port : Nat) (s : State) : Host.Outcome State Fault Refusal :=
  s.run t (fun s => if port < 2 ∧ s.underTest (36 + port) then s.addCounts (36 + port) ⟨12000, 12000, 375, 0⟩ else s)

/-- STORAGE_TEST_PASS (R472): a test block has been erased, programmed and read back; what its pages
showed. -/
def execStorageTestPass (t c bits_ errors words : Nat) (s : State) : Host.Outcome State Fault Refusal :=
  s.run t (fun s =>
    if c < 2 ∧ s.underTest (32 + c) ∧ s.d8On then
      (s.addCounts (32 + c) ⟨bits_, min bits_ errors, min bits_ words, 0⟩).setP Pid.testState (32 + c) 3
    else s)

/-- TANDEM_LANE_LOSS, the part of R475: a class 6 test of the lane ends with cause 6. -/
def State.laneTestLost (s : State) (lane : Nat) : State := s.endTest (40 + lane) 6

/-! ### TEST_START, TEST_READ, TEST_STOP (R247, R469, R474, R475) -/

/-- The link a word names, if class and instance are defined. -/
def linkOf (w : Word) : Option Nat :=
  let c := bits w 31 24
  let i := bits w 23 16
  if c ≤ 6 ∧ i < (classLinks c).2 then some ((classLinks c).1 + i) else none

/-- The pattern is valid for a class (R468). -/
def patternValid (c p : Nat) : Bool := if c = 5 then decide (5 ≤ p ∧ p ≤ 8) else decide (p ≤ 4)

/-- The other bank class of the same bank. -/
def otherBankClass (l : Nat) : Option Nat := if l < 16 then some (l + 16) else if l < 32 then some (l - 16) else none

/-- Why TEST_START is refused, if it is (R474). -/
def State.testFailure (s : State) (ws : List Word) : Option Result :=
  let w := nth ws 0
  let pattern := bits w 15 8
  match linkOf w with
  | none => some (fail stRefusedState 15)
  | some l =>
    let c := linkClass l
    let i := l - (classLinks c).1
    let no := fun (d : Nat) => some (fail stRefusedState d)
    let shedOut : Bool := match c with
      | 0 => s.rung1 i || (s.bd i).riding
      | 1 => s.rung1 i || (s.bd i).riding
      | _ => decide (testShedLimit c ≤ s.shed)
    if !patternValid c pattern then no 15
    else if s.underTest l || ((otherBankClass l).map (fun o => s.underTest o)).getD false then some (fail stBusy)
    else if c = 0 ∧ s.p Pid.harnessState i ≠ 0 then no 1
    else if c = 1 ∧ (s.p Pid.harnessState i ≠ 4 ∨ ((s.p Pid.harnessCardCaps i).testBit 15 ∧ s.p Pid.tdmRole ≠ 0)) then no 2
    else if (c = 3 ∨ c = 4) ∧ s.usedPorts.contains i ∧
        (s.net.mode = 2 ∨ !(s.usedPorts.contains (1 - i) && s.linkUp (1 - i))) then no 3
    else if c = 2 ∧ s.p Pid.sbState i ≤ 1 then no 4
    else if c = 5 ∧ pattern ≤ 7 ∧ s.lifecycle ≠ 0 ∧ s.lifecycle ≠ 3 then no 5
    else if c = 6 ∧ s.pB Pid.tdmEnable then no 6
    else if shedOut then no 7
    else none

/-- TEST_START at acceptance: its two words, and the refusals of the present state. -/
def testStartBody : Body := withLength 2 (fun q s =>
  match s.testFailure q.payload with
  | some r => (.done r, s)
  | none => enqueueBoundary q s)

/-- TEST_START applied at its boundary (R470, R474). -/
def State.applyTestStart (s : State) (ws : List Word) : Result × State :=
  match s.testFailure ws, linkOf (nth ws 0) with
  | some r, _ => (r, s)
  | none, none => (fail stRefusedState 15, s)
  | none, some l =>
    let w := nth ws 0
    let run : LinkRun := ⟨true, bits w 15 8, nth ws 1, s.now, none, false, false, s.now, Tab.const .fresh⟩
    let s := s.modLt l (fun _ => run)
    let s := ((s.set64 Pid.testBits l 0).set64 Pid.testBitErrors l 0).set64 Pid.testWordErrors l 0
    let s := (s.setP Pid.testPattern l run.pattern).setP Pid.testEndCause l 0
    let s := (s.setP Pid.testState l (if linkClass l = 1 then 1 else 2)).testCount l 0
    let s := if l < 16 then (bankChannels l).foldl (fun s c => s.setP Pid.testLaneErrors c 0) s else s
    (ok, if l < 32 then { s with test := { s.test with banks := s.test.banks.set (l % 16) true } } else s)

/-- The three counts of a link, upper words first (R469). -/
def State.linkCounts (s : State) (l : Nat) : List Word :=
  [Pid.testBits, Pid.testBitErrors, Pid.testWordErrors].flatMap (fun id => [s.w id (2 * l), s.w id (2 * l + 1)])

/-- TEST_READ (R469). -/
def testReadBody : Body := withLength 1 (fun q s =>
  match linkOf (nth q.payload 0) with
  | none => refuse stRange 0 s
  | some l =>
    let s := s.creditSent l
    (.done (ok (s.linkCounts l)), s))

/-- TEST_STOP at acceptance. -/
def testStopBody : Body := withLength 1 (fun q s =>
  match linkOf (nth q.payload 0) with
  | none => refuse stRange 0 s
  | some _ => enqueueBoundary q s)

/-- TEST_STOP applied at its boundary (R475): the final counts. -/
def State.applyTestStop (s : State) (ws : List Word) : Result × State :=
  match linkOf (nth ws 0) with
  | none => (fail stRange 0, s)
  | some l =>
    let s := s.endTest l 1
    (ok (s.linkCounts l), s)

/-- TEST_START (R474): a boundary command. -/
def execTestStart (t : Nat) (tr : Transport) (s : State) : Host.Outcome State Fault Refusal :=
  s.run t (fun s => s.onOpcode tr 0xC0 .boundary testStartBody)

/-- TEST_READ (R469). -/
def execTestRead (t : Nat) (tr : Transport) (s : State) : Host.Outcome State Fault Refusal :=
  s.run t (fun s => s.onOpcode tr 0xC1 .immediate testReadBody)

/-- TEST_STOP (R475): a boundary command. -/
def execTestStop (t : Nat) (tr : Transport) (s : State) : Host.Outcome State Fault Refusal :=
  s.run t (fun s => s.onOpcode tr 0xC2 .boundary testStopBody)

/-! ### Harness tests (R470, R471) -/

/-- TEST_SYNC_TIMEOUT (R470): 100 ms after LOOPBACK the checker is not in sync. -/
def execTestSyncTimeout (t bank : Nat) (s : State) : Host.Outcome State Fault Refusal :=
  s.run t (fun s =>
    match (s.lt (16 + bank)).loopAt with
    | some a =>
      if bank < 16 ∧ s.underTest (16 + bank) ∧ s.passed a (100 * ms) ∧ !((s.lt (16 + bank)).checkers.get 0).synced then
        s.endTest (16 + bank) 9
      else s
    | none => s)

/-- The bank's transactions carry test bits now (R470): LOOPBACK was sent and the test runs. -/
def State.carriesPattern (s : State) (b : Nat) : Bool := s.underTest (16 + b) && (s.lt (16 + b)).loopAt.isSome

/-- A test transaction (R470): the 6,304 bits of HBDIn reach the checker. -/
def State.testTransaction (s : State) (b : Nat) (din : List Bool) : State := s.feedChecker (16 + b) 0 (din.take 6304)

/-- A valid readback after the exit frame releases rung 3 (R471). -/
def State.testReadback (s : State) (b : Nat) : State :=
  let k := s.lt (16 + b)
  if k.leaving && k.exitSent then
    let s := s.modLt (16 + b) (fun k => { k with leaving := false, loopAt := none, exitSent := false })
    { s with test := { s.test with banks := s.test.banks.set b false } }
  else s

end Sys2Proof.Machine
end

