-- ==== Sys2Proof/Machine/Harness.lean ====
section
/-! DEFINITION.  The harness bus (R123 to R150): transactions, acknowledgement and repeat, readbacks and
sensor records, enumeration, loss and removal of cards, and the stop and resumption of banks (R14, R140). -/

namespace Sys2Proof.Machine

open Sys2Proof

/-! ### Buses -/

/-- The bank's bus works: it is enabled, its drive domain is on and not held in reset, and the TCXO runs (R15, R124,
R150, R486). -/
def State.busOn (s : State) (b : Nat) : Bool :=
  s.pB Pid.harnessEnable b && s.bankPowered b && s.tcxoStopped.isNone && s.power.phase != .held

/-- A stopped bank runs no transaction before 4T + 200 µs have passed (R140). -/
def State.busWaits (s : State) (b : Nat) : Bool :=
  !(s.bd b).running && (match (s.bd b).stoppedAt with
    | some a => !s.passed a (4 * (s.bd b).period + 200 * us)
    | none => false)

/-! ### The setpoint frame (R127) -/

/-- The DAC setpoint of an amplitude, and whether it clamps (R68, R69). -/
def State.setpointOf (s : State) (ch a : Nat) : Nat × Bool :=
  let g := s.p Pid.snsGainEst ch
  let top := min 4095 (s.p Pid.harnessCardUmax (ch / 32))
  let u := if a = 0 then 0 else divRound (a * 16384) g
  (min top u, decide (top < u))

/-- Amplitude, setpoint, dark mark and clamp of each lane of a frame built now: the emergency amplitude under
rung 1, what is held under rungs 2 and 3, otherwise the commanded amplitude (R40, R53, R55, R70, R471). -/
def State.frameAmps (s : State) (b : Nat) : List (SentAmp × Bool) :=
  let table := (s.bankTeams b).flatMap (fun t => (s.chansOf t).zip (s.teamAmps t))
  (bankChannels b).map (fun c =>
    let mode := match s.teamAt c with
      | some t => s.p Pid.drvDimMode t
      | none => (s.cd c).mode
    if s.rung1 b then
      let a := s.p Pid.drvEmltAmp c
      let u := s.setpointOf c a
      (⟨a, u.1, 0, false, mode⟩, u.2)
    else if (s.bd b).riding || (s.bd b).test then
      (⟨s.p Pid.drvOutAmp c, (s.cd c).setpoint, 0, (s.cd c).darkAmp, (s.cd c).mode⟩, false)
    else
      let x := ((table.find? (fun x => x.1 == c)).map (fun x => x.2)).getD (0, false)
      let u := s.setpointOf c x.1
      (⟨x.1, u.1, 0, x.2, mode⟩, u.2))

/-- The ride-through duty of a lane in units of 1/65,535 (R55, R127). -/
def State.rideDuty (s : State) (c : Nat) : Nat :=
  let b := c / 32
  let n := (s.bd b).period
  if (s.bd b).riding then dutyOf (s.cd c).rideTicks n
  else if s.p Pid.drvRideMode b = 1 then s.p Pid.drvRideDuty c
  else dutyOf (s.cd c).onNow n

/-- Word 0 of a setpoint frame (R127). -/
def frameHead (kind seq : Nat) (pole emlt test request : Bool) : Word :=
  word (0xA5 * 2 ^ 24 + kind * 2 ^ 20 + seq * 2 ^ 12 + flag pole * 2 ^ 11 + flag emlt * 2 ^ 10 +
    flag test * 2 ^ 9 + flag request * 2 ^ 8)

/-- The management command of the next primary: loopback of a harness test, READ_ID of the next identity word while
the card is identified, else what enumeration asks (R135, R145, R470, R471). -/
def State.managementCommand (s : State) (b : Nat) : Nat × Nat × Nat :=
  let k := s.lt (16 + b)
  if k.running && (s.bd b).test && k.loopAt.isNone then (4, 0, 1)
  else if k.leaving && !k.exitSent then (4, 0, 0)
  else if s.p Pid.harnessState b = 2 then (1, (s.bh b).enumIndex % 64, 0)
  else (s.bh b).command

/-- The word of a management command (R127 word 34). -/
def commandWord (c : Nat × Nat × Nat) : Word := word (c.1 * 2 ^ 24 + c.2.1 * 65536 + c.2.2)

/-- Words 1 to 34 of the frame, from the lanes' setpoints and the management command. -/
def State.frameBody (s : State) (b : Nat) (us_ : List Nat) (cmd : Nat × Nat × Nat) : List Word :=
  let lanes := (bankChannels b).zipIdx.map (fun x => pair (us_.getD x.2 0) (s.rideDuty x.1))
  lanes ++ [pair ((s.bd b).period / 32) ((s.bd b).stagger * 16384),
    commandWord cmd]

/-- A frame closed by its CRC (R128). -/
def closeFrame (head : Word) (body : List Word) : List Word := (head :: body) ++ [crc32 (head :: body)]

/-! ### Missing readbacks (R73, R138, R145) -/

/-- The teams' derating factors move by one scan (R100). -/
def State.derateScan (s : State) (b : Nat) : State := (s.bankTeams b).foldl State.derateStep s

/-- Enumeration begins again from training (R145). -/
def State.trainAgain (s : State) (b : Nat) : State :=
  (s.setP Pid.harnessState b 1).modBh b (fun h => { h with
    missed := 0, failedTx := 0, enumIndex := 0, enabling := false, stateRequest := false, command := (0, 0, 0) })

/-- A transaction has brought no valid readback: harness.lost_limit of them in a row while the card is configured
call for training again (R145 steps 4 to 7). -/
def State.transactionFailed (s : State) (b : Nat) : State :=
  let s := s.modBh b (fun h => { h with failedTx := h.failedTx + 1 })
  if s.p Pid.harnessState b = 3 ∧ s.p Pid.harnessLostLimit b ≤ (s.bh b).failedTx then s.trainAgain b else s

/-- The bank's scan has no valid readback (R73): voltages are held; outside a test the count towards
harness.lost_limit goes on (R138, R471). -/
def State.readMissing (s : State) (b : Nat) (count : Bool) : State :=
  let s := s.bump Pid.harnessMissing b
  let s := if s.d4On then (bankChannels b).foldl State.holdVoltage s else s
  (s.derateScan b).modBh b (fun h => { h with
    awaiting := false, repeatDue := false, missed := if count then h.missed + 1 else h.missed })

/-! ### Primary transactions (R125, R127) -/

/-- The primary setpoint frame goes out: the transaction runs to t_s + 256.08 µs (R126).  In training and
identification what the transactions bring is told by CARD_ENUMERATION: `heard` is false there. -/
def State.sendPrimary (s : State) (b : Nat) (heard : Bool) : State :=
  let h := s.bh b
  let seq := (h.sequence + 1) % 256
  let amps := s.frameAmps b
  let cmd := s.managementCommand b
  let body := s.frameBody b (amps.map (fun x => x.1.setpoint)) cmd
  let head := frameHead 1 seq s.tandem.pole (s.rung1 b) (s.bd b).test h.stateRequest
  let s := (bankChannels b).zip amps |>.foldl (fun (s : State) (x : Nat × SentAmp × Bool) =>
    (s.setP Pid.snsSetpoint x.1 x.2.1.setpoint).modCs x.1 (fun k => { k with dacHit := x.2.2 })) s
  let s := if cmd.1 = 4 then s.modLt (16 + b) (fun k =>
      if cmd.2.2 = 1 then { k with loopAt := some s.now } else { k with exitSent := true }) else s
  s.modBh b (fun h => { h with
    sequence := seq, scanAt := some s.now, busyUntil := s.now + ofNs 256080, repeat_ := false,
    frame := closeFrame head body, amps := amps.map (fun x => x.1), enumIndex := h.enumIndex + 1
    awaiting := heard, acked := !heard, accepted := false, ackFailed := false, repeatDue := false, readGood := false })

/-- No readback will pair with the interval just closed: the last good voltages are held (R73). -/
def State.unpaired (s : State) (b : Nat) : State :=
  if s.d4On then (bankChannels b).foldl State.holdVoltage s else s

/-- PRIMARY_TRANSACTION (R125): the bank's slot of the millisecond; each lane's bits sampled since the scan start
before, and what HBDIn returned in a test transaction. -/
def execPrimaryTransaction (t bank : Nat) (lanes : List LaneBits) (din : List Bool) (s : State) :
    Host.Outcome State Fault Refusal :=
  s.run t (fun s =>
    if 16 ≤ bank ∨ s.count % 25000 ≠ bank * 1560 ∨ (s.bh bank).slotCount = some s.count ∨ s.tcxoStopped.isSome then s
    else
      let s := s.modBh bank (fun h => { h with slotCount := some s.count, scanAt := some s.now })
      let s := if (s.bh bank).awaiting then (s.readMissing bank true).transactionFailed bank else s
      let st := s.p Pid.harnessState bank
      let bus := s.busOn bank && !s.busWaits bank
      if bus && (st == 1 || st == 2) then ((s.sendPrimary bank false).closeScan bank lanes).unpaired bank
      else if !(bus && (st == 3 || st == 4)) then ((s.closeScan bank lanes).unpaired bank).derateScan bank
      else if s.carriesPattern bank then
        let s := (s.closeScan bank lanes).testTransaction bank din
        (s.modBh bank (fun h => { h with repeat_ := false, testUntil := s.now + ofNs 256080 })).readMissing bank false
      else (s.sendPrimary bank true).closeScan bank lanes)

/-! ### Acknowledgement (R136, R137) -/

/-- A valid acknowledgement word of a sequence (R136). -/
def ackValid (seq : Nat) (w : Word) : Bool :=
  decide (bits w 31 24 = 0xAC) && decide (crc8 24 (bits w 31 8) = bits w 7 0) &&
    (decide (bits w 23 16 = seq) || (!bit w 15 && bit w 12 && decide (bits w 23 16 = 0)))

/-- The amplitudes of an accepted frame are on their way to their epochs (R43, R137). -/
def State.sendAmps (s : State) (b from_ : Nat) : State :=
  ((bankChannels b).zip (s.bh b).amps).foldl (fun (s : State) (x : Nat × SentAmp) =>
    let a : SentAmp := { x.2 with from_ := from_ }
    s.modCd x.1 (fun d => if d.sent.isNone then { d with sent := some a } else { d with queued := some a })) s

/-- Each lane's start fraction and the amplitude its card holds, from a state readback (R140, R508). -/
def State.takeCardLight (s : State) (b : Nat) : State :=
  match (s.bh b).stateRead with
  | none => s
  | some rows =>
    ((bankChannels b).zip rows).foldl (fun (s : State) (x : Nat × Nat × Nat) =>
      let f := s.startFraction x.1 x.2.1 x.2.2
      (s.setP Pid.drvOutAmp x.1 f.2).modCd x.1 (fun d => { d with
        start := some f.1, setpoint := x.2.1, sent := none, queued := none, darkAmp := false })) s

/-- What a bank's sources delivered before its card runs is not valid until their next record (R20). -/
def State.voidBank (s : State) (b : Nat) : State :=
  let s := s.modBh b (fun h => { h with recordValid := false })
  let s := s.modBs b (fun k => { k with recordValid := false })
  (bankChannels b).foldl State.voidPod s

/-- ENABLE is accepted: the card runs (R145 step 7); its teams take their targets at the first commit after
(R202). -/
def State.cardRuns (s : State) (b : Nat) : State :=
  let s := (s.setP Pid.harnessState b 4).bump Pid.harnessEnumCount b
  let s := (s.takeCardLight b).voidBank b
  let s := s.modBh b (fun h => { h with
    enabling := false, late := !s.drive.firstCommit, missed := 0, stateRead := none, settledAt := s.now })
  s.raise 0x1A b 1

/-- The frame of the transaction in progress is accepted. -/
def State.frameAccepted (s : State) (b : Nat) : State :=
  let h := s.bh b
  let from_ := (if h.repeat_ then h.busyUntil - ofNs 256080 else h.scanAt.getD s.now) + ofNs 50120
  let n := bits (nth h.frame 33) 31 16 * 32
  let s := s.modBd b (fun d => { d with extra := if n = d.period && !d.change then none else d.extra })
  -- what the frame carried is done; what was asked for since stays
  let s := s.modBh b (fun h => { h with
    accepted := true, stateRequest := h.stateRequest && !bit (nth h.frame 0) 8
    command := if nth h.frame 34 = commandWord h.command then (0, 0, 0) else h.command })
  let s := if h.enabling && bits (nth h.frame 34) 31 24 == 2 then s.cardRuns b else s
  s.sendAmps b from_

/-- In a tandem pair the outcome of the scan is kept for the state copy (R425, R426). -/
def State.noteOutcome (s : State) (b : Nat) (accepted : Bool) : State :=
  if s.p Pid.tdmRole = 0 then s
  else
    let slot := ((s.bh b).slotCount).getD 0
    s.modBh b (fun h => { h with
      outcomes := ((h.outcomes.filter (fun o => o.1 != slot)) ++ [(slot, accepted || h.accepted, h.repeat_)]).reverse.take 128 |>.reverse })

/-- The acknowledgement of the transaction in progress is judged (R137). -/
def State.judgeAck (s : State) (b : Nat) (valid accepted earlier : Bool) : State :=
  let h := s.bh b
  if h.acked || decide (h.busyUntil = 0) then s
  else
    let s := (s.modBh b (fun h => { h with acked := true })).noteOutcome b (valid && accepted)
    if valid && accepted then
      if h.accepted then s
      else
        let s := if h.repeat_ && earlier && h.ackFailed then
            (s.bump Pid.harnessAckLost b).modBs b (fun k => { k with discard := true })
          else s
        s.frameAccepted b
    else
      let s := if valid then s.bump Pid.harnessRejects b else s
      s.modBh b (fun h => { h with ackFailed := h.ackFailed || !valid, repeatDue := h.repeatDue || !h.repeat_ })

/-- ACKNOWLEDGEMENT (R137): word 37 of the transaction in progress has come. -/
def execAcknowledgement (t bank : Nat) (w : Word) (s : State) : Host.Outcome State Fault Refusal :=
  s.run t (fun s =>
    if 16 ≤ bank ∨ !s.busOn bank ∨ s.now < (s.bh bank).busyUntil - ofNs 256080 + ofNs 48780 then s
    else s.judgeAck bank (ackValid (s.bh bank).sequence w) (bit w 15) (bit w 14))

/-- REPEAT_TRANSACTION (R125, R137, R138): t_s + 500 µs; the same frame as a repeat, where one is called for,
or a test transaction. -/
def execRepeatTransaction (t bank : Nat) (din : List Bool) (s : State) : Host.Outcome State Fault Refusal :=
  s.run t (fun s =>
    match (s.bh bank).scanAt with
    | none => s
    | some a =>
      if 16 ≤ bank ∨ s.now < a + 500 * us ∨ a + 1000 * us ≤ s.now ∨ (s.bh bank).repeat_ ∨ !s.busOn bank ∨ s.busWaits bank then s
      else if s.carriesPattern bank then
        (s.testTransaction bank din).modBh bank (fun h => { h with repeat_ := true, testUntil := s.now + ofNs 256080 })
      else if !(s.bh bank).repeatDue then s
      else
        let s := s.bump Pid.harnessRepeats bank
        s.modBh bank (fun h =>
          let head := word ((nth h.frame 0).toNat + 2 ^ 20)
          { h with
            busyUntil := s.now + ofNs 256080, repeat_ := true, acked := false, repeatDue := false
            frame := closeFrame head ((h.frame.drop 1).take 34) }))

/-! ### Readbacks (R130 to R134) -/

/-- A readback passes its sync, type and CRC (R130). -/
def readbackValid (ws : List Word) : Bool :=
  let n := bits (nth ws 39) 5 0
  let k := bits (nth ws 0) 23 20
  decide (bits (nth ws 0) 31 24 = 0x5A) && (k == 1 || k == 3) && decide (n ≤ 48) &&
    nth ws (40 + 3 * n) == crc32 ((List.range (40 + 3 * n)).map (fun i => nth ws i))

/-- The lanes of a bank that its card has (R144). -/
def State.cardLanes (s : State) (b : Nat) : List Nat :=
  (bankChannels b).filter (fun c => decide (c % 32 < s.p Pid.harnessCardCaps b % 64))

/-- A lane's voltage and temperature in a data readback: 0xFFFF and 0x8000 are no reading. -/
def laneVoltage (w : Word) : Option Nat := if bits w 31 16 = 0xFFFF then none else some (bits w 31 16)
def laneTemp (w : Word) : Option Int := if bits w 15 0 = 0x8000 then none else some (sbits w 15 0)

/-- The highest of the temperatures read. -/
def hottest (xs : List (Option Int)) : Option Int :=
  xs.foldl (fun (m : Option Int) x => match m, x with
    | some a, some b => some (max a b)
    | none, b => b
    | a, none => a) none

/-- One sensor record (R133, R134): delivered and counted, or discarded and counted; a colour record delivered that
the colour unit discards counts as both (R115). -/
def State.sensorRecord (s : State) (b : Nat) (hd d1 d2 : Word) : State :=
  let kind := bits hd 31 28
  let lane := bits hd 27 23
  let seq := bits hd 15 8
  let key := 4 * lane + kind
  let age := bits hd 22 16
  let ref : Int := (s.now : Int) - age * ms
  if (kind ≠ 1 ∧ kind ≠ 2) ∨ (s.bh b).podSeq.get key = some seq then s.bump Pid.harnessSensorDiscards b
  else
    let s := (s.modBh b (fun h => { h with podSeq := h.podSeq.set key (some seq) })).bump Pid.harnessSensorRecords b
    if kind = 1 then s.deliverPod ⟨32 * b + lane, d1, d2, bit hd 7, seq, ref, decide (age = 127), s.now, true⟩
    else
      let r := s.sensorWord ⟨32 * b + lane, bits d1 31 16, bits d1 15 0, bits d2 31 16, bit hd 7, ref⟩
      if r.2 then r.1 else r.1.bump Pid.harnessSensorDiscards b

/-- Voltages and temperatures of a data readback of a running card (R73, R99, R107). -/
def State.takeLanes (s : State) (b : Nat) (ws : List Word) : State :=
  let lane := fun (c : Nat) => nth ws (1 + c % 32)
  let lanes := s.cardLanes b
  let s := if s.d4On then (bankChannels b).foldl (fun s c =>
      s.pairVoltage c (if lanes.contains c then bits (lane c) 31 16 else 0xFFFF)) s else s
  let s := lanes.foldl (fun s c => match laneTemp (lane c) with
    | some th => (s.setI Pid.snsLampTemp c th).modCs c (fun k => { k with hottest := some (max th (k.hottest.getD th)) })
    | none => s) s
  let s := (s.bankTeams b).foldl (fun s t =>
    let chans := (s.chansOf t).filter (fun c => lanes.contains c)
    match hottest (chans.map (fun c => laneTemp (lane c))) with
    | none => s
    | some hi =>
      let s := chans.foldl (fun s c => s.filterTemp c ((laneTemp (lane c)).getD hi)) s
      (s.teamTemp t).derateTemp t hi) s
  -- marks count only while the stage is enabled (R132, R142)
  let on := !bit (nth ws 0) 7
  lanes.foldl (fun s c =>
    let hi := match s.teamAt c with
      | some t => hottest (((s.chansOf t).filter (fun x => lanes.contains x)).map (fun x => laneTemp (lane x)))
      | none => none
    let th := match laneTemp (lane c) with
      | some x => some x
      | none => hi
    s.takeEvidence c ⟨laneVoltage (lane c), th, on && bit (nth ws 33) (c % 32), on && bit (nth ws 34) (c % 32)⟩) s

/-- A valid readback is taken (R130, R138, R145): the card scan record completes. -/
def State.takeReadback (s : State) (b : Nat) (ws : List Word) : State :=
  let w0 := nth ws 0
  let stateType := bits w0 23 20 == 3
  let s := s.modBh b (fun h => { h with
    awaiting := false, readGood := true, missed := 0, failedTx := 0, stamp := some s.now, recordValid := true,
    conflicts := if bit w0 8 then h.conflicts + 1 else 0 })
  let s := s.setP Pid.harnessCardStatus b (bits w0 11 0)
  let s := ((s.setW Pid.harnessLaneOpen b (nth ws 33)).setW Pid.harnessLaneShort b (nth ws 34)).setW Pid.harnessLaneClimit b (nth ws 35)
  let s := (s.setP Pid.harnessCardSupply b (bits (nth ws 36) 31 16)).setI Pid.harnessCardTemp b (sbits (nth ws 36) 15 0)
  let s := s.setB Pid.harnessFollowsMe b (if bit w0 9 then bit w0 10 == Config.cardPort b else true)
  let running := s.p Pid.harnessState b = 4
  -- a running dual-input card that is not in ride-through still follows a partner (R432)
  let s := if running ∧ bit w0 9 ∧ !bit w0 11 then
      s.withTandem (fun k => { k with contest := k.contest.map (fun (c : Contest) => { c with steady := false }) })
    else s
  let s := if stateType then
      let s := s.modBh b (fun h => { h with
        stateRead := some ((List.range 32).map (fun k => (bits (nth ws (1 + k)) 27 16, bits (nth ws (1 + k)) 15 0))) })
      let s := if s.d4On then (bankChannels b).foldl (fun s c => s.pairVoltage c 0xFFFF) s else s
      if s.p Pid.harnessState b = 3 then s.modBh b (fun h => { h with enabling := true, command := (2, 0, 1) }) else s
    else if running then s.takeLanes b ws
    else s
  let n := bits (nth ws 39) 5 0
  let s := (List.range n).foldl (fun s i =>
    s.sensorRecord b (nth ws (40 + 3 * i)) (nth ws (41 + 3 * i)) (nth ws (42 + 3 * i))) s
  (s.derateScan b).testReadback b

/-- READBACK_FRAME (R130, R138): HBSELn_N rises and the readback is complete. -/
def execReadbackFrame (t bank : Nat) (words : List Word) (s : State) : Host.Outcome State Fault Refusal :=
  s.run t (fun s =>
    let h := s.bh bank
    if 16 ≤ bank ∨ h.busyUntil = 0 ∨ s.now < h.busyUntil then s
    else
      -- an acknowledgement that never came counts as failing (R137)
      let s := (s.judgeAck bank false false false).modBh bank (fun h => { h with busyUntil := 0 })
      if readbackValid words then
        if (s.bh bank).awaiting then s.takeReadback bank words else s
      else
        let s := s.bump Pid.harnessCrcErrors bank
        if !(s.bh bank).awaiting then s
        else if s.p Pid.harnessState bank = 3 ∧ s.p Pid.harnessLostLimit bank ≤ (s.bh bank).failedTx + 1 then
          (s.readMissing bank true).trainAgain bank
        else if h.repeat_ then (s.readMissing bank true).transactionFailed bank
        else (s.transactionFailed bank).modBh bank (fun h => { h with repeatDue := true }))

/-! ### Enumeration (R143 to R145) -/

/-- The widest passing run of a training, the first of several: its start and width. -/
def widestRun (passes : List Bool) : Nat × Nat :=
  let r := passes.zipIdx.foldl (fun (acc : Nat × Nat × Nat × Nat) (x : Bool × Nat) =>
    -- start and width of the best run, start and width of the present run
    if x.1 then
      let s0 := if acc.2.2.2 = 0 then x.2 else acc.2.2.1
      let w := acc.2.2.2 + 1
      if acc.2.1 < w then (s0, w, s0, w) else (acc.1, acc.2.1, s0, w)
    else (acc.1, acc.2.1, x.2, 0)) (0, 0, 0, 0)
  (r.1, r.2.1)

/-- Identity words as 16-bit numbers. -/
def identAt (ident : List Nat) (k : Nat) : Nat := ident.getD k 0 % 65536

/-- Why a card is refused by its identity (R144): 0 for accepted. -/
def identError (ident : List Nat) : Nat :=
  let at_ := identAt ident
  let octets := (List.range 63).flatMap (fun k => [at_ k / 256, at_ k % 256])
  let iafs := at_ 9 * 65536 + at_ 10
  let isfs := at_ 11 * 65536 + at_ 12
  if at_ 0 ≠ 0x4B5A ∨ at_ 1 ≠ 1 then 2
  else if crc16Octets octets ≠ at_ 63 then 3
  else if at_ 8 % 64 = 0 ∨ 32 < at_ 8 % 64 ∨ isfs < iafs ∨ at_ 13 = 0 ∨ 200 < at_ 18 ∨ 30 < at_ 17 then 4
  else 0

/-- A card is refused (R144). -/
def State.refuseCard (s : State) (b error : Nat) : State :=
  let s := (s.setP Pid.harnessState b 6).setP Pid.harnessEnumError b error
  (s.modBh b (fun h => { h with retryAt := some (s.now + 10 * sec), settledAt := s.now })).raise 0x19 b error

/-- An accepted identity fills the bank's parameters (R71, R143, R145 step 5). -/
def State.acceptCard (s : State) (b : Nat) (ident : List Nat) : State :=
  let at_ := identAt ident
  let hi := at_ 4 * 65536 + at_ 5
  let lo := at_ 6 * 65536 + at_ 7
  let serial := hi * 2 ^ 32 + lo
  let s := match (s.bh b).lastSerial with
    | some x => if x = serial then s else (s.resetGains b).clearBaselines b
    | none => s
  let s := (s.setP Pid.harnessCardMaker b (at_ 2 * 65536 + at_ 3)).set64 Pid.harnessCardSerial b serial
  let s := (s.setP Pid.harnessCardCaps b (at_ 8)).setP Pid.harnessCardUmax b (at_ 13)
  let s := (s.setP Pid.harnessCardVfAcc b (at_ 17)).setP Pid.harnessCardRideUs b (at_ 18)
  let s := (s.setP Pid.snsIafsUa b (at_ 9 * 65536 + at_ 10)).setP Pid.snsIsfsUa b (at_ 11 * 65536 + at_ 12)
  let s := (s.setP Pid.drvMinPulseNs b (at_ 14)).setP Pid.snsDelayNs b (at_ 15)
  let s := (s.setP Pid.snsCardAcc b (at_ 16)).setP Pid.meterClass b (flag (decide (50 < at_ 16)))
  let s := (s.setP Pid.harnessState b 3).setP Pid.harnessEnumError b 0
  s.modBh b (fun h => { h with
    lastSerial := some serial, stateRequest := true, stateRead := none, command := (0, 0, 0), enabling := false,
    missed := 0, failedTx := 0, podSeq := Tab.const none, conflicts := 0 })

/-- CARD_ENUMERATION (R145): the next of the steps training, identifying and configuring; what training and
the identity readbacks showed. -/
def execCardEnumeration (t bank : Nat) (passes : List Bool) (ident : List Nat) (s : State) :
    Host.Outcome State Fault Refusal :=
  s.run t (fun s =>
    let h := s.bh bank
    if 16 ≤ bank ∨ !s.busOn bank ∨ s.busWaits bank ∨ !h.fltHigh then s
    else match s.p Pid.harnessState bank with
      | 0 =>
        if h.reenumerate ∨ s.passed h.fltSince (10 * ms) then
          (s.setP Pid.harnessState bank 1).modBh bank (fun h => { h with reenumerate := false, missed := 0 })
        else s
      | 5 => (s.setP Pid.harnessState bank 1).modBh bank (fun h => { h with reenumerate := false, missed := 0 })
      | 1 =>
        if passes.length ≠ 96 then s
        else
          let r := widestRun passes
          let s := s.setP Pid.harnessEyeTicks bank r.2
          if r.2 < 12 then s.refuseCard bank 1
          else ((s.setP Pid.harnessRxDelay bank (r.1 + (r.2 - 1) / 2)).setP Pid.harnessState bank 2).modBh bank (fun h => { h with enumIndex := 0 })
      | 2 =>
        if ident.length ≠ 64 then s.trainAgain bank
        else if identError ident ≠ 0 then s.refuseCard bank (identError ident)
        else s.acceptCard bank ident
      | _ => s)

/-- ENUMERATION_RETRY (R144): 10 s after a refusal the card is tried again. -/
def execEnumerationRetry (t bank : Nat) (s : State) : Host.Outcome State Fault Refusal :=
  s.run t (fun s =>
    match (s.bh bank).retryAt with
    | some a =>
      if bank < 16 ∧ s.p Pid.harnessState bank = 6 ∧ a ≤ s.now then
        (s.setP Pid.harnessState bank (if (s.bh bank).fltHigh then 1 else 0)).modBh bank (fun h => { h with retryAt := none, missed := 0 })
      else s
    | none => s)

/-- The bank has no card any more: its identity parameters are cleared (R145) and its limits end.  meter.class takes
its cold value, 1 (DESIGN CHOICE, assumption 91; R75). -/
def State.clearCard (s : State) (b : Nat) : State :=
  let s := [Pid.harnessCardMaker, Pid.harnessCardCaps, Pid.harnessCardUmax, Pid.harnessCardVfAcc, Pid.harnessCardRideUs,
    Pid.snsIafsUa, Pid.snsIsfsUa, Pid.drvMinPulseNs, Pid.snsDelayNs, Pid.snsCardAcc, Pid.harnessState].foldl
      (fun s id => s.setP id b 0) s
  let s := (s.set64 Pid.harnessCardSerial b 0).setP Pid.meterClass b 1
  let s := (bankChannels b).foldl State.clearLimits s
  s.modBh b (fun h => { h with
    missed := 0, failedTx := 0, enumIndex := 0, awaiting := false, repeatDue := false, busyUntil := 0, enabling := false
    stateRequest := false, stateRead := none, command := (0, 0, 0), retryAt := none, late := false, conflicts := 0
    settledAt := s.now })

/-- CARD_LOST (R138, R145): harness.lost_limit primaries in a row without a valid readback. -/
def execCardLost (t bank : Nat) (s : State) : Host.Outcome State Fault Refusal :=
  s.run t (fun s =>
    if 16 ≤ bank ∨ s.p Pid.harnessState bank ≠ 4 ∨ (s.bh bank).missed < s.p Pid.harnessLostLimit bank then s
    else if !(s.bh bank).fltHigh then (s.clearCard bank).raise 0x1A bank 0
    else
      let s := (s.setP Pid.harnessState bank 5).modBh bank (fun h => { h with reenumerate := true, missed := 0 })
      s.raise 0x18 bank 0)

/-- FAULT_LINE_CHANGE (R88, R142, R145): FLTn_N changes level. -/
def execFaultLineChange (t bank : Nat) (high : Bool) (s : State) : Host.Outcome State Fault Refusal :=
  s.run t (fun s =>
    if 16 ≤ bank ∨ (s.bh bank).fltHigh = high then s
    else
      let s := s.modBh bank (fun h => { h with fltHigh := high, fltSince := s.now })
      let st := s.p Pid.harnessState bank
      if high then s.endCardFault bank
      else if 1 ≤ st ∧ st ≤ 3 then
        (s.setP Pid.harnessState bank 0).modBh bank (fun h => { h with
          reenumerate := false, missed := 0, enabling := false, stateRequest := false, command := (0, 0, 0),
          awaiting := false, repeatDue := false, busyUntil := 0, settledAt := s.now })
      else s.endTest (16 + bank) 4)

/-- A SET of harness.enable is applied: 0 leaves the bank without a card, 1 enumerates it from R145 step 3 (R150). -/
def State.harnessEnableWritten (s : State) (b : Nat) : State :=
  if s.pB Pid.harnessEnable b then
    if s.p Pid.harnessState b = 0 then s.modBh b (fun h => { h with reenumerate := false }) else s
  else s.clearCard b

/-! ### Stop and resumption (R14, R15, R140) -/

/-- Every running bank stops at the end of its period (R14, R140). -/
def State.stopBanks (s : State) : State :=
  (List.range 16).foldl (fun s b => s.modBd b (fun d => { d with stopping := d.running, resuming := false })) s

/-- Every stopped or stopping bank is to resume, with a state request to its card (R14, R140). -/
def State.resumeBanks (s : State) : State :=
  (List.range 16).foldl (fun s b =>
    let d := s.bd b
    if (d.running && !d.stopping) || s.drive.firstCommit then s
    else
      let s := s.modBd b (fun d => { d with resuming := true })
      if s.p Pid.harnessState b = 4 then s.modBh b (fun h => { h with stateRequest := true, stateRead := none }) else s) s

/-- DRV generation of a bank starts at its first period start from now on; a pad held high by rung 1 stays so until
its lane's first period. -/
def State.startBank (s : State) (b : Nat) : State :=
  let d := s.bd b
  let first := s.alignAt s.now d.period (bankOffset b d.period d.stagger)
  let s := (bankChannels b).foldl (fun s c => s.endHeld c (first + lanePhase (c % 32) d.period d.stagger)) s
  s.modBd b (fun d => { d with
    running := true, stopping := false, resuming := false, stoppedAt := none, nextStart := some first })

/-- BANK_RESUME (R140, R508): marks and DRV resume at the first period start after the state readback, from
the light the card reported; a bank without a running card resumes as it stands. -/
def execBankResume (t bank : Nat) (s : State) : Host.Outcome State Fault Refusal :=
  s.run t (fun s =>
    let d := s.bd bank
    let card := s.p Pid.harnessState bank == 4
    if 16 ≤ bank ∨ !d.resuming ∨ d.running ∨ !s.spineLocked ∨ s.tcxoStopped.isSome ∨ !s.bankPowered bank then s
    else if card ∧ (s.bh bank).stateRead.isNone then s
    else
      let s := s.startBank bank
      if !card ∨ s.flagOf Pid.harnessCardStatus bank 7 then s
      else
        let s := s.takeCardLight bank
        let s := s.modBh bank (fun h => { h with stateRead := none })
        (s.bankTeams bank).foldl (fun s t => s.resumeTeam t (fun c => ((s.cd c).start).getD 0)) s)

/-- SPINE_UNLOCK (R14): 16 periods of an error above 0.3 ns, in ps. -/
def execSpineUnlock (t error : Nat) (s : State) : Host.Outcome State Fault Refusal :=
  s.run t (fun s =>
    if !s.spineLocked then s
    else
      let s := ({ s with spineLocked := false, unlockedAt := some s.now }).stopBanks
      ((s.bump Pid.sysSpineUnlocks).setP Pid.sysSpineErrPs 0 (min 65535 error)).raise 0x07 error 0)

/-- SPINE_RELOCK (R14): lock has held for 1,024 periods. -/
def execSpineRelock (t : Nat) (s : State) : Host.Outcome State Fault Refusal :=
  s.run t (fun s =>
    if s.spineLocked ∨ s.tcxoStopped.isSome then s else ({ s with spineLocked := true }).resumeBanks)

/-- TCXO_LOSS (R15): 2 µs without an edge; the local count stands. -/
def execTcxoLoss (t : Nat) (s : State) : Host.Outcome State Fault Refusal :=
  s.run t (fun s =>
    if s.tcxoStopped.isSome then s
    else
      let s := ({ s with tcxoStopped := some s.count }).stopBanks
      (s.bumpStored Pid.sysTcxoLosses).raise 0x08 0 0)

end Sys2Proof.Machine
end

