-- ==== Sys2Proof/Machine/Domains.lean ====
section
/-! DEFINITION.  Power states and domains (R449 to R456): the choice of state, which domains a state, a phase
and the lights keep on, and what a domain loses and takes up when it goes off and on. -/

namespace Sys2Proof.Machine

open Sys2Proof

/-- Change the power state record. -/
def State.withPower (s : State) (f : PowerState → PowerState) : State := { s with power := f s.power }

/-! ### The choice of state (R453, R454) -/

/-- Walk and Stand are not chosen (R454). -/
def State.staysInTrot (s : State) : Bool :=
  s.pB Pid.tdmEnable || s.updateOpen || s.waybill.frozenSince.isSome || s.anyTest

/-- choose_state() of R454. -/
def State.chooseState (s : State) : Nat :=
  let tol := s.p Pid.pwrToleranceUs
  if tol = 0 then 0
  else
    let fits := (List.range 5).filter (fun k => decide (k ≤ s.p Pid.pwrStateFloor) && decide (exitSlowUs.getD k 0 ≤ tol))
    let deepest := fits.foldl max 0
    if s.staysInTrot then min deepest 2 else deepest

/-! ### Which domains are on (R449, R450, R451) -/

/-- A channel is lit: its present output is not 0. -/
def State.channelLit (s : State) (c : Nat) : Bool := s.p Pid.drvOutFrac c != 0 || (s.cd c).onNow != 0

/-- What keeps a drive domain on in Walk and Stand, for one of its banks (R450). -/
def State.bankNeedsDomain (s : State) (b : Nat) : Bool :=
  (bankChannels b).any (fun c =>
    s.channelLit c || decide (1 ≤ s.rung c ∧ s.rung c ≤ 6) || (s.pB Pid.presPodWake c && (s.podZone c).isSome)) ||
  s.test.banks.get b || (s.bd b).test ||
  (decide (s.p Pid.harnessState b = 4) && s.p Pid.drvEmltMask b != 0)

/-- Drive domain 2 or 3 is wanted (R450). -/
def State.driveWanted (s : State) (k : Nat) : Bool :=
  decide (s.p Pid.pwrState ≤ 2) || (List.range 8).any (fun i => s.bankNeedsDomain (8 * (k - 2) + i))

/-- D6 is wanted (R449). -/
def State.uplinkWanted (s : State) : Bool := decide (s.p Pid.pwrState ≤ 3) || s.net.mode == 0

/-- D7 is wanted (R449): in Stand only while a remote team is bound or a wireless pod wakes. -/
def State.radiosWanted (s : State) : Bool :=
  decide (s.p Pid.pwrState ≤ 3) || (List.range 256).any (fun rt => (s.rtContext rt).isSome) ||
    (List.range 1024).any (fun n => s.pB Pid.presPodWake (512 + n) && (s.podZone (512 + n)).isSome)

/-- Domains as the bits of pwr.domain_on. -/
def domainBits (d23 : Bool × Bool) (d5 d6 d7 d8 : Bool) : Nat :=
  3 + 4 * flag d23.1 + 8 * flag d23.2 + 16 * flag (d23.1 || d23.2) + 32 * flag d5 + 64 * flag d6 + 128 * flag d7 +
    256 * flag d8 + 512 * flag (d5 || d6 || d7)

/-- The domains that phase, state and lights call for (R449, R450, R457, R460, R462). -/
def State.wantedDomains (s : State) : Nat :=
  match s.power.phase with
  | .unpowered => 1
  | .held | .stoodDown => 3
  | .loading => domainBits (false, false) true false false true
  | .committing => domainBits (s.driveWanted 2, s.driveWanted 3) true false false true
  | _ =>
    let up := !s.power.asleep || s.power.flushing
    domainBits (s.driveWanted 2, s.driveWanted 3) up s.uplinkWanted s.radiosWanted s.d8On

/-! ### A domain goes off or on (R124, R140, R450, R451) -/

/-- The drive domain of a bank goes off: period marks and transactions stop, DRV is low; the card keeps its
state and stays enumerated. -/
def State.bankOff (s : State) (b : Nat) : State :=
  let s := s.modBh b (fun h => { h with awaiting := false, repeatDue := false, busyUntil := 0 })
  if (s.bd b).running then s.stopBank b s.now else s

/-- The drive domain of a bank is on again: a bank that had run resumes as R140 says. -/
def State.bankOn (s : State) (b : Nat) : State :=
  if (s.bd b).running ∨ (s.bd b).lastStart.isNone ∨ s.drive.firstCommit then s
  else
    let s := s.modBd b (fun d => { d with resuming := true })
    if s.p Pid.harnessState b = 4 then s.modBh b (fun h => { h with stateRequest := true, stateRead := none }) else s

/-- The banks of a drive domain. -/
def domainBanks (k : Nat) : List Nat := (List.range 8).map (fun i => 8 * (k - 2) + i)

/-- Domain Dk goes off. -/
def State.domainOff (s : State) (k : Nat) : State :=
  match k with
  | 2 | 3 => (domainBanks k).foldl State.bankOff s
  | 4 => (s.senseDark.withPower (fun p => { p with domains := p.domains &&& 0x3EF })).diagDark
  | 6 => [0, 1].foldl State.linkLost s
  | _ => s

/-- Domain Dk comes on. -/
def State.domainUp (s : State) (k : Nat) : State :=
  match k with
  | 2 | 3 => (domainBanks k).foldl State.bankOn s
  | 4 => s.senseLight
  | 6 => s.netRestart
  | _ => s

/-- Switch the domains to what is called for. -/
def State.settleDomains (s : State) : State :=
  let old := s.power.domains
  let new := s.wantedDomains
  let s := (List.range 10).foldl (fun s k => if old.testBit k && !new.testBit k then s.domainOff k else s) s
  let s := s.withPower (fun p => { p with domains := new })
  (List.range 10).foldl (fun s k => if new.testBit k && !old.testBit k then s.domainUp k else s) s

/-! ### Changes of state (R454, R455) -/

/-- The module enters a power state: its ports, low-power idle and domains follow (R449). -/
def State.enterState (s : State) (n : Nat) : State :=
  let old := s.p Pid.pwrState
  if n = old then s
  else
    let spent := s.power.stateTime.get old + (s.now - s.power.stateSince)
    let s := (s.setP Pid.pwrState 0 n).withPower (fun p => { p with
      stateTime := p.stateTime.set old spent, stateSince := s.now, quietCycles := 0 })
    let s := if decide (2 ≤ n) = decide (2 ≤ old) then s else s.portsTo (decide (2 ≤ n))
    let s := if decide (3 ≤ n) = decide (3 ≤ old) then s else [0, 1].foldl State.eeeWritten s
    s.settleDomains

/-- An input of the choice has changed: a shallower state takes effect at once (R454). -/
def State.shallower (s : State) : State :=
  if s.chooseState < s.p Pid.pwrState then s.enterState s.chooseState else s

/-- At a boundary a deeper choice takes effect, as far as Trot (R454). -/
def State.deeperAtBoundary (s : State) : State :=
  let n := min s.chooseState 2
  if s.p Pid.pwrState < n then s.enterState n else s

end Sys2Proof.Machine
end

