-- ==== Sys2Proof/Machine/Image.lean ====
section
/-! DEFINITION.  Firmware images (R400 to R402): header words, digest, signature and site tag, and the choice
of the image at a start. -/

namespace Sys2Proof.Machine

open Sys2Proof

/-- Header word `k` of the image in a slot; the image as delivered has words that the spec does not give
(assumption 32). -/
def State.slotHeader (s : State) (slot k : Nat) : Word :=
  match s.update.slots.get slot with
  | [] => Config.deliveredHeader k
  | ws => nth ws k

/-- Header word `k` of the running image (R401). -/
def State.imageHeader (s : State) (k : Nat) : Word := s.slotHeader s.update.selected k

/-- The digest of an image: SHA-256 over all its words but the last 18 (R402). -/
def imageDigest (ws : List Word) : List Word := wordsOfNat 8 (Config.sha256 (ws.take (ws.length - 18)))

/-- The vendor's signature of an image passes (R402). -/
def signaturePasses (ws : List Word) : Bool :=
  let sig := (ws.drop (ws.length - 18)).take 16
  Config.ecdsaPasses (natOfWords (imageDigest ws)) (natOfWords (sig.take 8)) (natOfWords (sig.drop 8))

/-- The site tag of an image under a K03 value (R402): over the digest and header word 2. -/
def siteTagPasses (key : Nat) (ws : List Word) : Bool :=
  tagWords key (imageDigest ws ++ [nth ws 2]) == ws.drop (ws.length - 2)

/-- A slot's image passes its checks at a start (R400).  The image as delivered passes (assumption 32); without
a valid K03 there is no tag to check (R415). -/
def State.slotRuns (s : State) (slot : Nat) : Bool :=
  let st := s.p Pid.updSlotState slot
  match s.update.slots.get slot with
  | [] => st != 4 && (slot == s.update.selected || st != 0)
  | ws =>
    st != 4 && s.pRun Pid.updSlotDigest (8 * slot) 8 == (imageDigest ws).map BitVec.toNat && signaturePasses ws &&
      (match s.slotKey 3 with
       | some k => siteTagPasses k ws
       | none => true)

/-- The slot that runs at a start, and whether it is not the selected one (R400); none calls for farrier mode,
as does the life-cycle state Scrapped (R414). -/
def State.chooseImage (s : State) : Option (Nat × Bool) :=
  let a := s.update.selected
  if s.lifecycle = 4 then none
  else if s.slotRuns a then some (a, false)
  else if s.slotRuns (1 - a) then some (1 - a, true)
  else none

end Sys2Proof.Machine
end

