-- ==== Sys2Proof/Machine/Cells.lean ====
section
/-! DEFINITION.  The cell library (R152 to R154, R170 to R177, R209, R210, R216, R217, R304, R305): what each
cell type computes from its inputs, its state and the frozen snapshot. -/

namespace Sys2Proof.Machine

open Sys2Proof

/-! ### Values and their quality (R152 to R154) -/

abbrev qValid : Nat := 1
abbrev qStale : Nat := 2
abbrev qForced : Nat := 4
abbrev qLate : Nat := 8
abbrev qLimited : Nat := 16
abbrev qSubst : Nat := 32

/-- The value rests on valid inputs. -/
def Val.valid (x : Val) : Bool := x.q.testBit 0

/-- A boolean is true when its value is not 0. -/
def Val.truth (x : Val) : Bool := x.v != 0

/-- The value of an unconnected port (R154). -/
def Val.const (n : Int) : Val := ⟨n, qValid⟩

/-- The bits a value's quality would have with the valid bit as told. -/
def Val.withValid (x : Val) (b : Bool) : Val := { x with q := putBit x.q 0 b }

/-- A quality from valid and from the other bits as told. -/
def quality (valid stale late limited subst : Bool) : Nat :=
  flag valid * qValid + flag stale * qStale + flag late * qLate + flag limited * qLimited + flag subst * qSubst

/-- The quality of an output from the inputs used for it, with what the cell adds (R154). -/
def qualityOf (used : List Val) (limited : Bool := false) (subst : Bool := false) (clear : Bool := false) : Nat :=
  quality (used.all Val.valid && !clear) (used.any (fun x => x.q.testBit 1)) (used.any (fun x => x.q.testBit 3)) limited
    (subst || used.any (fun x => x.q.testBit 5))

/-- A result from the inputs used: saturated, with limited set when it was (R153, R154). -/
def result (v : Int) (used : List Val) (limited : Bool := false) (subst : Bool := false) (clear : Bool := false) : Val :=
  ⟨satS32 v, qualityOf used (limited || satS32 v != v) subst clear⟩

/-- A truth value as a result. -/
def boolResult (b : Bool) (used : List Val) (limited : Bool := false) (subst : Bool := false) : Val :=
  result (flag b) used limited subst

/-- Input `k` of a cell. -/
def inp (ins : List Val) (k : Nat) : Val := ins.getD k (.const 0)

/-- The values of some inputs. -/
def valsOf (ins : List Val) : List Int := ins.map (fun x => x.v)

/-- The least of a list of values. -/
def leastV (xs : List Int) : Int := match xs with
  | [] => 0
  | x :: rest => rest.foldl min x

/-- The greatest of a list of values. -/
def greatestV (xs : List Int) : Int := match xs with
  | [] => 0
  | x :: rest => rest.foldl max x

/-- v × 2⁻ᵏ rounded half up (R153). -/
def shiftRound (v : Int) (k : Nat) : Int := if k = 0 then v else Int.fdiv (v + 2 ^ (k - 1)) (2 ^ k)

/-! ### What the cells see (R163) -/

/-- The state as the cells of a cycle see it: the parameters and the prediction entries as step 1 left them, whatever a
SET or a shed step changes during step 2. -/
def State.cellView (s : State) : State :=
  { s with params := s.prog.viewParams, presence := { s.presence with predictions := s.prog.viewPredictions } }

/-- Step 1 ends: the cells' view is taken. -/
def State.takeView (s : State) : State :=
  { s with prog := { s.prog with viewParams := s.params, viewPredictions := s.presence.predictions } }

/-! ### Cells without state (R172) -/

/-- CMP: the comparison of constant OP. -/
def compareBy (op : Int) (a b : Int) : Bool :=
  if op = 0 then a == b
  else if op = 1 then a != b
  else if op = 2 then decide (a < b)
  else if op = 3 then decide (a ≤ b)
  else if op = 4 then decide (b < a)
  else decide (b ≤ a)

/-- DIV (R172): truncation toward zero; a division by 0 gives the limit of A's sign. -/
def cellDiv (a b : Val) (sh : Nat) : Val :=
  if b.v = 0 then
    result (if 0 < a.v then 2147483647 else if a.v < 0 then -2147483648 else 0) [a, b] true
  else result (Int.tdiv (a.v * 2 ^ sh) b.v) [a, b]

/-- MUX (R172, R154). -/
def cellMuxOut (ins : List Val) : Val :=
  let k := inp ins 0
  let n : Int := ins.length
  let i := clampI 0 (n - 2) k.v
  let x := inp ins (i.toNat + 1)
  result x.v [k, x] (i != k.v)

/-- ZONE_AGG (R172): only valid inputs take part. -/
def cellZone (op sub : Int) (ins : List Val) : List Val :=
  let used := ins.filter Val.valid
  let xs := valsOf used
  let n : Int := used.length
  let y : Int :=
    if op = 0 then greatestV xs
    else if op = 1 then leastV xs
    else if op = 2 then sumI xs
    else if op = 3 then Int.tdiv (sumI xs) n
    else ((used.filter Val.truth).length : Int)
  [if used.isEmpty then result sub [] false true true else result y used, result n used]

/-- The output of a cell without state and of one output, by its type code. -/
def combOut (d : CellDesc) (ins : List Val) : Val :=
  let a := inp ins 0
  let b := inp ins 1
  let c := inp ins 2
  let sh := (d.const 0).toNat
  match d.type_ with
  | 0x02 => result a.v [a]
  | 0x10 => result (sumI (valsOf ins)) ins
  | 0x11 => result (a.v - b.v) [a, b]
  | 0x12 => result (shiftRound (a.v * b.v) sh) [a, b]
  | 0x13 => cellDiv a b sh
  | 0x14 => result (leastV (valsOf ins)) ins
  | 0x15 => result (greatestV (valsOf ins)) ins
  | 0x16 =>
    let y := if c.v < b.v then b.v else clampI b.v c.v a.v
    result y [a, b, c] (decide (c.v < b.v) || y != a.v)
  | 0x20 => boolResult (ins.all Val.truth) ins
  | 0x21 => boolResult (ins.any Val.truth) ins
  | 0x22 => boolResult (a.truth != b.truth) [a, b]
  | 0x23 => boolResult (!a.truth) [a]
  | 0x28 => boolResult (compareBy (d.const 0) a.v b.v) [a, b]
  | 0x30 => let x := if a.truth then c else b
            result x.v [a, x]
  | 0x31 => cellMuxOut ins
  | _ => result 0 ins

/-! ### HYST, EDGE and ALARM (R174, R177) -/

/-- HYST: Q, and the held state. -/
def cellHystOut (q : Bool) (ins : List Val) : Bool × Val :=
  let x := inp ins 0
  let on := inp ins 1
  let off := inp ins 2
  let used := [x, on, off]
  if !x.valid then (q, boolResult q used)
  else if on.v ≤ off.v then
    let y := decide (on.v ≤ x.v)
    (y, boolResult y used true)
  else
    let y := if on.v ≤ x.v then true else if x.v ≤ off.v then false else q
    (y, boolResult y used)

/-- EDGE: Q, and the previous truth of X. -/
def cellEdgeOut (mode : Int) (was : Option Bool) (ins : List Val) : Option Bool × Val :=
  let x := inp ins 0
  if !x.valid then (was, boolResult false [x])
  else
    let up := x.truth
    let fires : Bool := match was with
      | none => false
      | some w => up != w && (if mode = 0 then up else if mode = 1 then !up else true)
    (some up, boolResult fires [x])

/-! ### Timers (R173) -/

/-- A timer's state: elapsed µs, armed, previous truth of IN. -/
structure TimerState where
  el : Nat
  armed : Bool
  was : Bool
  deriving DecidableEq, Repr

/-- An elapsed time saturates at 48 bits. -/
def sat48 (n : Nat) : Nat := min 281474976710655 n

/-- timer_run of R173 for TON. -/
def tonRun (in_ : Bool) (pt dt : Nat) (k : TimerState) : Bool × TimerState :=
  let el := if !in_ then 0 else if k.was then sat48 (k.el + dt) else k.el
  (in_ && decide (pt ≤ el), ⟨el, k.armed, in_⟩)

/-- timer_run of R173 for TOF. -/
def tofRun (in_ : Bool) (pt dt : Nat) (k : TimerState) : Bool × TimerState :=
  let el := if in_ then 0 else if k.armed && k.was then 0 else if k.armed then sat48 (k.el + dt) else k.el
  let armed := in_ || k.armed
  let armed := if !in_ && armed && decide (pt ≤ el) then false else armed
  (in_ || armed, ⟨el, armed, in_⟩)

/-- timer_run of R173 for TP. -/
def tpRun (in_ : Bool) (pt dt : Nat) (k : TimerState) : Bool × TimerState :=
  if in_ && !k.was && !k.armed then (true, ⟨0, true, in_⟩)
  else if k.armed then
    let el := sat48 (k.el + dt)
    (decide (el < pt), ⟨el, decide (el < pt), in_⟩)
  else (false, ⟨k.el, k.armed, in_⟩)

/-- One run of a timer cell: Q, ET and its state. -/
def timerRun (type_ : Nat) (was : Option Bool) (el : Nat) (armed : Bool) (dt : Nat) (ins : List Val) :
    List Val × TimerState :=
  let x := inp ins 0
  let pt := inp ins 1
  let before := was.getD x.truth
  let in_ := if x.valid then x.truth else before
  let k : TimerState := ⟨el, armed, before⟩
  let p := (max pt.v 0).toNat * 1000
  let r := if type_ = cellTon then tonRun in_ p dt k else if type_ = cellTof then tofRun in_ p dt k else tpRun in_ p dt k
  let lim := decide (pt.v < 0)
  let sub := !x.valid
  -- ET rests on IN alone, and its saturation is told as every other (R153, R154)
  ([boolResult r.1 [x, pt] lim sub, result (r.2.el / 1000 : Nat) [x] lim sub], r.2)

/-! ### PI and DAYLIGHT (R175, R217) -/

/-- A 64-bit intermediate (R153): one that does not fit is a free value of the exact one, so that no order of cells
matters to it (R163; assumption 26). -/
def wide (x : Int) : Int :=
  if -9223372036854775808 ≤ x ∧ x ≤ 9223372036854775807 then x else Config.wideOverflow x

/-- An integral is held in 64 bits. -/
def sat64 (x : Int) : Int := clampI (-9223372036854775808) 9223372036854775807 x

/-- pi_run of R175: Y and the integral. -/
def piRun (d : CellDesc) (y : Val) (integ : Option Int) (dt : Nat) (ins : List Val) : Val × Option Int :=
  let sp := inp ins 0
  let pv := inp ins 1
  let en := inp ins 2
  let trk := inp ins 3
  if !sp.valid || !pv.valid then (⟨y.v, qualityOf [sp, pv] false true⟩, integ)
  else
    let lo := d.const 2
    let hi := d.const 3
    let e := sp.v - pv.v
    let p := divRoundI (d.const 0 * e) 65536
    if !en.truth then
      -- tracking: Y rests on TRK, and not on what the controller compares (R154)
      let y := clampI lo hi trk.v
      (result y [en, trk], some (sat64 ((y - p) * 65536)))
    else
      let used := [sp, pv, en]
      let i := integ.getD ((y.v - p) * 65536)
      let di := Int.tdiv (wide (d.const 1 * e * dt)) 1000000
      let u := p + divRoundI (i + di) 65536
      if hi < u then (result hi used true, some (sat64 (if di < 0 then i + di else i)))
      else if u < lo then (result lo used true, some (sat64 (if 0 < di then i + di else i)))
      else (result u used, some (sat64 (i + di)))

/-- daylight_run of R217: LEVEL, the integrator, and whether the integrator was clamped (R218). -/
def daylightRun (d : CellDesc) (level : Val) (integ : Option Int) (dt : Nat) (ins : List Val) : Val × Option Int × Bool :=
  let sp := inp ins 0
  let lux := inp ins 1
  let en := inp ins 2
  let maxl := inp ins 3
  let hi := clampI 0 65535 maxl.v
  let lo := min (d.const 4) hi
  let above := decide (hi < d.const 4)
  let i0 := integ.getD (level.v * 65536)
  let step : Int := max 1 ((d.const 3).toNat * dt / 1000000 : Nat)
  let slew := fun (target : Int) => level.v + clampI (-step) step (target - level.v)
  if !en.truth || !sp.valid then
    (result (slew hi) [en, maxl] above, some (hi * 65536), false)
  else if !lux.valid || lux.q.testBit 1 then
    (result (slew hi) [sp, en, maxl] above true, some i0, false)
  else
    let e0 := sp.v - lux.v
    let e := if e0.natAbs ≤ (d.const 2).natAbs then 0 else e0
    let i1 := i0 + Int.tdiv (wide (d.const 1 * e * dt)) 1000000
    let i := clampI (lo * 65536) (hi * 65536) i1
    let clamped := i != i1
    (result (slew (divRoundI i 65536)) [sp, lux, en, maxl] (above || clamped), some i, clamped)

/-! ### IN, CAL and METER_READ (R170, R172, R177) -/

/-- IN: VAL and AGE from the frozen element (R170, R153). -/
def State.inRun (s : State) (d : CellDesc) : List Val :=
  let src := d.source
  let maxAge := d.const 1
  match s.prog.frozen.find? (fun f => f.id == src.1 && f.element == src.2) with
  | none => [result 0 [] false false true, result 0 []]
  | some f =>
    let age : Int := match f.ageUs with
      | some a => (a / 1000 : Nat)
      | none => 0
    let stale := decide (maxAge ≠ 0) && decide (maxAge < age)
    let v : Val :=
      if f.valid then ⟨satS32 f.value, quality true stale false (satS32 f.value != f.value) false⟩
      else ⟨d.const 2, quality false stale false false true⟩
    [v, ⟨satS32 age, quality true stale false false false⟩]

/-- The frozen time quality is not invalid (R172, R305). -/
def FrozenCalendar.valid (c : FrozenCalendar) : Bool := c.quality != 4

/-- CAL (R172). -/
def State.calRun (s : State) : List Val :=
  let c := s.prog.calendar
  let q := flag c.valid
  [⟨c.minute, q⟩, ⟨c.weekday, q⟩, ⟨c.date, q⟩]

/-- METER_READ (R177): the energies in mWh × 2⁻¹⁶ are summed and rounded half up. -/
def State.meterRun (s : State) (d : CellDesc) : List Val :=
  let rows := ((s.prog.meters.drop (d.const 0).toNat).take (d.const 1).toNat)
  let ind := rows.any (fun r => r.2.2)
  [result (divRound (sumN (rows.map (fun r => r.1))) 65536) [] false ind,
   result (sumN (rows.map (fun r => r.2.1))) [] false ind]

/-! ### SCHED (R304, R305) -/

/-- An output held with its valid bit clear. -/
def heldInvalid (outs : List Val) : List Val := outs.map (fun x => x.withValid false)

/-- sched_run of R304 with the special cases of R305. -/
def State.schedRun (s : State) (d : CellDesc) (r : CellRun) (dt : Nat) : CellRun × State :=
  let table := (d.const 0).toNat
  let v := s.cellView
  let c := s.prog.calendar
  let now := c.ms
  let k := r.sched
  let state0 := (r.outs.getD 0 (.const 0)).v
  if !c.valid || !c.regular then ({ r with outs := heldInvalid r.outs }, s)
  else
    let first := !k.begun
    let anew := first || k.reload
    let state1 := if anew then (v.latestState table now).getD state0 else state0
    let late1 := if anew ∧ (first ∨ (v.latestState table now).isSome) then false else k.late
    let queue1 := if anew then [] else k.queue
    let high0 := if first then now else k.high
    let prev := if first then now else k.prev
    let jump := !first && decide (v.p Pid.timeJumpMs * 1000 < ((now - prev) * 1000 - dt).natAbs)
    let s := if jump ∧ !s.prog.jumped then
        ({ s with prog := { s.prog with jumped := true } }).bump Pid.timeJumps
      else s
    let os := if high0 < now then v.occurrences table (max high0 (now - 604800000)) now else []
    let step := fun (a : Int × Bool × List (Int × Bool) × Nat) (o : Occurrence) =>
      if !o.pulse then (o.value, jump, a.2.2.1, a.2.2.2)
      else if a.2.2.1.length < 16 then (a.1, a.2.1, a.2.2.1 ++ [(o.value, jump)], a.2.2.2)
      else (a.1, a.2.1, a.2.2.1, a.2.2.2 + 1)
    let z := os.foldl step (state1, late1, queue1, 0)
    let old := if high0 < now then v.pulsesIn table high0 (now - 604800000) else 0
    let s := if z.2.2.2 + old = 0 then s else s.bump Pid.timeSchedExcess table (z.2.2.2 + old)
    let pulse := z.2.2.1.headD (0, false)
    let high := max high0 now
    let next : Int := match v.occurrences table high (now + 604800000) with
      | [] => -1
      | o :: _ => Int.fdiv (o.at_ - now) 1000
    ({ r with
        outs := [⟨z.1, quality true false z.2.1 false false⟩, ⟨pulse.1, quality true false pulse.2 false false⟩,
          ⟨next, qValid⟩]
        sched := ⟨high, now, true, false, z.2.1, z.2.2.1.tail⟩ }, s)

/-! ### PRESENCE and OUTRIDER (R209, R210, R216) -/

/-- PRESENCE: OCC, CONF, LUX, AGE. -/
def State.presenceOuts (s : State) (z : Nat) (outs : List Val) : List Val :=
  let p := s.cellView.presenceRun z
  if p.noPods then
    [⟨0, qLimited⟩, ⟨0, qLimited⟩, ⟨0, qLimited⟩, ⟨2147483647, qLimited⟩]
  else
    let st := p.anyStale
    let q := quality true st false false p.noneFresh
    let lux : Val := match p.lux with
      | some l => ⟨l, quality true st false false false⟩
      | none => ⟨(outs.getD 2 (.const 0)).v, quality false st false false true⟩
    [⟨flag p.occ, q⟩, ⟨p.conf, q⟩, lux, ⟨p.age, quality true st false false false⟩]

/-- OUTRIDER: LEVEL and ETA; frozen from shed step 2 on (R216, R220). -/
def State.outriderOuts (s : State) (z : Nat) (outs ins : List Val) : List Val :=
  let lead := inp ins 0
  let raise_ := inp ins 1
  if s.cellView.outFrozen then [result 0 ins false true, result (-1) ins false true]
  else if !lead.valid || !raise_.valid then
    outs.map (fun x => ⟨x.v, qualityOf ins false true⟩)
  else
    let l := clampI 0 600000 lead.v
    let r := clampI 0 65535 raise_.v
    let lim := l != lead.v || r != raise_.v
    let x := s.cellView.outriderRun z ((s.prog.ts.getD s.now : Nat) : Int) l r
    [result x.1 ins lim, result x.2 ins lim]

/-! ### TEAM_OUT (R176, R188) -/

/-- The team number begins a team (R50); a remote team always does. -/
def State.beginsTeam (s : State) (t : Nat) : Bool := decide (512 ≤ t) || s.p Pid.drvTeamSize t != 0

/-- Channels of a team's ratio form. -/
def State.ratioCount (s : State) (t : Nat) : Nat := if 512 ≤ t then 4 else s.p Pid.drvTeamSize t

/-- The target a TEAM_OUT cell forms, its inputs used, and whether anything was clamped (R176). -/
def State.formTarget (s : State) (d : CellDesc) (ins : List Val) : Target × List Val × Bool :=
  let lvl := inp ins 0
  let ratio := d.const 1 == 1
  let level := clampI 0 65535 lvl.v
  let fadeIn := inp ins 3
  let wired := ((d.ports[3]?).map (fun p => p.connected)).getD false
  let fade := if wired && decide (0 ≤ fadeIn.v) then some (min 600000 fadeIn.v.toNat) else none
  let rats := (ins.drop 4).take (s.ratioCount (d.const 0).toNat)
  let cct := clampI 1800 10000 (inp ins 1).v
  let duv := clampI (-500) 500 (inp ins 2).v
  let ratios := rats.map (fun x => clampI 0 65535 x.v)
  let lim := level != lvl.v || (wired && decide (600000 < fadeIn.v)) ||
    (if ratio then ratios != rats.map (fun x => x.v) else cct != (inp ins 1).v || duv != (inp ins 2).v)
  ({ level := level.toNat, ratio := ratio, cct := if ratio then 0 else cct.toNat, duv := if ratio then 0 else duv,
     ratios := if ratio then ratios.map Int.toNat else [], fade := fade,
     outside := !ratio && (cct != (inp ins 1).v || duv != (inp ins 2).v) },
   if ratio then [lvl, fadeIn] ++ rats else [lvl, inp ins 1, inp ins 2, fadeIn], lim)

/-- TEAM_OUT: LVL_OUT and the target (R176). -/
def State.teamOutRun (s : State) (d : CellDesc) (r : CellRun) (ins : List Val) : CellRun :=
  let f := s.cellView.formTarget d ins
  let begins := s.cellView.beginsTeam (d.const 0).toNat
  if (inp ins 0).valid then
    { r with
      outs := [result f.1.level f.2.1 f.2.2 false (!begins)], target := some f.1 }
  else
    { r with outs := [⟨(r.outs.getD 0 (.const 0)).v, qualityOf f.2.1 false true⟩] }

/-! ### One run of a cell -/

/-- Δt of a cell in this cycle, in µs (R169, R200). -/
def State.cellDt (s : State) (d : CellDesc) (r : CellRun) : Nat :=
  if r.young then 0 else if d.timer then s.prog.dtTimer else s.prog.dtOther

/-- What the cell of descriptor `d` computes in a run with these inputs. -/
def State.runCell (s : State) (d : CellDesc) (r : CellRun) (ins : List Val) : CellRun × State :=
  let dt := s.cellDt d r
  let y := r.outs.getD 0 (.const 0)
  let zone := (d.const 0).toNat
  match d.type_ with
  | 0x01 => ({ r with outs := s.inRun d }, s)
  | 0x38 =>
    let x := cellHystOut (r.was.getD y.truth) ins
    ({ r with was := some x.1, outs := [x.2] }, s)
  | 0x39 =>
    let x := cellEdgeOut (d.const 0) r.was ins
    ({ r with was := x.1, outs := [x.2] }, s)
  | 0x40 | 0x41 | 0x42 =>
    let x := timerRun d.type_ r.was r.el r.armed dt ins
    ({ r with outs := x.1, el := x.2.el, armed := x.2.armed, was := some x.2.was }, s)
  | 0x48 =>
    let x := piRun d y r.integ dt ins
    ({ r with outs := [x.1], integ := x.2 }, s)
  | 0x50 => s.schedRun d r dt
  | 0x51 => ({ r with outs := s.calRun }, s)
  | 0x58 => ({ r with outs := cellZone (d.const 0) (d.const 1) ins }, s)
  | 0x60 => ({ r with outs := s.presenceOuts zone r.outs }, s)
  | 0x61 => ({ r with outs := s.outriderOuts zone r.outs ins }, s)
  | 0x62 =>
    let x := daylightRun d y r.integ dt ins
    ({ r with outs := [x.1], integ := x.2.1 }, s.setB Pid.dayLimited zone x.2.2)
  | 0x70 => (s.teamOutRun d r ins, s)
  | 0x78 => ({ r with outs := s.meterRun d }, s)
  | 0x79 =>
    let c := inp ins 0
    let was := r.was.getD c.truth
    let now := if c.valid then c.truth else was
    let fires := now && !was
    let s := if fires then { s with prog := { s.prog with
        alarms := s.prog.alarms ++ [⟨(d.const 0).toNat, (d.const 1).toNat, (d.const 2).toNat, d.sid⟩] } } else s
    ({ r with was := some now, outs := [if c.valid then result c.v [c] else ⟨y.v, qualityOf [c]⟩] }, s)
  | _ => ({ r with outs := [combOut d ins] }, s)

end Sys2Proof.Machine
end

