-- ==== Sys2Proof/Machine/Graph.lean ====
section
/-! DEFINITION.  The coachman and the draught cores (R151, R155, R159 to R167): event flags, ready lists,
back-pressure, the deferred set, and how a cell completes. -/

namespace Sys2Proof.Machine

open Sys2Proof

/-! ### Small accessors -/

/-- Change the program state. -/
def State.withProg (s : State) (f : ProgState → ProgState) : State := { s with prog := f s.prog }

/-- A cell that is not there. -/
def CellDesc.none : CellDesc := ⟨0, 0, 0, [], [], []⟩

/-- A cell with its initial outputs and nothing seen. -/
def CellRun.fresh (inits : List Int) : CellRun where
  outs := inits.map Val.const
  committed := none
  seen := none
  flags := 0
  change := 0
  done := false
  el := 0
  armed := false
  was := none
  integ := none
  target := none
  sched := .fresh
  young := true

/-- Descriptor of cell `i`. -/
def State.desc (s : State) (i : Nat) : CellDesc := s.prog.descs.getD i .none

/-- Running state of cell `i`. -/
def State.cellRun (s : State) (i : Nat) : CellRun := s.prog.runs.getD i (.fresh [])

/-- Change the running state of cell `i`. -/
def State.modRun (s : State) (i : Nat) (f : CellRun → CellRun) : State :=
  s.withProg (fun p => { p with runs := p.runs.modify i f })

/-- A core of the coachman. -/
def State.core_ (s : State) (k : Nat) : CoreState := s.prog.cores.get k

/-- Change a core. -/
def State.modCore (s : State) (k : Nat) (f : CoreState → CoreState) : State :=
  s.withProg (fun p => { p with cores := p.cores.modify k f })

/-- The cores in dispatch (R167). -/
def State.activeCores (s : State) : List Nat := (List.range 8).filter (fun k => !(s.core_ k).withdrawn)

/-! ### Values as consumers see them (R155, R187, R189) -/

/-- The force on an output port, if any. -/
def State.forceOn (s : State) (sid port : Nat) : Option Force :=
  s.prog.forces.find? (fun f => f.sid == sid && f.port == port)

/-- Output `port` of cell `i` as it is presented: the forced value, or the computed one. -/
def State.present (s : State) (i port : Nat) : Val :=
  match s.forceOn (s.desc i).sid port with
  | some f => ⟨f.value, qValid + qForced⟩
  | none => (s.cellRun i).outs.getD port (.const 0)

/-- All outputs of cell `i` as presented. -/
def State.presentAll (s : State) (i : Nat) : List Val :=
  (List.range (s.cellRun i).outs.length).map (s.present i)

/-- The value an input port holds (R155). -/
def State.portValue (s : State) (p : InPort) : Val :=
  if !p.connected then .const p.const
  else if p.delayed then
    match (s.cellRun p.producer).committed with
    | some xs => xs.getD p.port (.const 0)
    | none => .const p.const
  else s.present p.producer p.port

/-- The inputs of cell `i`. -/
def State.inputs (s : State) (i : Nat) : List Val := (s.desc i).ports.map s.portValue

/-! ### Masks, flags and edges (R159, R160) -/

/-- Ports of a cell that satisfy `f`, by number. -/
def CellDesc.portsWhere (d : CellDesc) (f : InPort → Bool) : List Nat :=
  ((d.ports.zipIdx).filter (fun p => f p.1)).map (fun p => p.2)

/-- The mask of R160: bit 15, and every synchronous port. -/
def CellDesc.mask (d : CellDesc) : Nat := setBit (bitSet (d.portsWhere (fun p => p.connected && !p.delayed))) 15

/-- The synchronous edges out of cell `i`, in consumer index order. -/
def State.outEdges (s : State) (i : Nat) : List RaiseItem :=
  (s.prog.descs.zipIdx).flatMap (fun d =>
    (d.1.portsWhere (fun p => p.connected && !p.delayed && p.producer == i)).map (fun k => .edge d.2 k))

/-- The change bit of a port: its value or quality differs from the one used at the previous completion. -/
def State.portChanged (s : State) (i k : Nat) : Bool :=
  match (s.cellRun i).seen with
  | none => true
  | some xs => s.portValue ((s.desc i).ports.getD k ⟨false, false, 0, 0, 0⟩) != xs.getD k (.const 0)

/-- The change bit of bit 15: the type runs every cycle, or it is an EDGE whose 1 must last one cycle only
(R172, R174). -/
def State.runsNow (s : State) (i : Nat) : Bool :=
  ((cellType (s.desc i).type_).map (fun y => y.every)).getD false ||
    ((s.desc i).is cellEdge && ((s.cellRun i).outs.getD 0 (.const 0)).truth)

/-- Step 1 raises the boundary and cycle flags of a cell and those of its delayed and unconnected ports
(R159). -/
def State.tokenFlags (s : State) (i : Nat) : State :=
  let d := s.desc i
  let own := d.portsWhere (fun p => !p.connected || p.delayed)
  let change := if (s.cellRun i).seen.isNone then 0xFFFF
    else putBit (bitSet (own.filter (s.portChanged i))) 15 (s.runsNow i)
  s.modRun i (fun r => { r with
    flags := r.flags ||| setBit (setBit (bitSet own) 14) 15, change := r.change ||| change })

/-- Completion of its producer raises the flag of a synchronous port (R159). -/
def State.edgeFlag (s : State) (i k : Nat) : State :=
  let c := s.portChanged i k
  s.modRun i (fun r => { r with flags := setBit r.flags k, change := if c then setBit r.change k else r.change })

/-- A cell is ready and not yet completed in this cycle (R160). -/
def State.readyNow (s : State) (i : Nat) : Bool :=
  let m := (s.desc i).mask
  (s.cellRun i).flags &&& m == m && !(s.cellRun i).done

/-! ### Sources, ready lists and back-pressure (R161 to R165) -/

abbrev listCapacity : Nat := 1024

/-- A source of raises: the token raiser, or a core (R164). -/
inductive RaiseSource where
  | raiser
  | core (k : Nat)
  deriving DecidableEq, Repr

/-- Every other active core waits, so this core may not (R165). -/
def State.lastCore (s : State) (k : Nat) : Bool :=
  s.activeCores.all (fun j => j == k || (s.core_ j).waitFrom.isSome)

/-- The source waits with the raises it still has to place (R164). -/
def State.waitSource (s : State) (src : RaiseSource) (items : List RaiseItem) : State :=
  let s := s.bump Pid.progBpWaits
  match src with
  | .raiser => s.withProg (fun p => { p with tokens := items, tokenWait := some s.now, bpRose := true })
  | .core k => (s.modCore k (fun c => { c with raises := items, waitFrom := some s.now })).withProg (fun p => { p with bpRose := true })

/-- Put a cell on the ready list of its priority. -/
def State.pushReady (s : State) (i : Nat) : State :=
  let pr := (s.desc i).prio
  let l := s.prog.ready.get pr ++ [i]
  (s.withProg (fun p => { p with ready := p.ready.set pr l })).raiseTo Pid.progListPeak pr l.length

/-- Add a cell to the deferred set (R165). -/
def State.deferCell (s : State) (i : Nat) : State :=
  (s.bump Pid.progDeferred).withProg (fun p => { p with
    deferred := p.deferred.filter (fun j => decide (j < i)) ++ [i] ++ p.deferred.filter (fun j => decide (i < j)) })

/-- A skipped cell completes: its inputs are those it saw last (R161). -/
def State.skipCell (s : State) (i : Nat) : State :=
  (s.modRun i (fun r => { r with flags := 0 })).withProg (fun p => { p with skipped := p.skipped + 1 })

/-- One raise (raise of R161): what remains to be raised in consequence, or none where the source waits with
its place. -/
def State.raiseOne (s : State) (src : RaiseSource) (it : RaiseItem) : Option (List RaiseItem) × State :=
  let place := fun (s : State) (i : Nat) =>
    if (s.prog.ready.get (s.desc i).prio).length < listCapacity then (some [], s.pushReady i)
    else match src with
      | .core k => if s.lastCore k then (some [], s.deferCell i) else (none, s)
      | .raiser => (none, s)
  let settle := fun (s : State) (i : Nat) =>
    if !s.readyNow i then (some [], s)
    else
      let s := s.modRun i (fun r => { r with done := true })
      if (s.cellRun i).change = 0 then (some (s.outEdges i), s.skipCell i) else place s i
  match it with
  | .token i => settle (s.tokenFlags i) i
  | .edge i k => settle (s.edgeFlag i k) i
  | .place i => place s i

/-- The cell that a raise concerns. -/
def RaiseItem.cell : RaiseItem → Nat
  | .token i => i
  | .edge i _ => i
  | .place i => i

/-- Place a source's raises in order until they are placed or the source waits (R161, R164). -/
def State.raiseAll (src : RaiseSource) : Nat → List RaiseItem → State → State
  | 0, _, s => s
  | _ + 1, [], s =>
    match src with
    | .raiser => s.withProg (fun p => { p with tokens := [], tokenWait := none })
    | .core k => s.modCore k (fun c => { c with raises := [], waitFrom := none })
  | n + 1, it :: rest, s =>
    match s.raiseOne src it with
    | (some more, s) => State.raiseAll src n (more ++ rest) s
    | (none, s) => s.waitSource src (.place it.cell :: rest)

/-- Steps that cover every raise of a cycle: every cell's token, place and completion, and every edge. -/
def State.raiseFuel (s : State) : Nat := 4 * s.prog.descs.length + 2 * edgeCount s.prog.descs + 16

/-! ### Dispatch (R162, R165) -/

/-- As entries free, a list is refilled from the deferred cells of its priority, lowest index first
(R165). -/
def State.refill (s : State) (pr : Nat) : State :=
  if (s.prog.ready.get pr).length < listCapacity then
    match s.prog.deferred.find? (fun i => (s.desc i).prio == pr) with
    | some i => (s.withProg (fun p => { p with deferred := p.deferred.filter (fun j => j != i) })).pushReady i
    | none => s
  else s

/-- A requesting core takes the oldest entry of the highest-priority list that is not empty (R162); its flags
and change word are cleared as it goes. -/
def State.dispatchTo (s : State) (k : Nat) : State :=
  if (s.core_ k).job.isSome || (s.core_ k).withdrawn then s
  else
    match (List.range 4).findSome? (fun pr => ((s.prog.ready.get pr).head?).map (fun i => (pr, i))) with
    | none => s
    | some (pr, i) =>
      let s := (s.withProg (fun p => { p with ready := p.ready.set pr (p.ready.get pr).tail })).refill pr
      let s := s.modRun i (fun r => { r with flags := 0, change := 0 })
      s.modCore k (fun c => { c with job := some i, since := s.now })

/-- Every idle core requests work. -/
def State.dispatchAll (s : State) : State := (List.range 8).foldl State.dispatchTo s

/-- Nothing is left to raise, to dispatch or to run. -/
def State.graphDone (s : State) : Bool :=
  s.prog.tokens.isEmpty && s.prog.deferred.isEmpty &&
    (List.range 4).all (fun pr => (s.prog.ready.get pr).isEmpty) &&
    (List.range 8).all (fun k => (s.core_ k).job.isNone)

/-- Step 2 ends when every cell has completed (R166). -/
def State.graphSettle (s : State) : State :=
  let s := s.dispatchAll
  if s.prog.phase = .graph ∧ s.graphDone then s.withProg (fun p => { p with phase := .quiescent, quiet := s.now }) else s

/-- Start step 2: the token raiser raises every cell in index order (R159). -/
def State.startGraph (s : State) : State :=
  let n := s.prog.descs.length
  let s := s.withProg (fun p => { p with
    phase := .graph, ran := 0, skipped := 0, bpRose := false, ready := Tab.const [], deferred := [],
    runs := p.runs.map (fun r => { r with done := false, flags := 0 }) })
  (State.raiseAll .raiser s.raiseFuel ((List.range n).map .token) s).graphSettle

/-! ### Completion -/

/-- A core's cell has completed: it raises the out-edges, and asks for more work once they are placed. -/
def State.completeOn (s : State) (k i : Nat) : State :=
  let s := s.modCore k (fun c => { c with raises := s.outEdges i })
  State.raiseAll (.core k) s.raiseFuel (s.outEdges i) s

/-- A core whose raises are placed is free. -/
def State.freeCore (s : State) (k : Nat) : State :=
  if (s.core_ k).waitFrom.isSome then s else s.modCore k (fun c => { c with job := none })

/-- The core runs a cell and does not wait. -/
def State.jobOf (s : State) (k : Nat) : Option Nat :=
  if s.prog.phase = .graph ∧ k < 8 ∧ (s.core_ k).waitFrom.isNone then (s.core_ k).job else none

/-- Run a cell on its inputs and keep what it used (R151, R153, R159). -/
def State.execute (s : State) (i : Nat) : State :=
  let d := s.desc i
  let r := s.cellRun i
  let ins := s.inputs i
  let x := s.runCell d r ins
  let steered := d.is cellPi || d.is cellDaylight
  let moved : Bool := (d.is cellTeamOut && x.1.target != r.target) || (steered && x.1.outs != r.outs)
  let s := x.2.modRun i (fun q => { x.1 with seen := some ins, young := false, flags := q.flags, change := q.change, done := q.done })
  s.withProg (fun p => { p with ran := p.ran + 1, moved := p.moved || moved })

/-- A cell fails (R167): outputs unchanged with their valid bits clear; it runs again at the next cycle, as any cell
that has had its first cycle (R169).  The image copy of its descriptor, with the journal's changes, is the descriptor
that the model holds, for a parity error alters none of its data. -/
def State.failCell (s : State) (i how : Nat) : State :=
  let s := s.modRun i (fun r => { r with outs := heldInvalid r.outs, seen := none, young := false })
  (((s.withProg (fun p => { p with ran := p.ran + 1 })).bump Pid.progCellFaults).raise 0x0B (s.desc i).sid how)

/-- CELL_COMPLETE (R161): the cell on a draught core completes and raises its out-edges; skips, dispatch and
deferral follow. -/
def execCellComplete (t core : Nat) (s : State) : Host.Outcome State Fault Refusal :=
  s.run t (fun s =>
    match s.jobOf core with
    | none => s
    | some i => (((s.execute i).completeOn core i).freeCore core).graphSettle)

/-- CELL_PARITY_ERROR (R167) in the cell on a draught core. -/
def execCellParityError (t core : Nat) (s : State) : Host.Outcome State Fault Refusal :=
  s.run t (fun s =>
    match s.jobOf core with
    | none => s
    | some i => (((s.failCell i 0).completeOn core i).freeCore core).graphSettle)

/-- CELL_OVERLONG (R167): a cell run has exceeded 2 ms. -/
def execCellOverlong (t core : Nat) (s : State) : Host.Outcome State Fault Refusal :=
  s.run t (fun s =>
    match s.jobOf core with
    | none => s
    | some i =>
      if (s.core_ core).since + 2 * ms < s.now then
        (((s.failCell i 1).completeOn core i).freeCore core).graphSettle
      else s)

/-- A waiting source goes on once the list it waits for has room (R164): its wait is added to
prog.bp_us. -/
def State.resumeSource (s : State) (src : RaiseSource) (from_ : Nat) (items : List RaiseItem) : State :=
  match items with
  | .place i :: _ =>
    if (s.prog.ready.get (s.desc i).prio).length < listCapacity then
      let s := s.bumpSat u32max Pid.progBpUs 0 ((s.now - from_) / us)
      let s := match src with
        | .raiser => s.withProg (fun p => { p with tokens := [], tokenWait := none })
        | .core k => s.modCore k (fun c => { c with raises := [], waitFrom := none })
      let s := State.raiseAll src s.raiseFuel items s
      match src with
      | .raiser => s
      | .core k => s.freeCore k
    else s
  | _ => s

/-- BACK_PRESSURE_WAIT (R164): the wait of a source, 0 for the token raiser and 1 to 8 for a core, ends where
an entry has freed. -/
def execBackPressureWait (t source : Nat) (s : State) : Host.Outcome State Fault Refusal :=
  s.run t (fun s =>
    if s.prog.phase ≠ .graph then s
    else if source = 0 then
      match s.prog.tokenWait with
      | some a => (s.resumeSource .raiser a s.prog.tokens).graphSettle
      | none => s
    else
      match (s.core_ (source - 1)).waitFrom with
      | some a => (s.resumeSource (.core (source - 1)) a (s.core_ (source - 1)).raises).graphSettle
      | none => s)

end Sys2Proof.Machine
end

