-- ==== Sys2Proof/Machine/Program.lean ====
section
/-! DEFINITION.  The program opcodes: forces (R187 to R190), overrides of channels and teams (R247), loading,
swapping and reverting images (R158, R191 to R196, R509), online changes (R183 to R186), PROG_READ and
PROG_UPLOAD (R510). -/

namespace Sys2Proof.Machine

open Sys2Proof

/-! ### Finding cells -/

/-- The index of the cell with a stable identifier in the active graph. -/
def State.cellNamed (s : State) (sid : Nat) : Option Nat := s.prog.descs.findIdx? (fun d => d.sid == sid)

/-- A boundary command changed a constant, value or force of the cell (R159). -/
def State.touchCell (s : State) (i : Nat) : State := s.modRun i (fun r => { r with change := setBit r.change 14 })

/-- Check at acceptance, then wait for the boundary; on a wheeler the command is refused (R30, R184). -/
def boundaryBody (bad : List Word → Option Nat) : Body := fun q s =>
  if s.wheeler then refuse stRefusedState 0 s
  else match bad q.payload with
    | some k => refuse stRange k s
    | none => enqueueBoundary q s

/-- The first missing or extra word of a payload that must hold `n` words. -/
def lengthBad (n : Nat) (ws : List Word) : Option Nat := if ws.length = n then none else some (min ws.length n)

/-- The first check that fails. -/
def firstBad (cs : List (Bool × Nat)) : Option Nat := (cs.find? (fun c => c.1)).map (fun c => c.2)

/-- The length check, then others. -/
def lengthThen (n : Nat) (ws : List Word) (cs : List (Bool × Nat)) : Option Nat :=
  (lengthBad n ws).orElse (fun _ => firstBad cs)

/-! ### Team targets (R246) -/

/-- The first word of a team target that is out of range. -/
def targetBad (ws : List Word) : Option Nat :=
  if 1 < bits (nth ws 0) 15 8 ∨ bits (nth ws 0) 7 0 ≠ 0 then some 0 else none

/-- A team target of five words for a team, clamped as R176 says. -/
def State.targetOfWords (s : State) (t : Nat) (ws : List Word) : Target :=
  let ratio := bits (nth ws 0) 15 8 == 1
  let cct := bits (nth ws 1) 31 16
  let duv := sbits (nth ws 1) 15 0
  let cct' := clampN 1800 10000 cct
  let duv' := clampI (-500) 500 duv
  let rs := [bits (nth ws 2) 31 16, bits (nth ws 2) 15 0, bits (nth ws 3) 31 16, bits (nth ws 3) 15 0]
  { level := bits (nth ws 0) 31 16, ratio := ratio,
    cct := if ratio then 0 else cct', duv := if ratio then 0 else duv',
    ratios := if ratio then rs.take (s.ratioCount t) else [],
    fade := if nth ws 4 = 0xFFFFFFFF then none else some (min 600000 (nth ws 4).toNat),
    outside := !ratio && (cct' != cct || duv' != duv) }

/-- A target as five words (R246). -/
def Target.words (g : Target) : List Word :=
  let r := fun k => g.ratios.getD k 0
  [word (g.level * 65536 + flag g.ratio * 256),
   word (g.cct * 65536 + (wordI g.duv).toNat % 65536),
   pair (r 0) (r 1), pair (r 2) (r 3),
   match g.fade with
   | some f => word f
   | none => 0xFFFFFFFF]

/-! ### FORCE and RELEASE (R187 to R190) -/

/-- Replace the forces. -/
def State.setForces (s : State) (fs : List Force) : State := s.withProg (fun p => { p with forces := fs })

/-- FORCE at acceptance: its words. -/
def forceBad (ws : List Word) : Option Nat :=
  if ws.length ≠ 4 ∧ ws.length ≠ 8 then some (min ws.length (if ws.length < 4 then 4 else 8))
  else firstBad [(bits (nth ws 1) 29 0 != 0, 1), (decide (604800 < (nth ws 2).toNat), 2)]

/-- FORCE at the boundary (R187, R188). -/
def State.applyForce (s : State) (ws : List Word) : Result × State :=
  if s.wheeler then (fail stRefusedState, s)
  else match s.cellNamed (nth ws 0).toNat with
  | none => (fail stRange 0, s)
  | some i =>
    let d := s.desc i
    let port := bits (nth ws 1) 31 30
    let whole := d.is cellTeamOut
    let ts := ws.drop 3
    if d.inits.length ≤ port then (fail stRange 1, s)
    else if ws.length ≠ (if whole then 8 else 4) then (fail stRange 4, s)
    else if whole ∧ (targetBad ts).isSome then (fail stRange 3, s)
    else
      let hold := (nth ws 2).toNat
      let g := s.targetOfWords (d.const 0).toNat ts
      let f : Force := {
        sid := d.sid, port := port, value := if whole then g.level else (nth ws 3).toInt,
        target := if whole then some g else none,
        until_ := if hold = 0 then none else some (s.now + hold * sec) }
      let old := s.forceOn d.sid port
      if old.isNone ∧ 1024 ≤ s.prog.forces.length then (fail stFull, s)
      else
        let same : Bool := match old with
          | some o => o.value == f.value && o.target == f.target
          | none => false
        let fs := if old.isSome then s.prog.forces.map (fun o => if o.sid = d.sid ∧ o.port = port then f else o)
          else s.prog.forces ++ [f]
        let s := s.setForces fs
        (ok, if same then s else s.touchCell i)

/-- Release the forces that satisfy `f`. -/
def State.releaseForces (s : State) (f : Force → Bool) : State :=
  let gone := s.prog.forces.filter f
  let s := s.setForces (s.prog.forces.filter (fun x => !f x))
  gone.foldl (fun s x => match s.cellNamed x.sid with
    | some i => s.touchCell i
    | none => s) s

/-- RELEASE at the boundary (R190). -/
def State.applyRelease (s : State) (ws : List Word) : Result × State :=
  if s.wheeler then (fail stRefusedState, s)
  else if nth ws 0 = 0xFFFFFFFF then (ok, s.releaseForces (fun _ => true))
  else match s.cellNamed (nth ws 0).toNat with
    | none => (fail stRange 0, s)
    | some i =>
      let port := bits (nth ws 1) 31 30
      if (s.desc i).inits.length ≤ port then (fail stRange 1, s)
      else (ok, s.releaseForces (fun f => f.sid == (s.desc i).sid && f.port == port))

/-- FORCE (R187). -/
def execForce (t : Nat) (tr : Transport) (s : State) : Host.Outcome State Fault Refusal :=
  s.run t (fun s => s.onOpcode tr 0x12 .boundary (boundaryBody forceBad))

/-- RELEASE (R190). -/
def execRelease (t : Nat) (tr : Transport) (s : State) : Host.Outcome State Fault Refusal :=
  s.run t (fun s => s.onOpcode tr 0x13 .boundary (boundaryBody (fun ws =>
    lengthThen 2 ws [(bits (nth ws 1) 29 0 != 0, 1)])))

/-- The forces whose hold time has passed by the present instant. -/
def State.expiredForces (s : State) : List Force :=
  s.prog.forces.filter (fun f => match f.until_ with
    | some u => decide (u ≤ s.now)
    | none => false)

/-- Forces whose hold time has passed are released at the boundary, each with its record (R187). -/
def State.expireForces (s : State) : State :=
  let gone := s.expiredForces
  let s := s.releaseForces (fun f => gone.contains f)
  gone.foldl (fun s f => s.raise 0x0D f.sid f.port) s

/-! ### Overrides of rung 5 (R247) -/

/-- CHANNEL_SET and CHANNEL_CLEAR name a run of channels within one bank. -/
def channelRunBad (w : Word) : Bool :=
  let first := bits w 31 16
  let n := bits w 15 0
  n == 0 || decide (32 < n) || decide (512 ≤ first) || (first / 32 != (first + n - 1) / 32)

/-- The channels a run names. -/
def channelRun (w : Word) : List Nat := (List.range (bits w 15 0)).map (fun k => bits w 31 16 + k)

/-- CHANNEL_SET at acceptance. -/
def channelSetBad (ws : List Word) : Option Nat :=
  if ws.isEmpty then some 0
  else if channelRunBad (nth ws 0) then some 0
  else
    let n := bits (nth ws 0) 15 0
    (lengthBad (2 + n) ws).orElse (fun _ =>
      ((ws.drop 2).findIdx? (fun w => bits w 31 16 != 0)).map (fun k => k + 2))

/-- CHANNEL_SET at the boundary: each channel is held at its level; a channel in no team is out of range. -/
def State.applyChannelSet (s : State) (ws : List Word) : Result × State :=
  let cs := channelRun (nth ws 0)
  if s.wheeler then (fail stRefusedState, s)
  else match cs.findIdx? (fun c => (s.teamOf c).isNone) with
    | some k => (fail stRange (2 + k), s)
    | none =>
      let fade := if nth ws 1 = 0xFFFFFFFF then none else some (min 600000 (nth ws 1).toNat)
      (ok, (cs.zip (ws.drop 2)).foldl (fun s x =>
        s.modCd x.1 (fun d => { d with override_ := some (x.2.toNat, fade) })) s)

/-- CHANNEL_CLEAR at the boundary. -/
def State.applyChannelClear (s : State) (ws : List Word) : Result × State :=
  let w := nth ws 0
  let cs := if bits w 31 16 = 0xFFFF then
      (s.drive.channels.cells.filter (fun c => c.2.override_.isSome)).map (fun c => c.1)
    else channelRun w
  if s.wheeler then (fail stRefusedState, s)
  else (ok, cs.foldl (fun s c => s.modCd c (fun d => { d with override_ := none })) s)

/-- CHANNEL_SET (R247). -/
def execChannelSet (t : Nat) (tr : Transport) (s : State) : Host.Outcome State Fault Refusal :=
  s.run t (fun s => s.onOpcode tr 0x20 .boundary (boundaryBody channelSetBad))

/-- CHANNEL_CLEAR (R247): 0xFFFF as the first channel clears all. -/
def execChannelClear (t : Nat) (tr : Transport) (s : State) : Host.Outcome State Fault Refusal :=
  s.run t (fun s => s.onOpcode tr 0x21 .boundary (boundaryBody (fun ws =>
    lengthThen 1 ws [(bits (nth ws 0) 31 16 != 0xFFFF && channelRunBad (nth ws 0), 0)])))

/-- Hold or release a team at rung 5. -/
def State.setTeamOverride (s : State) (t : Nat) (o : Option Target) : State :=
  if t < 512 then s.modTd t (fun d => { d with override_ := o })
  else s.withDrive (fun d => { d with remoteOverride := d.remoteOverride.set t o })

/-- The rung-5 target of a team. -/
def State.teamOverride (s : State) (t : Nat) : Option Target :=
  if t < 512 then (s.td t).override_ else s.drive.remoteOverride.get t

/-- TEAM_SET at the boundary. -/
def State.applyTeamSet (s : State) (ws : List Word) : Result × State :=
  let t := (nth ws 0).toNat
  if s.wheeler then (fail stRefusedState, s)
  else if !s.beginsTeam t then (fail stRange 0, s)
  else (ok, s.setTeamOverride t (some (s.targetOfWords t (ws.drop 1))))

/-- TEAM_CLEAR at the boundary: 0xFFFF clears every team. -/
def State.applyTeamClear (s : State) (ws : List Word) : Result × State :=
  let t := (nth ws 0).toNat
  if s.wheeler then (fail stRefusedState, s)
  else if t = 0xFFFF then
    let ts := (s.drive.teams.cells.filter (fun c => c.2.override_.isSome)).map (fun c => c.1)
    let s := ts.foldl (fun s t => s.setTeamOverride t none) s
    (ok, s.withDrive (fun d => { d with remoteOverride := Tab.const none }))
  else (ok, s.setTeamOverride t none)

/-- TEAM_SET (R247). -/
def execTeamSet (t : Nat) (tr : Transport) (s : State) : Host.Outcome State Fault Refusal :=
  s.run t (fun s => s.onOpcode tr 0x22 .boundary (boundaryBody (fun ws =>
    lengthThen 6 ws [(decide (767 < (nth ws 0).toNat), 0), ((targetBad (ws.drop 1)).isSome, 1)])))

/-- TEAM_CLEAR (R247). -/
def execTeamClear (t : Nat) (tr : Transport) (s : State) : Host.Outcome State Fault Refusal :=
  s.run t (fun s => s.onOpcode tr 0x23 .boundary (boundaryBody (fun ws =>
    lengthThen 1 ws [(decide (767 < (nth ws 0).toNat) && nth ws 0 != 0xFFFF, 0)])))

/-- The team's force, if its TEAM_OUT cell is forced (R188). -/
def State.teamForce (s : State) (t : Nat) : Option Target :=
  (s.prog.forces.filterMap (fun f => match f.target, s.cellNamed f.sid with
    | some g, some i => if (s.desc i).const 0 = t then some g else none
    | _, _ => none)).head?

/-- The target of a remote team from rungs 4, 5 and 7; none while it holds its initial target (R50). -/
def State.remoteTarget (s : State) (t : Nat) : Option Target :=
  (s.teamForce t).orElse (fun _ => (s.drive.remoteOverride.get t).orElse (fun _ => s.drive.remoteProgram.get t))

/-- The rung that TEAM_READ shows for a team. -/
def State.shownRung (s : State) (t : Nat) : Nat :=
  if 512 ≤ t then
    if (s.teamForce t).isSome then 4 else if (s.teamOverride t).isSome then 5 else if s.wheeler then 6 else 7
  else
    let b := t / 32
    if s.rung1 b then 1 else if (s.bd b).riding then 2 else if (s.bd b).test then 3 else s.teamRung t

/-- The four words of TEAM_READ for a team.  A colour that is not a CCT, and what the module does not know
of a remote team's light once it has a target, are free values (assumption 27). -/
def State.teamWords (s : State) (t : Nat) : List Word × State :=
  if 512 ≤ t then
    match (s.drive.remoteSent.get t).orElse (fun _ => s.remoteTarget t) with
    | none => ([0, word (4000 * 65536), word (s.shownRung t * 2 ^ 24), 0], s)
    | some g =>
      let a := s.drawWord
      let b := a.2.drawWord
      let c := b.2.drawBelow 16777216
      ([a.1, b.1, word (s.shownRung t * 2 ^ 24 + c.1), word (g.level * 65536)], c.2)
  else
    let d := s.td t
    let glides := (s.chansOf t).map (fun c => (((s.cd c).glide).map (fun g => g.steps - g.step)).getD 0)
    let left := glides.foldl max (d.steps - d.step)
    let last := ((d.waiting.orElse (fun _ => d.taken)).map (fun x => x.2)).getD (s.initialTarget t)
    let colour : Word × State := match s.colourOf t with
      | .cct m v => (word ((Q.ofNat 1000000).div m).round.toNat * 65536 + word ((wordI v.round).toNat % 65536), s)
      | _ => s.drawWord
    ([word d.lam, colour.1, word (s.shownRung t * 2 ^ 24 + min 16777215 left), word (last.level * 65536)], colour.2)

/-- Words of several teams. -/
def State.teamsWords (s : State) : List Nat → List Word × State
  | [] => ([], s)
  | t :: rest =>
    let a := s.teamWords t
    let b := State.teamsWords a.2 rest
    (a.1 ++ b.1, b.2)

/-- TEAM_READ (R247). -/
def execTeamRead (t : Nat) (tr : Transport) (s : State) : Host.Outcome State Fault Refusal :=
  s.run t (fun s => s.onOpcode tr 0x24 .immediate (withLength 1 (fun q s =>
    let first := bits (nth q.payload 0) 31 16
    let n := bits (nth q.payload 0) 15 0
    if n = 0 ∨ 64 < n ∨ 768 < first + n then refuse stRange 0 s
    else
      let r := s.teamsWords ((List.range n).map (fun k => first + k))
      (.done (ok r.1), r.2))))

/-! ### PROG_LOAD and PROG_UPLOAD (R158, R509) -/

/-- KiB of an image. -/
def imageKib (ws : List Word) : Nat := divUp ws.length 256

/-- The lead carries an image chunk to its wheeler (R420). -/
def State.carryChunk (s : State) (ws : List Word) : State := if s.pairedLead then s.tandemPost 8 ws else s

/-- The lead has a wheeler, joined or out of reach for the time being (R418, R431). -/
def State.hasWheeler (s : State) : Bool := s.lead && s.tandem.partner.isSome && decide (2 ≤ s.p Pid.tdmState)

/-- The staged image, and what the staging of the pair's other module then holds: the lead carries the image to
its wheeler (R191, R420). -/
def State.setStaged (s : State) (ws : List Word) : State :=
  let s := s.withProg (fun p => { p with staged := ws, partial_ := none })
  { s with tandem := { s.tandem with
      carried := if (s.pairedLead || s.wheeler) && !ws.isEmpty then some (imageCrc ws) else none } }

/-- A load ends: the whole image is validated (R158). -/
def State.finishLoad (s : State) (image : List Word) : Result × State :=
  match imageFault image with
  | some (e, c) =>
    (fail stRange e, ((s.setStaged []).setP Pid.progLoadError 0 e).setP Pid.progLoadErrorCell 0 c)
  | none =>
    (ok [imageCrc image], ((s.setStaged image).setP Pid.progLoadError 0 0).setP Pid.progLoadErrorCell 0 0)

/-- PROG_LOAD (R509): chunks in order; the last one ends the load.  Its result waits for the write of the
program region. -/
def progLoadBody : Body := fun q s =>
  let ws := q.payload
  if ws.length < 2 then refuse stRange ws.length s
  else if bits (nth ws 1) 30 0 ≠ 0 then refuse stRange 1 s
  else if !s.storageUp then refuse stRefusedState 0 s
  else
    let off := (nth ws 0).toNat
    let chunk := ws.drop 2
    let due := if off = 0 then some [] else s.prog.partial_
    match due with
    | none => refuse stRange 0 s
    | some have_ =>
      if have_.length ≠ off then refuse stRange 0 s
      else
        let image := have_ ++ chunk
        let s := s.carryChunk ws
        let s := if off = 0 then s.setStaged [] else s
        let r := if bit (nth ws 1) 31 then s.finishLoad image
          else (ok, s.withProg (fun p => { p with partial_ := some image }))
        (.later, r.2.storeWrite (.pslc 4 1) (imageKib chunk) (.result q.ref r.1))

/-- PROG_LOAD. -/
def execProgLoad (t : Nat) (tr : Transport) (s : State) : Host.Outcome State Fault Refusal :=
  s.run t (fun s => s.onOpcode tr 0x30 .deferred progLoadBody)

/-- PROG_UPLOAD: words of the active, staged or previous image. -/
def execProgUpload (t : Nat) (tr : Transport) (s : State) : Host.Outcome State Fault Refusal :=
  s.run t (fun s => s.onOpcode tr 0x37 .immediate (withLength 3 (fun q s =>
    let k := (nth q.payload 0).toNat
    let image := if k = 0 then s.prog.active else if k = 1 then s.prog.staged else s.prog.previous
    let off := (nth q.payload 1).toNat
    let n := (nth q.payload 2).toNat
    if 2 < k then refuse stRange 0 s
    else if image.isEmpty then refuse stNotCommitted 0 s
    else if image.length ≤ off then refuse stRange 1 s
    else if image.length < off + n then refuse stRange 2 s
    else (.done (ok ((image.drop off).take n)), s))))

/-- PROG_REVERT (R191): the previous image goes to staging. -/
def execProgRevert (t : Nat) (tr : Transport) (s : State) : Host.Outcome State Fault Refusal :=
  s.run t (fun s => s.onOpcode tr 0x32 .deferred (withLength 0 (fun q s =>
    if s.prog.previous.isEmpty ∨ !s.storageUp then refuse stNotCommitted 0 s
    else
      let image := s.prog.previous
      let s := (s.setStaged image).carryChunk (0 :: 0x80000000 :: image)
      (.later, s.storeWrite (.pslc 4 1) (imageKib image) (.result q.ref (ok [imageCrc image]))))))

/-! ### PROG_SWAP (R191 to R196) -/

/-- The cell of the active graph that a new descriptor survives from (R192). -/
def State.survivorOf (s : State) (d : CellDesc) : Option (CellDesc × CellRun) :=
  ((s.prog.descs.zip s.prog.runs).find? (fun x => x.1.sid == d.sid)).bind (fun x =>
    if x.1.type_ = d.type_ ∧ x.1.structural = d.structural then some x else none)

/-- The state of a new cell in a swap (R194). -/
def newCell (d : CellDesc) : CellRun :=
  let r := CellRun.fresh d.inits
  let first := d.inits.getD 0 0
  { r with
    committed := some r.outs
    was := if d.is cellHyst then some (first != 0) else none
    integ := if d.is cellDaylight then some (first * 65536) else none }

/-- The state that a surviving cell carries (R193). -/
def carriedCell (old new : CellDesc) (r : CellRun) : CellRun :=
  { r with
    seen := none
    change := setBit r.change 14
    integ := if new.is cellPi && old.const 0 != new.const 0 then none else r.integ }

/-- The teams that TEAM_OUT cells drive. -/
def drivenTeams (ds : List CellDesc) : List Nat :=
  (ds.filter (fun d => d.is cellTeamOut)).map (fun d => (d.const 0).toNat)

/-- A swap: counts of surviving, new and removed cells, the dropped forces in order of stable identifier, and
the state with the new graph. -/
def State.swapGraph (s : State) (ds : List CellDesc) : (Nat × Nat × Nat) × List Force × State :=
  let olds := s.prog.descs
  let survives := fun (d : CellDesc) => (s.survivorOf d).isSome
  let kept := (ds.filter survives).length
  let runs := ds.map (fun d => match s.survivorOf d with
    | some x => carriedCell x.1 d x.2
    | none => newCell d)
  let holds := fun (f : Force) => ds.any (fun d => d.sid == f.sid && survives d && decide (f.port < d.inits.length))
  let dropped := (s.prog.forces.filter (fun f => !holds f)).mergeSort (fun a b => decide (a.sid < b.sid ∨ (a.sid = b.sid ∧ a.port ≤ b.port)))
  let drives := drivenTeams ds
  let orphans := ((s.prog.orphans ++ drivenTeams olds).eraseDups).filter (fun t => !drives.contains t)
  let s := s.withProg (fun p => { p with
    descs := ds, runs := runs, forces := p.forces.filter holds, orphans := orphans })
  ((kept, ds.length - kept, olds.length - kept), dropped, s.bump Pid.progForceDrops 0 dropped.length)

/-- The staged image becomes the active one; the former, with its journal folded in, the previous one
(R191). -/
def State.activateStaged (s : State) : State :=
  let image := s.prog.staged
  let former := if s.prog.active.isEmpty then [] else encodeImage s.prog.descs
  let s := s.withProg (fun p => { p with
    active := image, staged := [], partial_ := none, previous := former, written := [], unwritten := [], unwrittenSince := none })
  { s with tandem := { s.tandem with carried := none } }

/-- PROG_SWAP at the boundary.  The list of dropped forces is cut to what the transport carries (R195). -/
def State.applySwap (s : State) (limit : Nat) (ws : List Word) : Result × State :=
  let image := s.prog.staged
  let crc := imageCrc image
  if s.wheeler then (fail stRefusedState, s)
  else if image.isEmpty ∨ crc ≠ nth ws 0 ∨ !s.storageUp ∨ (s.hasWheeler ∧ s.tandem.carried ≠ some crc) then (fail stNotCommitted, s)
  else
    let ds := imageCells image
    let s := s.activateStaged
    let x := s.swapGraph ds
    let n := x.2.1.length
    let list := (x.2.1.take ((limit - 5) / 2)).flatMap (fun f => [word f.sid, word f.port])
    let s := x.2.2.withProg (fun p => { p with swapped := p.swapped ++ [(crc, x.1.2.2)] })
    (ok ([word x.1.1, word x.1.2.1, word x.1.2.2, word n] ++ list),
      s.storeWrite (.pslc 4 0) (imageKib image) .nothing)

/-- PROG_SWAP (R191). -/
def execProgSwap (t : Nat) (tr : Transport) (s : State) : Host.Outcome State Fault Refusal :=
  s.run t (fun s => s.onOpcode tr 0x31 .boundary (fun q s =>
    if s.wheeler then refuse stRefusedState 0 s
    else if !s.storageUp then refuse stNotCommitted 0 s
    else boundaryBody (lengthBad 1) q s))

/-! ### Online changes (R183 to R186) -/

/-- The most journal entries, written or pending (R186). -/
abbrev journalCapacity : Nat := 4096

/-- A changed type constant is in order (R183, R184): within its range, relations kept, no PUB index twice. -/
def State.typeConstGood (s : State) (i k : Nat) (v : Int) : Bool :=
  let d := s.desc i
  let range := ((cellType d.type_).bind (fun y => y.consts[k]?)).getD (0, -1)
  let d' := d.change true k v
  decide (range.1 ≤ v) && decide (v ≤ range.2) && constsAgree d.type_ d'.consts &&
    !(d.is cellPub && (s.prog.descs.zipIdx).any (fun x => x.2 != i && x.1.is cellPub && x.1.const 0 == v))

/-- PROG_CONST at the boundary. -/
def State.applyConst (s : State) (ws : List Word) : Result × State :=
  let typed := bit (nth ws 1) 31
  let k := bits (nth ws 1) 7 0
  let v := (nth ws 2).toInt
  if s.wheeler then (fail stRefusedState, s)
  else match s.cellNamed (nth ws 0).toNat with
    | none => (fail stRange 0, s)
    | some i =>
      let d := s.desc i
      let item := if typed then
          decide (k < d.consts.length) && !(((cellType d.type_).map (fun y => y.structural)).getD []).contains k
        else ((d.ports[k]?).map (fun p => !p.connected)).getD false
      if !item then (fail stRange 1, s)
      else if typed && !s.typeConstGood i k v then (fail stRange 2, s)
      else if journalCapacity ≤ s.prog.unwritten.length then (fail stFull, s)
      else
        let held := if typed then d.const k else ((d.ports[k]?).map (fun p => p.const)).getD 0
        let s := s.withProg (fun p => { p with
          descs := p.descs.modify i (fun d => d.change typed k v),
          unwritten := p.unwritten ++ [⟨d.sid, typed, k, v⟩], uncommitted := p.uncommitted + 1, unwrittenSince := some (p.unwrittenSince.getD s.now) })
        let s := s.bump Pid.progOnlineChanges
        (ok, if held = v then s else s.touchCell i)

/-- The state item of PROG_STATE (R183): the changed run, none where the value is out of its range or the type
has none. -/
def stateChange (d : CellDesc) (r : CellRun) (v : Int) : Option (Option CellRun) :=
  if d.timer then some (if 0 ≤ v then some { r with el := v.toNat * 1000 } else none)
  else if d.is cellPi then some (some { r with integ := some (v * 65536) })
  else if d.is cellHyst then some (if v = 0 ∨ v = 1 then some { r with was := some (v == 1) } else none)
  else none

/-- PROG_STATE at the boundary. -/
def State.applyState (s : State) (ws : List Word) : Result × State :=
  if s.wheeler then (fail stRefusedState, s)
  else match s.cellNamed (nth ws 0).toNat with
    | none => (fail stRange 0, s)
    | some i =>
      match stateChange (s.desc i) (s.cellRun i) (nth ws 1).toInt with
      | none => (fail stRange 0, s)
      | some none => (fail stRange 1, s)
      | some (some r) =>
        let same := r == s.cellRun i
        let s := (s.modRun i (fun _ => r)).bump Pid.progOnlineChanges
        (ok, if same then s else s.touchCell i)

/-- PROG_CONST (R183). -/
def execProgConst (t : Nat) (tr : Transport) (s : State) : Host.Outcome State Fault Refusal :=
  s.run t (fun s => s.onOpcode tr 0x33 .boundary (boundaryBody (fun ws =>
    lengthThen 3 ws [(bits (nth ws 1) 30 8 != 0, 1)])))

/-- PROG_STATE (R183). -/
def execProgState (t : Nat) (tr : Transport) (s : State) : Host.Outcome State Fault Refusal :=
  s.run t (fun s => s.onOpcode tr 0x34 .boundary (boundaryBody (lengthBad 2)))

/-! ### PROG_READ (R189, R510) -/

/-- A 64-bit two's-complement number as two words, upper first. -/
def words64 (x : Int) : List Word := wordsOfNat 2 (Int.emod x (2 ^ 64)).toNat

/-- 2000-01-01 00:00:00 in ms since the epoch of `State.calMs`. -/
abbrev ms2000 : Int := 946684800000

/-- The state words of a cell (R510). -/
def stateWords (d : CellDesc) (r : CellRun) : List Word :=
  let was := word (flag (r.was.getD false))
  if d.timer then [word (r.el / 2 ^ 32), word (r.el % 2 ^ 32), word (flag r.armed * 2 + flag (r.was.getD false))]
  else if d.is cellPi || d.is cellDaylight then words64 (r.integ.getD 0)
  else if d.is cellHyst then
    [word (flag (r.was.getD ((r.outs.getD 0 (.const 0)).truth)))]
  else if d.is cellEdge || d.is cellAlarm then [was]
  else if d.is cellTeamOut then
    match r.target with
    | some g => g.words
    | none => List.replicate 5 0xFFFFFFFF
  else if d.is cellSched then
    let late := bitSet (((r.sched.queue.zipIdx).filter (fun x => x.1.2)).map (fun x => x.2))
    words64 (r.sched.high - ms2000) ++ words64 (r.sched.prev - ms2000) ++
      [pair r.sched.queue.length late] ++ r.sched.queue.map (fun x => wordI x.1)
  else []

/-- The words of one output port: computed value, quality, forced value, forced.  The forced value of a port
that is not forced is a free value (assumption 27). -/
def State.portWords (s : State) (i port : Nat) : List Word × State :=
  let v := (s.cellRun i).outs.getD port (.const 0)
  match s.forceOn (s.desc i).sid port with
  | some f => ([wordI v.v, word v.q, wordI f.value, 1], s)
  | none =>
    let x := s.drawWord
    ([wordI v.v, word v.q, x.1, 0], x.2)

/-- The words of several ports. -/
def State.portsWords (s : State) (i : Nat) : List Nat → List Word × State
  | [] => ([], s)
  | p :: rest =>
    let a := s.portWords i p
    let b := State.portsWords a.2 i rest
    (a.1 ++ b.1, b.2)

/-- PROG_READ (R510). -/
def execProgRead (t : Nat) (tr : Transport) (s : State) : Host.Outcome State Fault Refusal :=
  s.run t (fun s => s.onOpcode tr 0x35 .immediate (withLength 1 (fun q s =>
    match s.cellNamed (nth q.payload 0).toNat with
    | none => refuse stRange 0 s
    | some i =>
      let d := s.desc i
      let x := s.portsWords i (List.range d.inits.length)
      (.done (ok (word (d.type_ * 2 ^ 24 + d.prio * 2 ^ 22 + i) :: x.1 ++ stateWords d (s.cellRun i))), x.2))))

end Sys2Proof.Machine
end

