-- ==== Sys2Proof/Machine/Tandem.lean ====
section
/-! DEFINITION.  The tandem link (R420, R421), what a commit block and a state copy hold (R424, R425), roles
and POLE (R418), pairing (R429), the yield (R437) and the start of a contest (R432). -/

namespace Sys2Proof

/-- The place an item of the copy writes: items of one place replace one another. -/
def CopyItem.place : CopyItem → Nat × Nat × Nat
  | .cell sid _ _ => (0, sid, 0)
  | .forces _ => (1, 0, 0)
  | .channelOverride ch _ => (2, ch, 0)
  | .teamOverride team _ => (3, team, 0)
  | .journal _ => (4, 0, 0)
  | .element id e _ => (5, id, e)
  | .fade team .. => (6, team, 0)
  | .residue ch _ _ => (7, ch, 0)
  | .acceptance bank slot _ _ => (8, bank, slot)
  | .prediction team _ => (9, team, 0)
  | .nodeCounters node _ => (10, node, 0)
  | .queued rt form2 _ => (11, rt, Machine.flag form2)
  | .chunk active _ offset _ => (12, Machine.flag active, offset)
  | .swap crc => (13, crc.toNat, 0)
  | .firmware offset .. => (14, offset, 0)
  | .full => (15, 0, 0)

/-- Two items say the same; of a fade only its start and end count, for its steps run on alike. -/
def CopyItem.agrees : CopyItem → CopyItem → Bool
  | .fade t _ l0 l1 _ n c, .fade t' _ l0' l1' _ n' c' => t == t' && l0 == l0' && l1 == l1' && n == n' && c.drop 1 == c'.drop 1
  | a, b => a == b

/-- What an item that is there no more reads as: a cleared override, or an element at its cold value.  A reference
voltage that no SET gave is each module's own (R86, R425). -/
def CopyItem.cleared : CopyItem → Option CopyItem
  | .channelOverride ch _ => some (.channelOverride ch none)
  | .teamOverride t _ => some (.teamOverride t none)
  | .element id e _ => if id = Machine.Pid.diagVfRefMv then none else some (.element id e (Machine.defaultWord id e))
  | .prediction t _ => some (.prediction t none)
  | .queued rt f _ => some (.queued rt f none)
  | _ => none

end Sys2Proof

namespace Sys2Proof.Machine

open Sys2Proof

/-! ### The link (R420, R421) -/

/-- The link can carry messages: both lanes are trained and the module takes part in a pair. -/
def State.linkUsable (s : State) : Bool := s.flagOf Pid.tdmStatus 0 1 && s.p Pid.tdmRole != 0

/-- A message of a kind arrives: whether it is taken.  A bad tag, a message before the hello exchange and a
counter that is not above the last one are dropped and counted (R420, R421); so is one that the vault refuses
(R390). -/
def State.linkTakes (s : State) (kind : Nat) (h : LinkHead) : Bool × State :=
  if !s.linkUsable then (false, s)
  else
    let r := s.vaultCheck .tdmFrame 7 4 false
    if !r.1 then r
    else
      let s := r.2.keyUse .tdmFrame 4 7
      let stale : Bool := match s.tandem.lastCounter.get kind with
        | some c => decide (h.counter ≤ c)
        | none => false
      if !h.tagGood then (false, s.tdmCount (kind - 1) 4)
      else if !s.tandem.helloDone || stale then (false, s.tdmCount (kind - 1) 5)
      else
        let s := (s.tdmCount (kind - 1) 1).tdmCount (kind - 1) 3 h.octets
        (true, (s.withTandem (fun k => { k with lastCounter := k.lastCounter.set kind (some h.counter) })).heardPartner)

/-- Some channel of the module is lit. -/
def State.anyLit (s : State) : Bool := (List.range 512).any s.channelLit

/-- CRC of the active image, 0 for none. -/
def State.activeCrc (s : State) : Word := if s.prog.active.isEmpty then 0 else imageCrc s.prog.active

/-- Send a hello, or an answer that echoes a nonce (R421). -/
def State.sendHello (s : State) (answer : Bool) (nonce : Nat) : State :=
  s.tandemPost 9 (word (flag answer) :: wordsOfNat 4 nonce)

/-- Begin a hello exchange with a fresh nonce of 128 bits (R421). -/
def State.beginHello (s : State) : State :=
  let a := s.drawWord
  let b := a.2.drawWord
  let c := b.2.drawWord
  let d := c.2.drawWord
  let n := natOfWords [a.1, b.1, c.1, d.1]
  (d.2.withTandem (fun k => { k with nonce := some n, helloDone := false })).sendHello false n

/-! ### Roles, POLE and tdm.state (R418) -/

/-- The module takes a role; a change starts its time anew (R444). -/
def State.setRole (s : State) (role : Nat) : State :=
  if s.p Pid.tdmRole = role then s
  else (s.setP Pid.tdmRole 0 role).withTandem (fun k => { k with roleSince := s.now })

/-- Drive POLE. -/
def State.setPole (s : State) (high : Bool) : State := s.withTandem (fun k => { k with pole := high })

/-- A TANDEM_ROLE record: new and old role (R373). -/
def State.roleRecord (s : State) (old : Nat) : State := s.raise 0x29 (s.p Pid.tdmRole) old

def State.tdmStateTo (s : State) (n : Nat) : State := s.setP Pid.tdmState 0 n

/-- tdm.state of a lead without a working link: alone, or detached where the partner still shows itself
(R431, R435). -/
def State.unpairedState (s : State) : Nat := if s.tandem.linkLost && !s.tandem.ringLost then 4 else 1

/-! ### What the lead drives (R27, R176, R247) -/

/-- The rung and target that the program and the commands above it give a local team (R27). -/
def State.teamDesired (s : State) (t : Nat) : Nat × Target :=
  match s.teamForce t with
  | some g => (4, g)
  | none =>
    match (s.td t).override_ with
    | some g => (5, g)
    | none => (7, ((s.td t).program).getD (s.initialTarget t))

/-- The local teams, by first channel. -/
def State.localTeams (s : State) : List Nat := (List.range 512).filter (fun t => decide (1 ≤ (s.td t).size))

/-! ### The commit block (R424) -/

/-- Octets of an encoded commit block; the spec gives the limit, not the encoding (assumption 28). -/
opaque blockOctets : CommitBlock → Nat

/-- Octets of an encoded copy item (assumption 28). -/
opaque itemOctets : CopyItem → Nat

/-- The most octets of one copy (R425). -/
abbrev copyLimit : Nat := 196608

/-- Octets of an item in a copy: one item never fills more than a copy (R425). -/
def itemSize (i : CopyItem) : Nat := itemOctets i % copyLimit

/-- An instant as spine steps of the free-running count, which the two modules share (R422). -/
def State.toCount (s : State) (t : Nat) : Nat := t - s.tickBase

/-- The instant of a count in spine steps. -/
def State.ofCount (s : State) (c : Nat) : Nat := c + s.tickBase

/-- The commit block of this commit. -/
def State.commitBlock (s : State) : CommitBlock :=
  let chans := (List.range 512).filter (fun c => (s.teamAt c).isSome)
  { count := s.toCount s.now
    teams := s.localTeams.map (fun t => let g := s.teamDesired t; (t, g.1, g.2.words))
    channels := chans.map (fun c => (c, (s.cd c).override_))
    remotes := (List.range 256).filterMap (fun rt =>
      (s.remoteTarget (512 + rt)).map (fun g => (512 + rt, s.shownRung (512 + rt), g.words)))
    latched := chans.map (fun c => (c, (s.cc c).latchedNext, (s.cc c).trimNext))
    derates := s.localTeams.map (fun t => (t, s.derate t))
    grants := chans.filterMap (fun c => ((s.cg c).grant).map (fun g => (c, s.toCount g.from_, g.dark))) }

/-- A lead that pairs, is paired or switches over, and whose link works: it sends blocks and copies (R424, R425,
R431). -/
def State.copying_ (s : State) : Bool :=
  [2, 3, 6].contains (s.p Pid.tdmState) && s.lead && s.linkUsable && s.tandem.helloDone && !s.tandem.linkLost && s.tandem.partner.isSome

/-- A lead sends its commit block before it writes its drive engine (R424). -/
def State.sendBlock (s : State) : State :=
  if !s.copying_ then s
  else
    let b := s.commitBlock
    let n := min 16384 (blockOctets b)
    let s := (s.setP Pid.tdmCommitOctets 0 n).linkSend 4 (16 + n) []
    s.withTandem (fun k => { k with block := some b })

/-! ### The state copy (R425) -/

/-- A colour as a form and its quotients. -/
def Colour.coded : Colour → Nat × List (Int × Nat)
  | .cct m v => (0, [(m.num, m.den), (v.num, v.den)])
  | .ratio r => (1, r.map (fun (n : Nat) => ((n : Int), 1)))
  | .gains g => (2, g.map (fun q => (q.num, q.den)))

/-- A colour from its form and quotients. -/
def colourOfCode (x : Nat × List (Int × Nat)) : Colour :=
  let q := fun (k : Nat) => let y := x.2.getD k (0, 1); Q.mk' y.1 y.2
  if x.1 = 0 then .cct (q 0) (q 1)
  else if x.1 = 1 then .ratio (x.2.map (fun y => y.1.toNat))
  else .gains ((List.range x.2.length).map q)

/-- The parameters whose elements the copy carries: the settings of the carried families, and what the
outrider unit and the relay learn (R425, R428). -/
def copiedParameter (id : Nat) : Bool :=
  (carriedFamily id && ((paramRow id).map (fun r => decide (r.writeRole < 15) && r.range != .clear0 && !clearsOnOne id)).getD false) ||
    id == Pid.outEdgeSamples || id == Pid.relayNodeEui || id == Pid.relayNodeKind || id == Pid.relayNodeState ||
    id == Pid.relayNodeCell || id == Pid.relayNodeDriftPpb || id == Pid.relayNodeFcIn || id == Pid.relayFcOut

/-- The words of a force's value. -/
def Force.words (f : Force) : List Word :=
  match f.target with
  | some g => g.words
  | none => [wordI f.value]

/-- An image in pieces of 1,024 words: offset, whether it is the last, words. -/
def imagePieces : Nat → Nat → List Word → List (Nat × Bool × List Word)
  | 0, _, _ => []
  | fuel + 1, offset, ws =>
    if ws.length ≤ 1024 then [(offset, true, ws)]
    else (offset, false, ws.take 1024) :: imagePieces fuel (offset + 1024) (ws.drop 1024)

/-- Everything the copy covers, in full. -/
def State.copyItems (s : State) : List CopyItem :=
  let cells := (s.prog.descs.zip s.prog.runs).map (fun x =>
    CopyItem.cell x.1.sid (x.2.outs.map (fun v => (v.v, v.q))) (stateWords x.1 x.2))
  let forces := [CopyItem.forces (s.prog.forces.map (fun f => (f.sid, f.port, f.until_.map s.toCount, f.words)))]
  let chans := (s.drive.channels.cells.filter (fun c => c.2.override_.isSome)).map (fun c =>
    CopyItem.channelOverride c.1 c.2.override_)
  let teams := (s.drive.teams.cells.filterMap (fun t => (t.2.override_).map (fun g => CopyItem.teamOverride t.1 (some g.words)))) ++
    (s.drive.remoteOverride.cells.filterMap (fun t => t.2.map (fun g => CopyItem.teamOverride t.1 (some g.words))))
  let journal := [CopyItem.journal ((s.prog.written ++ s.prog.unwritten).map (fun e => (e.sid, e.typeConst, e.index, e.value)))]
  let elements := s.params.filterMap (fun c =>
    if copiedParameter (c.1 / 65536) ∧ c.1 / 65536 ≠ Pid.diagVfRefMv then
      some (CopyItem.element (c.1 / 65536) (c.1 % 65536) c.2)
    else none)
  -- of the reference voltages only those that a SET gave (R425)
  let references := (List.range 512).filterMap (fun c =>
    if (s.cg c).vfSet then some (CopyItem.element Pid.diagVfRefMv c (s.w Pid.diagVfRefMv c)) else none)
  let fades := s.localTeams.map (fun t =>
    let d := s.td t
    CopyItem.fade t d.lam d.lam0 d.lam1 d.step d.steps [some (s.colourOf t).coded, d.colour0.map Colour.coded, d.colour1.map Colour.coded])
  let residues := (List.range 512).filterMap (fun c =>
    if (s.teamAt c).isSome then some (CopyItem.residue c (s.cd c).atCommit.1 (s.cd c).atCommit.2) else none)
  let scans := (List.range 16).flatMap (fun b => (s.bh b).outcomes.map (fun o => CopyItem.acceptance b o.1 o.2.1 o.2.2))
  let predictions := s.presence.predictions.cells.map (fun c =>
    CopyItem.prediction c.1 (c.2.map (fun p => (p.1 - s.tickBase, p.2 - s.tickBase))))
  let nodes := s.relay.nodes.cells.map (fun c => CopyItem.nodeCounters c.1 c.2.counters)
  let queued := (s.relay.level.cells.map (fun c => CopyItem.queued c.1 false (c.2.map (fun q => (q.seq, q.octets))))) ++
    (s.relay.form2.cells.map (fun c => CopyItem.queued c.1 true (c.2.map (fun q => (q.seq, q.octets)))))
  let image := match s.tandem.partner with
    | some p => if p.imageCrc = s.activeCrc ∨ s.prog.active.isEmpty then []
      else (imagePieces s.prog.active.length 0 s.prog.active).map (fun x => CopyItem.chunk true x.2.1 x.1 x.2.2)
    | none => []
  let firmware := if s.p Pid.updPairState = 1 then
      (imagePieces s.update.staging.length 0 s.update.staging).map (fun x =>
        CopyItem.firmware x.1 x.2.1 ((s.pRun Pid.updDigest 0 8).map (fun n => word n)) x.2.2)
    else []
  image ++ cells ++ forces ++ chans ++ teams ++ journal ++ elements ++ references ++ fades ++ residues ++ scans ++ predictions ++ nodes ++ queued ++ firmware

/-- The items that differ from what the wheeler was sent. -/
def State.changedItems (s : State) : List CopyItem :=
  let now := s.copyItems
  let fresh := now.filter (fun i => !s.tandem.mirror.any (fun m => m.place == i.place && m.agrees i))
  let gone := s.tandem.mirror.filterMap (fun m =>
    if now.any (fun i => i.place == m.place) then none
    else m.cleared.bind (fun c => if m.agrees c then none else some c))
  let swaps := s.prog.swapped.map (fun x => CopyItem.swap x.1)
  swaps ++ gone ++ fresh

/-- As many items as fit, and the rest. -/
def fillCopy : Nat → List CopyItem → List CopyItem × List CopyItem
  | _, [] => ([], [])
  | room, i :: rest =>
    if itemSize i ≤ room then
      let x := fillCopy (room - itemSize i) rest
      (i :: x.1, x.2)
    else ([], i :: rest)

/-- Octets of items. -/
def copyOctets (is : List CopyItem) : Nat := sumN (is.map itemSize)

/-- At step 4 a lead sends what changed, oldest excess first, in blocks of 64 octets with 2 octets of header
(R420, R425); the link carries 250 octets per µs (R18). -/
def State.sendCopy (s : State) : State :=
  if !s.copying_ then s
  else
    let x := fillCopy copyLimit ((if s.tandem.fullDue then [CopyItem.full] else []) ++ s.changedItems)
    let sent := copyOctets x.1
    let left := copyOctets x.2
    let s := ((s.setP Pid.tdmCopyOctets 0 sent).setP Pid.tdmCopyBacklog 0 left).setP Pid.tdmCopyUs 0
      (divUp (divUp sent 64 * 66 + 16) 250)
    let s := s.linkSend 5 (16 + divUp sent 64 * 66) []
    let s := s.withTandem (fun k => { k with
      copy := x.1, copyNumber := (k.copyNumber + 1) % 2 ^ 32, copyAcked := false, resync := k.resync && decide (left ≠ 0)
      fullDue := false
      mirror := k.mirror.filter (fun m => !x.1.any (fun i => i.place == m.place)) ++ x.1.filter (fun i => i != .full) })
    let s := s.setFlag Pid.tdmStatus 0 6 (decide (left ≠ 0))
    (List.range 16).foldl (fun s b => s.modBh b (fun h => { h with outcomes := [] })) s

/-- Every item goes in full over the following cycles (R425). -/
def State.beginResync (s : State) : State :=
  (s.withTandem (fun k => { k with mirror := [], resync := true, fullDue := true, copyAcked := true })).setFlag Pid.tdmStatus 0 6 true

/-- A copy not acknowledged by the next boundary was missed (R427); in an update of the pair this shows that the
wheeler switched or fell back (R413). -/
def State.missedCopy (s : State) : State :=
  if !(s.copying_ && !s.tandem.copyAcked) then s
  else
    let s := s.beginResync
    -- the wheeler that misses copies while its image waits has switched; one that misses them again has fallen back
    if s.p Pid.updPairState = 2 then
      ({ s with update := { s.update with wheelerCopied := false } }).setP Pid.updPairState 0 3
    else if s.p Pid.updPairState = 3 ∧ s.update.wheelerCopied then s.endUpdate
    else s

/-! ### Pairing (R419, R429) -/

/-- The module counts as strapped high against a partner (R419). -/
def State.strappedHigh (s : State) (p : HelloMessage) : Bool :=
  if s.pB Pid.tdmPrecedence = p.precedence then decide (s.serial < p.serial) else s.pB Pid.tdmPrecedence

/-- The graph stands (R168, R202, R423); a core withdrawn at D5's power-up stays so while D5 stays on (R167). -/
def State.stopGraph (s : State) : State :=
  s.withProg (fun p => { p with
    phase := .idle, tokens := [], tokenWait := none, deferred := [], ready := Tab.const [], nextAt := none
    cores := { p.cores with cells :=
      (p.cores.cells.filter (fun c => c.2.withdrawn)).map (fun c => (c.1, { CoreState.idle with withdrawn := true })) }
    late := false })

/-- The module becomes wheeler: POLE low at once, no graph, no relay frame, no update session (R408, R429,
R435). -/
def State.becomeWheeler (s : State) : State :=
  let s := ((s.abortUpdate.setRole 2).setPole false).stopGraph
  s.withTandem (fun k => { k with stepped := false, lockedSince := none, mark := none, newLead := false })

/-- The next boundary from the instant `from_` on, on the phase reference in force (R18, R168). -/
def State.boundaryAfter (s : State) (from_ : Nat) : Nat :=
  let tc := s.p Pid.progCycleMs * ms
  s.prog.phaseRef + tc * ((from_ - s.prog.phaseRef) / tc + 1)

/-- The module takes boundaries of its own. -/
def State.resumeCycles (s : State) : State :=
  s.withProg (fun p => { p with nextAt := some (s.boundaryAfter s.now), phase := .idle })

/-- What a wheeler's other units do when it takes the lead: the relay goes on above the copied counter (R335), the
minute in progress closes as a takeover from the module's own accumulators while the blocks it kept beside the former
lead's are dropped (R79; DEDUCED, assumption 94), and the trims hold (R120). -/
def State.leadUnits (s : State) : State :=
  let s := (s.setP Pid.relayFcOut 0 (s.p Pid.relayFcOut + 65536)).mark Pid.relayFcOut 0
  { s with
    sense := { s.sense with takeover := true, partial_ := true, buffer := [] }
    colour := { s.colour with holdTrims := s.now } }

/-- A wheeler becomes lead: POLE high (R418); its cycles start at the next boundary. -/
def State.becomeLead (s : State) : State :=
  ((s.leadUnits.setRole 1).setPole true).resumeCycles

/-- Steps 2, 3 and 5 of R429 once the hello exchange is complete: the roles, the checks of variant and copy
format, and the full copy. -/
def State.decidePairing (s : State) : State :=
  match s.tandem.partner with
  | none => s
  | some p =>
    let conflict := s.pB Pid.tdmPrecedence == p.precedence
    let s := s.setFlag Pid.tdmStatus 0 8 conflict
    let mine := s.lead && s.anyLit
    let theirs := p.leads && p.lit
    let leads := if mine && !theirs then true else if theirs && !mine then false else s.strappedHigh p
    let sends := bits (s.imageHeader 4) 31 16
    let reads := bits (s.imageHeader 4) 15 0
    let agrees := decide (p.variant = s.p Pid.idVariant) && decide (p.reads ≤ sends) && decide (reads ≤ p.sends)
    let s := (s.set64 Pid.tdmPartnerSerial 0 p.serial).withTandem (fun k => { k with
      learnedIp := p.ip, carried := if s.p64 Pid.tdmPartnerSerial 0 = p.serial then k.carried else none })
    if !agrees then
      let s := if s.wheeler then s.becomeLead else s
      s.tdmStateTo 1
    else if leads then
      let s := if s.wheeler then s.becomeLead else s
      (s.tdmStateTo 2).beginResync
    else (if s.wheeler then s.withTandem (fun k => { k with stepped := false, lockedSince := none }) else s.becomeWheeler).tdmStateTo 2

/-- tdm.enable 1 takes effect: an enabled module without a partner is a lead, alone (R418); with trained
lanes it starts pairing. -/
def State.tandemOn (s : State) : State :=
  let s := ((s.setRole 1).setPole true).tdmStateTo 1
  if s.tandem.lanes = 3 then ((s.setFlag Pid.tdmStatus 0 1 true).tdmStateTo 2).beginHello else s

/-- tdm.enable 0 takes effect: the module is single (R418). -/
def State.tandemOff (s : State) : State :=
  let was := s.wheeler
  let s := ((s.setRole 0).setPole true).tdmStateTo 0
  let s := s.withTandem (fun k => { k with
    helloDone := false, nonce := none, partner := none, yielding := none, released := false, contest := none, newLead := false
    linkHeard := none, ringHeard := none, linkLost := false, ringLost := false, mirror := [], block := none, copy := [], copyAcked := true })
  let s := s.setP Pid.tdmStatus 0 (s.p Pid.tdmStatus &&& 0x102)
  if was then s.resumeCycles else s

/-! ### The yield (R437) -/

/-- Why a yield is refused: the detail. -/
def State.yieldRefusal (s : State) : Option Nat :=
  if !s.lead then some 1
  else if s.switchingOver then some 4
  else if s.p Pid.tdmState ≠ 3 then some 2
  else if s.tandem.partnerStatus.testBit 4 || s.tandem.partnerStatus.testBit 5 || s.tandem.partnerStatus.testBit 6 ||
      s.p Pid.tdmCopyBacklog != 0 then some 3
  else if s.p Pid.updState = 2 ∨ s.p Pid.updState = 3 then some 5
  else none

/-- The yield is applied at the boundary: cycle k runs normally; an update session in state 1 is aborted
(R408, R437). -/
def State.beginYield (s : State) (ref : Option TicketRef) (off restart : Bool) : State :=
  let s := if s.p Pid.updState = 1 then s.abortUpdate else s
  (s.tdmStateTo 6).withTandem (fun k => { k with yielding := some (ref, off), yieldRestart := restart, released := false })

/-- Copy k is acknowledged: the lead drives POLE low, releases the pair and becomes wheeler (R437 step 2). -/
def State.releasePole (s : State) : State :=
  if s.tandem.yielding.isNone || s.tandem.released || !s.lead then s
  else
    let s := (s.tandemPost 9 [2]).becomeWheeler
    s.withTandem (fun k => { k with released := true, stepped := true, lockedSince := some s.now })

/-! ### Partner loss (R432) -/

/-- Mesh witnesses: hitched nodes with an uplink frame inside their receive window in the last complete slotframe
(R432). -/
def State.meshWitnesses (s : State) : Nat :=
  let last := s.slotframeNow
  (s.relay.nodes.cells.filter (fun c => c.2.frames.any (fun f => decide (f + 1 = last)) && s.contextHeld c.1)).length

/-- Both paths are lost: the contest begins (R432). -/
def State.partnerLost (s : State) : State :=
  if !(s.tandem.linkLost && s.tandem.ringLost) || s.tandem.contest.isSome || s.p Pid.tdmRole = 0 || s.tandem.partner.isNone ||
      !(s.p Pid.tdmState == 3 || s.p Pid.tdmState == 4 || s.p Pid.tdmState == 6 || s.p Pid.tdmState == 2) then s
  else
    let seq := (s.tandem.sequence + 1) % 2 ^ 32
    let s := ((s.bump Pid.tdmContests).tdmStateTo 5).withTandem (fun k => { k with
      sequence := seq
      contest := some ⟨s.now, seq, 0, false, true, s.meshWitnesses, [], none, s.wheeler⟩ })
    (s.setP Pid.tdmContestPartner 0 0xFFFF).setFlag Pid.tdmStatus 0 7 false

end Sys2Proof.Machine
end

