-- ==== Sys2Proof/Machine/Boundary.lean ====
section
/-! DEFINITION.  Step 1 of the cycle (R18 to R25): the snapshot freeze, the boundary commands in their order,
the beginning of a restart (R201, R202), and the start of the graph. -/

namespace Sys2Proof.Machine

open Sys2Proof

/-! ### Boundary settings -/

/-- The runs of elements that a SET of `n` elements from `first` on wrote. -/
def eachElement (f : State → Nat → State) (first n : Nat) (s : State) : State :=
  (List.range n).foldl (fun s k => f s (first + k)) s

/-- A SET of prog.cycle_ms moves the next boundary (R181): to the first whole multiple of the new T_c that lies
at least the new T_c after this boundary. -/
def State.cycleWritten (s : State) : State :=
  let tc := s.p Pid.progCycleMs * ms
  s.withProg (fun p => { p with nextAt := some (p.phaseRef + tc * divUp (s.now + tc - p.phaseRef) tc) })

/-- tdm.enable 0 on a paired lead: the yield that comes first is refused (R418, R437). -/
def State.enableRefusal (s : State) (vals : List Word) : Option Nat :=
  if nth vals 0 = 0 ∧ s.lead ∧ s.p Pid.tdmState = 3 then s.yieldRefusal else none

/-- tdm.enable takes effect (R418). -/
def State.enableWritten (s : State) (old : Nat) (ref : TicketRef) : State :=
  let new := s.p Pid.tdmEnable
  if new = old then s
  else if new = 1 then s.tandemOn
  else if s.lead ∧ s.p Pid.tdmState = 3 then s.beginYield (some ref) true false
  else s.tandemOff

/-- What the SET of a parameter that is applied at the boundary brings about (R37, R45, R50, R63, R105, R181,
R206, R212, R335). -/
def State.boundaryHook (s : State) (id first n : Nat) : State :=
  if id = Pid.drvPeriodNs ∨ id = Pid.drvStaggerMode then eachElement State.periodWritten first n s
  else if id = Pid.drvTeamSize then eachElement State.teamSizeWritten first n s
  else if id = Pid.snsDecimRatio then eachElement State.decimWritten first n s
  else if id = Pid.colourMethod then eachElement State.methodWritten first n s
  else if id = Pid.progCycleMs then s.cycleWritten
  else if id = Pid.outEdgeFrom ∨ id = Pid.outEdgeTo then eachElement State.edgeReset first n s
  else if id = Pid.outEdgeTminMs ∨ id = Pid.outEdgeTmaxMs then eachElement State.edgeRebound first n s
  else if id = Pid.outEdgeTauUs then eachElement State.edgeSeed first n s
  else if setRow id = .relayConfig then s.announceRelay
  else s

/-- A boundary command as a request, for the checks of a SET. -/
def BoundaryCommand.request (c : BoundaryCommand) : Request :=
  ⟨c.source, c.session, 0, c.role, c.opcode, c.ticket, c.payload, false⟩

/-- The ticket of a boundary command. -/
def BoundaryCommand.ref (c : BoundaryCommand) : TicketRef := ⟨c.session, c.ticket⟩

/-- A SET at the boundary: its check against the state it meets there, its write and its effect (R22). -/
def State.applySet (s : State) (c : BoundaryCommand) : Option Result × State :=
  let q := c.request
  match s.setFailure q with
  | some r => (some r, s)
  | none =>
    let id := bits (nth q.payload 0) 31 16
    let first := bits (nth q.payload 0) 15 0
    let vals := q.payload.drop 2
    if id = Pid.tdmEnable then
      match s.enableRefusal vals with
      | some k => (some (fail stRefusedState k), s)
      | none =>
        let yields := nth vals 0 == 0 && s.lead && s.p Pid.tdmState == 3
        let old := s.p Pid.tdmEnable
        let s := (s.setWrite id first vals).enableWritten old c.ref
        (if yields then none else some (ok), s)
    else (some ok, (s.setWrite id first vals).boundaryHook id first vals.length)

/-! ### A restart begins (R201, R202) -/

/-- Pending journal entries are written to the program store, all but the newest `keep`; a full journal is folded
into a new copy of the active image (R18, R186). -/
def State.writeJournal (s : State) (keep : Nat := 0) : State :=
  let n := s.prog.unwritten.length - keep
  if n = 0 ∨ !s.settingsTake then s
  else
    let all := s.prog.written ++ s.prog.unwritten.take n
    let s := s.withProg (fun p => { p with
      written := all, unwritten := p.unwritten.drop n
      unwrittenSince := if p.unwritten.length ≤ n then none else p.unwrittenSince })
    let s :=
      if journalCapacity ≤ all.length then
        let folded := encodeImage (applyJournal (imageCells s.prog.active) (all.take journalCapacity))
        s.withProg (fun p => { p with active := folded, written := all.drop journalCapacity })
      else s
    s.storeWrite (.pslc 4 0) (if journalCapacity ≤ all.length then imageKib s.prog.active else 1) .nothing

/-- A warm restart begins: the graph halts with its state held, every fade halts at its present value (R56,
R202). -/
def State.beginWarm (s : State) (cause : Nat) (ref : Option TicketRef) : State :=
  let s := s.localTeams.foldl (fun s t => s.modTd t (fun d => { d with halted := true })) s
  let s := s.stopGraph
  let s := s.withProg (fun p => { p with
    restarting := some (true, cause), restartRef := ref, gapFrom := p.ts, gapRtc := false, gapUnknown := false })
  s.withPower (fun p => { p with phase := .reloading, phaseSince := s.now })

/-- Swaps are counted and recorded (R196): at the first commit after them, or as a cold restart in their own cycle takes
that commit away (DESIGN CHOICE, assumption 99). -/
def State.countSwaps (s : State) : State :=
  let xs := s.prog.swapped
  xs.foldl (fun (s : State) (x : Word × Nat) => (s.bumpStored Pid.progSwapCount).raise 0x0E x.1.toNat x.2) s

/-! ### The command interface at a cold restart (R236, R241) -/

/-- A session as a cold restart by its own command leaves it (R241). -/
def Session.keptFor (k : Session) (ref : TicketRef) : Session :=
  { k with tickets := k.tickets.filter (fun x => x.number == ref.ticket), latched := [] }

/-- Every queue is emptied and every session closed, but the issuing one of a PROG_RESTART; packets that come from
now on wait, and an identifier kept for an orphaned key stays kept (R202, R236, R238, R241). -/
def State.bridleCold (s : State) (keep : Option TicketRef) : State :=
  let s := s.endUpdate
  let b := s.bridle
  let open_ := match keep with
    | some ref => (b.sessions.filter (fun k => k.id == ref.session)).map (fun k => k.keptFor ref)
    | none => []
  { s with bridle := { BridleState.reset with
    hostInDrain := flushDrains b.hostIn b.hostInDrain, hostOutDrain := flushDrains b.hostOut b.hostOutDrain
    serviceInDrain := flushDrains b.serviceIn b.serviceInDrain, hostPoisonNext := b.hostPoisonNext
    sessions := open_, kept := b.kept } }

/-- A cold restart by command begins: the journal is written, the minute closed, marked settings and totals are
recorded, tests end, a freeze ends, and every bank stops at its period end (R79, R201, R202, R203, R259, R475). -/
def State.beginCold (s : State) (cause : Nat) (ref : Option TicketRef) : State :=
  let s := s.countSwaps.writeJournal
  let s := (s.closeMinute 1).archiveMinutes
  let s := if s.settingsTake then (s.recordMarks).recordTotals else s
  let s := s.endTests (List.range 42) 7
  let s := if s.waybill.frozenSince.isSome then s.releaseFreeze else s
  let s := (s.bridleCold ref).stopGraph.stopBanks
  let s := s.withProg (fun p => { p with restarting := some (false, cause), restartRef := ref })
  s.withPower (fun p => { p with phase := .stopping, phaseSince := s.now })

/-- PROG_RESTART at its place among the boundary commands (R201, R203): on a paired lead a cold one first
yields, unless the yield is refused (R438). -/
def State.applyRestart (s : State) (cold : Bool) (ref : TicketRef) : Option Result × State :=
  if s.updateOpen then (some (fail stRefusedState), s)
  else if !cold then (none, s.beginWarm 5 (some ref))
  else if s.lead && s.p Pid.tdmState == 3 && s.yieldRefusal.isNone then
    (none, (s.beginYield none false true).withProg (fun p => { p with restartRef := some ref }))
  else (none, s.beginCold 4 (some ref))

/-- PROG_RESTART (R197, R201, R203): bit 0 of its word is 1 for warm; cold needs an Owner. -/
def execProgRestart (t : Nat) (tr : Transport) (s : State) : Host.Outcome State Fault Refusal :=
  s.run t (fun s => s.onOpcode tr 0x36 .boundary (withLength 1 (fun q s =>
    let kind := (nth q.payload 0).toNat
    if 1 < kind then refuse stRange 0 s
    else if kind = 0 ∧ q.role < 3 then refuse stAuth 4 s
    else if s.updateOpen then refuse stRefusedState 0 s
    else enqueueBoundary q s)))

/-- TANDEM_YIELD (R437): a boundary command. -/
def execTandemYield (t : Nat) (tr : Transport) (s : State) : Host.Outcome State Fault Refusal :=
  s.run t (fun s => s.onOpcode tr 0xA1 .boundary (withLength 0 (fun q s =>
    match s.yieldRefusal with
    | some k => refuse stRefusedState k s
    | none => enqueueBoundary q s)))

/-! ### Boundary commands (R22) -/

/-- Apply a boundary command: its result, none where it comes later. -/
def State.applyCommand (s : State) (c : BoundaryCommand) : Option Result × State :=
  let ws := c.payload
  let now := fun (x : Result × State) => ((some x.1 : Option Result), x.2)
  match c.opcode with
  | 0x11 => s.applySet c
  | 0x12 => now (s.applyForce ws)
  | 0x13 => now (s.applyRelease ws)
  | 0x20 => now (s.applyChannelSet ws)
  | 0x21 => now (s.applyChannelClear ws)
  | 0x22 => now (s.applyTeamSet ws)
  | 0x23 => now (s.applyTeamClear ws)
  | 0x31 => now (s.applySwap c.source.transport.limit ws)
  | 0x33 => now (s.applyConst ws)
  | 0x34 => now (s.applyState ws)
  | 0x36 => s.applyRestart (nth ws 0 == 0) c.ref
  | 0x42 =>
    let table := bits (nth ws 0) 7 0
    let s := s.loadTable ws
    (some ok, s.withProg (fun p => { p with
      runs := (p.descs.zip p.runs).map (fun x =>
        if x.1.is cellSched && (x.1.const 0).toNat == table then { x.2 with sched := { x.2.sched with reload := true } } else x.2) }))
  | 0xA1 =>
    match s.yieldRefusal with
    | some k => (some (fail stRefusedState k), s)
    | none => (none, s.beginYield (some c.ref) false false)
  | 0xC0 => now (s.applyTestStart ws)
  | 0xC2 => now (s.applyTestStop ws)
  | _ => (some (fail stUnknownOp), s)

/-- The command is a cold restart that begins as it is applied (R201, R438). -/
def State.restartsCold (s : State) (c : BoundaryCommand) : Bool :=
  c.opcode == 0x36 && nth c.payload 0 == 0 && !s.updateOpen &&
    !(s.lead && s.p Pid.tdmState == 3 && s.yieldRefusal.isNone)

/-- Commands accepted after a cold restart in its cycle are answered before the restart closes their sessions
(R201, R241). -/
def State.refuseRest (s : State) (rest : List BoundaryCommand) : State :=
  rest.foldl (fun s c => s.finish c.ref (fail stRefusedState)) s

/-- Apply boundary commands in order.  After a restart has begun the rest are held to the first boundary after
a warm one and refused before a cold one (R201). -/
def State.applyCommands : List BoundaryCommand → State → State
  | [], s => s
  | c :: rest, s =>
    match s.power.phase with
    | .reloading => { s with bridle := { s.bridle with boundary := c :: rest ++ s.bridle.boundary } }
    | .stopping => State.applyCommands rest (s.finish c.ref (fail stRefusedState))
    | _ =>
      let x := (if s.restartsCold c then s.refuseRest rest else s).applyCommand c
      let s := x.2.withProg (fun p => { p with commanded := true })
      let s := match x.1 with
        | some r => { s with bridle := { s.bridle with applied := s.bridle.applied ++ [(c.ref, r)] } }
        | none => s
      State.applyCommands rest s

/-- The commands accepted before t_s, by acceptance stamp, then in transport order; one accepted at t_s waits for the
next cycle (R22). -/
def State.boundaryCommands (s : State) : State :=
  let early := fun (c : BoundaryCommand) => decide (c.stamp < s.count)
  let cs := (s.bridle.boundary.filter early).mergeSort (fun a b =>
    decide (a.stamp < b.stamp ∨ (a.stamp = b.stamp ∧ a.source.transport.index ≤ b.source.transport.index)))
  State.applyCommands cs { s with bridle := { s.bridle with boundary := s.bridle.boundary.filter (fun c => !early c) } }

/-! ### The snapshot (R19 to R21, R170) -/

/-- Completion stamp and validity of the record that an element belongs to; none where it belongs to none: valid
while its source stands, from the first record that it delivers after it was lost (R19, R20, R258). -/
def State.recordOf (s : State) (r : ParamRow) (e : Nat) : Option (Option Int × Bool) :=
  match r.record with
  | .no => none
  | .scan =>
    let b := e * 16 / r.count
    some ((s.bh b).stamp.map (fun (a : Nat) => (a : Int)), s.p Pid.harnessState b == 4 && (s.bh b).recordValid)
  | .measurement =>
    let b := e * 16 / r.count
    some ((s.bs b).stamp.map (fun (a : Nat) => (a : Int)), s.p Pid.harnessState b == 4 && (s.bs b).recordValid)
  | .pod =>
    let pod := e * 1536 / r.count
    let up : Bool := if pod < 512 then s.p Pid.harnessState (pod / 32) == 4
      else s.p Pid.relayNodeState (pod - 512) != 0 && s.p Pid.relayNodeState (pod - 512) != 4
    let entry := s.presence.pods.get pod
    some (entry.map (fun x => x.stamp), up && (entry.map (fun x => x.valid)).getD false)

/-- An element of a parameter as it stands now, with its record's age and validity (R19, R20, R153). -/
def State.freezeElement (s : State) (id e : Nat) : Option FrozenElement :=
  match paramRow id with
  | none => none
  | some r =>
    let v := r.format.value (s.read id e)
    match s.recordOf r e with
    | none => some ⟨id, e, v, none, true⟩
    | some (none, _) => some ⟨id, e, v, some u32max, false⟩
    | some (some a, up) =>
      let age := satU32 (((s.now : Int) - a) / us).toNat
      some ⟨id, e, v, some age, up && decide (age < u32max)⟩

/-- The sources that the IN cells of a graph read. -/
def inSources (ds : List CellDesc) : List (Nat × Nat) := (ds.filter (fun d => d.is cellIn)).map CellDesc.source

/-- The calendar as the cells see it (R21, R172, R305). -/
def State.freezeCalendar (s : State) : FrozenCalendar :=
  let c := s.calNow.1
  { ms := s.calMs, quality := s.p Pid.timeQuality, regular := !s.irregular
    minute := c.hour * 60 + c.minute, weekday := c.weekday
    date := ((c.century * 100 + c.year) * 100 + c.month) * 100 + c.day }

/-- The freeze of step 1: the elements that IN cells of the active and of the staged graph read, the meters and
the calendar. -/
def State.freeze (s : State) : State :=
  let sources := (inSources s.prog.descs ++ inSources (imageCells s.prog.staged)).eraseDups
  let frozen := sources.filterMap (fun x => s.freezeElement x.1 x.2)
  let meters := (List.range 512).map (fun c =>
    (s.p Pid.meterMinuteEnergy c, (s.read Pid.meterPowerMw c).toNat, (s.sense.closedFlags.get c).testBit 8))
  s.withProg (fun p => { p with frozen := frozen, meters := meters, calendar := s.freezeCalendar })

/-! ### Δt (R169, R200) -/

/-- The gap of a warm restart in µs: on the local counter, or on the RTC; unknown where the RTC lost
continuity (R198, R200). -/
def State.gapUs (s : State) : Nat :=
  if s.prog.gapUnknown then s.p Pid.progWarmGapCapMs * 1000
  else match s.prog.gapFrom with
    | none => 0
    | some a => if s.prog.gapRtc then s.ticksSince a * 1000000 / 32768 else (s.now - a) / us

/-- Stamp t_s and set Δt for this cycle; the first cycle after a warm restart caps it (R169, R200) and records
the restart (R373). -/
def State.stampCycle (s : State) : State :=
  let gap := match s.prog.ts with
    | some a => (s.now - a) / us
    | none => 0
  let s := (s.bump Pid.progCycleCount).setI Pid.sysTempDieMax 0 s.dieTempMax
  match s.prog.restarting with
  | some (true, cause) =>
    let gap := s.gapUs
    let gapMs := satU32 (gap / 1000)
    let s := (s.setP Pid.progRestartGapMs 0 gapMs).raise 0x03 cause gapMs
    s.withProg (fun p => { p with
      ts := some s.now, dtTimer := min gap (s.p Pid.progWarmGapCapMs * 1000), dtOther := min gap (s.p Pid.progCycleMs * 1000)
      restarting := none, gapFrom := none, gapRtc := false, gapUnknown := false })
  | _ => s.withProg (fun p => { p with ts := some s.now, dtTimer := gap, dtOther := gap })

/-! ### The boundary -/

/-- A lead's boundary mark (R423). -/
def State.sendMark (s : State) : State :=
  if s.copying_ then s.linkSend 3 24 (wordsOfNat 2 (s.toCount s.now)) else s

/-- Step 2 starts, unless a restart has begun; with no core in dispatch no graph runs and the cycle goes on to
its commit (R167, R201). -/
def State.beginGraph (s : State) : State :=
  if s.power.phase ≠ .running then s
  else if s.activeCores.isEmpty then
    s.withProg (fun p => { p with phase := .quiescent, quiet := s.now, ran := 0, skipped := 0, bpRose := false })
  else s.startGraph

/-- Step 1 of a cycle at the present instant (R18 to R22). -/
def State.stepOne (s : State) : State :=
  let s := s.missedCopy.deeperAtBoundary
  let s := s.stampCycle
  let s := s.withProg (fun p => { p with
    late := false, alarms := [], jumped := false, commanded := false, moved := false, nextAt := some (s.boundaryAfter s.now) })
  let o := s.podTable
  let s := (o.2.freeze).expireForces
  let s := s.boundaryCommands
  let s := (s.showPods).processOnsets o.1
  (s.sendMark).takeView.beginGraph

/-- The module takes boundaries of its own now (R17, R168, R202). -/
def State.takesCycles (s : State) : Bool :=
  s.awake && s.power.phase == .running && !s.wheeler && s.tcxoStopped.isNone

/-- A boundary has come: steps 1 to 4 of the last cycle are over and the next boundary is due. -/
def State.boundaryDue (s : State) : Bool :=
  s.takesCycles && s.prog.phase == .idle &&
    (match s.prog.nextAt with
     | some a => decide (a ≤ s.now)
     | none => false)

/-! ### The end of enumeration (R202 step 6) -/

/-- A bank's card has settled: its bank may run (R145, R202). -/
def State.bankSettled (s : State) (b : Nat) : Bool :=
  let h := s.p Pid.harnessState b
  h != 1 && h != 2 && h != 3

/-- Every enabled bank is running, refused, lost or without a card. -/
def State.enumerated (s : State) : Bool :=
  (List.range 16).all (fun b => !s.pB Pid.harnessEnable b || s.bankSettled b)

/-- Enumeration is over: every bank settled, or 500 ms after the reset. -/
def State.enumerationOver (s : State) : Bool :=
  s.power.phase == .enumerating && (s.enumerated || s.passed s.power.phaseSince (500 * ms))

/-- The instant enumeration ended: the last enabled bank settled, or 500 ms after the reset, whichever came first. -/
def State.enumerationEnd (s : State) : Nat :=
  let limit := s.power.phaseSince + 500 * ms
  let settled := (List.range 16).map (fun b => if s.pB Pid.harnessEnable b then (s.bh b).settledAt else 0)
  if s.enumerated then min limit (settled.foldl max s.power.phaseSince) else limit

/-- The first boundary of a start has come: the next whole multiple of T_c after the end of enumeration. -/
def State.firstBoundary (s : State) : Bool :=
  s.enumerationOver && !s.wheeler && s.tcxoStopped.isNone && decide (s.boundaryAfter s.enumerationEnd ≤ s.now)

/-- CYCLE_BOUNDARY (R18). -/
def execCycleBoundary (t : Nat) (s : State) : Host.Outcome State Fault Refusal :=
  s.run t (fun s =>
    if s.boundaryDue then s.stepOne
    else if s.firstBoundary then
      (s.withPower (fun p => { p with phase := .running, phaseSince := s.now })).stepOne
    else s)

/-- FORCE_EXPIRY (R187): at the boundary a force whose hold time has passed is released with its record; the
boundary does the same for one that has not been. -/
def execForceExpiry (t : Nat) (s : State) : Host.Outcome State Fault Refusal :=
  s.run t (fun s => if s.boundaryDue then s.expireForces else s)

/-- OVERRUN (R25): a boundary is due while steps 1 to 4 run; the cycle is late and the overrun counted. -/
def State.markOverrun (s : State) : State :=
  let due := match s.prog.nextAt with
    | some a => decide (a ≤ s.now)
    | none => false
  if s.prog.phase = .idle ∨ s.prog.late ∨ !due then s
  else ((s.withProg (fun p => { p with late := true })).withPower (fun p => { p with overrunAt := some s.now })).bump Pid.progOverruns

/-- OVERRUN (R25). -/
def execOverrun (t : Nat) (s : State) : Host.Outcome State Fault Refusal :=
  s.run t (fun s => s.markOverrun)

end Sys2Proof.Machine
end

