-- ==== Sys2Proof/Machine/Commit.lean ====
section
/-! DEFINITION.  Steps 3 to 5 of the cycle (R18, R23 to R26): the commit, the late snapshot of an overrun, the
adaptive core voltage (R452), housekeeping (R18, R177, R186) and the sleep at quiescence (R455). -/

namespace Sys2Proof.Machine

open Sys2Proof

/-! ### Outputs that become visible at the commit (R151, R176, R177) -/

/-- A TEAM_OUT cell passes its target on; a target whose team no longer begins a team is discarded and LVL_OUT
carries valid clear (R176). -/
def State.passTarget (s : State) (i : Nat) : State :=
  let d := s.desc i
  if !d.is cellTeamOut then s
  else
    let t := (d.const 0).toNat
    match (s.cellRun i).target with
    | none => s
    | some g =>
      if !s.beginsTeam t then s.modRun i (fun r => { r with outs := heldInvalid r.outs })
      else if t < 512 then s.modTd t (fun x => { x with program := some g })
      else s.withDrive (fun x => { x with remoteProgram := x.remoteProgram.set t (some g) })

/-- What a cell writes to parameters at the commit: PUB its X with its quality (R177), PRESENCE and DAYLIGHT the
zone's OCC and LEVEL (R222). -/
def State.publish (s : State) (i : Nat) : State :=
  let d := s.desc i
  let k := (d.const 0).toNat
  let y := (s.present i 0).v
  if d.is cellPub then
    let x := inp (s.inputs i) 0
    (s.setI Pid.progPub k x.v).setP Pid.progPubQual k x.q
  else if d.is cellPresence then s.setP Pid.presZoneOcc k (flag (decide (y ≠ 0)))
  else if d.is cellDaylight then s.setP Pid.dayLevel k (clampI 0 65535 y).toNat
  else s

/-- Every cell's outputs are committed: delayed ports see them from the next cycle on (R155). -/
def State.commitOutputs (s : State) : State :=
  let n := s.prog.descs.length
  let s := (List.range n).foldl State.passTarget s
  let s := (List.range n).foldl State.publish s
  let shown := (List.range n).map s.presentAll
  s.withProg (fun p => { p with runs := (p.runs.zip shown).map (fun (x : CellRun × List Val) => { x.1 with committed := some x.2 }) })

/-! ### Targets (R24, R27, R29, R202, R333) -/

/-- A local team's committed target waits for its bank's next period start (R24); a team that has never had any
holds its initial target (R50). -/
def State.commitTeam (s : State) (t : Nat) : State :=
  let g := s.teamDesired t
  let d := s.td t
  if d.program.isSome ∨ g.1 ≠ 7 ∨ d.taken.isSome ∨ d.waiting.isSome ∨ d.halted ∨ s.drive.firstCommit then
    s.modTd t (fun x => { x with waiting := some g })
  else s

/-- A channel's override waits likewise (R24, R247). -/
def State.commitChannel (s : State) (c : Nat) : State :=
  let d := s.cd c
  if d.override_.map (fun x => x.1) != d.taken || d.waiting.isSome then
    s.modCd c (fun x => { x with waiting := some x.override_ })
  else s

/-- A changed target of a bound remote team is queued for its luminaire (R333). -/
def State.commitRemote (s : State) (rt : Nat) : State :=
  let t := 512 + rt
  if (s.rtContext rt).isNone then s.withDrive (fun d => { d with remoteSent := d.remoteSent.set t none })
  else
    match s.remoteTarget t with
    | none => s
    | some g =>
      let same : Bool := match s.drive.remoteSent.get t with
        | some o => o.same g
        | none => false
      if same then s
      else (s.queueLevel rt g.octets).withDrive (fun d => { d with remoteSent := d.remoteSent.set t (some g) })

/-- A bank that has never run starts at its first period start after a commit, once its card has settled. -/
def State.bankStarts (s : State) (b : Nat) : Bool :=
  let d := s.bd b
  !d.running && d.lastStart.isNone && !d.resuming && s.spineLocked && s.tcxoStopped.isNone && s.bankPowered b && s.bankSettled b

/-- The bank's channels start from the light read back, or from 0 (R202, R508). -/
def State.startLights (s : State) (b : Nat) : State :=
  (s.bankTeams b).foldl (fun s t =>
    let s := s.modTd t (fun d => { d with waiting := some (s.teamDesired t) })
    (s.chansOf t).foldl (fun s c => s.modCd c (fun d => { d with start := some (d.start.getD 0) })) s) s

/-- A commit reaches a bank: its teams and channels wait for its next period start (R24). -/
def State.commitBank (s : State) (b : Nat) : State :=
  let late := (s.bh b).late && s.p Pid.harnessState b == 4
  let s := if (s.drive.firstCommit && s.bankSettled b) || late then s.startLights b else s
  let s := if late then s.modBh b (fun h => { h with late := false }) else s
  let s := s.modBd b (fun d => { d with commitWaits := true })
  if s.bankStarts b then s.startBank b else s

/-- The commit of every bank. -/
def State.commitBanks (s : State) : State :=
  ((List.range 16).foldl State.commitBank s).withDrive (fun d => { d with firstCommit := false })

/-! ### What follows a commit -/

/-- The results of the boundary commands applied in this cycle are ready (R23), and that of a PROG_RESTART after
the first commit after the restart (R201). -/
def State.readyResults (s : State) : State :=
  let rs := s.bridle.applied
  let s := { s with bridle := { s.bridle with applied := [] } }
  let s := rs.foldl (fun (s : State) (x : TicketRef × Result) => s.finish x.1 x.2) s
  match s.prog.restartRef with
  | some ref => if s.tandem.yieldRestart then s else (s.finish ref ok).withProg (fun p => { p with restartRef := none })
  | none => s

/-- The first commit of a new lead (R435, R437): the switch-over is over; after a yield the pair reads paired
again. -/
def State.newLeadDone (s : State) : State :=
  if !s.tandem.newLead then s
  else
    let s := (s.withTandem (fun k => { k with newLead := false })).bump Pid.tdmSwitchovers
    if s.tandem.partner.isSome ∧ !s.tandem.linkLost ∧ s.linkUsable then (s.tdmStateTo 3).roleRecord 2 else s

/-- The adaptive core voltage after a cycle (R452). -/
def State.adaptVoltage (s : State) (took : Nat) (fast : Bool) : State :=
  let v := s.p Pid.pwrCoreMv
  let floor := s.power.floor
  let target := s.p Pid.progCycleMs * 10 * (100 - s.p Pid.pwrAvsMarginPct)
  let quick := fun (n : Nat) (s : State) => s.withPower (fun p => { p with quickCycles := n })
  if !s.pB Pid.pwrAvsEnable then (quick 0 s).setP Pid.pwrCoreMv 0 900
  else if s.prog.descs.isEmpty then (quick 0 s).setP Pid.pwrCoreMv 0 floor
  else if fast then (quick 0 s).setP Pid.pwrCoreMv 0 900
  else if target < took then (quick 0 s).setP Pid.pwrCoreMv 0 (min 900 (v + 10))
  else if took * 10 < target * 9 then
    if s.power.quickCycles + 1 < 16 then quick (s.power.quickCycles + 1) s
    else (quick 0 s).setP Pid.pwrCoreMv 0 (max floor (v - 5))
  else quick 0 s

/-- A timer that counts (R455). -/
def timerCounts (d : CellDesc) (r : CellRun) : Bool :=
  if d.is cellTon then r.was == some true && !((r.outs.getD 0 (.const 0)).truth)
  else if d.is cellTof then r.armed && r.was != some true
  else if d.is cellTp then r.armed
  else false

/-- The cycle that commits now was quiet (R455). -/
def State.quietCycle (s : State) : Bool :=
  !s.prog.moved && !s.prog.commanded &&
    (s.prog.descs.zip s.prog.runs).all (fun x => !timerCounts x.1 x.2) &&
    s.presence.predictions.cells.all (fun c => c.2.isNone) &&
    s.localTeams.all (fun t => !s.fading t) &&
    (List.range 512).all (fun c => (s.cd c).glide.isNone) &&
    s.bridle.boundary.isEmpty && s.bridle.waiting.isEmpty &&
    s.bridle.sessions.all (fun k => k.tickets.all (fun x => x.result.isSome))

/-- The oldest two committed records become one: nothing of them is lost (R26). -/
def mergeOldest : List CommittedRecord → List CommittedRecord
  | a :: b :: rest => ⟨a.alarms ++ b.alarms, a.metering ++ b.metering⟩ :: rest
  | l => l

/-- The committed record joins the buffer of four; where housekeeping lags, the oldest two merge (R26). -/
def State.keepCommitted (s : State) : State :=
  let rs := s.prog.records
  let s :=
    if 4 ≤ rs.length then
      (s.withProg (fun p => { p with records := mergeOldest rs })).bump Pid.progHkLag
    else s
  let x := s.takeMetering
  x.2.withProg (fun p => { p with records := p.records ++ [⟨p.alarms, x.1⟩], alarms := [], uncommitted := 0 })

/-- Length of step 4 of the cycle that commits now, µs (R18, R425): none without a copy. -/
def State.copyTime (s : State) : Nat := if s.copying_ then s.p Pid.tdmCopyUs else 0

/-- The measures of the cycle (R25, R180, R182), its step 4 included: `speed` is the relative speed of the operating
point × 1,000. -/
def State.measureCycle (s : State) (speed : Nat) : State :=
  let ts := s.prog.ts.getD s.now
  let took := satU32 ((s.prog.copyEnds - ts) / us)
  let graph := satU32 ((s.prog.quiet - ts) / us)
  let nom := satU32 (graph * speed / 1000)
  let copy := s.copyTime
  let s := ((s.setP Pid.progCycleLastUs 0 took).raiseTo Pid.progCycleMaxUs 0 took).setP Pid.progGraphLastUs 0 graph
  let s := (s.setP Pid.progGraphNomUs 0 nom).setP Pid.progSlowProjUs 0 (satU32 (nom * 100 / 52 + 60 + copy))
  (s.setP Pid.progCellsRun 0 s.prog.ran).setP Pid.progCellsSkipped 0 s.prog.skipped

/-- The cycle in progress overran, or its step 4 ends beyond the next boundary (R25). -/
def State.cycleLate (s : State) : Bool :=
  s.prog.late || (match s.prog.nextAt with
    | some a => decide (a < s.prog.copyEnds)
    | none => false)

/-- The cycle that commits now overruns: it is counted once (R25). -/
def State.countOverrun (s : State) : State :=
  if s.cycleLate && !s.prog.late then
    ((s.bump Pid.progOverruns).withPower (fun p => { p with overrunAt := some s.now })).withProg (fun p => { p with late := true })
  else s

/-- Step 3 at the present instant, and step 4 on a lead. -/
def State.commitCycle (s : State) (speed : Nat) : State :=
  let s := s.diagCommit.latchColour.commitOutputs
  let s := s.sendBlock
  let s := (s.localTeams).foldl State.commitTeam s
  let s := (List.range 512).foldl State.commitChannel s
  let s := (List.range 256).foldl State.commitRemote s
  let s := s.commitBanks
  let s := (s.countSwaps).readyResults
  let s := s.newLeadDone
  let s := s.sendCopy
  let s := s.withProg (fun p => { p with copyEnds := s.now + s.copyTime * us })
  let s := s.countOverrun
  let late := s.prog.late
  let s := s.measureCycle speed
  let lag := s.p Pid.progHkLag
  let s := s.keepCommitted
  let took := s.p Pid.progCycleLastUs
  let s := s.adaptVoltage took (late || s.p Pid.progHkLag != lag)
  let quiet := s.quietCycle
  let s := s.withPower (fun p => { p with quietCycles := if quiet then p.quietCycles + 1 else 0 })
  let s := s.withProg (fun p => { p with phase := .idle, swapped := [], late := false })
  let s := { s with update := { s.update with firstCommitFrom := none } }
  if !late then s
  else
    let s := s.raise 0x0A took (flag s.prog.bpRose)
    s.withProg (fun p => { p with phaseRef := p.copyEnds, nextAt := some p.copyEnds })

/-- COMMIT (R24): the graph is quiescent.  After a late cycle the next snapshot is taken at once, when step 4 is over
(R25). -/
def execCommit (t speed : Nat) (s : State) : Host.Outcome State Fault Refusal :=
  s.run t (fun s =>
    if s.prog.phase ≠ .quiescent ∨ s.power.phase ≠ .running then s
    else
      let s := s.commitCycle speed
      if s.boundaryDue then s.stepOne else s)

/-! ### Housekeeping and sleep (R18, R177, R455) -/

/-- The sleep deadline: t_s plus the least NEXT of the SCHED cells, and the earliest force expiry (R455). -/
def State.deadline (s : State) : Option Nat :=
  let ts := s.prog.ts.getD s.now
  let nexts := (s.prog.descs.zip s.prog.runs).filterMap (fun (x : CellDesc × CellRun) =>
    let n := (x.2.outs.getD 2 (.const 0)).v
    if x.1.is cellSched ∧ 0 ≤ n then some (ts + n.toNat * sec) else none)
  let holds := s.prog.forces.filterMap (fun f => f.until_)
  (nexts ++ holds).min?

/-- D5 powers down after four quiet cycles where Walk or Stand is chosen (R454, R455). -/
def State.sleepNow (s : State) : State :=
  let n := s.chooseState
  if n < 3 ∨ s.power.quietCycles < 4 ∨ s.prog.phase ≠ .idle then s
  else
    let s := s.withPower (fun p => { p with asleep := true, sleepDeadline := s.deadline, quickCycles := 0, wakes := [] })
    let s := if s.pB Pid.pwrAvsEnable then s.setP Pid.pwrCoreMv 0 s.power.floor else s
    let s := s.withProg (fun p => { p with nextAt := none })
    (s.enterState n).settleDomains

/-- Housekeeping of a committed record (R18, R177, R186): its metering accumulations are transferred, its ALARM
events recorded, the journal entries that committed cycles left written, and minute blocks archived. -/
def State.housekeep (s : State) (r : CommittedRecord) : State :=
  let s := r.metering.foldl State.addMinute s
  let s := r.alarms.foldl (fun (s : State) (a : AlarmRecord) => s.raiseWith a.code a.severity a.snap (word a.sid) 0) s
  (s.writeJournal s.prog.uncommitted).archiveMinutes

/-- HOUSEKEEPING (R18, R26): the oldest committed record; that of the last cycle only when its step 4 is over. -/
def execHousekeeping (t : Nat) (s : State) : Host.Outcome State Fault Refusal :=
  s.run t (fun s =>
    if !s.awake ∨ (s.prog.records.length = 1 ∧ s.now < s.prog.copyEnds) then s
    else match s.prog.records with
    | [] => s
    | r :: rest =>
      let s := s.withProg (fun p => { p with records := rest })
      let s := (s.housekeep r).takeFrames
      if rest.isEmpty then s.sleepNow else s)

end Sys2Proof.Machine
end

