-- ==== Sys2Proof/Machine/Shed.lean ====
section
/-! DEFINITION.  The shed steps (R458, R459): what entering and leaving one does. -/

namespace Sys2Proof.Machine

open Sys2Proof

/-- The threshold of a step, mV (R458). -/
def State.shedThreshold (s : State) (step : Nat) : Nat := s.p Pid.pwrShedThreshMv (step - 1)

/-- The step that a VIN mean calls for (R458). -/
def State.stepOfVin (s : State) (vin : Nat) : Nat :=
  ((List.range 6).filter (fun k => decide (vin < s.shedThreshold (k + 1)))).length

/-- The VIN mean as the monitor reports it (R447, R264). -/
def State.showVin (s : State) (vin : Nat) : State :=
  let s := s.setP Pid.pwrVinMv 0 (min 65535 vin)
  if s.p Pid.pwrVinMv < s.p Pid.pwrVinMinMv then s.setP Pid.pwrVinMinMv 0 (s.p Pid.pwrVinMv) else s

/-- The action of a step as it is entered (R119, R220, R280, R460, R475); what holds writes, one radio and rung 2
follow from the step itself. -/
def State.shedAction (s : State) (step : Nat) : State :=
  match step with
  | 1 => s.releaseWaits
  | 2 => s.freezeOutrider.freezeColours
  | 4 => s.reduceUplink
  | 6 =>
    let s := s.stopGraph
    (s.withPower (fun p => { p with phase := .committing, phaseSince := s.now, asleep := false, flushing := false })).withProg
      (fun p => { p with gapFrom := p.ts })
  | _ => s

/-- A SHED_STEP record (R373, R459). -/
def State.shedRecord (s : State) : State := s.raise 0x26 s.shed (s.p Pid.pwrVinMv)

/-- Enter one step. -/
def State.enterStep (s : State) (step : Nat) : State :=
  let s := (s.setP Pid.pwrShedStep 0 step).raiseTo Pid.pwrShedMax 0 step
  let s := s.bumpStored Pid.pwrShedEntries (step - 1)
  let s := { s with sense := { s.sense with shedMax := max s.sense.shedMax step } }
  let s := (s.withPower (fun p => { p with shedChange := s.now })).shedRecord
  ((s.shedAction step).shedTests step).settleDomains

/-- Enter every step down to the one that VIN calls for, in order (R459). -/
def State.enterSteps (s : State) (vin : Nat) : State :=
  let n := s.stepOfVin vin
  (List.range 6).foldl (fun s k => if s.shed < k + 1 ∧ k + 1 ≤ n then s.enterStep (k + 1) else s) s

/-- Leave the deepest step (R459). -/
def State.leaveStep (s : State) : State :=
  let old := s.shed
  let s := s.setP Pid.pwrShedStep 0 (old - 1)
  let s := (s.withPower (fun p => { p with shedChange := s.now })).shedRecord
  let s := match old with
    | 2 => (s.setP Pid.outFrozen 0 0).unfreezeColours
    | 4 => s.restoreUplink (decide (2 ≤ s.p Pid.pwrState))
    | _ => s
  s.releaseHeld.settleDomains

end Sys2Proof.Machine
end

