-- ==== Sys2Proof/Machine/Restart.lean ====
section
/-! DEFINITION.  Restarts (R9, R197 to R203, R462): what the command interface loses, what a warm restart takes
up again, the reset of a cold start and the choice of the image (R400). -/

namespace Sys2Proof.Machine

open Sys2Proof

/-! ### A cold restart by an event -/

/-- A cold restart by an event ends a freeze: what was staged is lost, and counted for the first record after the
restart (R203, R370). -/
def State.loseFreeze (s : State) : State :=
  let wb := s.waybill
  if wb.frozenSince.isNone then s
  else
    let n := wb.staged.length + wb.lostInFreeze
    let s := wb.staged.foldl State.loseRecord s
    { s with waybill := { s.waybill with
      staged := [], frozenSince := none, lostInFreeze := 0, lostAtRestart := if n = 0 then none else some n } }

/-- A cold restart with its cause begins for an event while VIN stays (R15, R79, R241, R486). -/
def State.beginEventRestart (s : State) (cause : Nat) : State :=
  let s := (s.closeMinute 1).loseFreeze
  let s := s.closeSessionByEvent.bridleCold none
  let s := s.stopGraph.stopBanks
  let s := s.withProg (fun p => { p with restarting := some (false, cause), restartRef := none })
  s.withPower (fun p => { p with asleep := false, flushing := false })

/-! ### A warm restart goes on (R98, R199, R202) -/

/-- Bit 14 of every cell's change word is set (R199). -/
def State.touchAll (s : State) : State :=
  s.withProg (fun p => { p with runs := p.runs.map (fun r => { r with change := setBit r.change 14 }) })

/-- What every warm restart shows and counts (R9, R204, R249, R262). -/
def State.warmShown (s : State) (cause : Nat) : State :=
  let s := ((s.setP Pid.progRestartKind 0 1).setP Pid.progRestartCause 0 cause).bumpStored Pid.sysWarmRestarts
  (s.hpEvent 3).touchAll

/-- The runtime is ready after a warm restart: the next boundary runs the graph (R202 steps 2 and 3). -/
def State.warmReady (s : State) : State :=
  match s.prog.restarting with
  | some (true, cause) =>
    let s := s.warmShown cause
    let s := s.withPower (fun p => { p with phase := .running, phaseSince := s.now })
    -- frames that waited in the rings are taken (R277, R281)
    let s := s.takeFrames.takeBuffered
    -- a wheeler that restarts asks for a resynchronisation (R425, R443)
    if s.wheeler then (s.withProg (fun p => { p with restarting := none, gapFrom := none })).tandemPost 9 [4]
    else s.resumeCycles
  | _ => s

/-- WARM_RESTART_READY (R202). -/
def execWarmRestartReady (t : Nat) (s : State) : Host.Outcome State Fault Refusal :=
  s.run t (fun s => if s.power.phase = .reloading then s.warmReady else s)

/-! ### Settings at a start (R9, R259, R411) -/

/-- The settings generation that a start can read. -/
def State.readableGeneration (s : State) : Option SettingsGeneration :=
  if s.storageUp then s.storage.generations.find? (fun g => !g.abandoned) else none

/-- The generation's layout lies in the range that the image reads (R401 word 3, R411). -/
def State.layoutReads (s : State) (g : SettingsGeneration) : Bool :=
  let h := s.imageHeader 3
  decide (bits h 15 0 ≤ g.layout) && decide (g.layout ≤ bits h 31 16)

/-- What the cassettes' own regions hold beside the settings: the waybill's and the firmware slots' readings, and those
of the program store (R9, R186, R191, R363, R407). -/
def heldByRegion (id : Nat) : Bool :=
  decide (0x6800 ≤ id ∧ id < 0x7000) || decide (0x7800 ≤ id ∧ id < 0x8000) || id == Pid.progSwapCount ||
    id == Pid.sysSettingsGen || id == Pid.sysSettingsWrites

/-- Counters of resets and supply events: each increment waits in D0 until it is recorded (R259). -/
def resetCounters : List Nat :=
  [Pid.sysColdRestarts, Pid.sysWarmRestarts, Pid.sysFwFallbacks, Pid.pwrBrownouts, Pid.pwrStanddowns]

/-- A stored element keeps its present value at a cold start where a settings generation can be read: what waits in the
retained change map, what D0 latches, and what the module alone writes and has recorded; a power loss takes back the
rest (R79, R259).  The energy totals are loaded as recorded (R79). -/
def State.holdsStored (s : State) (lost : Bool) (r : ParamRow) (key : Nat) : Bool :=
  let marked := s.marked.any (fun m => m.1 == key)
  if r.id = Pid.meterTotalMwhHi ∨ r.id = Pid.meterTotalMwhLo then false
  else if !lost ∨ resetCounters.contains r.id then marked || decide (15 ≤ r.writeRole)
  else decide (15 ≤ r.writeRole) && !marked && !timeCounters.contains r.id

/-- Storage readings that a cold start takes anew: the requests of a SET and the counts of the running module; the others
a cassette reports again as its maps reload (R9, R343, R359). -/
def freshStorage : List Nat := [Pid.sbEject, Pid.sbAdopt, Pid.sbUncorrectable, Pid.sbLostUnits]

/-- An element keeps its present value at a cold start (R9); what a cassette reports stays with the cassette. -/
def State.holdsElement (s : State) (gen : Option SettingsGeneration) (lost : Bool) (key : Nat) : Bool :=
  match paramRow (key / 65536) with
  | none => false
  | some r =>
    match r.cold with
    | .kept => true
    | .fresh _ => decide (0x6000 ≤ r.id ∧ r.id < 0x6100) && !freshStorage.contains r.id
    | .stored _ =>
      if heldByRegion r.id then s.storageUp || gen.isSome else gen.isSome && s.holdsStored lost r key

/-- Defaults that the variant or the fuses give (R9, R337): of elements that nothing loaded or held. -/
def State.ownDefaults (s : State) (has : Nat → Bool) : State :=
  let put := fun (s : State) (x : Nat × Nat × Word) => if has (paramKey x.1 x.2.1) then s else s.setW x.1 x.2.1 x.2.2
  [(Pid.relayCoordEui, 0, s.w Pid.idEui64 0), (Pid.relayCoordEui, 1, s.w Pid.idEui64 1),
   (Pid.relayBeaconEvery, 0, if s.p Pid.idVariant = 1 then (1 : Word) else 4)].foldl put s

/-- The parameters take their cold values (R9): stored ones from a settings generation, or their defaults. -/
def State.coldParams (s : State) (gen : Option SettingsGeneration) (lost : Bool) : State :=
  let holds := s.holdsElement gen lost
  let load := fun (l : List (Nat × Word)) (v : Nat × Word) =>
    let stored : Bool := match paramRow (v.1 / 65536) with
      | some r => r.persistent
      | none => false
    if !stored || holds v.1 then l
    else if v.2 = defaultWord (v.1 / 65536) (v.1 % 65536) then Tab.drop v.1 l
    else Tab.place v.1 v.2 l
  let values := (gen.map (fun g => g.values)).getD []
  let marked := if lost then s.marked.filter (fun m => resetCounters.contains (m.1 / 65536)) else s.marked
  ({ s with params := values.foldl load (s.params.filter (fun c => holds c.1)), marked := marked }).ownDefaults
    (fun k => holds k || (Tab.look k values).isSome)

/-- What a start makes of the settings generations (R411): settings_state, and a generation in the image's own
layout where the one read is of another layout or build. -/
def State.settleGeneration (s : State) (gen : Option SettingsGeneration) : State :=
  let tell := fun (s : State) (n : Nat) => (s.setP Pid.sysSettingsState 0 n).raise 0x2A n 0
  let own := bits (s.imageHeader 3) 31 16
  let next := ((s.storage.generations.head?).map (fun g => g.number)).getD 0 + 1
  match gen with
  | none => tell s 1
  | some g =>
    if !s.layoutReads g then
      tell (s.writeGeneration ⟨next, own, s.p Pid.idFwBuild, g.number, true, false, [], none⟩) 2
    else if g.layout = own ∧ g.build = s.p Pid.idFwBuild then s.setP Pid.sysSettingsGen 0 g.number
    else s.writeGeneration ⟨next, own, s.p Pid.idFwBuild, g.number, false, false, g.values, g.totals⟩

/-! ### What each chapter's unit holds after a cold start -/

/-- The drive engine (R45, R50, R56): every DRV low, settings in force. -/
def State.driveCold (s : State) : State :=
  let d := s.drive
  let s := { s with drive := { DriveState.reset with
    emlt := d.emlt, emltHeld := d.emltHeld, emltSince := d.emltSince, emltLow := d.emltLow } }
  let s := (List.range 512).foldl (fun s t => s.modTd t (fun x => { x with
    size := s.p Pid.drvTeamSize t, method := s.p Pid.colourMethod t, methodNext := s.p Pid.colourMethod t })) s
  let s := (List.range 512).foldl (fun s c => match s.teamAt c with
    | some t => s.modCd c (fun x => { x with mode := s.p Pid.drvDimMode t })
    | none => s) s
  let s := (List.range 16).foldl (fun s b => s.modBd b (fun x => { x with
    period := s.p Pid.drvPeriodNs b * 4 / 5, stagger := s.p Pid.drvStaggerMode b })) s
  (List.range 512).foldl (fun s c => if (s.teamAt c).isNone then s.setP Pid.diagState c 0xFF else s) s

/-- Diagnosis and colour (R98, R100, R107): nothing gathered; the waits for a temperature begin. -/
def State.unitsCold (s : State) : State :=
  let s := { s with diag := DiagState.reset, colour := ColourState.reset, presence := PresenceState.reset }
  (List.range 512).foldl (fun s t =>
    if (s.td t).size = 0 then s
    else
      let s := { s with diag := { s.diag with teams := s.diag.teams.modify t (fun x => { x with since := s.now }) } }
      s.modTc t (fun k => { k with tempAt := s.now })) s

/-- The harness buses (R146): every enabled bank whose card pulls FLTn_N high is trained anew. -/
def State.harnessCold (s : State) : State :=
  (List.range 16).foldl (fun s b =>
    let h := s.bh b
    let s := s.modBh b (fun _ => { BankHarness.fresh with
      fltHigh := h.fltHigh, fltSince := h.fltSince, lastSerial := h.lastSerial, reenumerate := h.fltHigh, settledAt := s.now })
    let s := s.modBs b (fun k => { k with stamp := none, discard := false })
    if h.fltHigh && s.pB Pid.harnessEnable b && !s.farrier then s.setP Pid.harnessState b 1 else s) s

/-- A cell at a cold start (R156, R174, R199). -/
def coldCell (d : CellDesc) : CellRun :=
  let r := CellRun.fresh d.inits
  let first := d.inits.getD 0 0
  let truth := decide (first ≠ 0)
  let remembers := d.is cellTon || d.is cellTof || d.is cellTp || d.is cellHyst || d.is cellEdge || d.is cellAlarm
  { r with
    was := if remembers then some truth else none
    armed := d.is cellTof && truth
    integ := if d.is cellDaylight then some (first * 65536) else none }

/-- The program (R186, R199): the active image with its written journal; forces are cleared and counted. -/
def State.progCold (s : State) : State :=
  let p := s.prog
  let ds := if p.active.isEmpty then [] else applyJournal (imageCells p.active) p.written
  let s := { s with prog := { ProgState.reset with
    active := p.active, staged := p.staged, previous := p.previous, written := p.written, restartRef := p.restartRef
    descs := ds, runs := ds.map coldCell, phaseRef := s.tickBase } }
  let n := p.forces.length
  if n = 0 then s else (s.setP Pid.progForceDrops 0 n).raise 0x05 n 0

/-- Cores that fail their self-test as D5 powers up are withdrawn (R167). -/
def State.withdrawCores (s : State) (failed : List Nat) : State :=
  let s := (List.range 8).foldl (fun s k => s.modCore k (fun c => { c with withdrawn := failed.contains k })) s
  let s := s.setP Pid.progCoresActive 0 s.activeCores.length
  ((List.range 8).filter (fun k => failed.contains k)).foldl (fun s k => s.raise 0x0C k 0) s

/-- The relay (R322, R326, R335): contexts, counters and relaying nodes stay; the slot count runs on while VIN
stays; the outgoing counter resumes well above what was recorded. -/
def State.relayCold (s : State) (gen : Option SettingsGeneration) (oldCount : Nat) (lost : Bool) : State :=
  let r := s.relay
  let phase : Int := if lost then 0 else r.phaseNs + (oldCount : Int) * 40
  -- after a power return frames are accepted above the recorded counters (R322)
  let counters := fun (x : Nat × RelayNode) =>
    let top := s.p Pid.relayNodeFcIn x.1
    if !lost then x.2.counters else if top = 0 then [] else [(s.p Pid.relayKeyGen, top)]
  let s := s.withRelay (fun _ => { RelayState.reset with
    config := ⟨s.p Pid.relayRate, s.p Pid.relayPanId, s.pRun Pid.relayChanExclude 0 5, s.p Pid.relaySlotframe, s.p Pid.relaySharedSlots⟩
    phaseNs := phase, keyMove := r.keyMove, targetSeq := r.targetSeq, originSeq := r.originSeq, air := r.air
    nodes := { r.nodes with cells := r.nodes.cells.map (fun x =>
      (x.1, { RelayNode.fresh with counters := counters x, relays := x.2.relays })) } })
  let recorded := (gen.bind (fun g => Tab.look (paramKey Pid.relayFcOut 0) g.values)).getD (s.w Pid.relayFcOut 0)
  let s := ((s.setP Pid.relayFcOut 0 (recorded.toNat + 65536)).mark Pid.relayFcOut 0).showNodes
  (s.contexts).foldl (fun s n => s.setP Pid.relayNodeState n (if (s.cellOf n).flood then 3 else 2)) s

/-- Sensing and metering (R71, R79): accumulators begin anew; a power loss also takes the buffer; the totals are those
recorded, or 0, and take in what was written since. -/
def State.senseCold (s : State) (gen : Option SettingsGeneration) (lost : Bool) : State :=
  let s := s.senseReset
  let s := { s with sense := { s.sense with recorded := gen.bind (fun g => g.totals) } }
  let s := if lost then { s with sense := { s.sense with buffer := [], partial_ := true } } else s
  (s.setP Pid.meterBufferedMin 0 s.sense.buffer.length).reloadTotals

/-- The tack room (R396): commits in progress ended with D9; a tamper detection that waited is acted on (R395). -/
def State.vaultCold (s : State) : State :=
  let s := { s with vault := { s.vault with jobs := [], announceNext := false } }
  match s.vault.tamperPending with
  | some i => s.tamperActions i
  | none => s

/-- Tandem operation (R418, R429, R438): the links start anew; the role follows tdm.enable. -/
def State.tandemCold (s : State) : State :=
  let k := s.tandem
  let s := { s with tandem := { TandemState.reset with lanes := k.lanes, sequence := k.sequence, roleSince := s.now } }
  if s.pB Pid.tdmEnable then s.tandemOn else s

/-- The supply (R452, R465): Gallop with tolerance 0, the core at 900 mV; the floor that the replica monitor told
stays (R6). -/
def State.powerCold (s : State) : State :=
  s.withPower (fun p => { PowerState.reset with
    phase := .enumerating, phaseSince := s.now, shedChange := s.now, standDownFlag := p.standDownFlag
    d0OnVin := p.d0OnVin, d1At := p.d1At, rstLow := p.rstLow, stateSince := s.now, hoursFrom := p.hoursFrom, domains := p.domains, floor := p.floor })

/-! ### The image at a start (R400, R410, R411) -/

/-- The identity of the image that runs (R260): that of its slot, or of the farrier ROM, which the spec does not give
(assumption 98). -/
def State.showImage (s : State) (slot : Nat) : State :=
  let s := s.setP Pid.idFwSlot 0 slot
  if slot = 2 then
    (s.setP Pid.idFwBuild 0 (Config.romBuild % 65536)).setRun Pid.idFwDigest 0 ((List.range 8).map (fun k => (Config.romDigest k).toNat))
  else
    (s.setP Pid.idFwBuild 0 (s.p Pid.updSlotBuild slot)).setRun Pid.idFwDigest 0 (s.pRun Pid.updSlotDigest (8 * slot) 8)

/-- A fallback abandons every generation written since the switch (R411): how many. -/
def State.abandonGenerations (s : State) : Nat × State :=
  let late := fun (g : SettingsGeneration) => decide (s.update.generationAtSwitch < g.number) && !g.abandoned
  let n := (s.storage.generations.filter late).length
  (n, { s with storage := { s.storage with
    generations := s.storage.generations.map (fun g => if late g then { g with abandoned := true } else g) } })

/-- A fallback (R410, R411): the new slot is invalid, the previous image is selected, the generations written since
the switch are abandoned. -/
def State.fallBack (s : State) : State :=
  let new := s.update.selected
  let old := s.update.previous.getD (1 - new)
  let x := s.abandonGenerations
  let s := (x.2.setP Pid.updSlotState new 4).setP Pid.updSlotState old 3
  let s := { s with update := { s.update with
    selected := old, previous := none, probationEnd := none, probationRestarts := 0, firstCommitFrom := none } }
  ((s.bumpStored Pid.sysFwFallbacks).updCount 14 (s.p Pid.updSource)).updRecord x.1 1

/-- The image of a start (R400): the slot that runs, none in farrier mode. -/
def State.selectImage (s : State) (wanted : Bool) : State :=
  if wanted then s.showImage 2
  else match s.chooseImage with
    | none => s.showImage 2
    | some (slot, false) => s.showImage slot
    | some (slot, true) =>
      let s := { s with update := { s.update with selected := slot, probationEnd := none, firstCommitFrom := none } }
      ((s.showImage slot).bumpStored Pid.sysFwFallbacks).updRecord (s.p Pid.updState) 1

/-- A restart within probation whose cause is neither a command nor a loss of power counts; the third falls back
(R410).  Answers the cause that prog.restart_cause then reads. -/
def State.countProbation (s : State) (cause : Nat) : Nat × State :=
  if s.update.probationEnd.isNone ∨ (cause ≠ 1 ∧ cause ≠ 3) then (cause, s)
  else
    let n := s.update.probationRestarts + 1
    let s := { s with update := { s.update with probationRestarts := n } }
    if 3 ≤ n then (6, s.fallBack) else (cause, s)

/-! ### The cold reset (R202 step 4, R462 steps 3 to 5) -/

/-- The clock at a cold start (R299, R262): a fresh count while VIN stayed, a clock from the calendar after a power
loss.  Quality and slots are set after the parameters have taken their cold values. -/
def State.timeCold (s : State) (gen : Option SettingsGeneration) (lost : Bool) (lastGood : Option (Civil × Nat)) : State :=
  if lost then
    let s := { s with tickBase := s.now, tcxoStopped := none }
    let s := s.withTime (fun k => { TimeState.reset with
      calAt := k.calAt, calTicks := k.calTicks, wakeAt := k.wakeAt, rtcTicks := k.rtcTicks, ticksAt := k.ticksAt
      tables := k.tables, leapAt := k.leapAt })
    ((s.coldParams gen true).timePowerOn lastGood)
  else
    let s := s.timeColdRestart
    let old := s
    let s := s.coldParams gen false
    let s := (s.setP Pid.timeQuality 0 (old.p Pid.timeQuality)).setP Pid.timeSelected 0 (old.p Pid.timeSelected)
    (List.range 2).foldl (fun s d => s.setP Pid.timeDomState d (if s.pB Pid.timeDomEnable d then 1 else 0)) s

/-- The cold reset with its cause: parameters, units, image, settings, shed step and the records that a start
writes. -/
def State.coldReset (s : State) (cause vin : Nat) (lost : Bool) (failed : List Nat) (lastGood : Option (Civil × Nat)) : State :=
  let wanted := s.pB Pid.updEnterFarrier
  let count := s.count
  -- a brownout ends a freeze as every event does (R203)
  let s := if lost then s.loseFreeze else s
  let s := s.closeSessionByEvent
  let x := s.countProbation cause
  let cause := x.1
  let s := x.2.selectImage wanted
  let farrier := s.p Pid.idFwSlot == 2
  let read := s.readableGeneration
  let gen := read.filter s.layoutReads
  let s := { s with coldAt := s.now, spineLocked := lost || s.spineLocked, unlockedAt := none, waybill := { s.waybill with buckets := Tab.const none } }
  let s := s.timeCold gen lost lastGood
  let s := if lost then { s with waybill := { s.waybill with hold := [] } } else s
  let s := s.powerCold
  let s := if farrier then s.withPower (fun p => { p with phase := .farrier }) else s
  let s := s.driveCold.unitsCold.harnessCold
  let s := s.progCold
  let s := s.relayCold gen count lost
  let s := s.netRestart
  let s := { s with storage := { s.storage with writes := [], countersAt := none } }
  let s := s.senseCold gen lost
  let s := { s with test := { TestState.reset with tap := s.test.tap } }
  let s := s.vaultCold.tandemCold
  let s := (s.bumpStored Pid.sysColdRestarts).setP Pid.progRestartCause 0 cause
  let s := (s.raise 0x03 cause 0).settleGeneration read
  let s := (s.withdrawCores failed).hpEvent 3
  -- EMLT was high as D1 powered up (R52)
  let s := if lost && s.drive.emltHeld then (s.hpEvent 2).raise 0x09 0 0 else s
  let s := s.withPower (fun p => { p with domains := s.wantedDomains })
  (s.showVin vin).enterSteps vin

/-- Every bank has stopped and its cards are in ride-through (R140, R202 step 3). -/
def State.banksWaited (s : State) : Bool :=
  (List.range 16).all (fun b => !(s.bd b).running && !s.busWaits b)

/-- The cause of the cold restart in progress. -/
def State.coldCause (s : State) : Nat :=
  match s.prog.restarting with
  | some (false, c) => c
  | _ => 4

/-- COLD_RESTART_RESET (R202 step 4): the ride-through wait is over; VIN as measured, and the cores that fail their
self-test. -/
def execColdRestartReset (t vin : Nat) (failed : List Nat) (s : State) : Host.Outcome State Fault Refusal :=
  s.run t (fun s =>
    if s.power.phase = .stopping ∧ s.banksWaited then s.coldReset s.coldCause vin false failed none else s)

/-- TCXO_RETURN (R15): a cold restart begins; the count goes on until its reset. -/
def execTcxoReturn (t : Nat) (s : State) : Host.Outcome State Fault Refusal :=
  s.run t (fun s =>
    match s.tcxoStopped with
    | none => s
    | some c =>
      let s := { s with tcxoStopped := none, tickBase := s.now - c * tcxoPeriod }
      match s.power.phase with
      | .running | .enumerating | .reloading | .farrier | .stopping =>
        (s.beginEventRestart 3).withPower (fun p => { p with phase := .stopping, phaseSince := s.now })
      | _ => s)

/-! ### The end of enumeration (R202 step 6) -/

/-- ENUMERATION_WAIT_END (R202 step 6): the first boundary follows at the next whole multiple of T_c. -/
def execEnumerationWaitEnd (t : Nat) (s : State) : Host.Outcome State Fault Refusal :=
  s.run t (fun s =>
    if !s.enumerationOver then s
    else
      let s := s.withPower (fun p => { p with phase := .running, phaseSince := s.now })
      if s.wheeler then s else s.resumeCycles)

end Sys2Proof.Machine
end

