-- ==== Sys2Proof/Machine/Update.lean ====
section
/-! DEFINITION.  Firmware update (R400 to R417): the update session, the checks of an image, the switch, probation
and fallback. -/

namespace Sys2Proof.Machine

open Sys2Proof

/-! ### The update session (R403 to R408) -/

/-- Refuse an UPD_OPEN: counted with its event of R417; the detail of a refusal by state is kept. -/
def State.refuseOpen (s : State) (q : Request) (event : Option Nat) (status detail : Nat) : Answer × State :=
  let s := s.bump Pid.updRefusals
  let s := if status = stRefusedState then s.setP Pid.updLastRefusal 0 detail else s
  let s := match event with
    | some k => s.updCount k (s.updPath q.source.transport)
    | none => s
  refuse status detail s

/-- The session needs no valid K03 and no site tag (R415): the farrier ROM under a Factory session, or in Blank. -/
def State.untaggedSession (s : State) (q : Request) : Bool := s.farrier && (q.role == 4 || s.lifecycle == 0)

/-- UPD_OPEN (R403, R404, R415). -/
def updOpenBody : Body := withLength 9 (fun q s =>
  let size := (nth q.payload 8).toNat
  let rom := s.farrier
  if s.p Pid.updHolder ≠ 0 ∨ s.p Pid.updState ≠ 0 then
    s.refuseOpen q (some 1) stBusy (s.p Pid.updSource * 4096 + s.p Pid.updDigest 0 / 2 ^ 20)
  else if !rom ∧ s.wheeler then s.refuseOpen q (some 7) stRefusedState 6
  else if !rom ∧ (List.range 16).any s.rung1 then s.refuseOpen q (some 2) stRefusedState 1
  else if !rom ∧ 2 ≤ s.shed then s.refuseOpen q (some 3) stRefusedState 2
  else if !rom ∧ s.switchingOver then s.refuseOpen q (some 4) stRefusedState 3
  else if s.pB Pid.sysOwnerLock then s.refuseOpen q (some 5) stRefusedState 4
  else if s.slotState 3 ≠ 1 ∧ !s.untaggedSession q then s.refuseOpen q (some 6) stRefusedState 5
  else if !s.storageUp then s.refuseOpen q none stRefusedState 7
  else if size < 82 ∨ 16777216 < size then
    refuse stRange 8 ((s.setP Pid.updLastRefusal 0 8).updCount 9 (s.updPath q.source.transport))
  else
    let s := (s.setP Pid.updHolder 0 q.session).setP Pid.updSource 0 q.source.transport.index
    let s := s.setRun Pid.updDigest 0 ((q.payload.take 8).map BitVec.toNat)
    let s := (s.setP Pid.updSizeWords 0 size).setP Pid.updWordsRx 0 0
    let s := s.updCount 0 (s.updPath q.source.transport)
    (.later, { s with update := { s.update with
      staging := [], opening := some (q.ref, s.now), committing := none, holderGone := false
      untagged := s.untaggedSession q, lastData := s.now } }))

def execUpdOpen (t : Nat) (tr : Transport) (s : State) : Host.Outcome State Fault Refusal :=
  s.run t (fun s => s.onOpcode tr 0x90 .deferred updOpenBody)

/-- STAGING_ERASE_DONE (R403). -/
def execStagingEraseDone (t : Nat) (s : State) : Host.Outcome State Fault Refusal :=
  s.run t (fun s =>
    match s.update.opening with
    | none => s
    | some (ref, _) =>
      let s := { s with update := { s.update with opening := none, lastData := s.now } }
      ((s.setP Pid.updState 0 1).finish ref (ok)).shallower)

/-- The session's commands come from its holder (R404). -/
def ofHolder (f : Body) : Body := fun q s =>
  if s.p Pid.updHolder = 0 ∨ s.p Pid.updHolder ≠ q.session then refuse stRefusedState 9 s else f q s

/-- UPD_DATA (R405). -/
def updDataBody : Body := ofHolder (fun q s =>
  let off := (nth q.payload 0).toNat
  let ws := q.payload.drop 1
  if s.p Pid.updState ≠ 1 then refuse stRefusedState 10 s
  else if q.payload.isEmpty ∨ off ≠ s.p Pid.updWordsRx ∨ s.p Pid.updSizeWords < off + ws.length then
    refuse stRange 0 (s.updCount 9 (s.updPath q.source.transport))
  else
    let s := (s.setP Pid.updWordsRx 0 (off + ws.length)).updCount 8 (s.updPath q.source.transport)
    let s := { s with update := { s.update with staging := s.update.staging ++ ws, lastData := s.now } }
    (.done (ok), s.storeWrite (.pslc 2 (off / 1048576)) (divUp ws.length 256) .nothing))

def execUpdData (t : Nat) (tr : Transport) (s : State) : Host.Outcome State Fault Refusal :=
  s.run t (fun s => s.onOpcode tr 0x91 .immediate updDataBody)

/-- UPD_COMMIT (R406): the checks run. -/
def updCommitBody : Body := withLength 8 (ofHolder (fun q s =>
  if s.p Pid.updState ≠ 1 then refuse stRefusedState 10 s
  else
    let s := (s.setP Pid.updState 0 2).updCount 10 (s.updPath q.source.transport)
    (.later, { s with update := { s.update with committing := some (q.ref, q.payload) } })))

def execUpdCommit (t : Nat) (tr : Transport) (s : State) : Host.Outcome State Fault Refusal :=
  s.run t (fun s => s.onOpcode tr 0x92 .deferred updCommitBody)

/-- UPD_ABORT (R408). -/
def updAbortBody : Body := withLength 0 (ofHolder (fun _ s =>
  if s.p Pid.updState = 2 ∨ s.update.opening.isSome then refuse stRefusedState 11 s else (.done (ok), s.abortUpdate)))

def execUpdAbort (t : Nat) (tr : Transport) (s : State) : Host.Outcome State Fault Refusal :=
  s.run t (fun s => s.onOpcode tr 0x93 .immediate updAbortBody)

/-- UPD_STATUS (R247, R404). -/
def updStatusBody : Body := withLength 0 (fun _ s =>
  (.done (ok ([s.w Pid.updState 0, s.w Pid.updSource 0] ++ (List.range 8).map (fun k => s.w Pid.updDigest k) ++ [s.w Pid.updWordsRx 0])), s))

def execUpdStatus (t : Nat) (tr : Transport) (s : State) : Host.Outcome State Fault Refusal :=
  s.run t (fun s => s.onOpcode tr 0x94 .immediate updStatusBody)

/-- UPDATE_IDLE_ABORT (R408): upd.idle_s without an accepted UPD_DATA. -/
def execUpdateIdleAbort (t : Nat) (s : State) : Host.Outcome State Fault Refusal :=
  s.run t (fun s =>
    if s.p Pid.updState = 1 ∧ s.passed s.update.lastData (s.p Pid.updIdleS * sec) then s.abortUpdate else s)

/-! ### The checks of R406 -/

/-- The image fits this module (R401, R406 order 6). -/
def State.imageFits (s : State) (ws : List Word) : Bool :=
  nth ws 0 == 0x5A4C4957 && bits (nth ws 1) 31 16 == 1 && bit (nth ws 6) (s.p Pid.idVariant) &&
    decide (bits (nth ws 6) 31 16 ≤ s.p Pid.idDieRev) && decide (bits (nth ws 2) 15 0 ≤ s.p Pid.idRomVersion)

/-- The copy formats of the new and the running image read one another (R413): an image reads every format from the
oldest one that its header word names on (DEDUCED, assumption 108). -/
def State.formatsMeet (s : State) (ws : List Word) : Bool :=
  let new := nth ws 4
  let old := s.imageHeader 4
  decide (bits new 15 0 ≤ bits old 31 16) && decide (bits old 15 0 ≤ bits new 31 16)

/-- The first check of R406 that the staged image fails, for a digest. -/
def State.imageFailure (s : State) (digest : List Word) (untagged : Bool) : Option Nat :=
  let ws := s.update.staging
  let tag : Bool := match s.slotKey 3 with
    | some k => siteTagPasses k ws
    | none => false
  if imageDigest ws ≠ digest then some 3
  else if !signaturePasses ws then some 4
  else if !untagged && !tag then some 5
  else if !s.imageFits ws then some 6
  else if bits (nth ws 2) 31 16 < s.p Pid.updMinBuild then some 7
  else if s.lead && !s.formatsMeet ws then some 8
  else none

/-- The slot that is not running (R406). -/
def State.waitingSlot (s : State) : Nat := 1 - s.update.selected

/-- The staged image is copied into the slot that is not running, which is valid then. -/
def State.fillSlot (s : State) (digest : List Word) : State :=
  let k := s.waitingSlot
  let ws := s.update.staging
  let s := { s with update := { s.update with slots := s.update.slots.set k ws } }
  let s := (s.setP Pid.updSlotState k 1).setP Pid.updSlotBuild k (bits (nth ws 2) 31 16)
  let s := s.setRun Pid.updSlotDigest (8 * k) (digest.map BitVec.toNat)
  s.storeWrite (.pslc k 0) (divUp ws.length 256) .nothing

/-! ### The image switch (R407, R413) -/

/-- The waiting slot is selected; its image runs on probation, the old one is the previous image (R407, R409). -/
def State.selectNew (s : State) : State :=
  let new := s.waitingSlot
  let old := s.update.selected
  let s := s.setP Pid.updSlotState new 2
  let s := if s.p Pid.updSlotState old = 3 ∨ s.p Pid.updSlotState old = 2 then s.setP Pid.updSlotState old 1 else s
  { s with update := { s.update with
    selected := new, previous := some old, probationEnd := some (s.now + s.p Pid.updProbationS * sec), probationRestarts := 0
    firstCommitFrom := some s.now, wheelerCopied := false
    generationAtSwitch := ((s.storage.generations.head?).map (fun g => g.number)).getD 0 } }

/-- The settings as another image finds them without a loss of what it keeps (R411): a layout that it does not
read gives defaults. -/
def State.settleImage (s : State) : State :=
  match s.readableGeneration with
  | none => s
  | some g =>
    let s := if s.layoutReads g then s
      else ({ s with params := s.params.filter (fun c => match paramRow (c.1 / 65536) with
        | some r => !(r.persistent && decide (r.writeRole < 15))
        | none => true) }).ownDefaults (fun k => k / 65536 == Pid.relayCoordEui)
    s.settleGeneration (some g)

/-- The switch: a warm restart into the new image; the session ends (R407). -/
def State.switchImage (s : State) : State :=
  let s := s.updCount 13 (s.p Pid.updSource)
  let s := s.endUpdate.setP Pid.updSwitchNow 0 0
  let s := s.selectNew
  let s := (s.showImage s.update.selected).settleImage
  s.beginWarm 6 none

/-- The switch may be taken at this boundary (R407, R413): a lead with a wheeler waits for the wheeler's own switch
and for one copy that it accepted since. -/
def State.switchDue (s : State) : Bool :=
  s.p Pid.updState == 3 && s.waitCause == 0 && (!s.pB Pid.updDeferSwitch || s.pB Pid.updSwitchNow) &&
    (if s.wheeler then s.awake && s.power.phase == .running
     else s.boundaryDue && (s.p Pid.updPairState == 0 || (s.p Pid.updPairState == 3 && s.update.wheelerCopied)))

/-- IMAGE_SWITCH (R407). -/
def execImageSwitch (t : Nat) (s : State) : Host.Outcome State Fault Refusal :=
  s.run t (fun s => if s.switchDue then s.switchImage else s)

/-! ### The end of the checks (R406, R412, R415) -/

/-- After a commit the farrier ROM makes the new slot selected and restarts cold into it (R415). -/
def State.farrierSwitch (s : State) : State := (s.endUpdate.selectNew).beginCold 6 none

/-- A check fails: ST_NOT_COMMITTED with its detail; the session is open again. -/
def State.commitFails (s : State) (ref : TicketRef) (k : Nat) : State :=
  let s := { s with update := { s.update with committing := none, lastData := s.now } }
  let s := (s.setP Pid.updState 0 1).updCount 11 (s.p Pid.updSource)
  s.finish ref (fail stNotCommitted k)

/-- Every check passes: the slot holds the image.  On a paired lead the result waits for the wheeler (R412). -/
def State.commitPasses (s : State) (ref : TicketRef) (digest : List Word) : State :=
  let s := (s.fillSlot digest).setP Pid.updState 0 3
  let s := s.setP Pid.updSwitchNow 0 0
  if s.pairedLead then s.setP Pid.updPairState 0 1
  else
    let s := ({ s with update := { s.update with committing := none } }).finish ref (ok)
    if s.farrier then s.farrierSwitch else s

/-- COMMIT_VERIFY_DONE (R406): checks and copy are over.  The site-tag check is an operation of K03 (R399). -/
def execCommitVerifyDone (t : Nat) (s : State) : Host.Outcome State Fault Refusal :=
  s.run t (fun s =>
    match s.update.committing with
    | some (ref, digest) =>
      if s.p Pid.updState ≠ 2 then s
      else
        let declared := (s.pRun Pid.updDigest 0 8).map (fun n => word n)
        let gone := s.update.holderGone
        let failure :=
          if digest ≠ declared then some 1
          else if s.p Pid.updWordsRx ≠ s.p Pid.updSizeWords then some 2
          else s.imageFailure digest s.update.untagged
        let s := if s.update.untagged then s else s.keyUse .image 0 3
        let s := match failure with
          | some k => s.commitFails ref k
          | none => s.commitPasses ref digest
        if gone then s.abortUpdate else s
    | none => s)

/-- WHEELER_IMAGE_VALID (R412): both modules hold the image; the result of UPD_COMMIT is ready. -/
def execWheelerImageValid (t : Nat) (h : LinkHead) (s : State) : Host.Outcome State Fault Refusal :=
  s.run t (fun s =>
    let x := s.linkTakes 9 h
    let s := x.2
    if !x.1 ∨ s.p Pid.updPairState ≠ 1 ∨ s.p Pid.updState ≠ 3 then s
    else
      let s := s.finishOpt (s.update.committing.map (fun c => c.1)) (ok)
      ({ s with update := { s.update with committing := none } }).setP Pid.updPairState 0 2)

/-- The partner is gone while an image is carried to it: the lead goes on alone. -/
def State.updatePairGone (s : State) : State :=
  if s.p Pid.updPairState = 0 then s
  else
    let s := s.finishOpt (s.update.committing.map (fun c => c.1)) (ok)
    ({ s with update := { s.update with committing := none } }).setP Pid.updPairState 0 0

/-- A wheeler takes a piece of the carried image (R412); with the last one it checks the image, fills its slot and
tells the lead. -/
def State.takeFirmware (s : State) (offset : Nat) (last : Bool) (digest ws : List Word) : State :=
  let have_ := if offset = 0 then [] else s.update.staging
  if have_.length ≠ offset then s
  else
    let s := { s with update := { s.update with staging := have_ ++ ws } }
    if !last ∨ (s.imageFailure digest false).isSome then s
    else
      let s := (s.fillSlot digest).setP Pid.updState 0 3
      s.tandemPost 9 [3]

/-! ### Probation (R409) and fallback (R410) -/

/-- The image on probation is confirmed (R409). -/
def State.confirmImage (s : State) : State :=
  if s.update.probationEnd.isNone then s
  else
    let k := s.update.selected
    let s := (s.setP Pid.updMinBuild 0 (s.p Pid.updSlotBuild k)).mark Pid.updMinBuild 0
    let s := s.setP Pid.updSlotState k 3
    ({ s with update := { s.update with probationEnd := none, probationRestarts := 0, firstCommitFrom := none } }).updRecord
      (s.p Pid.updState) 0

/-- PROBATION_END (R409). -/
def execProbationEnd (t : Nat) (s : State) : Host.Outcome State Fault Refusal :=
  s.run t (fun s =>
    match s.update.probationEnd with
    | some a => if s.awake ∧ a ≤ s.now then s.confirmImage else s
    | none => s)

/-- Stored settings as the newest generation that is not abandoned holds them (R411). -/
def State.loadSettings (s : State) : State :=
  match s.readableGeneration with
  | none => s
  | some g =>
    let own := fun (k : Nat) => match paramRow (k / 65536) with
      | some r => r.persistent && decide (r.writeRole < 15)
      | none => false
    let kept := s.params.filter (fun c => !own c.1)
    let load := fun (l : List (Nat × Word)) (v : Nat × Word) =>
      if !own v.1 || v.2 == defaultWord (v.1 / 65536) (v.1 % 65536) then l else Tab.place v.1 v.2 l
    ({ s with params := g.values.foldl load kept, marked := s.marked.filter (fun m => !own m.1) }).ownDefaults
      (fun k => !own k || (Tab.look k g.values).isSome)

/-- A fallback to the previous image (R410): warm where the new image still runs and the previous one reads its
warm-restart format, from the oldest one that header word 5 names on (assumption 108), else cold. -/
def State.fallbackNow (s : State) (running : Bool) : State :=
  if s.update.probationEnd.isNone then s
  else
    let old := s.update.previous.getD (1 - s.update.selected)
    let reads := decide (bits (s.slotHeader old 5) 15 0 ≤ bits (s.imageHeader 5) 31 16)
    if running && reads then
      let s := s.endUpdate.fallBack
      ((s.showImage s.update.selected).loadSettings).beginWarm 6 none
    else
      let s := s.endUpdate.fallBack
      { (s.beginCold 6 none) with marked := s.marked.filter (fun m => match paramRow (m.1 / 65536) with
        | some r => decide (15 ≤ r.writeRole)
        | none => false) }

/-- FIRST_COMMIT_TIMEOUT (R410): no first commit 2 s after the switch. -/
def execFirstCommitTimeout (t : Nat) (s : State) : Host.Outcome State Fault Refusal :=
  s.run t (fun s =>
    match s.update.firstCommitFrom with
    | some a =>
      let p := s.power.phase
      if s.passed a (2 * sec) ∧ (p = .running ∨ p = .reloading ∨ p = .enumerating) then s.fallbackNow (p == .running) else s
    | none => s)

/-- WATCHDOG_RESET (R408, R410, R440): on probation a fallback; else a warm restart, whose cause the spec does not
number: a free value (assumption 33). -/
def execWatchdogReset (t : Nat) (s : State) : Host.Outcome State Fault Refusal :=
  s.run t (fun s =>
    if s.power.phase ≠ .running ∨ s.power.asleep then s
    else if s.update.probationEnd.isSome then s.fallbackNow false
    else
      let x := s.closeSessionByEvent.drawBelow 256
      x.2.beginWarm x.1 none)

end Sys2Proof.Machine
end

