-- ==== Sys2Proof/Machine/Power.lean ====
section
/-! DEFINITION.  Supply and power commands (R447 to R463, R486): shed steps, stand-down, brownout, power-on and
power return, wakes, flush wakes, the core rail, RST_N, POWER_TOLERANCE, POWER_STATUS and TANDEM_STATUS. -/

namespace Sys2Proof.Machine

open Sys2Proof

/-! ### Shed steps (R459) -/

/-- The runtime stands where shed steps are entered and left. -/
def State.sheds (s : State) : Bool :=
  match s.power.phase with
  | .running | .enumerating | .reloading | .farrier => true
  | _ => false

/-- SHED_STEP_ENTER (R459): the 1 ms mean of VIN, in mV. -/
def execShedStepEnter (t vin : Nat) (s : State) : Host.Outcome State Fault Refusal :=
  s.run t (fun s => if s.sheds then (s.showVin vin).enterSteps vin else s)

/-- A step may be left (R459): 100 ms after the last change with the mean at or above its threshold plus the
hysteresis; step 6 is never left. -/
def State.mayLeave (s : State) (vin : Nat) : Bool :=
  s.sheds && decide (1 ≤ s.shed ∧ s.shed ≤ 5) && s.passed s.power.shedChange (100 * ms) &&
    decide (s.shedThreshold s.shed + s.p Pid.pwrShedHystMv ≤ vin)

/-- SHED_STEP_LEAVE (R459): the mean has stayed at `vin` or above for 100 ms. -/
def execShedStepLeave (t vin : Nat) (s : State) : Host.Outcome State Fault Refusal :=
  s.run t (fun s => if s.mayLeave vin then (s.showVin vin).leaveStep else s)

/-! ### Stand-down and brownout (R448, R460) -/

/-- Both links are down and every bank's signals have stopped: D2 to D9 go off. -/
def State.drivesOff (s : State) : State :=
  let s := (List.range 16).foldl State.bankOff s
  [0, 1].foldl (fun s p => if s.domainOn 6 then s.linkLost p else s) s

/-- The commit record of the warm-restart image (R198). -/
def State.warmRecord (s : State) (complete : Bool) : WarmImage :=
  ⟨s.activeCrc, s.prog.written.length, s.calNow.1.seconds, s.calNow.2, complete⟩

/-- Every held buffer is written (R358, R460): records, journal, marks and totals; minute blocks and the open
minute stay with the image (R79). -/
def State.writeBuffers (s : State) : State :=
  let all := s.prog.written ++ s.prog.unwritten
  let s := s.withProg (fun p => { p with written := all, unwritten := [], unwrittenSince := none })
  let s := s.recordMarks.recordTotals
  if s.waybill.frozenSince.isSome then s
  else
    let rs := s.waybill.hold
    rs.foldl State.storeRecord { s with waybill := { s.waybill with hold := [] } }

/-- STAND_DOWN (R460 steps 3 and 4): the commit is over and the module stands down; with no cassette in service its
record is incomplete. -/
def execStandDown (t : Nat) (s : State) : Host.Outcome State Fault Refusal :=
  s.run t (fun s =>
    if s.power.phase ≠ .committing then s
    else
      let s := s.endCommit
      let up := s.storageUp
      let s := if up then s.writeBuffers else s
      let image := s.warmRecord up
      let spent := s.power.stateTime.get (s.p Pid.pwrState) + (s.now - s.power.stateSince)
      let s := s.withPower (fun p => { p with stateTime := p.stateTime.set (s.p Pid.pwrState) spent, stateSince := s.now })
      let s := s.withProg (fun p => { p with warm := some image })
      let s := (s.drivesOff).setPole false
      let s := { s with sense := { s.sense with darkSince := some (s.sense.darkSince.getD s.now) } }
      s.withPower (fun p => { p with
        phase := .stoodDown, phaseSince := s.now, domains := 3, standDownFlag := up }))

/-- BROWNOUT_RESET (R448): VIN stayed below pwr.reset_mv for 2 µs; a stand-down where a step-6 commit has
completed.  The kind is latched in D0 and counted at the start that follows (R259). -/
def execBrownoutReset (t : Nat) (s : State) : Host.Outcome State Fault Refusal :=
  s.run t (fun s =>
    if s.power.phase = .unpowered then s
    else
      let stood := s.power.standDownFlag
      let s := if stood then s else s.withProg (fun p => { p with warm := none })
      let s := (s.settleHours.drivesOff).setPole false
      let s := s.withDrive (fun d => { d with emltHeld := false, emltLow := none })
      let s := (List.range 16).foldl (fun s b => s.modBd b (fun d => { d with stoppedAt := none })) s
      s.withPower (fun p => { p with
        phase := .unpowered, phaseSince := s.now, domains := 1, asleep := false, flushing := false
        resetCause := some (if stood then 7 else 2) }))

/-! ### Power-on (R462) -/

/-- The latest of two times. -/
def laterTime (a b : Option (Civil × Nat)) : Option (Civil × Nat) :=
  match a, b with
  | none, x => x
  | x, none => x
  | some x, some y => if x.1.seconds < y.1.seconds then some y else some x

/-- The time that two calendar words of a record give (R364). -/
def recordTime (r : EventRecord) : Civil × Nat :=
  let d := r.date.toNat
  let k := r.time.toNat
  let c : Civil := ⟨unbcd (d / 2 ^ 24 % 256), unbcd (d / 2 ^ 16 % 256), unbcd (d / 256 % 256), unbcd (d % 256), 0,
    unbcd (k / 2 ^ 24 % 256), unbcd (k / 2 ^ 16 % 256), unbcd (k / 256 % 256)⟩
  ({ c with weekday := weekdayOf (daysOfDate (c.century * 100 + c.year) c.month c.day) }, 0)

/-- The last good value of the calendar (R299): the latest time among the warm-restart commit record, the newest
minute block and the newest waybill record. -/
def State.lastGood (s : State) : Option (Civil × Nat) :=
  let image := s.prog.warm.map (fun w => (civilOfSeconds w.at_, 0))
  let shift := s.pI Pid.timeTzOffsetMin * 60 - s.pI Pid.timeUtcOffsetS
  let block := (s.archivedBlocks.getLast?).map (fun (b : MinuteBlock) => (civilOfSeconds ((b.close : Int) + shift), 0))
  let newest := fun (l : List EventRecord) => (l.getLast?).map recordTime
  laterTime (laterTime image block) (laterTime (newest s.waybill.general) (newest s.waybill.critical))

/-- D1 powers up (R419, R462 step 2): the strap is sampled, nothing waits in a queue, hours count from here, and EMLT
acts at the level it has (R52, R487). -/
def State.wakeD1 (s : State) (strap : Bool) : State :=
  let s := { s with bridle := { BridleState.reset with sessions := s.bridle.sessions }, test := { s.test with tap := TestState.reset.tap } }
  let s := s.withDrive (fun d => { d with emltHeld := d.emlt, emltSince := if d.emlt then some s.now else none, emltLow := none })
  (s.setB Pid.tdmPrecedence 0 strap).withPower (fun p => { p with
    hoursFrom := s.now, flushing := false, asleep := false, d1At := some s.now })

/-- The latched cause of a reset is counted (R259, R460 step 5). -/
def State.countReset (s : State) : State :=
  let s := match s.power.resetCause with
    | some 7 => s.bumpStored Pid.pwrStanddowns
    | some 2 => s.bumpStored Pid.pwrBrownouts
    | _ => s
  s.withPower (fun p => { p with resetCause := none, standDownFlag := false })

/-- The supply has come up while RST_N is low: D2 to D9 wait in reset (R486). -/
def State.holdReset (s : State) (cause : Nat) : State :=
  let s := (s.bridleCold none).withProg (fun p => { p with restarting := some (false, cause), restartRef := none, warm := none })
  s.withPower (fun p => { p with phase := .held, phaseSince := s.now, domains := 3 })

/-- POWER_ON (R462): the mean has stayed at or above 13.9 V for the hold time. -/
def execPowerOn (t vin : Nat) (strap : Bool) (failed : List Nat) (s : State) : Host.Outcome State Fault Refusal :=
  s.run t (fun s =>
    if s.power.phase ≠ .unpowered ∨ s.prog.warm.isSome ∨ vin < 13900 then s
    else
      let cause := if s.power.resetCause = some 2 then 2 else 0
      let latched := s.power.resetCause
      let s := s.wakeD1 strap
      let s := s.withPower (fun p => { p with domains := 3 })
      if s.power.rstLow.isSome then s.holdReset cause
      else
        let s := s.bridleCold none
        let s := s.coldReset cause vin true failed s.lastGood
        (s.withPower (fun p => { p with resetCause := latched })).countReset)

/-! ### Power return (R198, R463) -/

/-- Why the warm-restart image is refused (R198, prog.warm_refuse); none where it is accepted. -/
def State.warmRefusal (s : State) (w : WarmImage) (crcGood formatRead : Bool) : Option Nat :=
  -- in 1/32,768 s
  let gap := (s.calNow.1.seconds - w.at_) * 32768 + ((s.calNow.2 : Int) - w.ticks)
  if !w.complete then some 1
  else if !crcGood then some 2
  else if !formatRead ∨ s.chooseImage.isNone then some 3
  else if w.crc ≠ s.activeCrc ∨ w.entries ≠ s.prog.written.length then some 4
  else if s.pB Pid.timeContinuity && decide ((s.p Pid.progWarmMaxGapS : Int) * 32768 < gap) then some 5
  else none

/-- A refused image (R198): a cold restart; held records and minute blocks were written with the image and stay. -/
def State.refuseWarm (s : State) (reason vin : Nat) (lost : Bool) (failed : List Nat) : State :=
  let s := s.loseFreeze
  let good := s.lastGood
  let hold := s.waybill.hold
  let blocks := s.sense.buffer
  let complete := decide (reason ≠ 1)
  let s := (s.bridleCold none).withProg (fun p => { p with warm := none })
  let s := s.coldReset 8 vin lost failed good
  let s := if complete && lost then
      { s with waybill := { s.waybill with hold := hold ++ s.waybill.hold }, sense := { s.sense with buffer := blocks } }
    else s
  let s := s.setP Pid.meterBufferedMin 0 s.sense.buffer.length
  ((s.setP Pid.progWarmRefuse 0 reason).raise 0x04 reason 0).releaseHeld

/-- The drive engine after a power return with the image: outputs start as for a cold restart, targets and
overrides are kept (R56, R199). -/
def State.driveReturn (s : State) : State :=
  let d := s.drive
  let s := s.driveCold
  let s := { s with drive := { s.drive with
    remoteOverride := d.remoteOverride, remoteProgram := d.remoteProgram, remoteSent := d.remoteSent } }
  let s := (List.range 512).foldl (fun s k =>
    let o := d.teams.get k
    s.modTd k (fun x => { x with program := o.program, override_ := o.override_ })) s
  (List.range 512).foldl (fun s c => s.modCd c (fun x => { x with override_ := (d.channels.get c).override_ })) s

/-- The open minute of the image is written as a partial block and the first new one is partial (R79); where D4
was dark before, the block that spans the dark interval. -/
def State.senseReturn (s : State) : State :=
  match s.sense.darkSince with
  | none => s
  | some a =>
    let s :=
      if s.sense.minuteFrom < a then
        let from_ := s.sense.minuteFrom + (s.now - a)
        ({ s with sense := { s.sense with minuteFrom := from_, darkSince := none } }).closeMinute 1
      else s.senseLight
    { s with sense := { s.sense with partial_ := true, nextClose := none } }

/-- The supply after a power return with the image (R264, R454, R463, R465): the times, the tolerance and the state are
kept, but D5 is on, as in the deepest state that keeps it so; the rail starts at 900 mV. -/
def State.powerReturn (s : State) (lost : Bool) : State :=
  let p := s.power
  let s := s.powerCold.withPower (fun x => { x with stateTime := p.stateTime, overrunAt := p.overrunAt })
  let s := s.setP Pid.pwrState 0 (min (s.p Pid.pwrState) 2)
  if lost then s.setP Pid.pwrCoreMv 0 900 else s

/-- The cards after a power return with the image: enumerated anew, with what they last reported kept as the source
records of the snapshot (R146, R198, R199). -/
def State.cardsReturn (s : State) : State :=
  (List.range 16).foldl (fun s b =>
    let h := s.bh b
    if !h.fltHigh then s.clearCard b
    else
      let s := s.modBh b (fun _ => { BankHarness.fresh with
        fltHigh := h.fltHigh, fltSince := h.fltSince, lastSerial := h.lastSerial, stamp := h.stamp, recordValid := h.recordValid
        settledAt := s.now })
      s.setP Pid.harnessState b (flag (s.pB Pid.harnessEnable b && !s.farrier))) s

/-- The image is accepted: a warm restart at power return (R199, R463).  Cards are enumerated anew and each team
fades from their light to its kept target. -/
def State.acceptWarm (s : State) (vin : Nat) (lost : Bool) (failed : List Nat) : State :=
  let count := s.count
  let s := s.closeSessionByEvent
  let s := s.selectImage false
  let s := { s with spineLocked := lost || s.spineLocked, tcxoStopped := if lost then none else s.tcxoStopped }
  let s := if lost then ({ s with tickBase := s.now }).timePowerOn s.lastGood else s
  let s := s.powerReturn lost
  let s := s.driveReturn
  let s := s.senseReturn
  let s := s.cardsReturn
  let s := s.relayCold s.readableGeneration count lost
  let s := s.netRestart
  let s := { s with storage := { s.storage with writes := [] } }
  let s := { s with test := { TestState.reset with tap := s.test.tap } }
  let s := s.tandemCold.vaultCold
  let s := s.withProg (fun p => { p with
    warm := none, restarting := some (true, 7), restartRef := none, gapRtc := true, gapUnknown := !s.pB Pid.timeContinuity
    phaseRef := s.tickBase, nextAt := none, phase := .idle })
  let s := (s.warmShown 7).withdrawCores failed
  let s := (s.setP Pid.pwrShedStep 0 0).withPower (fun p => { p with domains := s.wantedDomains })
  (s.showVin vin).enterSteps vin

/-- POWER_RETURN (R463): VIN is back after a stand-down; `crcGood` and `formatRead` tell what the check of the
image's CRC and format finds. -/
def execPowerReturn (t vin : Nat) (strap crcGood formatRead : Bool) (failed : List Nat) (s : State) :
    Host.Outcome State Fault Refusal :=
  s.run t (fun s =>
    let lost := decide (s.power.phase = .unpowered)
    match s.prog.warm with
    | none => s
    | some w =>
      if (!lost && decide (s.power.phase ≠ .stoodDown)) || decide (vin < 13900) then s
      else
        let latched := s.power.resetCause
        let s := if lost then s.wakeD1 strap else s
        if s.power.rstLow.isSome then (s.withPower (fun p => { p with resetCause := latched })).countReset.holdReset 1
        else
          let s := match s.warmRefusal w crcGood formatRead with
            | some reason => s.refuseWarm reason vin lost failed
            | none => s.acceptWarm vin lost failed
          (s.withPower (fun p => { p with resetCause := latched })).countReset)

/-! ### Wakes (R17, R455 to R457) -/

/-- The module leaves Walk or Stand with a cause: D5 powers up and cycles run from the next whole multiple of T_c
(R168, R456). -/
def State.wakeWith (s : State) (cause : Nat) (failed : List Nat) : State :=
  let s := (s.setP Pid.pwrWakeCause 0 cause).withPower (fun p => { p with
    asleep := false, wakes := [], sleepDeadline := none, quietCycles := 0 })
  let s := (s.enterState (min s.chooseState 2)).settleDomains
  let s := s.withdrawCores failed
  let s := match s.vault.tamperPending with
    | some i => s.tamperActions i
    | none => s
  -- frames that waited in the rings are taken (R277)
  let s := s.takeFrames
  if s.wheeler then s else s.resumeCycles

/-- WAKE_REQUEST (R17, R456): the wake requests raised so far take effect, with the first one's cause. -/
def execWakeRequest (t : Nat) (failed : List Nat) (s : State) : Host.Outcome State Fault Refusal :=
  s.run t (fun s =>
    if !s.power.asleep then s.withPower (fun p => { p with wakes := [] })
    else match s.power.wakes with
    | [] => s
    | cause :: _ => s.wakeWith cause failed)

/-- SLEEP_DEADLINE (R455). -/
def execSleepDeadline (t : Nat) (failed : List Nat) (s : State) : Host.Outcome State Fault Refusal :=
  s.run t (fun s =>
    match s.power.sleepDeadline with
    | some a => if s.power.asleep ∧ a ≤ s.now then s.wakeWith 3 failed else s
    | none => s)

/-- What waits calls for a flush (R358): 16 minute blocks, a Fault or Critical record, or settings or journal
entries 10 s old. -/
def State.flushDue (s : State) : Bool :=
  let old := fun (a : Nat) => s.passed a (10 * sec)
  decide (16 ≤ s.sense.buffer.length) || s.waybill.hold.any (fun r => decide (sevFault ≤ r.severity)) ||
    s.marked.any (fun m => old m.2) ||
    (match s.prog.unwrittenSince with
     | some a => old a
     | none => false)

/-- Held minute blocks, journal entries, settings marks and records go out, oldest first (R358, R457). -/
def State.writeHeld (s : State) : State :=
  let s := s.archiveMinutes.writeJournal
  let s := if s.settingsTake then s.recordMarks else s
  -- refreshes that a shed step held back (R350)
  (s.releaseHeld.refreshDue 0).refreshDue 1

/-- A flush ends when its writes are complete: D8 goes off again (R372, R457). -/
def State.endFlush (s : State) : State :=
  if s.power.flushing && s.storage.writes.isEmpty then (s.withPower (fun p => { p with flushing := false })).settleDomains
  else s

/-- WRITE_COMPLETE (R344): cassette `c` reports success of write `number` and has recorded its
map-log record. -/
def execWriteComplete (t : Nat) (number c : Nat) (s : State) : Host.Outcome State Fault Refusal :=
  s.run t (fun s =>
    if s.d8On then
      ({ s with storage := { s.storage with
          writes := s.storage.writes.map (fun (w : PendingWrite) =>
            if w.number = number ∧ !w.waits then { w with targets := w.targets.filter (· != c) } else w) } }).settleWrites.endFlush
    else s)

/-- WB_CLEAR (R372): both areas and the hold buffer are emptied, and the WB_CLEARED record is
stored as the first of the new log; its result is ready when its writes are complete. -/
def wbClearBody : Body := withLength 0 (fun q s =>
  if s.waybill.frozenSince.isSome ∨ !s.storageUp then refuse stRefusedState 0 s
  else
    let erased := s.waybill.general.length + s.waybill.critical.length
    let s := { s with waybill := { s.waybill with general := [], critical := [], hold := [] } }
    let s := s.bump Pid.wbClears
    let s := if s.d8On then s else (s.withPower (fun p => { p with flushing := true })).settleDomains
    let index := s.p Pid.wbNextIndex
    let s := s.storeCleared erased q.session
    (.later, s.storeWrite (.pslc 6 0) 1 (.result q.ref (ok [word index]))))

def execWbClear (t : Nat) (tr : Transport) (s : State) : Host.Outcome State Fault Refusal :=
  s.run t (fun s => s.onOpcode tr 0x52 .deferred wbClearBody)

/-- FLUSH_WAKE (R457): D5 and D8 power up for the held writes and go off again. -/
def execFlushWake (t : Nat) (s : State) : Host.Outcome State Fault Refusal :=
  s.run t (fun s =>
    if s.power.phase ≠ .running ∨ s.d8On ∨ !s.flushDue then s
    else
      ((s.withPower (fun p => { p with flushing := true })).settleDomains).writeHeld.endFlush)

/-- HELD_WRITES_RELEASE (R358): the cause of a hold has ended. -/
def execHeldWritesRelease (t : Nat) (s : State) : Host.Outcome State Fault Refusal :=
  s.run t (fun s => if s.awake then s.writeHeld else s)

/-! ### The core rail (R452) -/

/-- CORE_FLOOR_RAISE (R452): the replica monitor raises the rail to its floor in steps of 10 mV. -/
def execCoreFloorRaise (t floor : Nat) (s : State) : Host.Outcome State Fault Refusal :=
  s.run t (fun s =>
    if !s.domainOn 1 then s
    else
      let f := min 900 (max 550 floor)
      let v := s.p Pid.pwrCoreMv
      let s := s.withPower (fun p => { p with floor := f })
      if f ≤ v then s else s.setP Pid.pwrCoreMv 0 (min 900 (v + 10 * divUp (f - v) 10)))

/-! ### RST_N (R486) -/

/-- RST_N_LOW (R486): low for 10 µs or more.  Banks stop at their period ends and D2 to D9 are held in reset; a
module that commits or stands down is not taken from it (R459). -/
def execRstNLow (t : Nat) (s : State) : Host.Outcome State Fault Refusal :=
  s.run t (fun s =>
    let s := s.withPower (fun p => { p with rstLow := some s.now })
    match s.power.phase with
    | .unpowered | .committing | .stoodDown | .held => s
    | _ =>
      let s := (s.beginEventRestart 1).setPole false
      let s := [0, 1].foldl (fun s p => if s.domainOn 6 then s.linkLost p else s) s
      s.withPower (fun p => { p with phase := .held, phaseSince := s.now, domains := 3 + (p.domains / 4 % 4) * 4 }))

/-- RST_N_HIGH (R486): the start goes on from step 3 of R462 once the wait of R140 has passed. -/
def execRstNHigh (t vin : Nat) (failed : List Nat) (s : State) : Host.Outcome State Fault Refusal :=
  s.run t (fun s =>
    let s := s.withPower (fun p => { p with rstLow := none })
    if s.power.phase ≠ .held then s
    else
      let cause := s.coldCause
      let latched := s.power.resetCause
      let lost := decide (cause = 0 ∨ cause = 2)
      if lost || s.banksWaited then
        let s := s.coldReset cause vin lost failed s.lastGood
        (s.withPower (fun p => { p with resetCause := latched })).countReset
      else s.withPower (fun p => { p with phase := .stopping, phaseSince := s.now }))

/-! ### Commands (R247, R439, R454) -/

/-- The tolerance changes: a shallower choice takes effect at once, and cause 7 replaces the packet's own (R454,
R456). -/
def State.toleranceWritten (s : State) (old : Nat) : State :=
  let n := s.chooseState
  let cause := s.p Pid.pwrWakeCause
  let s := if 3 ≤ old ∧ n < old ∧ (cause = 1 ∨ cause = 5) then s.setP Pid.pwrWakeCause 0 7 else s
  s.shallower

/-- POWER_TOLERANCE (R247, R454): the reply gives the state chosen. -/
def powerToleranceBody : Body := withLength 1 (fun q s =>
  let old := s.chooseState
  let s := (s.setW Pid.pwrToleranceUs 0 (nth q.payload 0)).toleranceWritten old
  (.done (ok [word s.chooseState]), s))

def execPowerTolerance (t : Nat) (tr : Transport) (s : State) : Host.Outcome State Fault Refusal :=
  s.run t (fun s => s.onOpcode tr 0xB0 .immediate powerToleranceBody)

/-- POWER_STATUS (R247): state, shed step, VIN and core rail. -/
def powerStatusBody : Body := withLength 0 (fun _ s =>
  (.done (ok [s.w Pid.pwrState 0, s.w Pid.pwrShedStep 0, s.w Pid.pwrVinMv 0, s.w Pid.pwrCoreMv 0]), s))

def execPowerStatus (t : Nat) (tr : Transport) (s : State) : Host.Outcome State Fault Refusal :=
  s.run t (fun s => s.onOpcode tr 0xB1 .immediate powerStatusBody)

/-- Age of the newest heartbeat on either path, µs, saturating (R439). -/
def State.heartbeatAge (s : State) : Nat :=
  match s.tandem.linkHeard, s.tandem.ringHeard with
  | none, none => u32max
  | some a, none => satU32 ((s.now - a) / us)
  | none, some b => satU32 ((s.now - b) / us)
  | some a, some b => satU32 ((s.now - max a b) / us)

/-- TANDEM_STATUS (R439). -/
def tandemStatusBody : Body := withLength 0 (fun _ s =>
  (.done (ok [s.w Pid.tdmRole 0, word s.tandem.partnerState, word s.heartbeatAge, s.w Pid.tdmCopyOctets 0]), s))

def execTandemStatus (t : Nat) (tr : Transport) (s : State) : Host.Outcome State Fault Refusal :=
  s.run t (fun s => s.onOpcode tr 0xA0 .immediate tandemStatusBody)

end Sys2Proof.Machine
end

