-- ==== Sys2Proof/Machine/Sets.lean ====
section
/-! DEFINITION.  SET (R246, R255, R256): the rows of the command table that write a parameter, each with what its
write brings about.  A SET of a parameter that is applied at the boundary waits there (R22, R258). -/

namespace Sys2Proof.Machine

open Sys2Proof

/-! ### What a write brings about -/

/-- A slot of network time starts again: listening where it is enabled (R289). -/
def State.restartSlot (s : State) (d : Nat) : State :=
  let s := s.modifySlotPtp d (fun k => { PtpSlot.fresh with model := k.model, nextSequence := k.nextSequence })
  s.slotTo d (flag (s.pB Pid.timeDomEnable d))

/-- A remote team bound to another node sends it its target at the next commit (R333). -/
def State.rtNodeWritten (s : State) (rt : Nat) : State :=
  (s.withDrive (fun d => { d with remoteSent := d.remoteSent.set (512 + rt) none })).showRt rt

/-- A write of a parameter that has no row of its own (R97, R150, R267, R289, R337, R383, R450, R454). -/
def State.plainWritten (s : State) (id first n : Nat) : State :=
  if id = Pid.drvEmltMask then (eachElement State.pauseWindows first n s).settleDomains
  else if id = Pid.harnessEnable then eachElement State.harnessEnableWritten first n s
  else if id = Pid.netEeeEnable then eachElement State.eeeWritten first n s
  else if id = Pid.timeDomEnable ∨ id = Pid.timeDomNumber then eachElement State.restartSlot first n s
  else if id = Pid.relayRtNode then (eachElement State.rtNodeWritten first n s).settleDomains
  else if id = Pid.presPodWake then s.settleDomains
  else if id = Pid.snsLoopEnable then eachElement State.loopEnableWritten first n s
  else if id = Pid.pwrStateFloor then s.shallower
  else if id = Pid.sysSiteId then s.deriveUpdateKey.deriveTandemKey
  else if id = Pid.sysSegmentId then s.deriveTandemKey
  else s

/-- A given, non-zero `colour.team_flux` is Y_ref from its first use on (R109, R256). -/
def State.fluxGiven (s : State) (t y : Nat) : State :=
  (s.modTd t (fun d => { d with yRef := some (Q.ofNat y) })).modTc t (fun k => { k with yNext := none })

/-- A write of an input of Y_ref (R109); of colour.team_flux only a 0 computes anew. -/
def State.fluxInputWritten (s : State) (id e : Nat) : State :=
  if id = Pid.colourTeamFlux then (if s.p id e = 0 then s.fluxDirty e else s.fluxGiven e (s.p id e))
  else if id = Pid.colourHeadroom ∨ id = Pid.colourCctMin ∨ id = Pid.colourCctMax then s.fluxDirty e
  else if id = Pid.colourFluxLm ∨ id = Pid.colourProfile then s.channelFluxWritten e
  else s.profileWritten (e / 9)

/-- A write of an alarm field: the alarm that it belongs to (R301). -/
def State.alarmFieldWritten (s : State) (id first n : Nat) : State :=
  let i := fun (k : Nat) => if id = Pid.timeAlarmS then k / 2 else k
  ((List.range n).map (fun k => i (first + k))).eraseDups.foldl State.alarmWritten s

/-- A 1 written to sb.eject or sb.adopt acts; a 0 does nothing (R353, R356). -/
def State.ejectWritten (s : State) (c : Nat) : State := if s.pB Pid.sbEject c then s.ejectCassette c else s

def State.adoptWritten (s : State) (c : Nat) : State := if s.pB Pid.sbAdopt c then s.adoptCassette c else s

/-- A 1 written to upd.confirm confirms the image on probation (R409). -/
def State.confirmWritten (s : State) : State :=
  let yes := s.pB Pid.updConfirm
  let s := s.setP Pid.updConfirm 0 0
  if yes then s.confirmImage else s

/-- A 1 written to upd.fallback during probation falls back (R410). -/
def State.fallbackWritten (s : State) : State :=
  let yes := s.pB Pid.updFallback
  let s := s.setP Pid.updFallback 0 0
  if yes then s.fallbackNow true else s

/-- A 1 written to upd.enter_farrier: a cold restart into the farrier ROM (R414). -/
def State.farrierWritten (s : State) : State := if s.pB Pid.updEnterFarrier then s.beginCold 4 none else s

/-! ### The rows -/

/-- SET (R246). -/
def execSet (t : Nat) (tr : Transport) (s : State) : Host.Outcome State Fault Refusal :=
  s.run t (fun s => s.onPacket tr (.set .plain) setKind (setBody (fun id first vals s => s.plainWritten id first vals.length)))

/-- PERIOD_WRITE (R37). -/
def execPeriodWrite (t : Nat) (tr : Transport) (s : State) : Host.Outcome State Fault Refusal :=
  s.run t (fun s => s.onPacket tr (.set .period) setKind (setBody (fun _ _ _ s => s)))

/-- STAGGER_WRITE (R35). -/
def execStaggerWrite (t : Nat) (tr : Transport) (s : State) : Host.Outcome State Fault Refusal :=
  s.run t (fun s => s.onPacket tr (.set .stagger) setKind (setBody (fun _ _ _ s => s)))

/-- TEAM_SIZE_WRITE (R50). -/
def execTeamSizeWrite (t : Nat) (tr : Transport) (s : State) : Host.Outcome State Fault Refusal :=
  s.run t (fun s => s.onPacket tr (.set .teamSize) setKind (setBody (fun _ _ _ s => s)))

/-- DIM_MODE_WRITE (R45). -/
def execDimModeWrite (t : Nat) (tr : Transport) (s : State) : Host.Outcome State Fault Refusal :=
  s.run t (fun s => s.onPacket tr (.set .dimMode) setKind (setBody (fun _ _ _ s => s)))

/-- DECIM_RATIO_WRITE (R63). -/
def execDecimRatioWrite (t : Nat) (tr : Transport) (s : State) : Host.Outcome State Fault Refusal :=
  s.run t (fun s => s.onPacket tr (.set .decimRatio) setKind (setBody (fun _ _ _ s => s)))

/-- GAIN_EST_WRITE (R256): clamped as it is written, taken by the next loop update. -/
def execGainEstWrite (t : Nat) (tr : Transport) (s : State) : Host.Outcome State Fault Refusal :=
  s.run t (fun s => s.onPacket tr (.set .gainEst) setKind (setBody (fun _ _ _ s => s)))

/-- VF_REF_WRITE (R86). -/
def execVfRefWrite (t : Nat) (tr : Transport) (s : State) : Host.Outcome State Fault Refusal :=
  s.run t (fun s => s.onPacket tr (.set .vfRef) setKind (setBody (fun _ first vals s => eachElement State.vfRefWritten first vals.length s)))

/-- COLOUR_METHOD_WRITE (R105). -/
def execColourMethodWrite (t : Nat) (tr : Transport) (s : State) : Host.Outcome State Fault Refusal :=
  s.run t (fun s => s.onPacket tr (.set .colourMethod) setKind (setBody (fun _ _ _ s => s)))

/-- FLUX_REFERENCE_RECOMPUTE (R109). -/
def execFluxReferenceRecompute (t : Nat) (tr : Transport) (s : State) : Host.Outcome State Fault Refusal :=
  s.run t (fun s => s.onPacket tr (.set .fluxReference) setKind (setBody (fun id first vals s => eachElement (fun s e => s.fluxInputWritten id e) first vals.length s)))

/-- SENSOR_CAL_WRITE (R116): a 1 arms the calibration, which the next trim opportunity takes. -/
def execSensorCalWrite (t : Nat) (tr : Transport) (s : State) : Host.Outcome State Fault Refusal :=
  s.run t (fun s => s.onPacket tr (.set .sensorCal) setKind (setBody (fun _ _ _ s => s)))

/-- CYCLE_TIME_WRITE (R181). -/
def execCycleTimeWrite (t : Nat) (tr : Transport) (s : State) : Host.Outcome State Fault Refusal :=
  s.run t (fun s => s.onPacket tr (.set .cycleTime) setKind (setBody (fun _ _ _ s => s)))

/-- POD_ZONE_WRITE (R206). -/
def execPodZoneWrite (t : Nat) (tr : Transport) (s : State) : Host.Outcome State Fault Refusal :=
  s.run t (fun s => s.onPacket tr (.set .podZone) setKind (setBody (fun _ _ _ s => s)))

/-- EDGE_ENDPOINT_WRITE (R212). -/
def execEdgeEndpointWrite (t : Nat) (tr : Transport) (s : State) : Host.Outcome State Fault Refusal :=
  s.run t (fun s => s.onPacket tr (.set .edgeEndpoint) setKind (setBody (fun _ _ _ s => s)))

/-- EDGE_BOUNDS_WRITE (R212). -/
def execEdgeBoundsWrite (t : Nat) (tr : Transport) (s : State) : Host.Outcome State Fault Refusal :=
  s.run t (fun s => s.onPacket tr (.set .edgeBounds) setKind (setBody (fun _ _ _ s => s)))

/-- EDGE_HEADING_WRITE (R212). -/
def execEdgeHeadingWrite (t : Nat) (tr : Transport) (s : State) : Host.Outcome State Fault Refusal :=
  s.run t (fun s => s.onPacket tr (.set .edgeHeading) setKind (setBody (fun _ _ _ s => s)))

/-- EDGE_TAU_WRITE (R212). -/
def execEdgeTauWrite (t : Nat) (tr : Transport) (s : State) : Host.Outcome State Fault Refusal :=
  s.run t (fun s => s.onPacket tr (.set .edgeTau) setKind (setBody (fun _ _ _ s => s)))

/-- HP_EVENT_CLEAR (R249). -/
def execHpEventClear (t : Nat) (tr : Transport) (s : State) : Host.Outcome State Fault Refusal :=
  s.run t (fun s => s.onPacket tr (.set .hpEvent) setKind (setBody (fun _ _ _ s => s)))

/-- RING_MODE_WRITE (R279): it takes effect once its reply has left. -/
def execRingModeWrite (t : Nat) (tr : Transport) (s : State) : Host.Outcome State Fault Refusal :=
  s.run t (fun s =>
    let waited := s.net.modeWaits || s.net.ipWaits
    (s.onPacket tr (.set .ringMode) setKind (setBody (fun _ _ _ s => s.withNet (fun n => { n with modeWaits := true })))).replySent tr waited)

/-- IP_ADDRESS_WRITE (R270): it takes effect once its reply has left. -/
def execIpAddressWrite (t : Nat) (tr : Transport) (s : State) : Host.Outcome State Fault Refusal :=
  s.run t (fun s =>
    let waited := s.net.modeWaits || s.net.ipWaits
    (s.onPacket tr (.set .ipAddress) setKind (setBody (fun _ _ _ s => s.withNet (fun n => { n with ipWaits := true })))).replySent tr waited)

/-- CALENDAR_WRITE (R297). -/
def execCalendarWrite (t : Nat) (tr : Transport) (s : State) : Host.Outcome State Fault Refusal :=
  s.run t (fun s => s.onPacket tr (.set .calendar) setKind (setBody (fun _ _ _ s => s.calendarWritten)))

/-- TZ_OFFSET_WRITE (R296). -/
def execTzOffsetWrite (t : Nat) (tr : Transport) (s : State) : Host.Outcome State Fault Refusal :=
  s.run t (fun s => s.onPacket tr (.set .tzOffset) setKind (setBody (fun _ _ _ s => if s.calSynced then s.rewriteCalendar else s)))

/-- WAKE_PERIOD_WRITE (R300). -/
def execWakePeriodWrite (t : Nat) (tr : Transport) (s : State) : Host.Outcome State Fault Refusal :=
  s.run t (fun s => s.onPacket tr (.set .wakePeriod) setKind (setBody (fun _ _ _ s => s.startWakeTimer)))

/-- ALARM_WRITE (R301). -/
def execAlarmWrite (t : Nat) (tr : Transport) (s : State) : Host.Outcome State Fault Refusal :=
  s.run t (fun s => s.onPacket tr (.set .alarm) setKind (setBody (fun id first vals s => s.alarmFieldWritten id first vals.length)))

/-- RELAY_CONFIG_WRITE (R335). -/
def execRelayConfigWrite (t : Nat) (tr : Transport) (s : State) : Host.Outcome State Fault Refusal :=
  s.run t (fun s => s.onPacket tr (.set .relayConfig) setKind (setBody (fun _ _ _ s => s)))

/-- RT_FALLBACK_WRITE (R328). -/
def execRtFallbackWrite (t : Nat) (tr : Transport) (s : State) : Host.Outcome State Fault Refusal :=
  s.run t (fun s => s.onPacket tr (.set .rtFallback) setKind (setBody (fun _ first vals s => eachElement State.queueFallback first vals.length s)))

/-- TANDEM_ENABLE_WRITE (R418). -/
def execTandemEnableWrite (t : Nat) (tr : Transport) (s : State) : Host.Outcome State Fault Refusal :=
  s.run t (fun s => s.onPacket tr (.set .tandemEnable) setKind (setBody (fun _ _ _ s => s)))

/-- TOLERANCE_WRITE (R454). -/
def execToleranceWrite (t : Nat) (tr : Transport) (s : State) : Host.Outcome State Fault Refusal :=
  s.run t (fun s =>
    let old := s.chooseState
    s.onPacket tr (.set .tolerance) setKind (setBody (fun _ _ _ s => s.toleranceWritten old)))

/-- EJECT_WRITE (R356). -/
def execEjectWrite (t : Nat) (tr : Transport) (s : State) : Host.Outcome State Fault Refusal :=
  s.run t (fun s => s.onPacket tr (.set .eject) setKind (setBody (fun _ first vals s => eachElement State.ejectWritten first vals.length s)))

/-- ADOPT_WRITE (R353). -/
def execAdoptWrite (t : Nat) (tr : Transport) (s : State) : Host.Outcome State Fault Refusal :=
  s.run t (fun s => s.onPacket tr (.set .adopt) setKind (setBody (fun _ first vals s => eachElement State.adoptWritten first vals.length s)))

/-- SNAPSET_WRITE (R365). -/
def execSnapsetWrite (t : Nat) (tr : Transport) (s : State) : Host.Outcome State Fault Refusal :=
  s.run t (fun s => s.onPacket tr (.set .snapset) setKind (setBody (fun _ _ _ s => s)))

/-- TAMPER_CFG_WRITE (R393, R398). -/
def execTamperCfgWrite (t : Nat) (tr : Transport) (s : State) : Host.Outcome State Fault Refusal :=
  s.run t (fun s => s.onPacket tr (.set .tamperCfg) setKind (setBody (fun _ _ _ s => s.tamperConfigured)))

/-- TAMPER_LATCH_CLEAR (R398). -/
def execTamperLatchClear (t : Nat) (tr : Transport) (s : State) : Host.Outcome State Fault Refusal :=
  s.run t (fun s => s.onPacket tr (.set .tamperLatch) setKind (setBody (fun _ _ _ s => s)))

/-- UPD_CONFIRM_WRITE (R409). -/
def execUpdConfirmWrite (t : Nat) (tr : Transport) (s : State) : Host.Outcome State Fault Refusal :=
  s.run t (fun s => s.onPacket tr (.set .updConfirm) setKind (setBody (fun _ _ _ s => s.confirmWritten)))

/-- UPD_FALLBACK_WRITE (R410). -/
def execUpdFallbackWrite (t : Nat) (tr : Transport) (s : State) : Host.Outcome State Fault Refusal :=
  s.run t (fun s => s.onPacket tr (.set .updFallback) setKind (setBody (fun _ _ _ s => s.fallbackWritten)))

/-- SWITCH_NOW_WRITE (R407): the image switch reads the flag. -/
def execSwitchNowWrite (t : Nat) (tr : Transport) (s : State) : Host.Outcome State Fault Refusal :=
  s.run t (fun s => s.onPacket tr (.set .switchNow) setKind (setBody (fun _ _ _ s => s)))

/-- ENTER_FARRIER_WRITE (R414). -/
def execEnterFarrierWrite (t : Nat) (tr : Transport) (s : State) : Host.Outcome State Fault Refusal :=
  s.run t (fun s => s.onPacket tr (.set .enterFarrier) setKind (setBody (fun _ _ _ s => s.farrierWritten)))

end Sys2Proof.Machine
end

