-- ==== Sys2Proof/Machine/TandemCopy.lean ====
section
/-! DEFINITION.  What a wheeler takes from its lead (R422 to R428): the lead's boundary, the commit block and the
state copy. -/

namespace Sys2Proof.Machine

open Sys2Proof

/-! ### The lead's boundary (R423) -/

/-- BOUNDARY_MARK (R423): the wheeler's cycle boundary.  It takes no snapshot and runs no graph; its pod table and
its own boundary commands go on (R220, R428). -/
def execBoundaryMark (t : Nat) (h : LinkHead) (stamp : Nat) (s : State) : Host.Outcome State Fault Refusal :=
  s.run t (fun s =>
    let x := s.linkTakes 3 h
    let s := x.2
    if !x.1 ∨ !s.wheeler then s
    else
      let s := s.withTandem (fun k => { k with mark := some stamp })
      let s := s.withProg (fun p => { p with phaseRef := s.ofCount stamp, commanded := false })
      let s := (s.deeperAtBoundary).bump Pid.progCycleCount
      let o := s.podTable
      (o.2.boundaryCommands).showPods)

/-! ### The commit block (R424) -/

/-- A team of the block: its rung and target wait for the bank's next period start; a rung-7 target is the one that
the graph would go on from. -/
def State.takeBlockTeam (s : State) (t rung : Nat) (ws : List Word) : State :=
  let g := s.targetOfWords t ws
  let d := s.td t
  let first := decide (g.words = (s.initialTarget t).words)
  let s := if rung = 7 ∧ (d.program.isSome ∨ !first) then s.modTd t (fun x => { x with program := some g }) else s
  let d := s.td t
  if d.program.isSome ∨ rung ≠ 7 ∨ d.taken.isSome ∨ d.waiting.isSome ∨ d.halted ∨ s.drive.firstCommit then
    s.modTd t (fun x => { x with waiting := some (rung, g) })
  else s

/-- A channel of the block: the rung-5 value that the lead holds. -/
def State.takeBlockChannel (s : State) (c : Nat) (o : Option (Nat × Option Nat)) : State :=
  (s.modCd c (fun d => { d with override_ := o })).commitChannel c

/-- A commit block is applied to the drive engine, the colour stage, derating and proving (R424). -/
def State.takeBlock (s : State) (b : CommitBlock) : State :=
  let s := s.diagCommit.latchColour
  let s := b.latched.foldl (fun (s : State) (x : Nat × Int × Nat) =>
    (s.setP Pid.colourTrim x.1 x.2.2).modCc x.1 (fun k => { k with latchedNext := x.2.1, trimNext := x.2.2 })) s
  let s := b.derates.foldl (fun (s : State) (x : Nat × Nat) =>
    (s.setP Pid.diagDerateFactor x.1 x.2).setFlag Pid.diagDerateStatus x.1 0 (decide (x.2 < 32768))) s
  let s := b.teams.foldl (fun (s : State) (x : Nat × Nat × List Word) => s.takeBlockTeam x.1 x.2.1 x.2.2) s
  let s := b.channels.foldl (fun (s : State) (x : Nat × Option (Nat × Option Nat)) => s.takeBlockChannel x.1 x.2) s
  -- a remote team's rungs 4 and 5 come with the forces and overrides of the copy (R425)
  let s := b.remotes.foldl (fun (s : State) (x : Nat × Nat × List Word) =>
    if x.2.1 = 7 then
      s.withDrive (fun d => { d with remoteProgram := d.remoteProgram.set x.1 (some (s.targetOfWords x.1 x.2.2)) })
    else s) s
  let s := b.grants.foldl (fun (s : State) (x : Nat × Nat × Bool) =>
    s.modCg x.1 (fun g => { g with grant := some ⟨s.ofCount x.2.1, x.2.2⟩ })) s
  s.commitBanks

/-- The new lead has committed: the yield of the old one is done (R418, R437 step 5, R438). -/
def State.yieldDone (s : State) : State :=
  match s.tandem.yielding with
  | none => s
  | some (ref, off) =>
    let restart := s.tandem.yieldRestart
    let s := s.withTandem (fun k => { k with yielding := none, yieldRestart := false, released := false })
    let s := (s.tdmStateTo 3).roleRecord 1
    let s := if off then s.tandemOff else s
    let s := s.finishOpt ref (ok)
    if restart then s.beginCold 4 s.prog.restartRef else s

/-- COMMIT_BLOCK_RECEIVE (R424): the wheeler applies the block at the commit count; one that comes after it is
applied at once and counted late. -/
def execCommitBlockReceive (t : Nat) (h : LinkHead) (block : CommitBlock) (s : State) : Host.Outcome State Fault Refusal :=
  s.run t (fun s =>
    let x := s.linkTakes 4 h
    let s := x.2
    if !x.1 ∨ !s.wheeler ∨ s.power.phase ≠ .running then s
    else
      let s := if block.count < s.toCount s.now then s.tdmCount 3 6 else s
      let s := (s.setP Pid.tdmCommitOctets 0 (min 16384 (blockOctets block))).takeBlock block
      let s := s.readyResults
      let s := { s with update := { s.update with firstCommitFrom := none } }
      s.yieldDone)

/-! ### The state copy (R425, R426) -/

/-- A signed 64-bit number of two words. -/
def int64Of (ws : List Word) : Int :=
  let n := natOfWords (ws.take 2)
  if n < 2 ^ 63 then n else (n : Int) - 2 ^ 64

/-- A cell's state from its state words (R510). -/
def takeStateWords (s : State) (d : CellDesc) (ws : List Word) (r : CellRun) : CellRun :=
  if d.timer then
    { r with el := natOfWords (ws.take 2), armed := bit (nth ws 2) 1, was := some (bit (nth ws 2) 0) }
  else if d.is cellPi || d.is cellDaylight then { r with integ := some (int64Of ws) }
  else if d.is cellHyst || d.is cellEdge || d.is cellAlarm then { r with was := some (bit (nth ws 0) 0) }
  else if d.is cellTeamOut then
    { r with target := if ws.all (fun w => w == 0xFFFFFFFF) then none else some (s.targetOfWords (d.const 0).toNat ws) }
  else if d.is cellSched then
    let n := bits (nth ws 4) 31 16
    let q := (List.range n).map (fun k => (((nth ws (5 + k)).toInt, bit (nth ws 4) k) : Int × Bool))
    { r with sched := ⟨int64Of ws + ms2000, int64Of (ws.drop 2) + ms2000, true, false, r.sched.late, q⟩ }
  else r

/-- A copied cell: outputs, qualities and state. -/
def State.takeCell (s : State) (sid : Nat) (outs : List (Int × Nat)) (ws : List Word) : State :=
  match s.cellNamed sid with
  | none => s
  | some i =>
    let d := s.desc i
    let vs := outs.map (fun o => (⟨o.1, o.2⟩ : Val))
    s.modRun i (fun r => takeStateWords s d ws { r with outs := vs, committed := some vs, young := false })

/-- A copied force. -/
def State.copiedForce (s : State) (f : Nat × Nat × Option Nat × List Word) : Force :=
  let ws := f.2.2.2
  let team := ((s.prog.descs.find? (fun d => d.sid == f.1)).map (fun d => (d.const 0).toNat)).getD 0
  { sid := f.1, port := f.2.1, value := (nth ws 0).toInt
    target := if ws.length = 5 then some (s.targetOfWords team ws) else none
    until_ := f.2.2.1.map s.ofCount }

/-- The copied journal: the graph's descriptors follow it. -/
def State.takeJournal (s : State) (es : List (Nat × Bool × Nat × Int)) : State :=
  let js := es.map (fun e => (⟨e.1, e.2.1, e.2.2.1, e.2.2.2⟩ : JournalEntry))
  let ds := if s.prog.active.isEmpty then s.prog.descs else applyJournal (imageCells s.prog.active) js
  s.withProg (fun p => { p with written := js, unwritten := [], unwrittenSince := none, descs := ds })

/-- A copied element: written with what its write brings about; the cycle itself is the lead's (R428). -/
def State.takeElement (s : State) (id e : Nat) (w : Word) : State :=
  let same := s.w id e == w
  let s := (s.setW id e w).mark id e
  if same || id == Pid.progCycleMs then s
  else if setRow id = .fluxReference then s.fluxInputWritten id e
  else if id = Pid.diagVfRefMv then s.vfRefWritten e
  -- what the outrider learns comes with its own elements (R220): a copied edge is not trained anew
  else if [Pid.outEdgeFrom, Pid.outEdgeTo, Pid.outEdgeTminMs, Pid.outEdgeTmaxMs, Pid.outEdgeTauUs].contains id then s
  else if id = Pid.relayRtFallback ∨ id = Pid.relayRtFallbackFadeMs then s.queueFallback e
  else (s.boundaryHook id e 1).plainWritten id e 1

/-- A fade of the copy, unless the wheeler runs the same one (R425). -/
def State.takeFade (s : State) (t lam lam0 lam1 step steps : Nat) (colours : List (Option (Nat × List (Int × Nat)))) : State :=
  let d := s.td t
  let now : CopyItem := .fade t d.lam d.lam0 d.lam1 d.step d.steps
    [some (s.colourOf t).coded, d.colour0.map Colour.coded, d.colour1.map Colour.coded]
  if now.agrees (.fade t lam lam0 lam1 step steps colours) then s
  else
    let col := fun (k : Nat) => (colours.getD k none).map colourOfCode
    s.modTd t (fun x => { x with
      lam := lam, lam0 := lam0, lam1 := lam1, step := step, steps := steps, colour := col 0, colour0 := col 1, colour1 := col 2 })

/-- A residue of the copy against the wheeler's own of the same period start: the difference is added at the next
one (R426).  Answers whether they differ. -/
def State.takeResidue (s : State) (c : Nat) (res : Int) (gather : Nat) : Bool × State :=
  let own := (s.cd c).atCommit
  if own = (res, gather) then (false, s)
  else
    (true, s.modCd c (fun d => { d with
      realign := d.realign + (res - own.1), gather := d.gather + gather - own.2, atCommit := (res, gather) }))

/-- An acceptance outcome of the copy against the wheeler's own of the same slot (R426). -/
def State.takeOutcome (s : State) (b slot : Nat) (accepted repeated : Bool) : State :=
  match (s.bh b).outcomes.find? (fun o => o.1 == slot) with
  | some o => if o.2 = (accepted, repeated) then s else s.bump Pid.tdmAckMismatch
  | none => s

/-- A piece of a program image for the wheeler's program store: with the last one the graph is formed anew. -/
def State.takeChunk (s : State) (active last : Bool) (offset : Nat) (ws : List Word) : State :=
  let old := if active then s.prog.active else s.prog.partial_.getD []
  let have_ := if offset = 0 then [] else old
  if have_.length ≠ offset then s
  else
    let image := have_ ++ ws
    if active then
      let s := s.withProg (fun p => { p with active := image, written := [], unwritten := [], unwrittenSince := none })
      if !last then s
      else
        let ds := imageCells image
        s.withProg (fun p => { p with descs := ds, runs := ds.map newCell, orphans := [] })
    else if last then (s.finishLoad image).2
    else s.withProg (fun p => { p with partial_ := some image })

/-- The wheeler swaps at the lead's boundary (R191): its staging holds the same image. -/
def State.takeSwap (s : State) (crc : Word) : State :=
  let image := s.prog.staged
  if image.isEmpty ∨ imageCrc image ≠ crc then s
  else
    let s := s.activateStaged
    (s.swapGraph (imageCells image)).2.2.bumpStored Pid.progSwapCount

/-- One item of the copy (R425). -/
def State.takeItem (s : State) (i : CopyItem) : State :=
  match i with
  | .cell sid outs ws => s.takeCell sid outs ws
  | .forces fs => s.setForces (fs.map s.copiedForce)
  | .channelOverride ch o => s.modCd ch (fun d => { d with override_ := o })
  | .teamOverride t ws => s.setTeamOverride t (ws.map (s.targetOfWords t))
  | .journal es => s.takeJournal es
  | .element id e w => s.takeElement id e w
  | .fade t lam lam0 lam1 step steps colours => s.takeFade t lam lam0 lam1 step steps colours
  | .residue ch res gather => (s.takeResidue ch res gather).2
  | .acceptance b slot accepted repeated => s.takeOutcome b slot accepted repeated
  | .prediction t p =>
    let at_ := fun (x : Int) => x + s.tickBase
    { s with presence := { s.presence with predictions := s.presence.predictions.set t (p.map (fun x => (at_ x.1, at_ x.2))) } }
  | .nodeCounters n cs => s.withRelay (fun r => { r with nodes := r.nodes.modify n (fun x => { x with counters := cs }) })
  | .queued rt form2 q =>
    let q' : Option QueuedTarget := q.map (fun x => ⟨x.1, x.2, 0⟩)
    (s.withRelay (fun r =>
      if form2 then { r with form2 := r.form2.set rt q' } else { r with level := r.level.set rt q' })).showRt rt
  | .chunk active last offset ws => s.takeChunk active last offset ws
  | .swap crc => s.takeSwap crc
  | .firmware offset last digest ws => s.takeFirmware offset last digest ws
  | .full => s

/-- The places that a resynchronisation names, this copy's items added (R425). -/
def fullPlaces (seen : Option (List (Nat × Nat × Nat))) (items : List CopyItem) : Option (List (Nat × Nat × Nat)) :=
  let ps := items.map CopyItem.place
  if items.contains .full then some ps else seen.map (fun l => l ++ ps)

/-- At the end of a resynchronisation the wheeler holds what the lead named and nothing else: the rest goes to its
cleared form (R220, R425). -/
def State.dropUnnamed (s : State) (places : List (Nat × Nat × Nat)) : State :=
  s.copyItems.foldl (fun s i =>
    if places.contains i.place then s
    else match i.cleared with
      | some c => if i.agrees c then s else s.takeItem c
      | none => s) s

/-- Banks whose residues differ from the copy's. -/
def State.differingBanks (s : State) (items : List CopyItem) : List Nat :=
  (items.filterMap (fun i => match i with
    | .residue ch res gather => if (s.cd ch).atCommit = (res, gather) then none else some (ch / 32)
    | _ => none)).eraseDups

/-- STATE_COPY_RECEIVE (R425 to R427): the wheeler applies the copy and acknowledges it; one it has missed calls
for a resynchronisation. -/
def execStateCopyReceive (t : Nat) (h : LinkHead) (number backlog : Nat) (items : List CopyItem) (s : State) :
    Host.Outcome State Fault Refusal :=
  s.run t (fun s =>
    let x := s.linkTakes 5 h
    let s := x.2
    if !x.1 ∨ !s.wheeler ∨ s.power.phase = .reloading then s
    else
      let missed := s.p Pid.tdmState == 3 && (s.tandem.copyNumber + 1) % 2 ^ 32 != number
      let late := s.differingBanks items
      let s := items.foldl State.takeItem s
      let seen := fullPlaces s.tandem.fullSeen items
      let s := if backlog = 0 then (seen.map s.dropUnnamed).getD s else s
      let s := s.withTandem (fun k => { k with fullSeen := if backlog = 0 then none else seen })
      let s := s.bump Pid.tdmRealigns 0 late.length
      let s := (s.setP Pid.tdmCopyBacklog 0 backlog).setFlag Pid.tdmStatus 0 6 (decide (backlog ≠ 0))
      let s := (List.range 16).foldl (fun s b => s.modBh b (fun h => { h with outcomes := [] })) s
      let s := match s.tandem.mark with
        | some c => s.withProg (fun p => { p with ts := some (s.ofCount c) })
        | none => s
      let s := s.withTandem (fun k => { k with copyNumber := number, mark := none })
      let s := s.tandemPost 6 [word number]
      if missed then s.tandemPost 9 [4] else s)

/-- COPY_ACK (R427): the lead's copy is acknowledged; a yield goes on (R437), and a wheeler that switched has shown
that it follows (R413). -/
def execCopyAck (t : Nat) (h : LinkHead) (number : Nat) (s : State) : Host.Outcome State Fault Refusal :=
  s.run t (fun s =>
    let x := s.linkTakes 6 h
    let s := x.2
    if !x.1 ∨ !s.lead ∨ number ≠ s.tandem.copyNumber then s
    else
      let s := s.withTandem (fun k => { k with copyAcked := true })
      let s := if s.p Pid.updPairState = 3 then { s with update := { s.update with wheelerCopied := true } } else s
      s.releasePole)

/-! ### Count and lock (R422, R429 step 4) -/

/-- TIME_MARK (R422): the lead's count at the send instant, in spine steps, and the offset that the measurement
leaves, in ps. -/
def execTimeMark (t : Nat) (h : LinkHead) (count : Nat) (residualPs : Int) (s : State) : Host.Outcome State Fault Refusal :=
  s.run t (fun s =>
    let x := s.linkTakes 2 h
    let s := x.2
    if !x.1 ∨ !s.wheeler then s
    else
      let s := s.setI Pid.tdmLockPs 0 residualPs
      if !s.tandem.stepped then
        let c := count + s.p Pid.tdmLinkDelayNs * 4 / 5
        let s := { s with tickBase := s.now - c }
        let s := (List.range 16).foldl (fun s b => s.modBd b (fun d => { d with
          nextStart := d.nextStart.map (fun _ => s.alignAt s.now d.period (bankOffset b d.period d.stagger)) })) s
        (s.withTandem (fun k => { k with stepped := true, lockedSince := some s.now })).setFlag Pid.tdmStatus 0 4 true
      else if 10000 < residualPs.natAbs then
        (s.withTandem (fun k => { k with lockedSince := none })).setFlag Pid.tdmStatus 0 4 true
      else
        let since := s.tandem.lockedSince.getD s.now
        let s := s.withTandem (fun k => { k with lockedSince := some since })
        if s.passed since sec then s.setFlag Pid.tdmStatus 0 4 false else s)

/-- LINK_DELAY_MEASURE (R422): half the round trip of a control exchange. -/
def execLinkDelayMeasure (t roundTripNs : Nat) (s : State) : Host.Outcome State Fault Refusal :=
  s.run t (fun s =>
    if !s.wheeler ∨ !s.linkUsable ∨ !s.tandem.helloDone then s
    else s.setP Pid.tdmLinkDelayNs 0 (min 65535 (roundTripNs / 2)))

end Sys2Proof.Machine
end

