-- ==== Sys2Proof/Machine/TandemRun.lean ====
section
/-! DEFINITION.  The tandem pair's own commands: hello and pairing (R421, R429), heartbeats and paths (R430, R431),
contest and takeover (R432 to R436), the release of a yield (R437), key transfers (R396) and lanes (R475). -/

namespace Sys2Proof.Machine

open Sys2Proof

/-! ### Lanes and the hello exchange (R421, R429) -/

/-- LANES_TRAINED (R429 step 1): both lanes are trained; an enabled module starts pairing. -/
def execLanesTrained (t : Nat) (s : State) : Host.Outcome State Fault Refusal :=
  s.run t (fun s =>
    if s.tandem.lanes = 3 then s
    else
      let s := (s.withTandem (fun k => { k with lanes := 3 })).setFlag Pid.tdmStatus 0 1 true
      if s.p Pid.tdmRole = 0 then s
      else
        let s := if s.p Pid.tdmState = 5 ∨ s.p Pid.tdmState = 6 then s else s.tdmStateTo 2
        s.beginHello)

/-- TANDEM_LANE_LOSS (R475): a lane loses training. -/
def execTandemLaneLoss (t lane : Nat) (s : State) : Host.Outcome State Fault Refusal :=
  s.run t (fun s =>
    if 1 < lane ∨ !s.tandem.lanes.testBit lane then s
    else
      let s := s.withTandem (fun k => { k with lanes := putBit k.lanes lane false })
      (s.setFlag Pid.tdmStatus 0 1 false).laneTestLost lane)

/-- The exchange is complete: send counters start at 1, accepted ones are forgotten, both paths count as heard, and
the roles are decided (R421, R429, R430). -/
def State.helloComplete (s : State) : State :=
  let s := s.withTandem (fun k => { k with
    helloDone := true, nonce := none, nextCounter := Tab.const 1, lastCounter := Tab.const none
    linkHeard := some s.now, linkLost := false, ringHeard := some (k.ringHeard.getD s.now) })
  s.decidePairing

/-- The partner's own hello is answered, even while paired; a module whose exchange was complete starts one of its
own.  In an update of the pair a second hello shows that the wheeler fell back (R413). -/
def State.answerHello (s : State) (m : HelloMessage) : State :=
  let s := s.sendHello true m.nonce
  if !s.tandem.helloDone then s
  else
    let s := if s.p Pid.updPairState = 3 then s.endUpdate else s
    s.beginHello

/-- HELLO (R421): a hello of the partner, or its answer to this module's nonce.  It is exempt from the counters,
which start with it. -/
def execHello (t : Nat) (h : LinkHead) (m : HelloMessage) (s : State) : Host.Outcome State Fault Refusal :=
  s.run t (fun s =>
    if !s.linkUsable then s
    else
      let r := s.vaultCheck .tdmFrame 7 4 false
      if !r.1 then r.2
      else
        let s := r.2.keyUse .tdmFrame 4 7
        if !h.tagGood then s.tdmCount 8 4
        else
          let s := ((s.tdmCount 8 1).tdmCount 8 3 h.octets).heardPartner
          let s := s.withTandem (fun k => { k with partner := some m })
          if !m.answer then s.answerHello m
          else if s.tandem.nonce = some m.nonce then s.helloComplete
          else s.tdmCount 8 4)

/-- The module's side of R429 step 6 is ready: a locked wheeler, or a lead whose full copy has gone out to one. -/
def State.pairReady (s : State) : Bool :=
  if s.wheeler then s.tandem.stepped && !s.flagOf Pid.tdmStatus 0 4 && !s.flagOf Pid.tdmStatus 0 6
  else s.lead && !s.tandem.resync && s.tandem.copyAcked && s.p Pid.tdmCopyBacklog == 0 &&
    !s.tandem.partnerStatus.testBit 4 && !s.tandem.partnerStatus.testBit 6

/-- PAIRING_COMPLETE (R429 step 6): paired, with a TANDEM_ROLE record. -/
def execPairingComplete (t : Nat) (s : State) : Host.Outcome State Fault Refusal :=
  s.run t (fun s =>
    if s.p Pid.tdmState = 2 ∧ s.tandem.helloDone ∧ s.tandem.partner.isSome ∧ s.pairReady then
      (s.tdmStateTo 3).roleRecord (s.p Pid.tdmRole)
    else s)

/-! ### Heartbeats and paths (R430, R431) -/

/-- A send counter is about to pass its range: a new hello exchange (R421). -/
def State.renewCounters (s : State) : State :=
  if (List.range 10).any (fun k => decide (2 ^ 32 - 1 ≤ s.tandem.nextCounter.get k)) then s.beginHello else s

/-- HEARTBEAT_SEND (R420, R430): every 50 µs on the link. -/
def execHeartbeatSend (t : Nat) (s : State) : Host.Outcome State Fault Refusal :=
  s.run t (fun s =>
    if !s.linkUsable then s
    else
      let s := s.renewCounters.withTandem (fun k => { k with out := [] })
      s.tandemPost 1 [word (s.p Pid.tdmRole * 2 ^ 24 + s.p Pid.tdmState * 65536 + (s.read Pid.tdmStatus 0).toNat % 65536),
        s.w Pid.progCycleCount 0])

/-- The partner's address: tdm.partner_ip, or the one learned in its hello (R430). -/
def State.partnerIp (s : State) : Nat :=
  if s.p Pid.tdmPartnerIp = 0 then s.tandem.learnedIp else s.p Pid.tdmPartnerIp

/-- Send a witness message or ring heartbeat by UDP (R433); the matrix row counts it. -/
def State.sendWitness (s : State) (k ip : Nat) (ws : List Word) : State :=
  let port := s.p Pid.tdmWitnessPort
  let r := s.sendUdp ip port port ws
  if r.2 then (r.1.tdmCount k 0).tdmCount k 2 (4 * ws.length) else r.1

/-- RING_HEARTBEAT_SEND (R430): every tdm.hb_ring_ms to the partner's address. -/
def execRingHeartbeatSend (t : Nat) (s : State) : Host.Outcome State Fault Refusal :=
  s.run t (fun s =>
    let ip := s.partnerIp
    if s.p Pid.tdmRole = 0 ∨ ip = 0 ∨ !s.domainOn 6 then s
    else s.sendWitness 9 ip (s.witnessWords 3 (s.p Pid.tdmRole * 256 + s.p Pid.tdmState) s.serial (s.p Pid.progCycleCount)))

/-- HEARTBEAT_RECEIVE (R430): a valid heartbeat on the link. -/
def execHeartbeatReceive (t : Nat) (h : LinkHead) (role state status cycles : Nat) (s : State) :
    Host.Outcome State Fault Refusal :=
  s.run t (fun s =>
    let x := s.linkTakes 1 h
    let s := x.2
    if !x.1 then s
    else
      let s := s.withTandem (fun k => { k with
        linkHeard := some s.now, linkLost := false, partnerState := state % 256, partnerStatus := status % 65536
        partnerRole := role % 256, partnerCycles := cycles % 2 ^ 32 })
      s.setFlag Pid.tdmStatus 0 2 true)

/-- A yield that can no longer complete: its result tells that the pair is not in tdm.state 3. -/
def State.yieldFails (s : State) : State :=
  match s.tandem.yielding with
  | none => s
  | some (ref, _) =>
    let restart := s.tandem.yieldRestart
    let s := s.withTandem (fun k => { k with yielding := none, yieldRestart := false, released := false })
    let s := s.finishOpt ref (fail stRefusedState 2)
    if restart then s.beginCold 4 s.prog.restartRef else s

/-- The link path is lost (R431): the pair is detached, and a new hello exchange is needed. -/
def State.linkPathLost (s : State) : State :=
  let s := s.withTandem (fun k => { k with linkLost := true, helloDone := false, nonce := none })
  let s := s.setFlag Pid.tdmStatus 0 2 false
  let s := if s.lead then s.updatePairGone else s
  if s.tandem.ringLost then s.partnerLost
  else
    let s := if s.lead then s.yieldFails else s
    if s.p Pid.tdmState = 5 then s else s.tdmStateTo 4

/-- LINK_PATH_LOST (R430): no valid heartbeat on the link for tdm.hb_link_us. -/
def execLinkPathLost (t : Nat) (s : State) : Host.Outcome State Fault Refusal :=
  s.run t (fun s =>
    match s.tandem.linkHeard with
    | some a =>
      if s.p Pid.tdmRole ≠ 0 ∧ !s.tandem.linkLost ∧ s.passed a (s.p Pid.tdmHbLinkUs * us) then s.linkPathLost else s
    | none => s)

/-- RING_PATH_LOST (R430 to R432): no valid heartbeat on the ring for tdm.hb_ring_miss × tdm.hb_ring_ms.  The loss
of the ring alone is counted as one dropped ring heartbeat (DESIGN CHOICE, assumption 95: R431 names no counter). -/
def execRingPathLost (t : Nat) (s : State) : Host.Outcome State Fault Refusal :=
  s.run t (fun s =>
    match s.tandem.ringHeard with
    | some a =>
      if s.p Pid.tdmRole ≠ 0 ∧ !s.tandem.ringLost ∧ s.passed a (s.p Pid.tdmHbRingMiss * s.p Pid.tdmHbRingMs * ms) then
        let s := (s.withTandem (fun k => { k with ringLost := true })).setFlag Pid.tdmStatus 0 3 false
        if s.tandem.linkLost then s.partnerLost else s.tdmCount 9 7
      else s
    | none => s)

/-! ### Contest (R432 to R434) -/

/-- The module's own count of witnesses. -/
def Contest.own (c : Contest) : Nat := c.mesh + c.answered.length

/-- WITNESS_REQUEST_SEND (R432): at the start of the contest and again halfway. -/
def execWitnessRequestSend (t : Nat) (s : State) : Host.Outcome State Fault Refusal :=
  s.run t (fun s =>
    match s.tandem.contest with
    | none => s
    | some c =>
      let due := decide (c.sent = 0) || (decide (c.sent = 1) && s.passed c.began (s.p Pid.tdmContestMs * ms / 2))
      if !due then s
      else
        let ws := s.witnessWords 1 (min 65535 c.own) s.serial c.sequence
        let s := s.withTandem (fun k => { k with contest := some { c with sent := c.sent + 1 } })
        ((s.pRun Pid.tdmWitnessAddr 0 8).filter (fun a => a ≠ 0)).foldl (fun s a => s.sendWitness 10 a ws) s)

/-- The row of R434 and whether the module leads. -/
def State.contestRow (s : State) (c : Contest) : Nat × Bool :=
  let high : Bool := match s.tandem.partner with
    | some p => s.strappedHigh p
    | none => s.pB Pid.tdmPrecedence
  match c.partnerW with
  | some w => if w < c.own then (1, true) else if c.own < w then (2, false) else (3, high)
  | none => if !c.heard && c.steady then (4, true) else (5, !c.wasWheeler)

/-- A former wheeler that wins (R435): tdm.state 6, a state request to every card in ride-through; the relay goes on
above the copied counter, and the first minute closes as a takeover (R79, R335). -/
def State.takeLead (s : State) (banks : List Nat) : State :=
  let s := ((s.setRole 1).tdmStateTo 6).withTandem (fun k => { k with newLead := true, takeover := banks })
  let s := banks.foldl (fun s b => s.modBh b (fun h => { h with stateRequest := true, stateRead := none })) s
  s.leadUnits

/-- Banks whose running card reports ride-through. -/
def State.ridingBanks (s : State) : List Nat :=
  (List.range 16).filter (fun b => s.p Pid.harnessState b == 4 && s.flagOf Pid.harnessCardStatus b 11)

/-- The contest is decided (R434, R435). -/
def State.decideContest (s : State) (c : Contest) : State :=
  let r := s.contestRow c
  let s := s.withTandem (fun k => { k with contest := none })
  let s := (s.setP Pid.tdmContestOwn 0 c.mesh).setP Pid.tdmContestOwn 1 c.answered.length
  let s := (s.setP Pid.tdmContestPartner 0 (c.partnerW.getD 0xFFFF)).setP Pid.tdmContestResult 0 r.1
  let s := s.setFlag Pid.tdmStatus 0 7 (!c.heard && c.steady)
  let s := s.yieldFails
  if r.2 then
    if c.wasWheeler then s.takeLead s.ridingBanks
    else (s.tdmStateTo s.unpairedState).roleRecord 1
  else (if c.wasWheeler then s else s.becomeWheeler).tdmStateTo 4

/-- CONTEST_END (R434): tdm.contest_ms after the loss. -/
def execContestEnd (t : Nat) (s : State) : Host.Outcome State Fault Refusal :=
  s.run t (fun s =>
    match s.tandem.contest with
    | some c => if s.passed c.began (s.p Pid.tdmContestMs * ms) then s.decideContest c else s
    | none => s)

/-- The longest that the state readbacks of a takeover take: 2.3 ms (R435). -/
abbrev takeoverWait : Nat := 2300 * us

/-- TAKEOVER_POLE_RAISE (R435 step 2): the state readbacks are in; POLE rises, and the banks in ride-through resume
from the reported light. -/
def execTakeoverPoleRaise (t : Nat) (s : State) : Host.Outcome State Fault Refusal :=
  s.run t (fun s =>
    let banks := s.tandem.takeover
    let in_ := banks.all (fun b => (s.bh b).stateRead.isSome)
    if !s.lead ∨ !s.tandem.newLead ∨ s.tandem.pole ∨ !(in_ || s.passed s.tandem.roleSince takeoverWait) then s
    else
      let s := (s.setPole true).withTandem (fun k => { k with takeover := [] })
      let s := banks.foldl (fun s b =>
        if (s.bh b).stateRead.isNone then s
        else
          let s := (s.takeCardLight b).modBh b (fun h => { h with stateRead := none })
          (s.bankTeams b).foldl (fun s t => s.resumeTeam t (fun c => ((s.cd c).start).getD 0)) s) s
      s.resumeCycles)

/-- POLE_CONFLICT (R436): ten primaries in a row with both POLE inputs high while the partner is lost. -/
def execPoleConflict (t : Nat) (s : State) : Host.Outcome State Fault Refusal :=
  s.run t (fun s =>
    let seen := (List.range 16).any (fun b => decide (10 ≤ (s.bh b).conflicts))
    let lost := s.tandem.linkLost && s.tandem.ringLost
    if !s.tandem.pole ∨ !s.lead ∨ !lost ∨ !seen then s
    else
      let s := (List.range 16).foldl (fun s b => s.modBh b (fun h => { h with conflicts := 0 })) s
      let s := s.bump Pid.tdmPoleConflicts
      let high : Bool := match s.tandem.partner with
        | some p => s.strappedHigh p
        | none => s.pB Pid.tdmPrecedence
      if high then s else s.becomeWheeler.tdmStateTo 4)

/-! ### The release of a yield (R437) -/

/-- YIELD_RELEASE (R437 step 3): the wheeler raises POLE and leads from the next boundary on. -/
def execYieldRelease (t : Nat) (h : LinkHead) (s : State) : Host.Outcome State Fault Refusal :=
  s.run t (fun s =>
    let x := s.linkTakes 9 h
    let s := x.2
    if !x.1 ∨ !s.wheeler then s
    else
      let s := s.takeLead []
      let s := (s.setPole true).resumeCycles
      s.withTandem (fun k => { k with mirror := [], copyAcked := true, resync := false }))

/-! ### Key transfers (R396) -/

/-- The oldest vault write that waits for the wheeler goes on. -/
def releaseJob : List (VaultJob × Option TicketRef × Nat × Bool) → List (VaultJob × Option TicketRef × Nat × Bool)
  | [] => []
  | (j, r, a, w) :: rest => if w then (j, r, a, false) :: rest else (j, r, a, w) :: releaseJob rest

/-- KEY_TRANSFER_RECEIVE (R396): a wheeler commits what the lead carries and confirms; on the lead, the
confirmation. -/
def execKeyTransferReceive (t : Nat) (h : LinkHead) (k : KeyTransfer) (s : State) : Host.Outcome State Fault Refusal :=
  s.run t (fun s =>
    let x := s.linkTakes 7 h
    let s := x.2
    if !x.1 then s
    else match k with
    | .load slot attributes key check =>
      if s.wheeler then (s.commitLoad slot attributes key check).tandemPost 7 [1] else s
    | .invalidate slot => if s.wheeler then (s.commitInvalidation slot).2.tandemPost 7 [1] else s
    | .confirm => if s.lead then { s with vault := { s.vault with jobs := releaseJob s.vault.jobs } } else s)

/-- The slot that a vault write names. -/
def VaultJob.slot : VaultJob → Nat
  | .load k _ _ _ => k
  | .invalidate k => k
  | .lifecycle _ => 0xFF

/-- KEY_TRANSFER_TIMEOUT (R396): the wheeler has not confirmed within 100 ms; the lead commits alone and writes a
KEY_EVENT record. -/
def execKeyTransferTimeout (t : Nat) (s : State) : Host.Outcome State Fault Refusal :=
  s.run t (fun s =>
    match s.vault.jobs.find? (fun j => j.2.2.2) with
    | some j =>
      if s.passed j.2.2.1 (100 * ms) then
        ({ s with vault := { s.vault with jobs := releaseJob s.vault.jobs } }).keyEvent j.1.slot 0
      else s
    | none => s)

end Sys2Proof.Machine
end

