-- ==== Sys2Proof/Machine/Tap.lean ====
section
/-! DEFINITION.  The test access port (R476), after IEEE 1149.1: one scan of the selected register for each
instruction.  Bits stand in the order in which they are shifted, the one next to TDO first. -/

namespace Sys2Proof.Machine

open Sys2Proof

/-- Change the TAP while D1 is powered. -/
def State.withTap (s : State) (f : TapState → TapState) : State :=
  if s.domainOn 1 then { s with test := { s.test with tap := f s.test.tap } } else s

/-- What leaves on TDO as `tdi` is shifted into a register that captured `reg`. -/
def shiftedOut (reg tdi : List Bool) : List Bool := (reg ++ tdi).take tdi.length

/-- What the register holds then. -/
def shiftedIn (reg tdi : List Bool) : List Bool := (reg ++ tdi).drop tdi.length

/-- The 32 bits of the IDCODE. -/
def State.idcodeWord (s : State) : Nat :=
  s.p Pid.idDieRev % 16 * 2 ^ 28 + 0xD512 * 2 ^ 12 + Config.jtagMaker % 2048 * 2 + 1

/-- The IDCODE register, bit 0 first. -/
def State.idcodeBits (s : State) : List Bool := (List.range 32).map (fun k => s.idcodeWord.testBit k)

/-- The bypass register is selected, with what the instruction does to the lands: one bit, captured as 0. -/
def bypassScan (instruction : Nat) (driven highZ : Bool) (tdi : List Bool) (k : TapState) : TapState :=
  { k with instruction := instruction, driven := driven, highZ := highZ, shifted := shiftedOut [false] tdi }

/-- The boundary register is scanned: the lands are captured, the cells take what was shifted in. -/
def boundaryScan (instruction : Nat) (driven : Bool) (lands tdi : List Bool) (k : TapState) : TapState :=
  { k with
    instruction := instruction, driven := driven, highZ := false
    cells := shiftedIn lands tdi, shifted := shiftedOut lands tdi }

/-- EXTEST, CLAMP and HIGHZ are accepted only in Blank or Service. -/
def State.tapOpen (s : State) : Bool := s.lifecycle == 0 || s.lifecycle == 3

/-- TAP_RESET (R476): TRST_N low. -/
def execTapReset (t : Nat) (s : State) : Host.Outcome State Fault Refusal :=
  s.run t (fun s => s.withTap (fun k => { TestState.reset.tap with cells := k.cells }))

/-- BYPASS (R476). -/
def execBypass (t : Nat) (tdi : List Bool) (s : State) : Host.Outcome State Fault Refusal :=
  s.run t (fun s => s.withTap (bypassScan 0 false false tdi))

/-- IDCODE (R476). -/
def execIdcode (t : Nat) (tdi : List Bool) (s : State) : Host.Outcome State Fault Refusal :=
  s.run t (fun s => s.withTap (fun k =>
    { k with instruction := 1, driven := false, highZ := false, shifted := shiftedOut s.idcodeBits tdi }))

/-- SAMPLE/PRELOAD (R476). -/
def execSamplePreload (t : Nat) (lands tdi : List Bool) (s : State) : Host.Outcome State Fault Refusal :=
  s.run t (fun s => s.withTap (boundaryScan 2 false lands tdi))

/-- EXTEST (R476): BYPASS outside Blank and Service. -/
def execExtest (t : Nat) (lands tdi : List Bool) (s : State) : Host.Outcome State Fault Refusal :=
  s.run t (fun s => s.withTap (if s.tapOpen then boundaryScan 3 true lands tdi else bypassScan 0 false false tdi))

/-- CLAMP (R476): the cells hold the lands with the bypass register selected. -/
def execClamp (t : Nat) (tdi : List Bool) (s : State) : Host.Outcome State Fault Refusal :=
  s.run t (fun s => s.withTap (if s.tapOpen then bypassScan 4 true false tdi else bypassScan 0 false false tdi))

/-- HIGHZ (R476): the lands go to high impedance. -/
def execHighz (t : Nat) (tdi : List Bool) (s : State) : Host.Outcome State Fault Refusal :=
  s.run t (fun s => s.withTap (if s.tapOpen then bypassScan 5 false true tdi else bypassScan 0 false false tdi))

end Sys2Proof.Machine
end

