-- ==== Sys2Proof/Machine/Dispatch.lean ====
section
/-! DEFINITION.  One arm per command: a direct call of its meaning. -/

namespace Sys2Proof.Machine

open Sys2Proof

/-- The effect of one command on everything but the queue of waiting commands. -/
def exec (i : Instr) (s : State) : Host.Outcome State Fault Refusal :=
  match i with
  | .cycleBoundary t => Sys2Proof.Machine.execCycleBoundary t s
  | .cellComplete t core => Sys2Proof.Machine.execCellComplete t core s
  | .backPressureWait t source => Sys2Proof.Machine.execBackPressureWait t source s
  | .cellOverlong t core => Sys2Proof.Machine.execCellOverlong t core s
  | .cellParityError t core => Sys2Proof.Machine.execCellParityError t core s
  | .commit t speed => Sys2Proof.Machine.execCommit t speed s
  | .overrun t => Sys2Proof.Machine.execOverrun t s
  | .housekeeping t => Sys2Proof.Machine.execHousekeeping t s
  | .spineUnlock t error => Sys2Proof.Machine.execSpineUnlock t error s
  | .spineRelock t => Sys2Proof.Machine.execSpineRelock t s
  | .tcxoLoss t => Sys2Proof.Machine.execTcxoLoss t s
  | .tcxoReturn t => Sys2Proof.Machine.execTcxoReturn t s
  | .bankPeriodStart t bank => Sys2Proof.Machine.execBankPeriodStart t bank s
  | .lanePulseStart t ch => Sys2Proof.Machine.execLanePulseStart t ch s
  | .extraPeriodMark t bank => Sys2Proof.Machine.execExtraPeriodMark t bank s
  | .amplitudeEpoch t ch => Sys2Proof.Machine.execAmplitudeEpoch t ch s
  | .emltRise t => Sys2Proof.Machine.execEmltRise t s
  | .emltFall t => Sys2Proof.Machine.execEmltFall t s
  | .emltRelease t => Sys2Proof.Machine.execEmltRelease t s
  | .primaryTransaction t bank lanes din => Sys2Proof.Machine.execPrimaryTransaction t bank lanes din s
  | .acknowledgement t bank w => Sys2Proof.Machine.execAcknowledgement t bank w s
  | .repeatTransaction t bank din => Sys2Proof.Machine.execRepeatTransaction t bank din s
  | .readbackFrame t bank words => Sys2Proof.Machine.execReadbackFrame t bank words s
  | .decimatorSample t ch raw => Sys2Proof.Machine.execDecimatorSample t ch raw s
  | .streamStuck t ch => Sys2Proof.Machine.execStreamStuck t ch s
  | .streamValidAgain t ch => Sys2Proof.Machine.execStreamValidAgain t ch s
  | .zeroStale t ch => Sys2Proof.Machine.execZeroStale t ch s
  | .loopLimitWarning t ch => Sys2Proof.Machine.execLoopLimitWarning t ch s
  | .minuteClose t => Sys2Proof.Machine.execMinuteClose t s
  | .meterTotalsRecord t => Sys2Proof.Machine.execMeterTotalsRecord t s
  | .settingsRecord t => Sys2Proof.Machine.execSettingsRecord t s
  | .provingWindowExpiry t ch => Sys2Proof.Machine.execProvingWindowExpiry t ch s
  | .cardFaultState t bank => Sys2Proof.Machine.execCardFaultState t bank s
  | .derateBlind t team => Sys2Proof.Machine.execDerateBlind t team s
  | .noTempTimeout t team => Sys2Proof.Machine.execNoTempTimeout t team s
  | .trimUpdate t team => Sys2Proof.Machine.execTrimUpdate t team s
  | .trimLimitedWarning t team => Sys2Proof.Machine.execTrimLimitedWarning t team s
  | .faultLineChange t bank high => Sys2Proof.Machine.execFaultLineChange t bank high s
  | .cardEnumeration t bank passes ident => Sys2Proof.Machine.execCardEnumeration t bank passes ident s
  | .enumerationRetry t bank => Sys2Proof.Machine.execEnumerationRetry t bank s
  | .cardLost t bank => Sys2Proof.Machine.execCardLost t bank s
  | .bankResume t bank => Sys2Proof.Machine.execBankResume t bank s
  | .poleConflict t => Sys2Proof.Machine.execPoleConflict t s
  | .forceExpiry t => Sys2Proof.Machine.execForceExpiry t s
  | .warmRestartReady t => Sys2Proof.Machine.execWarmRestartReady t s
  | .coldRestartReset t vin failed => Sys2Proof.Machine.execColdRestartReset t vin failed s
  | .enumerationWaitEnd t => Sys2Proof.Machine.execEnumerationWaitEnd t s
  | .packetDiscard t tr => Sys2Proof.Machine.execPacketDiscard t tr s
  | .unassignedOpcode t tr => Sys2Proof.Machine.execUnassignedOpcode t tr s
  | .sessionOpen t tr nonce => Sys2Proof.Machine.execSessionOpen t tr nonce s
  | .sessionProve t tr => Sys2Proof.Machine.execSessionProve t tr s
  | .sessionClose t tr => Sys2Proof.Machine.execSessionClose t tr s
  | .result t tr => Sys2Proof.Machine.execResult t tr s
  | .ping t tr => Sys2Proof.Machine.execPing t tr s
  | .sessionList t tr => Sys2Proof.Machine.execSessionList t tr s
  | .get t tr => Sys2Proof.Machine.execGet t tr s
  | .set t tr => Sys2Proof.Machine.execSet t tr s
  | .force t tr => Sys2Proof.Machine.execForce t tr s
  | .release t tr => Sys2Proof.Machine.execRelease t tr s
  | .describe t tr => Sys2Proof.Machine.execDescribe t tr s
  | .channelSet t tr => Sys2Proof.Machine.execChannelSet t tr s
  | .channelClear t tr => Sys2Proof.Machine.execChannelClear t tr s
  | .teamSet t tr => Sys2Proof.Machine.execTeamSet t tr s
  | .teamClear t tr => Sys2Proof.Machine.execTeamClear t tr s
  | .teamRead t tr => Sys2Proof.Machine.execTeamRead t tr s
  | .progLoad t tr => Sys2Proof.Machine.execProgLoad t tr s
  | .progSwap t tr => Sys2Proof.Machine.execProgSwap t tr s
  | .progRevert t tr => Sys2Proof.Machine.execProgRevert t tr s
  | .progConst t tr => Sys2Proof.Machine.execProgConst t tr s
  | .progState t tr => Sys2Proof.Machine.execProgState t tr s
  | .progRead t tr => Sys2Proof.Machine.execProgRead t tr s
  | .progRestart t tr => Sys2Proof.Machine.execProgRestart t tr s
  | .progUpload t tr => Sys2Proof.Machine.execProgUpload t tr s
  | .timeRead t tr => Sys2Proof.Machine.execTimeRead t tr s
  | .timeSet t tr => Sys2Proof.Machine.execTimeSet t tr s
  | .schedLoad t tr => Sys2Proof.Machine.execSchedLoad t tr s
  | .schedRead t tr => Sys2Proof.Machine.execSchedRead t tr s
  | .wakeSet t tr => Sys2Proof.Machine.execWakeSet t tr s
  | .wbRead t tr => Sys2Proof.Machine.execWbRead t tr s
  | .wbFreeze t tr => Sys2Proof.Machine.execWbFreeze t tr s
  | .wbClear t tr => Sys2Proof.Machine.execWbClear t tr s
  | .wbSnapset t tr => Sys2Proof.Machine.execWbSnapset t tr s
  | .archiveInfo t tr => Sys2Proof.Machine.execArchiveInfo t tr s
  | .archiveRead t tr => Sys2Proof.Machine.execArchiveRead t tr s
  | .meterTotals t tr => Sys2Proof.Machine.execMeterTotals t tr s
  | .relayNodes t tr => Sys2Proof.Machine.execRelayNodes t tr s
  | .relayPermit t tr => Sys2Proof.Machine.execRelayPermit t tr s
  | .relayEvict t tr => Sys2Proof.Machine.execRelayEvict t tr s
  | .keyInfo t tr => Sys2Proof.Machine.execKeyInfo t tr s
  | .keyLoad t tr => Sys2Proof.Machine.execKeyLoad t tr s
  | .keyInvalidate t tr => Sys2Proof.Machine.execKeyInvalidate t tr s
  | .lifecycle t tr => Sys2Proof.Machine.execLifecycle t tr s
  | .updOpen t tr => Sys2Proof.Machine.execUpdOpen t tr s
  | .updData t tr => Sys2Proof.Machine.execUpdData t tr s
  | .updCommit t tr => Sys2Proof.Machine.execUpdCommit t tr s
  | .updAbort t tr => Sys2Proof.Machine.execUpdAbort t tr s
  | .updStatus t tr => Sys2Proof.Machine.execUpdStatus t tr s
  | .tandemStatus t tr => Sys2Proof.Machine.execTandemStatus t tr s
  | .tandemYield t tr => Sys2Proof.Machine.execTandemYield t tr s
  | .powerTolerance t tr => Sys2Proof.Machine.execPowerTolerance t tr s
  | .powerStatus t tr => Sys2Proof.Machine.execPowerStatus t tr s
  | .testStart t tr => Sys2Proof.Machine.execTestStart t tr s
  | .testRead t tr => Sys2Proof.Machine.execTestRead t tr s
  | .testStop t tr => Sys2Proof.Machine.execTestStop t tr s
  | .periodWrite t tr => Sys2Proof.Machine.execPeriodWrite t tr s
  | .staggerWrite t tr => Sys2Proof.Machine.execStaggerWrite t tr s
  | .teamSizeWrite t tr => Sys2Proof.Machine.execTeamSizeWrite t tr s
  | .dimModeWrite t tr => Sys2Proof.Machine.execDimModeWrite t tr s
  | .decimRatioWrite t tr => Sys2Proof.Machine.execDecimRatioWrite t tr s
  | .gainEstWrite t tr => Sys2Proof.Machine.execGainEstWrite t tr s
  | .vfRefWrite t tr => Sys2Proof.Machine.execVfRefWrite t tr s
  | .colourMethodWrite t tr => Sys2Proof.Machine.execColourMethodWrite t tr s
  | .fluxReferenceRecompute t tr => Sys2Proof.Machine.execFluxReferenceRecompute t tr s
  | .sensorCalWrite t tr => Sys2Proof.Machine.execSensorCalWrite t tr s
  | .cycleTimeWrite t tr => Sys2Proof.Machine.execCycleTimeWrite t tr s
  | .podZoneWrite t tr => Sys2Proof.Machine.execPodZoneWrite t tr s
  | .edgeEndpointWrite t tr => Sys2Proof.Machine.execEdgeEndpointWrite t tr s
  | .edgeBoundsWrite t tr => Sys2Proof.Machine.execEdgeBoundsWrite t tr s
  | .edgeHeadingWrite t tr => Sys2Proof.Machine.execEdgeHeadingWrite t tr s
  | .edgeTauWrite t tr => Sys2Proof.Machine.execEdgeTauWrite t tr s
  | .hpEventClear t tr => Sys2Proof.Machine.execHpEventClear t tr s
  | .ringModeWrite t tr => Sys2Proof.Machine.execRingModeWrite t tr s
  | .ipAddressWrite t tr => Sys2Proof.Machine.execIpAddressWrite t tr s
  | .calendarWrite t tr => Sys2Proof.Machine.execCalendarWrite t tr s
  | .tzOffsetWrite t tr => Sys2Proof.Machine.execTzOffsetWrite t tr s
  | .wakePeriodWrite t tr => Sys2Proof.Machine.execWakePeriodWrite t tr s
  | .alarmWrite t tr => Sys2Proof.Machine.execAlarmWrite t tr s
  | .relayConfigWrite t tr => Sys2Proof.Machine.execRelayConfigWrite t tr s
  | .rtFallbackWrite t tr => Sys2Proof.Machine.execRtFallbackWrite t tr s
  | .tandemEnableWrite t tr => Sys2Proof.Machine.execTandemEnableWrite t tr s
  | .toleranceWrite t tr => Sys2Proof.Machine.execToleranceWrite t tr s
  | .ejectWrite t tr => Sys2Proof.Machine.execEjectWrite t tr s
  | .adoptWrite t tr => Sys2Proof.Machine.execAdoptWrite t tr s
  | .snapsetWrite t tr => Sys2Proof.Machine.execSnapsetWrite t tr s
  | .tamperCfgWrite t tr => Sys2Proof.Machine.execTamperCfgWrite t tr s
  | .tamperLatchClear t tr => Sys2Proof.Machine.execTamperLatchClear t tr s
  | .updConfirmWrite t tr => Sys2Proof.Machine.execUpdConfirmWrite t tr s
  | .updFallbackWrite t tr => Sys2Proof.Machine.execUpdFallbackWrite t tr s
  | .switchNowWrite t tr => Sys2Proof.Machine.execSwitchNowWrite t tr s
  | .enterFarrierWrite t tr => Sys2Proof.Machine.execEnterFarrierWrite t tr s
  | .spiNop t octet => Sys2Proof.Machine.execSpiNop t octet s
  | .spiWrite t count words cut => Sys2Proof.Machine.execSpiWrite t count words cut s
  | .spiRead t count clocked cut => Sys2Proof.Machine.execSpiRead t count clocked cut s
  | .flushIn t => Sys2Proof.Machine.execFlushIn t s
  | .flushOut t => Sys2Proof.Machine.execFlushOut t s
  | .replyEnqueue t tr => Sys2Proof.Machine.execReplyEnqueue t tr s
  | .replyDrop t tr => Sys2Proof.Machine.execReplyDrop t tr s
  | .ticketExpiry t sid ticket => Sys2Proof.Machine.execTicketExpiry t sid ticket s
  | .sessionIdleClose t sid => Sys2Proof.Machine.execSessionIdleClose t sid s
  | .provisionalTimeout t sid => Sys2Proof.Machine.execProvisionalTimeout t sid s
  | .proofLockoutEnd t tr => Sys2Proof.Machine.execProofLockoutEnd t tr s
  | .revokedIdentifierRelease t sid => Sys2Proof.Machine.execRevokedIdentifierRelease t sid s
  | .frameReceive t port sfd f overflow busy => Sys2Proof.Machine.execFrameReceive t port sfd f overflow busy s
  | .discoveryReply t => Sys2Proof.Machine.execDiscoveryReply t s
  | .frameTransmit t port => Sys2Proof.Machine.execFrameTransmit t port s
  | .originatedFrameQueue t => Sys2Proof.Machine.execOriginatedFrameQueue t s
  | .linkUp t port speed halfDuplex partnerEee => Sys2Proof.Machine.execLinkUp t port speed halfDuplex partnerEee s
  | .linkDown t port => Sys2Proof.Machine.execLinkDown t port s
  | .halfDuplexRetry t port => Sys2Proof.Machine.execHalfDuplexRetry t port s
  | .lpiEntry t port => Sys2Proof.Machine.execLpiEntry t port s
  | .lldpSend t port => Sys2Proof.Machine.execLldpSend t port s
  | .lldpNeighbourExpiry t port => Sys2Proof.Machine.execLldpNeighbourExpiry t port s
  | .supervisionSend t => Sys2Proof.Machine.execSupervisionSend t s
  | .nodeForget t source => Sys2Proof.Machine.execNodeForget t source s
  | .duplicateEntryForget t source seq => Sys2Proof.Machine.execDuplicateEntryForget t source seq s
  | .reducedUplinkStep t => Sys2Proof.Machine.execReducedUplinkStep t s
  | .localSteer t => Sys2Proof.Machine.execLocalSteer t s
  | .syncTimeout t slot => Sys2Proof.Machine.execSyncTimeout t slot s
  | .announceTimeout t slot => Sys2Proof.Machine.execAnnounceTimeout t slot s
  | .domainRevert t => Sys2Proof.Machine.execDomainRevert t s
  | .holdoverExpiry t => Sys2Proof.Machine.execHoldoverExpiry t s
  | .ptpRequestSend t slot port => Sys2Proof.Machine.execPtpRequestSend t slot port s
  | .txTimestamp t => Sys2Proof.Machine.execTxTimestamp t s
  | .calendarSecond t => Sys2Proof.Machine.execCalendarSecond t s
  | .rtcTrimWindow t ticks => Sys2Proof.Machine.execRtcTrimWindow t ticks s
  | .wakeTimerExpiry t => Sys2Proof.Machine.execWakeTimerExpiry t s
  | .alarmFire t alarm => Sys2Proof.Machine.execAlarmFire t alarm s
  | .retentionLoss t => Sys2Proof.Machine.execRetentionLoss t s
  | .relaySlot t => Sys2Proof.Machine.execRelaySlot t s
  | .uplinkFrame t f => Sys2Proof.Machine.execUplinkFrame t f s
  | .hitchRequest t h => Sys2Proof.Machine.execHitchRequest t h s
  | .floodReceive t f => Sys2Proof.Machine.execFloodReceive t f s
  | .fragmentTimeout t node => Sys2Proof.Machine.execFragmentTimeout t node s
  | .joinWindowClose t => Sys2Proof.Machine.execJoinWindowClose t s
  | .contextForget t node => Sys2Proof.Machine.execContextForget t node s
  | .nodeSilent t node => Sys2Proof.Machine.execNodeSilent t node s
  | .parentBeacon t node pan free offsetUs => Sys2Proof.Machine.execParentBeacon t node pan free offsetUs s
  | .parentBeaconsMissed t => Sys2Proof.Machine.execParentBeaconsMissed t s
  | .keyGenerationChange t => Sys2Proof.Machine.execKeyGenerationChange t s
  | .relayConfigApply t => Sys2Proof.Machine.execRelayConfigApply t s
  | .cassetteDetect t c => Sys2Proof.Machine.execCassetteDetect t c s
  | .cassettePowerOn t c report => Sys2Proof.Machine.execCassettePowerOn t c report s
  | .cassetteRemoved t c => Sys2Proof.Machine.execCassetteRemoved t c s
  | .resilverUnitCopy t c => Sys2Proof.Machine.execResilverUnitCopy t c s
  | .writeComplete t number c => Sys2Proof.Machine.execWriteComplete t number c s
  | .programFailure t c block => Sys2Proof.Machine.execProgramFailure t c block s
  | .readComplete t c region block step corrected offsets mirror => Sys2Proof.Machine.execReadComplete t c region block step corrected offsets mirror s
  | .mapCheckpoint t c => Sys2Proof.Machine.execMapCheckpoint t c s
  | .patrolScrub t c family bits => Sys2Proof.Machine.execPatrolScrub t c family bits s
  | .retentionAgeUpdate t temps => Sys2Proof.Machine.execRetentionAgeUpdate t temps s
  | .wearMove t c source target => Sys2Proof.Machine.execWearMove t c source target s
  | .fold t => Sys2Proof.Machine.execFold t s
  | .heldWritesRelease t => Sys2Proof.Machine.execHeldWritesRelease t s
  | .freezeAutoRelease t => Sys2Proof.Machine.execFreezeAutoRelease t s
  | .keyCommit t => Sys2Proof.Machine.execKeyCommit t s
  | .invalidationCommit t => Sys2Proof.Machine.execInvalidationCommit t s
  | .tamperDetect t input level => Sys2Proof.Machine.execTamperDetect t input level s
  | .stagingEraseDone t => Sys2Proof.Machine.execStagingEraseDone t s
  | .commitVerifyDone t => Sys2Proof.Machine.execCommitVerifyDone t s
  | .imageSwitch t => Sys2Proof.Machine.execImageSwitch t s
  | .wheelerImageValid t h => Sys2Proof.Machine.execWheelerImageValid t h s
  | .probationEnd t => Sys2Proof.Machine.execProbationEnd t s
  | .firstCommitTimeout t => Sys2Proof.Machine.execFirstCommitTimeout t s
  | .watchdogReset t => Sys2Proof.Machine.execWatchdogReset t s
  | .updateIdleAbort t => Sys2Proof.Machine.execUpdateIdleAbort t s
  | .heartbeatSend t => Sys2Proof.Machine.execHeartbeatSend t s
  | .ringHeartbeatSend t => Sys2Proof.Machine.execRingHeartbeatSend t s
  | .heartbeatReceive t h role state status cycles => Sys2Proof.Machine.execHeartbeatReceive t h role state status cycles s
  | .linkPathLost t => Sys2Proof.Machine.execLinkPathLost t s
  | .ringPathLost t => Sys2Proof.Machine.execRingPathLost t s
  | .witnessRequestSend t => Sys2Proof.Machine.execWitnessRequestSend t s
  | .contestEnd t => Sys2Proof.Machine.execContestEnd t s
  | .takeoverPoleRaise t => Sys2Proof.Machine.execTakeoverPoleRaise t s
  | .timeMark t h count residualPs => Sys2Proof.Machine.execTimeMark t h count residualPs s
  | .linkDelayMeasure t roundTripNs => Sys2Proof.Machine.execLinkDelayMeasure t roundTripNs s
  | .boundaryMark t h stamp => Sys2Proof.Machine.execBoundaryMark t h stamp s
  | .commitBlockReceive t h block => Sys2Proof.Machine.execCommitBlockReceive t h block s
  | .stateCopyReceive t h number backlog items => Sys2Proof.Machine.execStateCopyReceive t h number backlog items s
  | .copyAck t h number => Sys2Proof.Machine.execCopyAck t h number s
  | .hello t h m => Sys2Proof.Machine.execHello t h m s
  | .lanesTrained t => Sys2Proof.Machine.execLanesTrained t s
  | .pairingComplete t => Sys2Proof.Machine.execPairingComplete t s
  | .keyTransferReceive t h k => Sys2Proof.Machine.execKeyTransferReceive t h k s
  | .keyTransferTimeout t => Sys2Proof.Machine.execKeyTransferTimeout t s
  | .yieldRelease t h => Sys2Proof.Machine.execYieldRelease t h s
  | .powerOn t vin strap failed => Sys2Proof.Machine.execPowerOn t vin strap failed s
  | .powerReturn t vin strap crcGood formatRead failed => Sys2Proof.Machine.execPowerReturn t vin strap crcGood formatRead failed s
  | .shedStepEnter t vin => Sys2Proof.Machine.execShedStepEnter t vin s
  | .standDown t => Sys2Proof.Machine.execStandDown t s
  | .shedStepLeave t vin => Sys2Proof.Machine.execShedStepLeave t vin s
  | .brownoutReset t => Sys2Proof.Machine.execBrownoutReset t s
  | .wakeRequest t failed => Sys2Proof.Machine.execWakeRequest t failed s
  | .sleepDeadline t failed => Sys2Proof.Machine.execSleepDeadline t failed s
  | .flushWake t => Sys2Proof.Machine.execFlushWake t s
  | .coreFloorRaise t floor => Sys2Proof.Machine.execCoreFloorRaise t floor s
  | .rstNLow t => Sys2Proof.Machine.execRstNLow t s
  | .rstNHigh t vin failed => Sys2Proof.Machine.execRstNHigh t vin failed s
  | .testSyncTimeout t bank => Sys2Proof.Machine.execTestSyncTimeout t bank s
  | .testFrameTimeout t port => Sys2Proof.Machine.execTestFrameTimeout t port s
  | .storageTestPass t c bits errors words => Sys2Proof.Machine.execStorageTestPass t c bits errors words s
  | .tapReset t => Sys2Proof.Machine.execTapReset t s
  | .bypass t tdi => Sys2Proof.Machine.execBypass t tdi s
  | .idcode t tdi => Sys2Proof.Machine.execIdcode t tdi s
  | .samplePreload t lands tdi => Sys2Proof.Machine.execSamplePreload t lands tdi s
  | .extest t lands tdi => Sys2Proof.Machine.execExtest t lands tdi s
  | .clamp t tdi => Sys2Proof.Machine.execClamp t tdi s
  | .highz t tdi => Sys2Proof.Machine.execHighz t tdi s
  | .servicePortReceive t octets => Sys2Proof.Machine.execServicePortReceive t octets s
  | .servicePortTransmit t count => Sys2Proof.Machine.execServicePortTransmit t count s
  | .tandemLaneLoss t lane => Sys2Proof.Machine.execTandemLaneLoss t lane s
  | .patternCheckerSync t link lane bs => Sys2Proof.Machine.execPatternCheckerSync t link lane bs s
  | .patternCheckerSyncLoss t link lane bs => Sys2Proof.Machine.execPatternCheckerSyncLoss t link lane bs s
  | .linkLocalProbe t => Sys2Proof.Machine.execLinkLocalProbe t s
  | .d0SupplyChangeover t onVin => Sys2Proof.Machine.execD0SupplyChangeover t onVin s
  | .rngHealthFailure t => Sys2Proof.Machine.execRngHealthFailure t s

end Sys2Proof.Machine
end

