-- ==== Sys2Proof/WellFormed.lean ====
section
/-! DEFINITION.  Which commands can reach the block: every number that names a part of the module lies within
the parts that R1, R22, R145, R266, R302 and R467 count, and every field of a message within its width.  The
meanings are total: a command outside these bounds names no part and changes nothing but the clock, or its
field is cut to its width. -/

namespace Sys2Proof

/-- Every number of a list is an octet. -/
def octetsWf (l : List Nat) : Bool := l.all (fun o => decide (o < 256))

/-- A stretch of sense bits holds at most the 10,000 bits of a scan interval (R65). -/
def LaneBits.wf (b : LaneBits) : Bool := decide ((b.map (fun x => x.2)).sum ≤ 10000)

/-- A frame received from a node (R321, R330). -/
def RadioFrame.wf (f : RadioFrame) : Bool :=
  decide (f.radio < 2) && decide (f.source < 2 ^ 16) && decide (f.counter < 2 ^ 32) && decide (f.key < 2 ^ 128) &&
    octetsWf f.payload

/-- A hitch request (R325). -/
def HitchRequest.wf (h : HitchRequest) : Bool :=
  decide (h.eui < 2 ^ 64) && decide (h.key < 2 ^ 128)

/-- A PTP message (R288). -/
def PtpMessage.wf (m : PtpMessage) : Bool :=
  decide (m.messageType < 16) && decide (m.version < 16) && decide (m.domain < 256) && decide (m.sequence < 2 ^ 16)

/-- What a frame carries (R268 to R276). -/
def FrameBody.wf : FrameBody → Bool
  | .ptp m => m.wf
  | .supervision mac => decide (mac < 2 ^ 48)
  | .lldp ttl chassis portId _ eee =>
    decide (ttl < 2 ^ 16) && decide (chassis < 2 ^ 48) && decide (portId < 2 ^ 48) &&
      eee.all (fun x => [x.transmit, x.receive, x.granted, x.echoTransmit, x.echoReceive].all (fun n => decide (n < 2 ^ 16)))
  | .arp _ senderIp senderMac targetIp =>
    decide (senderIp < 2 ^ 32) && decide (senderMac < 2 ^ 48) && decide (targetIp < 2 ^ 32)
  | .icmp _ source dest octets => decide (source < 2 ^ 32) && decide (dest < 2 ^ 32) && octetsWf octets
  | .udp source sourcePort dest destPort _ extra =>
    decide (source < 2 ^ 32) && decide (dest < 2 ^ 32) && decide (sourcePort < 2 ^ 16) &&
      decide (destPort < 2 ^ 16) && decide (extra < 4)
  | .ipOther => true
  | .ipBad => true
  | .pause => true
  | .other => true

/-- An Ethernet frame (R269). -/
def Frame.wf (f : Frame) : Bool :=
  decide (f.dest < 2 ^ 48) && decide (f.source < 2 ^ 48) && f.body.wf

/-- What a cassette shows (R339, R341): its mode is an octet. -/
def CassetteReport.wf (r : CassetteReport) : Bool := decide (r.mode < 256)

/-- What every link message carries (R392, R420). -/
def LinkHead.wf (h : LinkHead) : Bool := decide (h.counter < 2 ^ 64)

/-- A hello (R421). -/
def HelloMessage.wf (m : HelloMessage) : Bool :=
  decide (m.nonce < 2 ^ 128) && decide (m.serial < 2 ^ 64) && decide (m.ip < 2 ^ 32)

/-- A commit block names teams below 512, channels below 512 and remote teams 512 to 767 (R424). -/
def CommitBlock.wf (b : CommitBlock) : Bool :=
  b.teams.all (fun x => decide (x.1 < 512)) && b.channels.all (fun x => decide (x.1 < 512)) &&
    b.remotes.all (fun x => decide (512 ≤ x.1) && decide (x.1 < 768)) && b.latched.all (fun x => decide (x.1 < 512))

/-- An item of a state copy (R425): the parts it names exist. -/
def CopyItem.wf : CopyItem → Bool
  | .cell sid _ _ => decide (sid < 2 ^ 32)
  | .forces _ => true
  | .channelOverride ch _ => decide (ch < 512)
  | .teamOverride team _ => decide (team < 768)
  | .journal _ => true
  | .element id e _ => decide (id < 2 ^ 16) && decide (e < 2 ^ 16)
  | .fade team _ _ _ _ _ _ => decide (team < 512)
  | .residue ch _ _ => decide (ch < 512)
  | .acceptance bank _ _ _ => decide (bank < 16)
  | .prediction team _ => decide (team < 512)
  | .nodeCounters node _ => decide (node < 1024)
  | .queued rt _ _ => decide (rt < 256)
  | .chunk _ _ _ _ => true
  | .swap _ => true
  | .firmware _ _ _ _ => true
  | .full => true

/-- A key transfer (R396). -/
def KeyTransfer.wf : KeyTransfer → Bool
  | .load slot _ key _ => decide (slot < 64) && decide (key < 2 ^ 256)
  | .invalidate slot => decide (slot < 64)
  | .confirm => true

/-- The command names only parts that exist and its fields fit their widths. -/
def Instr.wellFormed (i : Instr) : Bool :=
  match i with
  | .cycleBoundary _ => true
  | .cellComplete _ core => decide (core < 8)
  | .backPressureWait _ source => decide (source < 9)
  | .cellOverlong _ core => decide (core < 8)
  | .cellParityError _ core => decide (core < 8)
  | .commit _ _ => true
  | .overrun _ => true
  | .housekeeping _ => true
  | .spineUnlock _ _ => true
  | .spineRelock _ => true
  | .tcxoLoss _ => true
  | .tcxoReturn _ => true
  | .bankPeriodStart _ bank => decide (bank < 16)
  | .lanePulseStart _ ch => decide (ch < 512)
  | .extraPeriodMark _ bank => decide (bank < 16)
  | .amplitudeEpoch _ ch => decide (ch < 512)
  | .emltRise _ => true
  | .emltFall _ => true
  | .emltRelease _ => true
  | .primaryTransaction _ bank lanes _ => decide (bank < 16) && lanes.all LaneBits.wf
  | .acknowledgement _ bank _ => decide (bank < 16)
  | .repeatTransaction _ bank _ => decide (bank < 16)
  | .readbackFrame _ bank _ => decide (bank < 16)
  | .decimatorSample _ ch bits => decide (ch < 512) && bits.wf
  | .streamStuck _ ch => decide (ch < 512)
  | .streamValidAgain _ ch => decide (ch < 512)
  | .zeroStale _ ch => decide (ch < 512)
  | .loopLimitWarning _ ch => decide (ch < 512)
  | .minuteClose _ => true
  | .meterTotalsRecord _ => true
  | .settingsRecord _ => true
  | .provingWindowExpiry _ ch => decide (ch < 512)
  | .cardFaultState _ bank => decide (bank < 16)
  | .derateBlind _ team => decide (team < 512)
  | .noTempTimeout _ team => decide (team < 512)
  | .trimUpdate _ team => decide (team < 512)
  | .trimLimitedWarning _ team => decide (team < 512)
  | .faultLineChange _ bank _ => decide (bank < 16)
  | .cardEnumeration _ bank _ ident => decide (bank < 16) && ident.all (fun x => decide (x < 2 ^ 16))
  | .enumerationRetry _ bank => decide (bank < 16)
  | .cardLost _ bank => decide (bank < 16)
  | .bankResume _ bank => decide (bank < 16)
  | .poleConflict _ => true
  | .forceExpiry _ => true
  | .warmRestartReady _ => true
  | .coldRestartReset _ _ failed => failed.all (fun x => decide (x < 8))
  | .enumerationWaitEnd _ => true
  | .packetDiscard _ _ => true
  | .unassignedOpcode _ _ => true
  | .sessionOpen _ _ _ => true
  | .sessionProve _ _ => true
  | .sessionClose _ _ => true
  | .result _ _ => true
  | .ping _ _ => true
  | .sessionList _ _ => true
  | .get _ _ => true
  | .set _ _ => true
  | .force _ _ => true
  | .release _ _ => true
  | .describe _ _ => true
  | .channelSet _ _ => true
  | .channelClear _ _ => true
  | .teamSet _ _ => true
  | .teamClear _ _ => true
  | .teamRead _ _ => true
  | .progLoad _ _ => true
  | .progSwap _ _ => true
  | .progRevert _ _ => true
  | .progConst _ _ => true
  | .progState _ _ => true
  | .progRead _ _ => true
  | .progRestart _ _ => true
  | .progUpload _ _ => true
  | .timeRead _ _ => true
  | .timeSet _ _ => true
  | .schedLoad _ _ => true
  | .schedRead _ _ => true
  | .wakeSet _ _ => true
  | .wbRead _ _ => true
  | .wbFreeze _ _ => true
  | .wbClear _ _ => true
  | .wbSnapset _ _ => true
  | .archiveInfo _ _ => true
  | .archiveRead _ _ => true
  | .meterTotals _ _ => true
  | .relayNodes _ _ => true
  | .relayPermit _ _ => true
  | .relayEvict _ _ => true
  | .keyInfo _ _ => true
  | .keyLoad _ _ => true
  | .keyInvalidate _ _ => true
  | .lifecycle _ _ => true
  | .updOpen _ _ => true
  | .updData _ _ => true
  | .updCommit _ _ => true
  | .updAbort _ _ => true
  | .updStatus _ _ => true
  | .tandemStatus _ _ => true
  | .tandemYield _ _ => true
  | .powerTolerance _ _ => true
  | .powerStatus _ _ => true
  | .testStart _ _ => true
  | .testRead _ _ => true
  | .testStop _ _ => true
  | .periodWrite _ _ => true
  | .staggerWrite _ _ => true
  | .teamSizeWrite _ _ => true
  | .dimModeWrite _ _ => true
  | .decimRatioWrite _ _ => true
  | .gainEstWrite _ _ => true
  | .vfRefWrite _ _ => true
  | .colourMethodWrite _ _ => true
  | .fluxReferenceRecompute _ _ => true
  | .sensorCalWrite _ _ => true
  | .cycleTimeWrite _ _ => true
  | .podZoneWrite _ _ => true
  | .edgeEndpointWrite _ _ => true
  | .edgeBoundsWrite _ _ => true
  | .edgeHeadingWrite _ _ => true
  | .edgeTauWrite _ _ => true
  | .hpEventClear _ _ => true
  | .ringModeWrite _ _ => true
  | .ipAddressWrite _ _ => true
  | .calendarWrite _ _ => true
  | .tzOffsetWrite _ _ => true
  | .wakePeriodWrite _ _ => true
  | .alarmWrite _ _ => true
  | .relayConfigWrite _ _ => true
  | .rtFallbackWrite _ _ => true
  | .tandemEnableWrite _ _ => true
  | .toleranceWrite _ _ => true
  | .ejectWrite _ _ => true
  | .adoptWrite _ _ => true
  | .snapsetWrite _ _ => true
  | .tamperCfgWrite _ _ => true
  | .tamperLatchClear _ _ => true
  | .updConfirmWrite _ _ => true
  | .updFallbackWrite _ _ => true
  | .switchNowWrite _ _ => true
  | .enterFarrierWrite _ _ => true
  | .spiNop _ octet => decide (octet < 256)
  | .spiWrite _ _ _ _ => true
  | .spiRead _ _ _ _ => true
  | .flushIn _ => true
  | .flushOut _ => true
  | .replyEnqueue _ _ => true
  | .replyDrop _ _ => true
  | .ticketExpiry _ sid _ => decide (sid < 2 ^ 32)
  | .sessionIdleClose _ sid => decide (sid < 2 ^ 32)
  | .provisionalTimeout _ sid => decide (sid < 2 ^ 32)
  | .proofLockoutEnd _ _ => true
  | .revokedIdentifierRelease _ sid => decide (sid < 2 ^ 32)
  | .frameReceive _ port _ f _ _ => decide (port < 2) && f.wf
  | .discoveryReply _ => true
  | .frameTransmit _ port => decide (port < 2)
  | .originatedFrameQueue _ => true
  | .linkUp _ port speed _ _ => decide (port < 2) && (decide (1 ≤ speed) && decide (speed < 4))
  | .linkDown _ port => decide (port < 2)
  | .halfDuplexRetry _ port => decide (port < 2)
  | .lpiEntry _ port => decide (port < 2)
  | .lldpSend _ port => decide (port < 2)
  | .lldpNeighbourExpiry _ port => decide (port < 2)
  | .supervisionSend _ => true
  | .nodeForget _ source => decide (source < 2 ^ 48)
  | .duplicateEntryForget _ source seq => decide (source < 2 ^ 48) && decide (seq < 2 ^ 16)
  | .reducedUplinkStep _ => true
  | .localSteer _ => true
  | .syncTimeout _ slot => decide (slot < 2)
  | .announceTimeout _ slot => decide (slot < 2)
  | .domainRevert _ => true
  | .holdoverExpiry _ => true
  | .ptpRequestSend _ slot port => decide (slot < 2) && decide (port < 2)
  | .txTimestamp _ => true
  | .calendarSecond _ => true
  | .rtcTrimWindow _ _ => true
  | .wakeTimerExpiry _ => true
  | .alarmFire _ alarm => decide (alarm < 8)
  | .retentionLoss _ => true
  | .relaySlot _ => true
  | .uplinkFrame _ f => f.wf
  | .hitchRequest _ h => h.wf
  | .floodReceive _ f => f.wf
  | .fragmentTimeout _ node => decide (node < 1024)
  | .joinWindowClose _ => true
  | .contextForget _ node => decide (node < 1024)
  | .nodeSilent _ node => decide (node < 1024)
  | .parentBeacon _ node pan _ _ => decide (node < 1024) && decide (pan < 2 ^ 16)
  | .parentBeaconsMissed _ => true
  | .keyGenerationChange _ => true
  | .relayConfigApply _ => true
  | .cassetteDetect _ c => decide (c < 2)
  | .cassettePowerOn _ c report => decide (c < 2) && report.wf
  | .cassetteRemoved _ c => decide (c < 2)
  | .resilverUnitCopy _ c => decide (c < 2)
  | .writeComplete _ _ c => decide (c < 2)
  | .programFailure _ c _ => decide (c < 2)
  | .readComplete _ c region _ _ _ _ _ => decide (c < 2) && decide (region < 9)
  | .mapCheckpoint _ c => decide (c < 2)
  | .patrolScrub _ c _ _ => decide (c < 2)
  | .retentionAgeUpdate _ _ => true
  | .wearMove _ c _ _ => decide (c < 2)
  | .fold _ => true
  | .heldWritesRelease _ => true
  | .freezeAutoRelease _ => true
  | .keyCommit _ => true
  | .invalidationCommit _ => true
  | .tamperDetect _ input _ => decide (input < 2)
  | .stagingEraseDone _ => true
  | .commitVerifyDone _ => true
  | .imageSwitch _ => true
  | .wheelerImageValid _ h => h.wf
  | .probationEnd _ => true
  | .firstCommitTimeout _ => true
  | .watchdogReset _ => true
  | .updateIdleAbort _ => true
  | .heartbeatSend _ => true
  | .ringHeartbeatSend _ => true
  | .heartbeatReceive _ h role state status cycles =>
    h.wf && decide (role < 256) && decide (state < 256) && decide (status < 2 ^ 16) && decide (cycles < 2 ^ 32)
  | .linkPathLost _ => true
  | .ringPathLost _ => true
  | .witnessRequestSend _ => true
  | .contestEnd _ => true
  | .takeoverPoleRaise _ => true
  | .timeMark _ h _ _ => h.wf
  | .linkDelayMeasure _ _ => true
  | .boundaryMark _ h _ => h.wf
  | .commitBlockReceive _ h block => h.wf && block.wf
  | .stateCopyReceive _ h _ _ items => h.wf && items.all CopyItem.wf
  | .copyAck _ h _ => h.wf
  | .hello _ h m => h.wf && m.wf
  | .lanesTrained _ => true
  | .pairingComplete _ => true
  | .keyTransferReceive _ h k => h.wf && k.wf
  | .keyTransferTimeout _ => true
  | .yieldRelease _ h => h.wf
  | .powerOn _ _ _ failed => failed.all (fun x => decide (x < 8))
  | .powerReturn _ _ _ _ _ failed => failed.all (fun x => decide (x < 8))
  | .shedStepEnter _ _ => true
  | .standDown _ => true
  | .shedStepLeave _ _ => true
  | .brownoutReset _ => true
  | .wakeRequest _ failed => failed.all (fun x => decide (x < 8))
  | .sleepDeadline _ failed => failed.all (fun x => decide (x < 8))
  | .flushWake _ => true
  | .coreFloorRaise _ _ => true
  | .rstNLow _ => true
  | .rstNHigh _ _ failed => failed.all (fun x => decide (x < 8))
  | .testSyncTimeout _ bank => decide (bank < 16)
  | .testFrameTimeout _ port => decide (port < 2)
  | .storageTestPass _ c _ _ _ => decide (c < 2)
  | .tapReset _ => true
  | .bypass _ _ => true
  | .idcode _ _ => true
  | .samplePreload _ _ _ => true
  | .extest _ _ _ => true
  | .clamp _ _ => true
  | .highz _ _ => true
  | .servicePortReceive _ _ => true
  | .servicePortTransmit _ _ => true
  | .tandemLaneLoss _ lane => decide (lane < 2)
  | .patternCheckerSync _ link _ _ => decide (link < 42)
  | .patternCheckerSyncLoss _ link _ _ => decide (link < 42)
  | .linkLocalProbe _ => true
  | .d0SupplyChangeover _ _ => true
  | .rngHealthFailure _ => true
end Sys2Proof
end

