-- ==== Sys2Proof/Safety.lean ====
section
/-! DEFINITION.  What counts as a safe run, in the terms statements use: the canonical form of the parameter
store, the rule of HOLD_N, and the outcome of a step. -/

namespace Sys2Proof.Machine

open Sys2Proof

/-- The parameter store is in canonical form: keys strictly rising, and no element listed with the value an
unlisted one reads as. -/
def paramsCanonical (l : List (Nat × Word)) : Prop :=
  l.Pairwise (fun a b => a.1 < b.1) ∧ ∀ c ∈ l, c.2 ≠ defaultWord (c.1 / 65536) (c.1 % 65536)

/-- HOLD_N obeys R232 and R485: low while the module is unpowered or held in reset and for 10 µs after D1 powers up;
otherwise low when the inbound fill of the host port has reached cmd.hp_hi_wm, and high when it is at or below cmd.hp_lo_wm and has not
reached cmd.hp_hi_wm. -/
def State.HoldRule (s : State) : Prop :=
  if s.holdForced then s.bridle.holdLow = true
  else
    (s.p Pid.cmdHpHiWm ≤ s.bridle.hostIn.length → s.bridle.holdLow = true) ∧
    (s.bridle.hostIn.length < s.p Pid.cmdHpHiWm → s.bridle.hostIn.length ≤ s.p Pid.cmdHpLoWm →
      s.bridle.holdLow = false)

/-! ### Accepted packets -/

/-- The request that a packet makes in a session (R223, R226). -/
def Packet.request (p : Packet) (k : Session) : Request :=
  let h := headerOf p.data
  ⟨p.source, h.session, h.seq, k.role, h.opcode, h.ticket, (p.data.drop 3).take h.length, p.broadcast⟩

/-- The state without the packet, which is counted (R226). -/
def State.taken (s : State) (tr : Transport) : State := (s.dropPacket tr).bump Pid.cmdRxPackets tr.index

/-- The command uses a ticket (R243): its number is not 0 and it is not RESULT, which reads one. -/
def Packet.usesTicket (p : Packet) : Bool :=
  decide ((headerOf p.data).ticket ≠ 0) && decide ((headerOf p.data).opcode ≠ 0x03)

/-- An accepted packet is taken and counted, its sequence noted, and a tag check counted (R226, R242). -/
def State.note (s : State) (tr : Transport) (p : Packet) (k : Session) (gaps : Nat) : State :=
  let h := headerOf p.data
  let s := (s.taken tr).bump Pid.cmdSeqGaps tr.index gaps
  let s := if h.tagged && k.slot != 0xFF then s.keyUse .tagCheck tr.master k.slot else s
  s.modifySession k.id (fun k => { k with highest := some h.seq, lastAccept := s.now })

/-- The state in which an accepted packet's opcode acts (R226, R242, R243): its ticket, if it uses one, is open. -/
def State.letIn (s : State) (tr : Transport) (p : Packet) (k : Session) (gaps : Nat) : State :=
  let q := p.request k
  if p.usesTicket then (s.note tr p k gaps).modifySession q.session (fun k => k.putTicket ⟨q.ticket, none, false⟩)
  else s.note tr p k gaps

/-- The packet at the front of a transport's queue belongs to a row of the command table and passes checks 1 to
13 of R226 in session `k`, and the service core may interpret it now. -/
structure Accepted (s : State) (tr : Transport) (row : PacketRow) (kindOf : Request → OpKind) (p : Packet)
    (k : Session) (gaps : Nat) : Prop where
  awake : s.awake = true
  room : s.replyWaits tr = false
  turn : s.onTurn tr = true
  front : s.frontPacket tr = some p
  transport : p.source.transport = tr
  row_eq : p.row = row
  known : s.session (headerOf p.data).session = some k
  passes : (s.taken tr).verdict p = .accept (some k) gaps
  role : ∃ r, opcodeInfo (headerOf p.data).opcode = some r ∧ r.1 ≤ k.role
  mode : (s.farrier && !farrierOpcode (headerOf p.data).opcode) = false
  ticket : ticketFailure k (headerOf p.data).opcode (headerOf p.data).ticket (kindOf (p.request k)) = none

/-- What follows the effect of an accepted packet's opcode (R224, R242, R245): an immediate result goes under
its ticket, and the reply is recorded and sent. -/
def State.conclude (a : State) (ans : Answer) (tr : Transport) (p : Packet) (k : Session) : State :=
  let q := p.request k
  let h := headerOf p.data
  let x : Result × State := match ans with
    | .later => (fail stPending, a)
    | .done r => (r, if p.usesTicket then
        a.modifySession q.session (fun k => k.putTicket ⟨q.ticket, some (a.now, r), true⟩)
      else a)
  let key := if k.slot ≠ 0xFF ∧ (h.tagged ∨ h.opcode = 0x01) then some k.key else none
  let s := if key.isSome then x.2.keyUse .tagMake tr.master k.slot else x.2
  s.reply q key (p.data.getLastD 0) x.1

/-- The command goes on to a state of which `P` holds. -/
def Completes (c : Instr) (s : State) (P : State → Prop) : Prop := ∃ u, exec c s = .next u ∧ P u

/-- The command's whole effect is to bring about `v`: the clock stands at the command's instant or later, HOLD_N
settles, and the queue of waiting commands stays. -/
def EffectIs (c : Instr) (t : Nat) (s v : State) : Prop :=
  exec c s = .next ({ v with now := max s.now t, pending := s.pending } : State).settleHold

/-- The session has answered the request with a result: its newest record holds that reply (R224, R242). -/
def Replied (u : State) (q : Request) (r : Result) : Prop :=
  ∃ k x, u.session q.session = some k ∧ k.recorded.head? = some x ∧ x.seq = q.seq ∧ x.opcode = q.opcode ∧
    x.ticket = q.ticket ∧ x.reply = (fitReply q.limit r).payload

/-- The command waits among the boundary commands, after those that waited, with its acceptance stamp (R22). -/
def Queued (s u : State) (t : Nat) (q : Request) : Prop :=
  u.bridle.boundary = s.bridle.boundary ++
    [⟨(s.at_ t).count, q.source, q.session, q.role, q.opcode, q.ticket, q.payload⟩]

/-- An accepted packet of a row is answered as `ans` says, for every packet and session of which `hyp` holds
(`hyp` and `ans` see the request and the state in which its opcode acts): `ans` gives the result, or that it comes
later, and the state that the opcode leaves; the command's whole effect is that the packet is taken and counted,
that state comes about, and the reply is recorded and sent. -/
def Answers (c : Instr) (t : Nat) (s : State) (tr : Transport) (row : PacketRow) (kindOf : Request → OpKind)
    (hyp : Request → State → Prop) (ans : Request → State → Answer × State) : Prop :=
  ∀ (p : Packet) (k : Session) (gaps : Nat), Accepted (s.at_ t) tr row kindOf p k gaps →
    hyp (p.request k) ((s.at_ t).letIn tr p k gaps) →
    EffectIs c t s
      ((ans (p.request k) ((s.at_ t).letIn tr p k gaps)).2.conclude
        (ans (p.request k) ((s.at_ t).letIn tr p k gaps)).1 tr p k)

/-- As `Answers`, and once the reply is recorded and sent, `post` follows. -/
def AnswersThen (c : Instr) (t : Nat) (s : State) (tr : Transport) (row : PacketRow) (kindOf : Request → OpKind)
    (hyp : Request → State → Prop) (ans : Request → State → Answer × State) (post : State → State) : Prop :=
  ∀ (p : Packet) (k : Session) (gaps : Nat), Accepted (s.at_ t) tr row kindOf p k gaps →
    hyp (p.request k) ((s.at_ t).letIn tr p k gaps) →
    EffectIs c t s (post
      ((ans (p.request k) ((s.at_ t).letIn tr p k gaps)).2.conclude
        (ans (p.request k) ((s.at_ t).letIn tr p k gaps)).1 tr p k))

/-- A result given at once, with no other effect. -/
def gives (f : Request → State → Result) (q : Request) (a : State) : Answer × State := (.done (f q a), a)

/-- The parameter, the first element and the values that a SET names (R246). -/
def setId (q : Request) : Nat := bits (nth q.payload 0) 31 16
def setFirst (q : Request) : Nat := bits (nth q.payload 0) 15 0
def setVals (q : Request) : List Word := q.payload.drop 2

/-- An acceptable SET of a parameter: its identifier is that, and it meets no failure (R12, R246). -/
def isSet (id : Nat) (q : Request) (a : State) : Prop := setId q = id ∧ a.setFailure q = none

/-- An immediate SET is answered ST_OK and leaves the elements written, and then what `f` makes of that. -/
def writes (f : Request → State → State) (q : Request) (a : State) : Answer × State :=
  (.done (ok), f q (a.setWrite (setId q) (setFirst q) (setVals q)))

/-- A step went on: it ended neither in a fault nor in a refusal. -/
def goesOn : Host.Outcome State Fault Refusal → Prop
  | .next _ => True
  | .fault _ => False
  | .refused _ => False

end Sys2Proof.Machine
end

