-- ==== Sys2Proof/Certificates/Slice0/Obligations.lean ====
section
/-! DEFINITION.  The statements for the provers: what the block's commands do, from the numbered rules. -/

open Sys2Proof Sys2Proof.Machine

/-- A step runs the command at the front of the queue on the state whose queue is the rest (the queue is the
model's own, assumption 1). -/
def Obligations.StepRunsFront : Prop :=
  ∀ (c : Instr) (rest : List Instr) (s : State),
    step { s with pending := c :: rest } = exec c { s with pending := rest }

/-- With no command waiting a step changes nothing (the model's choice, assumption 1). -/
def Obligations.IdleStep : Prop :=
  ∀ s : State, s.pending = [] → step s = .next s

/-- As many steps as commands wait run them all: none ends in a fault or a refusal, whatever the state and the
operands, and time does not go back. -/
def Obligations.QueueRunsToItsEnd : Prop :=
  ∀ s : State, ∃ u : State, Sys2Proof.core.run s.pending.length s = .next u ∧ u.pending = [] ∧ s.now ≤ u.now

/-- A step takes the front of the queue and never sets the clock back (the queue is the model's own,
assumption 1). -/
def Obligations.StepClockAndQueue : Prop :=
  ∀ s u : State, step s = .next u → u.pending = s.pending.tail ∧ s.now ≤ u.now

/-- HOLD_N obeys its rule in every state that a step reaches from a state in which it does (R232, R485). -/
def Obligations.StepKeepsHoldRule : Prop :=
  ∀ s u : State, s.HoldRule → step s = .next u → u.HoldRule

/-- HOLD_N obeys its rule after reset (R232, R485). -/
def Obligations.ResetHoldRule : Prop := State.reset.HoldRule

/-- An element of the parameter store reads as written, every other element as before, and the canonical form is
kept. -/
def Obligations.StoreReadsBack : Prop :=
  ∀ (s : State) (id e : Nat) (v : Word), e < 65536 →
    (s.setW id e v).w id e = v ∧
    (∀ jd d : Nat, d < 65536 → (jd, d) ≠ (id, e) → (s.setW id e v).w jd d = s.w jd d) ∧
    (paramsCanonical s.params → paramsCanonical (s.setW id e v).params)

/-- After reset every element holds its row's cold value, and nothing is queued or open.  Where the cold column says
*kept* the value is the model's choice (assumption 5), as is the instant that `State.reset` stands for (assumption 6). -/
def Obligations.ResetReadsCold : Prop :=
  (∀ id e : Nat, State.reset.w id e = defaultWord id e) ∧ paramsCanonical State.reset.params ∧
  State.reset.p Pid.pwrCoreMv = 900 ∧ State.reset.p Pid.pwrStateFloor = 4 ∧ State.reset.p Pid.cmdHpEventMask = 0x0F ∧
  State.reset.p Pid.pwrResetMv = 12000 ∧ State.reset.p Pid.tdmHbLinkUs = 500 ∧
  State.reset.bridle.sessions = [] ∧ State.reset.bridle.hostIn = [] ∧ State.reset.bridle.hostOut = [] ∧
  State.reset.spineLocked = true ∧ State.reset.pending = []

/-- No word spells a command: the table gives no row any bits. -/
def Obligations.NoWordSpellsACommand : Prop :=
  ∀ (nbits w : Nat) (s : State), decodeTableWord nbits w = none ∧ s.withFetchWord nbits w = s

/-- The commands of the cycle: CYCLE_BOUNDARY, OVERRUN, COMMIT, HOUSEKEEPING and FORCE_EXPIRY (R18, R24 to R26,
R187). -/
def Obligations.CycleCommands : Prop :=
  (∀ (t : Nat) (s : State), (s.at_ t).boundaryDue = true →
    EffectIs (.cycleBoundary t) t s (s.at_ t).stepOne) ∧
  (∀ (t : Nat) (s : State), (s.at_ t).boundaryDue = false → (s.at_ t).firstBoundary = true →
    EffectIs (.cycleBoundary t) t s
      ((s.at_ t).withPower (fun p => { p with phase := .running, phaseSince := (s.at_ t).now })).stepOne) ∧
  (∀ (t : Nat) (s : State), (s.at_ t).boundaryDue = false → (s.at_ t).firstBoundary = false →
    EffectIs (.cycleBoundary t) t s (s.at_ t)) ∧
  (∀ (t a : Nat) (s : State), s.prog.phase ≠ .idle → s.prog.late = false → s.prog.nextAt = some a →
    a ≤ max s.now t → Completes (.overrun t) s (fun u =>
      u.prog.late = true ∧ u.w Pid.progOverruns 0 = s.w Pid.progOverruns 0 + 1 ∧
      u.power.overrunAt = some (max s.now t))) ∧
  (∀ (t speed : Nat) (s : State), s.prog.phase = .quiescent → s.power.phase = .running →
    EffectIs (.commit t speed) t s
      (if ((s.at_ t).commitCycle speed).boundaryDue then ((s.at_ t).commitCycle speed).stepOne
       else (s.at_ t).commitCycle speed)) ∧
  (∀ (t : Nat) (s : State) (r : CommittedRecord) (rest : List CommittedRecord),
    s.awake = true → s.prog.records = r :: rest → (rest = [] → s.prog.copyEnds ≤ max s.now t) →
    EffectIs (.housekeeping t) t s
      (let v := (((s.at_ t).withProg (fun p => { p with records := rest })).housekeep r).takeFrames
       if rest.isEmpty then v.sleepNow else v)) ∧
  (∀ (t : Nat) (s : State), (s.at_ t).boundaryDue = true → Completes (.forceExpiry t) s (fun u =>
    u.prog.forces = s.prog.forces.filter (fun f => match f.until_ with
      | some a => decide (max s.now t < a)
      | none => true)))

/-- The commands of the rein graph: CELL_COMPLETE, CELL_PARITY_ERROR, CELL_OVERLONG and BACK_PRESSURE_WAIT (R161,
R164, R167). -/
def Obligations.GraphCommands : Prop :=
  (∀ (t core i : Nat) (s : State), s.jobOf core = some i →
    EffectIs (.cellComplete t core) t s
      (((((s.at_ t).execute i).completeOn core i).freeCore core).graphSettle)) ∧
  (∀ (t core i : Nat) (s : State), s.jobOf core = some i →
    EffectIs (.cellParityError t core) t s
      (((((s.at_ t).failCell i 0).completeOn core i).freeCore core).graphSettle)) ∧
  (∀ (t core i : Nat) (s : State), s.jobOf core = some i → (s.core_ core).since + 2 * ms < max s.now t →
    EffectIs (.cellOverlong t core) t s
      (((((s.at_ t).failCell i 1).completeOn core i).freeCore core).graphSettle)) ∧
  (∀ (t a : Nat) (s : State), s.prog.phase = .graph → s.prog.tokenWait = some a →
    EffectIs (.backPressureWait t 0) t s (((s.at_ t).resumeSource .raiser a s.prog.tokens).graphSettle)) ∧
  (∀ (t core a : Nat) (s : State), s.prog.phase = .graph → core < 8 → (s.core_ core).waitFrom = some a →
    EffectIs (.backPressureWait t (core + 1)) t s
      (((s.at_ t).resumeSource (.core core) a (s.core_ core).raises).graphSettle))

/-- A cell that fails keeps its values with their valid bits clear, and no other cell changes (R167). -/
def Obligations.FailedCellIsHeldInvalid : Prop :=
  ∀ (s : State) (i how : Nat), i < s.prog.runs.length →
    ((s.failCell i how).cellRun i).outs.map (fun o => o.v) = ((s.cellRun i).outs).map (fun o => o.v) ∧
    (∀ o ∈ ((s.failCell i how).cellRun i).outs, o.valid = false) ∧
    ((s.failCell i how).cellRun i).seen = none ∧
    ∀ j : Nat, j ≠ i → (s.failCell i how).cellRun j = s.cellRun j

/-- The commands of a restart: WARM_RESTART_READY, COLD_RESTART_RESET, TCXO_RETURN and ENUMERATION_WAIT_END (R15,
R202). -/
def Obligations.RestartCommands : Prop :=
  (∀ (t : Nat) (s : State), s.power.phase = .reloading → EffectIs (.warmRestartReady t) t s (s.at_ t).warmReady) ∧
  (∀ (t vin : Nat) (failed : List Nat) (s : State), s.power.phase = .stopping → (s.at_ t).banksWaited = true →
    EffectIs (.coldRestartReset t vin failed) t s
      ((s.at_ t).coldReset (s.at_ t).coldCause vin false failed none)) ∧
  (∀ (t c : Nat) (s : State), s.tcxoStopped = some c →
    s.power.phase ∈ [.running, .enumerating, .reloading, .farrier, .stopping] → Completes (.tcxoReturn t) s (fun u =>
      u.tcxoStopped = none ∧ u.tickBase = max s.now t - c * tcxoPeriod ∧ u.power.phase = .stopping ∧
      u.power.phaseSince = max s.now t)) ∧
  (∀ (t c : Nat) (s : State), s.tcxoStopped = some c →
    s.power.phase ∉ [.running, .enumerating, .reloading, .farrier, .stopping] → Completes (.tcxoReturn t) s (fun u =>
      u.tcxoStopped = none ∧ u.tickBase = max s.now t - c * tcxoPeriod ∧ u.power = s.power)) ∧
  (∀ (t : Nat) (s : State), (s.at_ t).enumerationOver = true →
    EffectIs (.enumerationWaitEnd t) t s
      (let v := (s.at_ t).withPower (fun p => { p with phase := .running, phaseSince := (s.at_ t).now })
       if s.wheeler then v else v.resumeCycles))

/-- SPINE_UNLOCK, SPINE_RELOCK and TCXO_LOSS (R14, R15). -/
def Obligations.SpineCommands : Prop :=
  (∀ (t error : Nat) (s : State), s.spineLocked = true → Completes (.spineUnlock t error) s (fun u =>
    u.spineLocked = false ∧ ∀ b : Nat, b < 16 →
      (u.bd b).stopping = (s.bd b).running ∧ (u.bd b).resuming = false ∧ (u.bd b).running = (s.bd b).running)) ∧
  (∀ (t : Nat) (s : State), s.spineLocked = false → s.tcxoStopped = none → Completes (.spineRelock t) s (fun u =>
    u.spineLocked = true ∧ ∀ b : Nat, b < 16 → s.drive.firstCommit = false →
      ((s.bd b).running && !(s.bd b).stopping) = false → (u.bd b).resuming = true)) ∧
  (∀ (t : Nat) (s : State), s.tcxoStopped = none → Completes (.tcxoLoss t) s (fun u =>
    u.tcxoStopped = some ((s.at_ t).count) ∧ ∀ b : Nat, b < 16 →
      (u.bd b).stopping = (s.bd b).running ∧ (u.bd b).resuming = false))

/-- EMLT_RISE, EMLT_FALL and EMLT_RELEASE (R52, R54, R487). -/
def Obligations.EmltCommands : Prop :=
  (∀ (t : Nat) (s : State), s.drive.emlt = false → s.domainOn 1 = true → Completes (.emltRise t) s (fun u =>
    u.drive.emlt = true ∧ u.drive.emltLow = none ∧ ∀ b : Nat, u.rung1 b = true)) ∧
  (∀ (t : Nat) (s : State), s.drive.emlt = false → s.domainOn 1 = false →
    EffectIs (.emltRise t) t s ((s.at_ t).withDrive (fun d => { d with emlt := true }))) ∧
  (∀ (t : Nat) (s : State), s.drive.emlt = true → s.domainOn 1 = true → Completes (.emltFall t) s (fun u =>
    u.drive.emlt = false ∧ u.drive.emltLow = some (max s.now t) ∧ u.drive.emltHeld = s.drive.emltHeld)) ∧
  (∀ (t a : Nat) (s : State), s.drive.emltLow = some a → s.drive.emltHeld = true →
    a + s.p Pid.drvEmltReleaseUs * us ≤ max s.now t → Completes (.emltRelease t) s (fun u =>
      u.drive.emltHeld = false ∧ u.drive.emltLow = none ∧
      ∀ b : Nat, b < 16 → u.rung1 b = (s.bd b).running))

/-- BANK_PERIOD_START, LANE_PULSE_START, EXTRA_PERIOD_MARK and AMPLITUDE_EPOCH (R35, R37, R43). -/
def Obligations.DriveCommands : Prop :=
  (∀ (t bank : Nat) (s : State), bank < 16 → (s.bd bank).running = true → s.nextPeriod bank ≤ max s.now t →
    (s.bd bank).stopping = false → (s.bd bank).change = false →
    EffectIs (.bankPeriodStart t bank) t s ((s.at_ t).periodStart bank (s.nextPeriod bank))) ∧
  (∀ (t bank : Nat) (s : State), bank < 16 → (s.bd bank).running = true → s.nextPeriod bank ≤ max s.now t →
    (s.bd bank).stopping = true →
    EffectIs (.bankPeriodStart t bank) t s ((s.at_ t).stopBank bank (s.nextPeriod bank))) ∧
  (∀ (t bank : Nat) (s : State), bank < 16 → (s.bd bank).running = true → s.nextPeriod bank ≤ max s.now t →
    (s.bd bank).stopping = false → (s.bd bank).change = true →
    EffectIs (.bankPeriodStart t bank) t s
      (let v := (s.at_ t).changePeriod bank (s.nextPeriod bank)
       if v.nextPeriod bank = s.nextPeriod bank then v.periodStart bank (s.nextPeriod bank) else v)) ∧
  (∀ (t ch a : Nat) (s : State), ch < 512 → (s.at_ t).laneStart ch = some a → s.teamAt ch = none →
    EffectIs (.lanePulseStart t ch) t s
      ((s.at_ t).emit ch a
        (if s.rung1 (ch / 32) ∧ (s.p Pid.drvEmltMask (ch / 32)).testBit (ch % 32) then (s.bd (ch / 32)).period else 0) 0)) ∧
  (∀ (t ch a team : Nat) (s : State), ch < 512 → (s.at_ t).laneStart ch = some a → s.teamAt ch = some team →
    EffectIs (.lanePulseStart t ch) t s ((s.at_ t).lanePulse ch a team)) ∧
  (∀ (t bank : Nat) (e : ExtraMarks) (s : State), bank < 16 → (s.bd bank).extra = some e →
    (s.bd bank).running = true → e.next ≤ max s.now t → Completes (.extraPeriodMark t bank) s (fun u =>
      (u.bd bank).extra = some { e with next := e.next + e.period })) ∧
  (∀ (t ch : Nat) (a : SentAmp) (s : State), ch < 512 → (s.at_ t).epochDue ch = true → (s.cd ch).sent = some a →
    Completes (.amplitudeEpoch t ch) s (fun u =>
      u.w Pid.drvOutAmp ch = word a.amp ∧ (u.cd ch).setpoint = a.setpoint ∧ (u.cd ch).darkAmp = a.dark ∧
      (u.cd ch).sent = (s.cd ch).queued ∧ (u.cd ch).queued = none))

/-- An accepted boundary command waits for the next boundary, with its acceptance stamp (R22, R246, R247). -/
def Obligations.BoundaryOpcodesWait : Prop :=
  ∀ (t : Nat) (tr : Transport) (s : State),
  Answers (.force t tr) t s tr (.opcode 0x12) (fun _ => .boundary) (fun q a => a.wheeler = false ∧
    (q.payload.length = 4 ∨ q.payload.length = 8) ∧ bits (nth q.payload 1) 29 0 = 0 ∧ (nth q.payload 2).toNat ≤ 604800)
    enqueueBoundary ∧
  Answers (.force t tr) t s tr (.opcode 0x12) (fun _ => .boundary) (fun q a => a.wheeler = false ∧
    (q.payload.length = 4 ∨ q.payload.length = 8) ∧ bits (nth q.payload 1) 29 0 = 0 ∧ 604800 < (nth q.payload 2).toNat)
    (gives (fun _ _ => fail stRange 2)) ∧
  Answers (.release t tr) t s tr (.opcode 0x13) (fun _ => .boundary) (fun q a => a.wheeler = false ∧
    q.payload.length = 2 ∧ bits (nth q.payload 1) 29 0 = 0) enqueueBoundary ∧
  Answers (.channelSet t tr) t s tr (.opcode 0x20) (fun _ => .boundary) (fun q a => a.wheeler = false ∧
    1 ≤ bits (nth q.payload 0) 15 0 ∧ bits (nth q.payload 0) 31 16 % 32 + bits (nth q.payload 0) 15 0 ≤ 32 ∧
    bits (nth q.payload 0) 31 16 < 512 ∧ q.payload.length = 2 + bits (nth q.payload 0) 15 0 ∧
    ∀ w ∈ q.payload.drop 2, w.toNat < 65536) enqueueBoundary ∧
  Answers (.channelClear t tr) t s tr (.opcode 0x21) (fun _ => .boundary) (fun q a => a.wheeler = false ∧
    q.payload.length = 1 ∧ (bits (nth q.payload 0) 31 16 = 0xFFFF ∨ (1 ≤ bits (nth q.payload 0) 15 0 ∧
      bits (nth q.payload 0) 31 16 % 32 + bits (nth q.payload 0) 15 0 ≤ 32 ∧ bits (nth q.payload 0) 31 16 < 512)))
    enqueueBoundary ∧
  Answers (.teamSet t tr) t s tr (.opcode 0x22) (fun _ => .boundary) (fun q a => a.wheeler = false ∧
    q.payload.length = 6 ∧ (nth q.payload 0).toNat < 768 ∧ bits (nth q.payload 1) 15 8 ≤ 1 ∧
    bits (nth q.payload 1) 7 0 = 0) enqueueBoundary ∧
  Answers (.teamClear t tr) t s tr (.opcode 0x23) (fun _ => .boundary) (fun q a => a.wheeler = false ∧
    q.payload.length = 1 ∧ ((nth q.payload 0).toNat < 768 ∨ nth q.payload 0 = 0xFFFF)) enqueueBoundary ∧
  Answers (.progConst t tr) t s tr (.opcode 0x33) (fun _ => .boundary) (fun q a => a.wheeler = false ∧
    q.payload.length = 3 ∧ bits (nth q.payload 1) 30 8 = 0) enqueueBoundary ∧
  Answers (.progState t tr) t s tr (.opcode 0x34) (fun _ => .boundary) (fun q a => a.wheeler = false ∧
    q.payload.length = 2) enqueueBoundary ∧
  Answers (.force t tr) t s tr (.opcode 0x12) (fun _ => .boundary) (fun _ a => a.wheeler = true)
    (gives (fun _ _ => fail stRefusedState)) ∧
  Answers (.release t tr) t s tr (.opcode 0x13) (fun _ => .boundary) (fun _ a => a.wheeler = true)
    (gives (fun _ _ => fail stRefusedState)) ∧
  Answers (.channelSet t tr) t s tr (.opcode 0x20) (fun _ => .boundary) (fun _ a => a.wheeler = true)
    (gives (fun _ _ => fail stRefusedState)) ∧
  Answers (.teamSet t tr) t s tr (.opcode 0x22) (fun _ => .boundary) (fun _ a => a.wheeler = true)
    (gives (fun _ _ => fail stRefusedState))

/-- Swaps, restarts, schedules, tests and yields wait for the boundary (R247). -/
def Obligations.MoreBoundaryOpcodesWait : Prop :=
  ∀ (t : Nat) (tr : Transport) (s : State),
  Answers (.progSwap t tr) t s tr (.opcode 0x31) (fun _ => .boundary) (fun q a => a.wheeler = false ∧
    a.storageUp = true ∧ q.payload.length = 1) enqueueBoundary ∧
  Answers (.progSwap t tr) t s tr (.opcode 0x31) (fun _ => .boundary) (fun _ a => a.wheeler = false ∧
    a.storageUp = false) (gives (fun _ _ => fail stNotCommitted)) ∧
  Answers (.progRestart t tr) t s tr (.opcode 0x36) (fun _ => .boundary) (fun q a => q.payload.length = 1 ∧
    (nth q.payload 0).toNat ≤ 1 ∧ (nth q.payload 0 = 0 → 3 ≤ q.role) ∧ a.p Pid.updState = 0) enqueueBoundary ∧
  Answers (.progRestart t tr) t s tr (.opcode 0x36) (fun _ => .boundary) (fun q _ => q.payload.length = 1 ∧
    nth q.payload 0 = 0 ∧ q.role < 3) (gives (fun _ _ => fail stAuth 4)) ∧
  Answers (.schedLoad t tr) t s tr (.opcode 0x42) (fun _ => .boundary) (fun q _ =>
    1 ≤ q.payload.length ∧ q.payload.length ≤ 129 ∧ bits (nth q.payload 0) 31 8 = 0 ∧
    schedBad 1 (q.payload.drop 1) = none) enqueueBoundary ∧
  Answers (.testStart t tr) t s tr (.opcode 0xC0) (fun _ => .boundary) (fun q a => q.payload.length = 2 ∧
    a.testFailure q.payload = none) enqueueBoundary ∧
  Answers (.testStop t tr) t s tr (.opcode 0xC2) (fun _ => .boundary) (fun q _ => q.payload.length = 1 ∧
    (linkOf (nth q.payload 0)).isSome = true) enqueueBoundary ∧
  Answers (.tandemYield t tr) t s tr (.opcode 0xA1) (fun _ => .boundary) (fun q a => q.payload.length = 0 ∧
    a.yieldRefusal = none) enqueueBoundary ∧
  (∀ n : Nat, Answers (.tandemYield t tr) t s tr (.opcode 0xA1) (fun _ => .boundary) (fun q a =>
    q.payload.length = 0 ∧ a.yieldRefusal = some n) (gives (fun _ _ => fail stRefusedState n)))

/-- What SESSION_PROVE, SESSION_CLOSE, RESULT, PING and SESSION_LIST answer (R237, R243, R247). -/
def Obligations.SessionOpcodes : Prop :=
  ∀ (t : Nat) (tr : Transport) (s : State),
  (∀ k : Session, Answers (.sessionProve t tr) t s tr (.opcode 0x01) (fun _ => .immediate) (fun q a =>
    a.session q.session = some k ∧ k.proved = false ∧ k.slot = 0xFF ∧ q.payload.length = 8 ∧
    q.payload = k.proof (a.sessionSlotKey k.slot k.role))
    (fun _ a => (.done (ok), a.modifySession k.id (fun k => { k with proved := true })))) ∧
  (∀ k : Session, Answers (.sessionProve t tr) t s tr (.opcode 0x01) (fun _ => .immediate) (fun q a =>
    a.session q.session = some k ∧ k.proved = false ∧ k.slot = 0xFF ∧ q.payload.length = 8 ∧
    q.payload ≠ k.proof (a.sessionSlotKey k.slot k.role))
    (fun q a => (.done (fail stAuth), (a.keyCount .prove 1 q.source.transport.master).proofFailed q.source.transport))) ∧
  (∀ k : Session, Answers (.sessionProve t tr) t s tr (.opcode 0x01) (fun _ => .immediate) (fun q a =>
    a.session q.session = some k ∧ k.proved = true ∧ q.payload.length = 8)
    (gives (fun _ _ => fail stRefusedState 3))) ∧
  Answers (.sessionClose t tr) t s tr (.opcode 0x02) (fun _ => .immediate) (fun q _ => q.payload.length = 0)
    (fun q a => (.done (ok), a.closeSession q.session)) ∧
  (∀ (tk : Ticket) (n : Nat) (r : Result), Answers (.result t tr) t s tr (.opcode 0x03) (fun _ => .immediate)
    (fun q a => q.payload.length = 0 ∧ (a.session q.session).bind (fun k => k.ticket q.ticket) = some tk ∧
      tk.result = some (n, r) ∧ tk.readOnce = false)
    (fun q a => (.done r, a.modifySession q.session (fun k => k.putTicket ⟨tk.number, some (n, r), true⟩)))) ∧
  (∀ (tk : Ticket) (n : Nat) (r : Result), Answers (.result t tr) t s tr (.opcode 0x03) (fun _ => .immediate)
    (fun q a => q.payload.length = 0 ∧ (a.session q.session).bind (fun k => k.ticket q.ticket) = some tk ∧
      tk.result = some (n, r) ∧ tk.readOnce = true)
    (gives (fun _ _ => ⟨stRepeat, r.detail, r.words, r.status⟩))) ∧
  (∀ tk : Ticket, Answers (.result t tr) t s tr (.opcode 0x03) (fun _ => .immediate)
    (fun q a => q.payload.length = 0 ∧ (a.session q.session).bind (fun k => k.ticket q.ticket) = some tk ∧
      tk.result = none) (gives (fun _ _ => fail stPending))) ∧
  Answers (.result t tr) t s tr (.opcode 0x03) (fun _ => .immediate)
    (fun q a => q.payload.length = 0 ∧ (a.session q.session).bind (fun k => k.ticket q.ticket) = none)
    (gives (fun _ _ => fail stTicketGone)) ∧
  Answers (.ping t tr) t s tr (.opcode 0x04) (fun _ => .immediate)
    (fun q _ => q.broadcast = false ∧ q.payload.length ≤ 16)
    (gives (fun q a => ok (q.payload ++ [word (q.role * 2 ^ 24 + a.p Pid.tdmRole * 2 ^ 16 + a.p Pid.idFwBuild)]))) ∧
  Answers (.ping t tr) t s tr (.opcode 0x04) (fun _ => .immediate)
    (fun q _ => q.broadcast = false ∧ 16 < q.payload.length) (gives (fun _ _ => fail stRange 16)) ∧
  Answers (.sessionList t tr) t s tr (.opcode 0x05) (fun _ => .immediate) (fun q _ => q.payload.length = 0)
    (gives (fun _ a => ok (a.bridle.sessions.map (fun k => k.listWord))))

/-- What GET and DESCRIBE answer (R246, R247). -/
def Obligations.ParameterReads : Prop :=
  ∀ (t : Nat) (tr : Transport) (s : State),
  (∀ r : ParamRow, Answers (.get t tr) t s tr (.opcode 0x10) (fun _ => .immediate) (fun q a =>
    q.payload.length = 2 ∧ paramRow (bits (nth q.payload 0) 31 16) = some r ∧ a.farrier = false ∧
    r.readRole ≤ q.role ∧ 1 + (nth q.payload 1).toNat ≤ q.limit ∧ 0 < (nth q.payload 1).toNat ∧
    runBeyond r (bits (nth q.payload 0) 15 0) (nth q.payload 1).toNat = none)
    (fun q a =>
      let id := bits (nth q.payload 0) 31 16
      let first := bits (nth q.payload 0) 15 0
      let count := (nth q.payload 1).toNat
      (.done (ok ((List.range count).map (fun i => a.readFor q.session id (first + i)))),
        (a.latchRun q.session id first count).unlatchRun q.session id first count))) ∧
  Answers (.get t tr) t s tr (.opcode 0x10) (fun _ => .immediate) (fun q _ =>
    q.payload.length = 2 ∧ paramRow (bits (nth q.payload 0) 31 16) = none) (gives (fun _ _ => fail stRange 0)) ∧
  (∀ r : ParamRow, Answers (.get t tr) t s tr (.opcode 0x10) (fun _ => .immediate) (fun q a =>
    q.payload.length = 2 ∧ paramRow (bits (nth q.payload 0) 31 16) = some r ∧ a.farrier = false ∧
    q.role < r.readRole) (gives (fun _ _ => fail stAuth))) ∧
  (∀ r : ParamRow, Answers (.describe t tr) t s tr (.opcode 0x14) (fun _ => .immediate) (fun q _ =>
    q.payload.length = 1 ∧ paramRow (bits (nth q.payload 0) 31 16) = some r ∧ bits (nth q.payload 0) 15 0 = 0)
    (gives (fun _ _ => ok (describeWords r))))

/-- What PROG_LOAD, PROG_REVERT, PROG_UPLOAD, PROG_READ and TEAM_READ answer (R158, R247, R509). -/
def Obligations.ProgramOpcodes : Prop :=
  ∀ (t : Nat) (tr : Transport) (s : State),
  (∀ held : List Word, Answers (.progLoad t tr) t s tr (.opcode 0x30) (fun _ => .deferred) (fun q a =>
    2 ≤ q.payload.length ∧ (nth q.payload 1).toNat = 0 ∧ a.storageUp = true ∧ 0 < (nth q.payload 0).toNat ∧
    a.prog.partial_ = some held ∧ held.length = (nth q.payload 0).toNat)
    (fun q a => (.later, ((a.carryChunk q.payload).withProg
        (fun p => { p with partial_ := some (held ++ q.payload.drop 2) })).storeWrite (.pslc 4 1)
      (imageKib (q.payload.drop 2)) (.result q.ref (ok))))) ∧
  (∀ held : List Word, Answers (.progLoad t tr) t s tr (.opcode 0x30) (fun _ => .deferred) (fun q a =>
    2 ≤ q.payload.length ∧ nth q.payload 1 = 0x80000000 ∧ a.storageUp = true ∧ 0 < (nth q.payload 0).toNat ∧
    a.prog.partial_ = some held ∧ held.length = (nth q.payload 0).toNat)
    (fun q a =>
      let r := (a.carryChunk q.payload).finishLoad (held ++ q.payload.drop 2)
      (.later, r.2.storeWrite (.pslc 4 1) (imageKib (q.payload.drop 2)) (.result q.ref r.1)))) ∧
  Answers (.progRevert t tr) t s tr (.opcode 0x32) (fun _ => .deferred) (fun q a => q.payload.length = 0 ∧
    a.prog.previous ≠ [] ∧ a.storageUp = true)
    (fun q a => (.later, ((a.setStaged a.prog.previous).carryChunk (0 :: 0x80000000 :: a.prog.previous)).storeWrite
      (.pslc 4 1) (imageKib a.prog.previous) (.result q.ref (ok [imageCrc a.prog.previous])))) ∧
  Answers (.progRevert t tr) t s tr (.opcode 0x32) (fun _ => .deferred) (fun q a => q.payload.length = 0 ∧
    a.prog.previous = []) (gives (fun _ _ => fail stNotCommitted)) ∧
  Answers (.progUpload t tr) t s tr (.opcode 0x37) (fun _ => .immediate) (fun q a => q.payload.length = 3 ∧
    nth q.payload 0 = 0 ∧ (nth q.payload 1).toNat < a.prog.active.length ∧
    (nth q.payload 1).toNat + (nth q.payload 2).toNat ≤ a.prog.active.length)
    (gives (fun q a => ok ((a.prog.active.drop (nth q.payload 1).toNat).take (nth q.payload 2).toNat))) ∧
  (∀ i : Nat, Answers (.progRead t tr) t s tr (.opcode 0x35) (fun _ => .immediate) (fun q a => q.payload.length = 1 ∧
    a.cellNamed (nth q.payload 0).toNat = some i)
    (fun _ a => (.done (ok (word ((a.desc i).type_ * 2 ^ 24 + (a.desc i).prio * 2 ^ 22 + i) ::
        (a.portsWords i (List.range (a.desc i).inits.length)).1 ++ stateWords (a.desc i) (a.cellRun i))),
      (a.portsWords i (List.range (a.desc i).inits.length)).2))) ∧
  Answers (.teamRead t tr) t s tr (.opcode 0x24) (fun _ => .immediate) (fun q _ => q.payload.length = 1 ∧
    1 ≤ bits (nth q.payload 0) 15 0 ∧ bits (nth q.payload 0) 15 0 ≤ 64 ∧
    bits (nth q.payload 0) 31 16 + bits (nth q.payload 0) 15 0 ≤ 768)
    (fun q a =>
      let r := a.teamsWords ((List.range (bits (nth q.payload 0) 15 0)).map (fun k => bits (nth q.payload 0) 31 16 + k))
      (.done (ok r.1), r.2)) ∧
  Answers (.teamRead t tr) t s tr (.opcode 0x24) (fun _ => .immediate) (fun q _ => q.payload.length = 1 ∧
    768 < bits (nth q.payload 0) 31 16 + bits (nth q.payload 0) 15 0) (gives (fun _ _ => fail stRange 0))

/-- What TIME_READ, TIME_SET, SCHED_READ and WAKE_SET answer (R247). -/
def Obligations.ClockOpcodes : Prop :=
  ∀ (t : Nat) (tr : Transport) (s : State),
  Answers (.timeRead t tr) t s tr (.opcode 0x40) (fun _ => .immediate) (fun q _ => q.payload.length = 0) (gives (fun _ a =>
    let ns := Int.fdiv a.clockNow nsUnit
    let sc := (Int.fdiv ns 1000000000).toNat
    let c := a.calNow.1
    ok [word (sc / 2 ^ 32 % 65536), word (sc % 2 ^ 32), word (Int.fmod ns 1000000000).toNat,
      word (Int.fmod a.clockNow nsUnit).toNat, word (a.p Pid.timeQuality),
      word (bcd c.century * 2 ^ 24 + bcd c.year * 2 ^ 16 + bcd c.month * 2 ^ 8 + bcd c.day),
      word (bcd c.weekday * 2 ^ 24 + bcd c.hour * 2 ^ 16 + bcd c.minute * 2 ^ 8 + bcd c.second)])) ∧
  Answers (.timeSet t tr) t s tr (.opcode 0x41) (fun _ => .deferred) (fun q a => q.payload.length = 4 ∧
    2 ≤ a.p Pid.timeQuality ∧ bits (nth q.payload 0) 31 16 = 0 ∧ (nth q.payload 2).toNat < 1000000000 ∧
    (nth q.payload 3).toNat = 0)
    (fun q a => (.later, a.withTime (fun k => { k with pendingSet := k.pendingSet ++
      [⟨a.count, bits (nth q.payload 0) 15 0 * 2 ^ 32 + (nth q.payload 1).toNat, (nth q.payload 2).toNat, false,
        q.ref⟩] }))) ∧
  Answers (.timeSet t tr) t s tr (.opcode 0x41) (fun _ => .deferred) (fun q a => q.payload.length = 4 ∧
    a.p Pid.timeQuality ≤ 1) (gives (fun _ _ => fail stRefusedState)) ∧
  Answers (.schedRead t tr) t s tr (.opcode 0x43) (fun _ => .immediate) (fun q _ => q.payload.length = 1 ∧
    (nth q.payload 0).toNat < 256) (gives (fun q a => ok (a.time.tables.get (nth q.payload 0).toNat))) ∧
  Answers (.wakeSet t tr) t s tr (.opcode 0x44) (fun _ => .immediate) (fun q _ => q.payload.length = 1 ∧
    (nth q.payload 0).toNat ≤ 22118400)
    (fun q a => (.done (ok), (a.setP Pid.timeWakePeriod 0 (nth q.payload 0).toNat).startWakeTimer)) ∧
  Answers (.wakeSet t tr) t s tr (.opcode 0x44) (fun _ => .immediate) (fun q _ => q.payload.length = 1 ∧
    22118400 < (nth q.payload 0).toNat) (gives (fun _ _ => fail stRange 0))

/-- What WB_READ, WB_FREEZE, WB_CLEAR and WB_SNAPSET answer (R372, R373, R378). -/
def Obligations.WaybillOpcodes : Prop :=
  ∀ (t : Nat) (tr : Transport) (s : State),
  Answers (.wbRead t tr) t s tr (.opcode 0x50) (fun _ => .immediate) (fun q _ => q.payload.length = 2 ∧
    0 < (nth q.payload 1).toNat ∧ (nth q.payload 1).toNat ≤ (q.limit - 1) / 40)
    (gives (fun q a => ok (((a.recordsFrom (nth q.payload 0).toNat).take (nth q.payload 1).toNat).flatMap
      (fun r => r.words)))) ∧
  Answers (.wbFreeze t tr) t s tr (.opcode 0x51) (fun _ => .immediate) (fun q _ => q.payload.length = 1 ∧
    nth q.payload 0 = 1)
    (fun _ a => (.done (ok [word a.waybill.staged.length]),
      { a with waybill := { a.waybill with frozenSince := some a.now } })) ∧
  Answers (.wbFreeze t tr) t s tr (.opcode 0x51) (fun _ => .immediate) (fun q a => q.payload.length = 1 ∧
    nth q.payload 0 = 0 ∧ a.waybill.frozenSince.isSome = true)
    (fun _ a => (.done (ok [word a.waybill.staged.length]), a.releaseFreeze)) ∧
  Answers (.wbFreeze t tr) t s tr (.opcode 0x51) (fun _ => .immediate) (fun q a => q.payload.length = 1 ∧
    nth q.payload 0 = 0 ∧ a.waybill.frozenSince = none) (gives (fun _ _ => ok [0])) ∧
  Answers (.wbClear t tr) t s tr (.opcode 0x52) (fun _ => .deferred) (fun q a => q.payload.length = 0 ∧
    a.waybill.frozenSince = none ∧ a.storageUp = true)
    (fun q a =>
      let v := ({ a with waybill := { a.waybill with general := [], critical := [], hold := [] } } : State).bump Pid.wbClears
      let v := if v.d8On then v else (v.withPower (fun p => { p with flushing := true })).settleDomains
      (.later, (v.storeCleared (a.waybill.general.length + a.waybill.critical.length) q.session).storeWrite
        (.pslc 6 0) 1 (.result q.ref (ok [word (v.p Pid.wbNextIndex)])))) ∧
  Answers (.wbClear t tr) t s tr (.opcode 0x52) (fun _ => .deferred) (fun q a => q.payload.length = 0 ∧
    (a.waybill.frozenSince.isSome = true ∨ a.storageUp = false)) (gives (fun _ _ => fail stRefusedState)) ∧
  Answers (.wbSnapset t tr) t s tr (.opcode 0x53) (fun _ => .immediate) (fun q _ => 1 ≤ q.payload.length ∧
    q.payload.length ≤ 17 ∧ 1 ≤ (nth q.payload 0).toNat ∧ (nth q.payload 0).toNat ≤ 63 ∧
    ∀ w ∈ q.payload.drop 1, snapEntryOk w = true)
    (fun q a => (.done (ok), a.setElements Pid.wbSnapset ((nth q.payload 0).toNat * 16)
      (q.payload.drop 1 ++ List.replicate (17 - q.payload.length) 0xFFFFFFFF))) ∧
  Answers (.wbSnapset t tr) t s tr (.opcode 0x53) (fun _ => .immediate) (fun q _ => 1 ≤ q.payload.length ∧
    q.payload.length ≤ 17 ∧ 63 < (nth q.payload 0).toNat) (gives (fun _ _ => fail stRange 0))

/-- What ARCHIVE_INFO, ARCHIVE_READ and METER_TOTALS answer (R247). -/
def Obligations.ArchiveAndMeterOpcodes : Prop :=
  ∀ (t : Nat) (tr : Transport) (s : State),
  Answers (.archiveInfo t tr) t s tr (.opcode 0x60) (fun _ => .immediate) (fun q _ => q.payload.length = 0)
    (gives (fun _ a =>
      let first := (a.archivedBlocks.head?.map (fun b => b.close)).getD 0
      let last := (a.archivedBlocks.getLast?.map (fun b => b.close)).getD 0
      ok [word (first / 2 ^ 32), word first, word (last / 2 ^ 32), word last, word a.archivedBlocks.length])) ∧
  (∀ b : MinuteBlock, Answers (.archiveRead t tr) t s tr (.opcode 0x61) (fun _ => .deferred) (fun q a =>
    q.payload.length = 3 ∧ bits (nth q.payload 0) 31 16 = 0 ∧ 0 < bits (nth q.payload 2) 15 0 ∧
    bits (nth q.payload 2) 31 16 + bits (nth q.payload 2) 15 0 ≤ 512 ∧ a.storageUp = true ∧
    chooseBlock (bits (nth q.payload 0) 15 0 * 2 ^ 32 + (nth q.payload 1).toNat) a.archivedBlocks = some b)
    (fun q a => (.later, a.finish q.ref (ok (b.header ++
      ((b.channels.drop (bits (nth q.payload 2) 31 16)).take (bits (nth q.payload 2) 15 0)).flatten))))) ∧
  Answers (.meterTotals t tr) t s tr (.opcode 0x62) (fun _ => .immediate) (fun q _ => q.payload.length = 1 ∧
    0 < bits (nth q.payload 0) 15 0 ∧ bits (nth q.payload 0) 31 16 + bits (nth q.payload 0) 15 0 ≤ 512)
    (gives (fun q a => ok ((List.range (bits (nth q.payload 0) 15 0)).flatMap (fun k =>
      [a.w Pid.meterTotalMwhHi (bits (nth q.payload 0) 31 16 + k),
       a.w Pid.meterTotalMwhLo (bits (nth q.payload 0) 31 16 + k)])))) ∧
  Answers (.meterTotals t tr) t s tr (.opcode 0x62) (fun _ => .immediate) (fun q _ => q.payload.length = 1 ∧
    512 < bits (nth q.payload 0) 31 16 + bits (nth q.payload 0) 15 0) (gives (fun _ _ => fail stRange 0))

/-- What RELAY_NODES, RELAY_PERMIT and RELAY_EVICT answer (R247). -/
def Obligations.RelayOpcodes : Prop :=
  ∀ (t : Nat) (tr : Transport) (s : State),
  Answers (.relayNodes t tr) t s tr (.opcode 0x70) (fun _ => .immediate) (fun q _ => q.payload.length = 1 ∧
    0 < bits (nth q.payload 0) 15 0 ∧ bits (nth q.payload 0) 31 16 + bits (nth q.payload 0) 15 0 ≤ 1024)
    (gives (fun q a => ok ((List.range (bits (nth q.payload 0) 15 0)).flatMap (fun k =>
      [word ((0x100 + (bits (nth q.payload 0) 31 16 + k)) * 65536 +
         a.p Pid.relayNodeKind (bits (nth q.payload 0) 31 16 + k) * 256 +
         a.p Pid.relayNodeState (bits (nth q.payload 0) 31 16 + k)),
       word (a.nodeAgeMs (bits (nth q.payload 0) 31 16 + k))])))) ∧
  Answers (.relayPermit t tr) t s tr (.opcode 0x71) (fun _ => .immediate) (fun q _ => q.payload.length = 1 ∧
    0 < (nth q.payload 0).toNat ∧ (nth q.payload 0).toNat ≤ 3600)
    (fun q a => (.done (ok), a.withRelay (fun r => { r with permitUntil := some (a.now + (nth q.payload 0).toNat * sec) }))) ∧
  Answers (.relayPermit t tr) t s tr (.opcode 0x71) (fun _ => .immediate) (fun q _ => q.payload.length = 1 ∧
    nth q.payload 0 = 0) (fun _ a => (.done (ok), a.withRelay (fun r => { r with permitUntil := none }))) ∧
  Answers (.relayPermit t tr) t s tr (.opcode 0x71) (fun _ => .immediate) (fun q _ => q.payload.length = 1 ∧
    3600 < (nth q.payload 0).toNat) (gives (fun _ _ => fail stRange 0)) ∧
  Answers (.relayEvict t tr) t s tr (.opcode 0x72) (fun _ => .deferred) (fun q a => q.payload.length = 1 ∧
    (nth q.payload 0).toNat < 1024 ∧ a.contextHeld (nth q.payload 0).toNat = true ∧ a.relaySends = false)
    (fun q a => (.later, (a.withRelay (fun r => { r with
      evicting := r.evicting ++ [((nth q.payload 0).toNat, q.ref)] })).evicted (nth q.payload 0).toNat)) ∧
  Answers (.relayEvict t tr) t s tr (.opcode 0x72) (fun _ => .deferred) (fun q a => q.payload.length = 1 ∧
    (nth q.payload 0).toNat < 1024 ∧ a.contextHeld (nth q.payload 0).toNat = true ∧ a.relaySends = true ∧
    (a.relay.evicting.any (fun x => x.1 == (nth q.payload 0).toNat) = true ∨
      ((a.cellOf (nth q.payload 0).toNat).flood = false ∧ (a.cellOf (nth q.payload 0).toNat).down ≠ 0)))
    (fun q a => (.later, a.withRelay (fun r => { r with
      evicting := r.evicting ++ [((nth q.payload 0).toNat, q.ref)] }))) ∧
  Answers (.relayEvict t tr) t s tr (.opcode 0x72) (fun _ => .deferred) (fun q a => q.payload.length = 1 ∧
    (nth q.payload 0).toNat < 1024 ∧ a.contextHeld (nth q.payload 0).toNat = true ∧ a.relaySends = true ∧
    a.relay.evicting.any (fun x => x.1 == (nth q.payload 0).toNat) = false ∧
    ((a.cellOf (nth q.payload 0).toNat).flood = true ∨ (a.cellOf (nth q.payload 0).toNat).down = 0))
    (fun q a => (.later, (a.withRelay (fun r => { r with
      evicting := r.evicting ++ [((nth q.payload 0).toNat, q.ref)] })).queueShared (0x100 + (nth q.payload 0).toNat) 7 [0]
      true none)) ∧
  Answers (.relayEvict t tr) t s tr (.opcode 0x72) (fun _ => .deferred) (fun q a => q.payload.length = 1 ∧
    a.contextHeld (nth q.payload 0).toNat = false) (gives (fun _ _ => fail stRange 0))

/-- What KEY_INFO, KEY_LOAD, KEY_INVALIDATE and LIFECYCLE answer (R388, R390, R393). -/
def Obligations.KeyOpcodes : Prop :=
  ∀ (t : Nat) (tr : Transport) (s : State),
  Answers (.keyInfo t tr) t s tr (.opcode 0x80) (fun _ => .immediate) (fun q _ => q.payload.length = 1 ∧
    (nth q.payload 0).toNat ≤ 63)
    (gives (fun q a => ok [a.slotAttr (nth q.payload 0).toNat, word (a.slotState (nth q.payload 0).toNat),
      a.w Pid.keySlotCheck (nth q.payload 0).toNat])) ∧
  (∀ key : Nat, Answers (.keyLoad t tr) t s tr (.opcode 0x81) (fun _ => .deferred) (fun q a => a.wheeler = false ∧
    a.keyLoadRefusal q = none ∧ (a.openBlob (nth q.payload 0).toNat (q.payload.drop 2)).1 = some key)
    (fun q a => (.later, if keyCheck key = nth q.payload 1 then
        ((a.openBlob (nth q.payload 0).toNat (q.payload.drop 2)).2.keyUse .load 0 (nth q.payload 0).toNat).vaultJob
          (.load (nth q.payload 0).toNat (nth (q.payload.drop 2) 0) key (nth q.payload 1)) (some q.ref) q.payload
      else ((a.openBlob (nth q.payload 0).toNat (q.payload.drop 2)).2.bump Pid.keyLoadFails).finish q.ref
        (fail stNotCommitted)))) ∧
  Answers (.keyLoad t tr) t s tr (.opcode 0x81) (fun _ => .deferred) (fun _ a => a.wheeler = true)
    (gives (fun _ _ => fail stRefusedState)) ∧
  Answers (.keyInvalidate t tr) t s tr (.opcode 0x82) (fun _ => .deferred) (fun q a => q.payload.length = 1 ∧
    a.wheeler = false ∧ 1 ≤ (nth q.payload 0).toNat ∧ (nth q.payload 0).toNat ≤ 63 ∧
    a.slotState (nth q.payload 0).toNat ≠ 0)
    (fun q a => (.later, (a.keyUse .invalidate 0 (nth q.payload 0).toNat).vaultJob
      (.invalidate (nth q.payload 0).toNat) (some q.ref) [nth q.payload 0])) ∧
  Answers (.keyInvalidate t tr) t s tr (.opcode 0x82) (fun _ => .deferred) (fun q a => q.payload.length = 1 ∧
    a.wheeler = false ∧ nth q.payload 0 = 0) (gives (fun _ _ => fail stRange 0)) ∧
  Answers (.lifecycle t tr) t s tr (.opcode 0x83) (fun _ => .deferred) (fun q a => q.payload.length = 1 ∧
    (nth q.payload 0).toNat ≤ 4 ∧ a.p Pid.updHolder = 0 ∧ a.lifecycleAllows q (nth q.payload 0).toNat = true)
    (fun q a => (.later, (a.keyCount .lifecycle 0 0).vaultJob (.lifecycle (nth q.payload 0).toNat) (some q.ref) [])) ∧
  Answers (.lifecycle t tr) t s tr (.opcode 0x83) (fun _ => .deferred) (fun q a => q.payload.length = 1 ∧
    (nth q.payload 0).toNat ≤ 4 ∧ a.p Pid.updHolder ≠ 0) (gives (fun _ _ => fail stRefusedState))

/-- What UPD_OPEN, UPD_DATA, UPD_COMMIT, UPD_ABORT and UPD_STATUS answer (R402, R403, R407). -/
def Obligations.UpdateOpcodes : Prop :=
  ∀ (t : Nat) (tr : Transport) (s : State),
  Answers (.updOpen t tr) t s tr (.opcode 0x90) (fun _ => .deferred) (fun q a => q.payload.length = 9 ∧
    a.p Pid.updHolder = 0 ∧ a.p Pid.updState = 0 ∧ a.farrier = false ∧ a.wheeler = false ∧
    (∀ b : Nat, b < 16 → a.rung1 b = false) ∧ a.shed < 2 ∧ a.switchingOver = false ∧
    a.pB Pid.sysOwnerLock = false ∧ a.slotState 3 = 1 ∧ a.storageUp = true ∧ 82 ≤ (nth q.payload 8).toNat ∧
    (nth q.payload 8).toNat ≤ 16777216)
    (fun q a =>
      let v := (a.setP Pid.updHolder 0 q.session).setP Pid.updSource 0 q.source.transport.index
      let v := v.setRun Pid.updDigest 0 ((q.payload.take 8).map BitVec.toNat)
      let v := (v.setP Pid.updSizeWords 0 (nth q.payload 8).toNat).setP Pid.updWordsRx 0 0
      let v := v.updCount 0 (v.updPath q.source.transport)
      (.later, { v with update :=
        { v.update with
          staging := [], opening := some (q.ref, v.now), committing := none, holderGone := false
          untagged := v.untaggedSession q, lastData := v.now } })) ∧
  Answers (.updOpen t tr) t s tr (.opcode 0x90) (fun _ => .deferred) (fun q a => q.payload.length = 9 ∧
    (a.p Pid.updHolder ≠ 0 ∨ a.p Pid.updState ≠ 0))
    (fun q a => a.refuseOpen q (some 1) stBusy (a.p Pid.updSource * 4096 + a.p Pid.updDigest 0 / 2 ^ 20)) ∧
  Answers (.updData t tr) t s tr (.opcode 0x91) (fun _ => .immediate) (fun q a => a.p Pid.updHolder = q.session ∧
    a.p Pid.updHolder ≠ 0 ∧ a.p Pid.updState = 1 ∧ 1 ≤ q.payload.length ∧ (nth q.payload 0).toNat = a.p Pid.updWordsRx ∧
    a.p Pid.updWordsRx + (q.payload.length - 1) ≤ a.p Pid.updSizeWords)
    (fun q a =>
      let v := (a.setP Pid.updWordsRx 0 ((nth q.payload 0).toNat + (q.payload.length - 1))).updCount 8
        (a.updPath q.source.transport)
      let v := { v with update := { v.update with staging := v.update.staging ++ q.payload.drop 1, lastData := v.now } }
      (.done (ok), v.storeWrite (.pslc 2 ((nth q.payload 0).toNat / 1048576)) (divUp (q.payload.length - 1) 256)
        .nothing)) ∧
  Answers (.updData t tr) t s tr (.opcode 0x91) (fun _ => .immediate) (fun q a => a.p Pid.updHolder = q.session ∧
    a.p Pid.updHolder ≠ 0 ∧ a.p Pid.updState ≠ 1) (gives (fun _ _ => fail stRefusedState 10)) ∧
  Answers (.updCommit t tr) t s tr (.opcode 0x92) (fun _ => .deferred) (fun q a => q.payload.length = 8 ∧
    a.p Pid.updHolder = q.session ∧ a.p Pid.updHolder ≠ 0 ∧ a.p Pid.updState = 1)
    (fun q a =>
      let v := (a.setP Pid.updState 0 2).updCount 10 (a.updPath q.source.transport)
      (.later, { v with update := { v.update with committing := some (q.ref, q.payload) } })) ∧
  Answers (.updAbort t tr) t s tr (.opcode 0x93) (fun _ => .immediate) (fun q a => q.payload.length = 0 ∧
    a.p Pid.updHolder = q.session ∧ a.p Pid.updHolder ≠ 0 ∧ a.p Pid.updState ≠ 2 ∧ a.update.opening = none)
    (fun _ a => (.done (ok), a.abortUpdate)) ∧
  Answers (.updAbort t tr) t s tr (.opcode 0x93) (fun _ => .immediate) (fun q a => q.payload.length = 0 ∧
    a.p Pid.updHolder = q.session ∧ a.p Pid.updHolder ≠ 0 ∧ a.p Pid.updState = 2)
    (gives (fun _ _ => fail stRefusedState 11)) ∧
  Answers (.updStatus t tr) t s tr (.opcode 0x94) (fun _ => .immediate) (fun q _ => q.payload.length = 0)
    (gives (fun _ a => ok ([a.w Pid.updState 0, a.w Pid.updSource 0] ++ (List.range 8).map (a.w Pid.updDigest) ++
      [a.w Pid.updWordsRx 0])))

/-- What POWER_TOLERANCE, POWER_STATUS, TANDEM_STATUS and TEST_READ answer (R439, R247). -/
def Obligations.PowerTandemAndTestOpcodes : Prop :=
  ∀ (t : Nat) (tr : Transport) (s : State),
  Answers (.powerTolerance t tr) t s tr (.opcode 0xB0) (fun _ => .immediate) (fun q _ => q.payload.length = 1)
    (fun q a =>
      let v := (a.setW Pid.pwrToleranceUs 0 (nth q.payload 0)).toleranceWritten a.chooseState
      (.done (ok [word v.chooseState]), v)) ∧
  Answers (.powerStatus t tr) t s tr (.opcode 0xB1) (fun _ => .immediate) (fun q _ => q.payload.length = 0)
    (gives (fun _ a => ok [a.w Pid.pwrState 0, a.w Pid.pwrShedStep 0, a.w Pid.pwrVinMv 0, a.w Pid.pwrCoreMv 0])) ∧
  Answers (.tandemStatus t tr) t s tr (.opcode 0xA0) (fun _ => .immediate) (fun q _ => q.payload.length = 0)
    (gives (fun _ a => ok [a.w Pid.tdmRole 0, word a.tandem.partnerState, word a.heartbeatAge,
      a.w Pid.tdmCopyOctets 0])) ∧
  (∀ l : Nat, Answers (.testRead t tr) t s tr (.opcode 0xC1) (fun _ => .immediate) (fun q _ => q.payload.length = 1 ∧
    linkOf (nth q.payload 0) = some l)
    (fun _ a => (.done (ok ((a.creditSent l).linkCounts l)), a.creditSent l))) ∧
  Answers (.testRead t tr) t s tr (.opcode 0xC1) (fun _ => .immediate) (fun q _ => q.payload.length = 1 ∧
    linkOf (nth q.payload 0) = none) (gives (fun _ _ => fail stRange 0))

/-- An accepted SET of a boundary parameter waits for the boundary and changes no element then (R22, R258). -/
def Obligations.BoundarySetsWait : Prop :=
  ∀ (t : Nat) (tr : Transport) (s : State),
  Answers (.periodWrite t tr) t s tr (.set .period) setKind (isSet Pid.drvPeriodNs) enqueueBoundary ∧
  Answers (.staggerWrite t tr) t s tr (.set .stagger) setKind (isSet Pid.drvStaggerMode) enqueueBoundary ∧
  Answers (.teamSizeWrite t tr) t s tr (.set .teamSize) setKind (isSet Pid.drvTeamSize) enqueueBoundary ∧
  Answers (.dimModeWrite t tr) t s tr (.set .dimMode) setKind (isSet Pid.drvDimMode) enqueueBoundary ∧
  Answers (.decimRatioWrite t tr) t s tr (.set .decimRatio) setKind (isSet Pid.snsDecimRatio) enqueueBoundary ∧
  Answers (.colourMethodWrite t tr) t s tr (.set .colourMethod) setKind (isSet Pid.colourMethod) enqueueBoundary ∧
  Answers (.cycleTimeWrite t tr) t s tr (.set .cycleTime) setKind (isSet Pid.progCycleMs) enqueueBoundary ∧
  Answers (.podZoneWrite t tr) t s tr (.set .podZone) setKind (isSet Pid.presPodZone) enqueueBoundary ∧
  (∀ id ∈ [Pid.outEdgeFrom, Pid.outEdgeTo],
    Answers (.edgeEndpointWrite t tr) t s tr (.set .edgeEndpoint) setKind (isSet id) enqueueBoundary) ∧
  (∀ id ∈ [Pid.outEdgeTminMs, Pid.outEdgeTmaxMs],
    Answers (.edgeBoundsWrite t tr) t s tr (.set .edgeBounds) setKind (isSet id) enqueueBoundary) ∧
  Answers (.edgeHeadingWrite t tr) t s tr (.set .edgeHeading) setKind (isSet Pid.outEdgeHeading) enqueueBoundary ∧
  Answers (.edgeTauWrite t tr) t s tr (.set .edgeTau) setKind (isSet Pid.outEdgeTauUs) enqueueBoundary ∧
  (∀ id ∈ [Pid.relayRate, Pid.relayPanId, Pid.relayChanExclude, Pid.relaySlotframe, Pid.relaySharedSlots],
    Answers (.relayConfigWrite t tr) t s tr (.set .relayConfig) setKind (isSet id) enqueueBoundary) ∧
  Answers (.tandemEnableWrite t tr) t s tr (.set .tandemEnable) setKind (isSet Pid.tdmEnable) enqueueBoundary

/-- An accepted SET of an immediate parameter writes its elements and acts at once (R246, R256). -/
def Obligations.ImmediateSetsAct : Prop :=
  ∀ (t : Nat) (tr : Transport) (s : State),
  Answers (.set t tr) t s tr (.set .plain) setKind (fun q a => a.setFailure q = none ∧ setKind q = .immediate)
    (writes (fun q a => a.plainWritten (setId q) (setFirst q) (setVals q).length)) ∧
  Answers (.gainEstWrite t tr) t s tr (.set .gainEst) setKind (isSet Pid.snsGainEst) (writes (fun _ a => a)) ∧
  Answers (.vfRefWrite t tr) t s tr (.set .vfRef) setKind (isSet Pid.diagVfRefMv)
    (writes (fun q a => eachElement State.vfRefWritten (setFirst q) (setVals q).length a)) ∧
  (∀ id ∈ [Pid.colourTeamFlux, Pid.colourHeadroom, Pid.colourCctMin, Pid.colourCctMax, Pid.colourFluxLm,
      Pid.colourProfile, Pid.colourProfFlux, Pid.colourProfX, Pid.colourProfY, Pid.colourWShare, Pid.colourWLane],
    Answers (.fluxReferenceRecompute t tr) t s tr (.set .fluxReference) setKind (isSet id)
      (writes (fun q a => eachElement (fun a e => a.fluxInputWritten id e) (setFirst q) (setVals q).length a))) ∧
  Answers (.sensorCalWrite t tr) t s tr (.set .sensorCal) setKind (isSet Pid.colourSensorCal) (writes (fun _ a => a)) ∧
  Answers (.hpEventClear t tr) t s tr (.set .hpEvent) setKind (isSet Pid.cmdHpEvent) (writes (fun _ a => a)) ∧
  AnswersThen (.ringModeWrite t tr) t s tr (.set .ringMode) setKind (isSet Pid.netRingMode)
    (writes (fun _ a => a.withNet (fun n => { n with modeWaits := true })))
    (fun v => v.replySent tr (s.net.modeWaits || s.net.ipWaits)) ∧
  (∀ id ∈ [Pid.netIpAddr, Pid.netIpMask, Pid.netIpGateway],
    AnswersThen (.ipAddressWrite t tr) t s tr (.set .ipAddress) setKind (isSet id)
      (writes (fun _ a => a.withNet (fun n => { n with ipWaits := true })))
      (fun v => v.replySent tr (s.net.modeWaits || s.net.ipWaits))) ∧
  Answers (.calendarWrite t tr) t s tr (.set .calendar) setKind (isSet Pid.timeCal) (writes (fun _ a => a.calendarWritten)) ∧
  Answers (.tzOffsetWrite t tr) t s tr (.set .tzOffset) setKind (isSet Pid.timeTzOffsetMin)
    (writes (fun _ a => if a.calSynced then a.rewriteCalendar else a)) ∧
  Answers (.wakePeriodWrite t tr) t s tr (.set .wakePeriod) setKind (isSet Pid.timeWakePeriod)
    (writes (fun _ a => a.startWakeTimer)) ∧
  (∀ id ∈ [Pid.timeAlarmS, Pid.timeAlarmNf, Pid.timeAlarmPeriodMs, Pid.timeAlarmCtrl],
    Answers (.alarmWrite t tr) t s tr (.set .alarm) setKind (isSet id)
      (writes (fun q a => a.alarmFieldWritten id (setFirst q) (setVals q).length))) ∧
  Answers (.snapsetWrite t tr) t s tr (.set .snapset) setKind (isSet Pid.wbSnapset) (writes (fun _ a => a)) ∧
  Answers (.tamperLatchClear t tr) t s tr (.set .tamperLatch) setKind (isSet Pid.keyTamperStatus) (writes (fun _ a => a))

/-- A SET of a parameter that commands something commands it after its elements are written (R256). -/
def Obligations.ActingSetsAct : Prop :=
  ∀ (t : Nat) (tr : Transport) (s : State),
  (∀ id ∈ [Pid.relayRtFallback, Pid.relayRtFallbackFadeMs],
    Answers (.rtFallbackWrite t tr) t s tr (.set .rtFallback) setKind (isSet id)
      (writes (fun q a => eachElement State.queueFallback (setFirst q) (setVals q).length a))) ∧
  Answers (.toleranceWrite t tr) t s tr (.set .tolerance) setKind (isSet Pid.pwrToleranceUs)
    (writes (fun _ a => a.toleranceWritten (s.at_ t).chooseState)) ∧
  Answers (.ejectWrite t tr) t s tr (.set .eject) setKind (isSet Pid.sbEject)
    (writes (fun q a => eachElement State.ejectWritten (setFirst q) (setVals q).length a)) ∧
  Answers (.adoptWrite t tr) t s tr (.set .adopt) setKind (isSet Pid.sbAdopt)
    (writes (fun q a => eachElement State.adoptWritten (setFirst q) (setVals q).length a)) ∧
  Answers (.tamperCfgWrite t tr) t s tr (.set .tamperCfg) setKind (isSet Pid.keyTamperCfg)
    (writes (fun _ a => a.tamperConfigured)) ∧
  Answers (.updConfirmWrite t tr) t s tr (.set .updConfirm) setKind (isSet Pid.updConfirm)
    (writes (fun _ a => a.confirmWritten)) ∧
  Answers (.updFallbackWrite t tr) t s tr (.set .updFallback) setKind (isSet Pid.updFallback)
    (writes (fun _ a => a.fallbackWritten)) ∧
  Answers (.switchNowWrite t tr) t s tr (.set .switchNow) setKind (isSet Pid.updSwitchNow) (writes (fun _ a => a)) ∧
  Answers (.enterFarrierWrite t tr) t s tr (.set .enterFarrier) setKind (isSet Pid.updEnterFarrier)
    (writes (fun _ a => a.farrierWritten))

/-- A SET that meets a failure is answered with it and changes nothing else (R10, R12, R251, R252, R428). -/
def Obligations.RefusedSetChangesNothing : Prop :=
  (∀ (t : Nat) (tr : Transport) (s : State) (r : Result),
    Answers (.set t tr) t s tr (.set .plain) setKind (fun q a => a.setFailure q = some r) (gives (fun _ _ => r))) ∧
  (∀ (s : State) (q : Request), paramRow (setId q) = none → s.setFailure q = some (fail stRange 0)) ∧
  (∀ (s : State) (q : Request) (r : ParamRow), paramRow (setId q) = some r → (r.writeRole = 15 ∨ q.role < r.writeRole) →
    s.setFailure q = some (fail stAuth)) ∧
  (∀ (s : State) (q : Request) (r : ParamRow), paramRow (setId q) = some r → r.writeRole ≤ q.role → r.writeRole ≠ 15 →
    2 ≤ q.payload.length → (setVals q).length = (nth q.payload 1).toNat → 0 < (nth q.payload 1).toNat →
    runBeyond r (setFirst q) (nth q.payload 1).toNat = none →
    (∀ k : Nat, k < (setVals q).length → readOnlyElement (setId q) (setFirst q + k) = false) →
    (∀ k : Nat, k < (setVals q).length →
      s.elementInRange r (setFirst q) (setVals q) (setFirst q + k) (nth (setVals q) k) = true) →
    s.setFailure q = s.setRefusal (setId q) (setFirst q) (setVals q)) ∧
  (∀ (s : State) (id first : Nat) (vals : List Word), s.wheeler = true → carriedFamily id = true →
    (∃ w ∈ vals, w ≠ 0) → s.setRefusal id first vals = some (fail stRefusedState 0xFFFB))

/-- A SET writes its run of elements and no other (R252, R255, R256); a 1 written to cmd.hp_event clears the bit
(R249). -/
def Obligations.SetElementsReadBack : Prop :=
  (∀ (s : State) (id first : Nat) (vals : List Word), clearsOnOne id = false →
    id ∉ [Pid.snsGainEst, Pid.colourTrim, Pid.sysTempDieMax, Pid.pwrVinMinMv] → first + vals.length ≤ 65536 →
    (∀ k : Nat, k < vals.length → (s.setElements id first vals).w id (first + k) = nth vals k) ∧
    (∀ jd e : Nat, e < 65536 → (jd ≠ id ∨ e < first ∨ first + vals.length ≤ e) →
      (s.setElements id first vals).w jd e = s.w jd e)) ∧
  (∀ (s : State) (v : Word), (s.setElements Pid.cmdHpEvent 0 [v]).w Pid.cmdHpEvent 0 =
    s.w Pid.cmdHpEvent 0 &&& ~~~v)

/-- PRIMARY_TRANSACTION, ACKNOWLEDGEMENT, REPEAT_TRANSACTION and READBACK_FRAME (R129, R137, R138). -/
def Obligations.HarnessTransactions : Prop :=
  (∀ (t bank : Nat) (lanes : List LaneBits) (din : List Bool) (s : State), bank < 16 →
    (s.at_ t).count % 25000 = bank * 1560 → (s.bh bank).slotCount ≠ some (s.at_ t).count → s.tcxoStopped = none →
    (s.bh bank).awaiting = false → s.busOn bank = true → (s.at_ t).busWaits bank = false →
    s.carriesPattern bank = false → (s.p Pid.harnessState bank = 3 ∨ s.p Pid.harnessState bank = 4) →
    EffectIs (.primaryTransaction t bank lanes din) t s
      ((((s.at_ t).modBh bank (fun h => { h with
        slotCount := some (s.at_ t).count, scanAt := some (s.at_ t).now })).sendPrimary bank true).closeScan bank lanes)) ∧
  (∀ (t bank : Nat) (lanes : List LaneBits) (din : List Bool) (s : State), bank < 16 →
    (s.at_ t).count % 25000 = bank * 1560 → (s.bh bank).slotCount ≠ some (s.at_ t).count → s.tcxoStopped = none →
    (s.bh bank).awaiting = false → s.busOn bank = true → (s.at_ t).busWaits bank = false →
    (s.p Pid.harnessState bank = 1 ∨ s.p Pid.harnessState bank = 2) →
    EffectIs (.primaryTransaction t bank lanes din) t s
      (((((s.at_ t).modBh bank (fun h => { h with
        slotCount := some (s.at_ t).count, scanAt := some (s.at_ t).now })).sendPrimary bank false).closeScan bank
          lanes).unpaired bank)) ∧
  (∀ (t bank : Nat) (lanes : List LaneBits) (din : List Bool) (s : State), bank < 16 →
    (s.at_ t).count % 25000 = bank * 1560 → (s.bh bank).slotCount ≠ some (s.at_ t).count → s.tcxoStopped = none →
    (s.bh bank).awaiting = false → s.busOn bank = true → (s.at_ t).busWaits bank = false →
    s.carriesPattern bank = true → (s.p Pid.harnessState bank = 3 ∨ s.p Pid.harnessState bank = 4) →
    EffectIs (.primaryTransaction t bank lanes din) t s
      ((((((s.at_ t).modBh bank (fun h => { h with
        slotCount := some (s.at_ t).count, scanAt := some (s.at_ t).now })).closeScan bank lanes).testTransaction bank
          din).modBh bank (fun h => { h with
            repeat_ := false, testUntil := max s.now t + ofNs 256080 })).readMissing bank false)) ∧
  (∀ (t bank : Nat) (lanes : List LaneBits) (din : List Bool) (s : State), bank < 16 →
    (s.at_ t).count % 25000 = bank * 1560 → (s.bh bank).slotCount ≠ some (s.at_ t).count → s.tcxoStopped = none →
    (s.bh bank).awaiting = false →
    (s.busOn bank = false ∨ (s.at_ t).busWaits bank = true ∨ s.p Pid.harnessState bank ∉ [1, 2, 3, 4]) →
    EffectIs (.primaryTransaction t bank lanes din) t s
      (((((s.at_ t).modBh bank (fun h => { h with
        slotCount := some (s.at_ t).count, scanAt := some (s.at_ t).now })).closeScan bank lanes).unpaired bank).derateScan
          bank)) ∧
  (∀ (t bank : Nat) (w : Word) (s : State), bank < 16 → s.busOn bank = true →
    (s.bh bank).busyUntil - ofNs 256080 + ofNs 48780 ≤ max s.now t →
    EffectIs (.acknowledgement t bank w) t s
      ((s.at_ t).judgeAck bank (ackValid (s.bh bank).sequence w) (bit w 15) (bit w 14))) ∧
  (∀ (t bank a : Nat) (din : List Bool) (s : State), bank < 16 → (s.bh bank).scanAt = some a → a + 500 * us ≤ max s.now t →
    max s.now t < a + 1000 * us → (s.bh bank).repeat_ = false → s.busOn bank = true →
    (s.at_ t).busWaits bank = false → s.carriesPattern bank = false →
    (s.bh bank).repeatDue = true → 35 ≤ (s.bh bank).frame.length → Completes (.repeatTransaction t bank din) s (fun u =>
      u.w Pid.harnessRepeats bank = s.w Pid.harnessRepeats bank + 1 ∧ (u.bh bank).repeat_ = true ∧
      (u.bh bank).repeatDue = false ∧ (u.bh bank).acked = false ∧
      (u.bh bank).busyUntil = max s.now t + ofNs 256080 ∧
      ((u.bh bank).frame.drop 1).take 34 = ((s.bh bank).frame.drop 1).take 34)) ∧
  (∀ (t bank : Nat) (words : List Word) (s : State), bank < 16 → (s.bh bank).busyUntil ≠ 0 →
    (s.bh bank).busyUntil ≤ max s.now t → readbackValid words = true →
    EffectIs (.readbackFrame t bank words) t s
      (let v := ((s.at_ t).judgeAck bank false false false).modBh bank (fun h => { h with busyUntil := 0 })
       if (v.bh bank).awaiting then v.takeReadback bank words else v)) ∧
  (∀ (t bank : Nat) (words : List Word) (s : State), bank < 16 → (s.bh bank).busyUntil ≠ 0 →
    (s.bh bank).busyUntil ≤ max s.now t → readbackValid words = false → (s.bh bank).repeat_ = false →
    (s.p Pid.harnessState bank ≠ 3 ∨ (s.bh bank).failedTx + 1 < s.p Pid.harnessLostLimit bank) →
    EffectIs (.readbackFrame t bank words) t s
      (let v := (((s.at_ t).judgeAck bank false false false).modBh bank (fun h => { h with busyUntil := 0 })).bump
         Pid.harnessCrcErrors bank
       if (v.bh bank).awaiting then (v.transactionFailed bank).modBh bank (fun h => { h with repeatDue := true })
       else v))

/-- FAULT_LINE_CHANGE, CARD_ENUMERATION, ENUMERATION_RETRY, CARD_LOST and BANK_RESUME (R142, R144, R145). -/
def Obligations.HarnessCards : Prop :=
  (∀ (t bank : Nat) (high : Bool) (s : State), bank < 16 → (s.bh bank).fltHigh ≠ high →
    Completes (.faultLineChange t bank high) s (fun u =>
      (u.bh bank).fltHigh = high ∧ (u.bh bank).fltSince = max s.now t)) ∧
  (∀ (t bank : Nat) (passes : List Bool) (ident : List Nat) (s : State), bank < 16 → s.busOn bank = true →
    (s.at_ t).busWaits bank = false → (s.bh bank).fltHigh = true → s.p Pid.harnessState bank = 0 →
    (s.bh bank).fltSince + 10 * ms ≤ max s.now t →
    Completes (.cardEnumeration t bank passes ident) s (fun u =>
      u.p Pid.harnessState bank = 1 ∧ (u.bh bank).reenumerate = false ∧ (u.bh bank).missed = 0)) ∧
  (∀ (t bank : Nat) (passes : List Bool) (ident : List Nat) (s : State), bank < 16 → s.busOn bank = true →
    (s.at_ t).busWaits bank = false → (s.bh bank).fltHigh = true → s.p Pid.harnessState bank = 1 → passes.length = 96 →
    12 ≤ (widestRun passes).2 → Completes (.cardEnumeration t bank passes ident) s (fun u =>
      u.p Pid.harnessState bank = 2 ∧ u.p Pid.harnessEyeTicks bank = (widestRun passes).2 % 2 ^ 32 ∧
      u.p Pid.harnessRxDelay bank = ((widestRun passes).1 + ((widestRun passes).2 - 1) / 2) % 2 ^ 32)) ∧
  (∀ (t bank : Nat) (passes : List Bool) (ident : List Nat) (s : State), bank < 16 → s.busOn bank = true →
    (s.at_ t).busWaits bank = false → (s.bh bank).fltHigh = true → s.p Pid.harnessState bank = 1 → passes.length = 96 →
    (widestRun passes).2 < 12 → EffectIs (.cardEnumeration t bank passes ident) t s
      (((s.at_ t).setP Pid.harnessEyeTicks bank (widestRun passes).2).refuseCard bank 1)) ∧
  (∀ (t bank : Nat) (passes : List Bool) (ident : List Nat) (s : State), bank < 16 → s.busOn bank = true →
    (s.at_ t).busWaits bank = false → (s.bh bank).fltHigh = true → s.p Pid.harnessState bank = 2 → ident.length = 64 →
    identError ident = 0 → EffectIs (.cardEnumeration t bank passes ident) t s ((s.at_ t).acceptCard bank ident)) ∧
  (∀ (t bank a : Nat) (s : State), bank < 16 → s.p Pid.harnessState bank = 6 → (s.bh bank).retryAt = some a →
    a ≤ max s.now t → Completes (.enumerationRetry t bank) s (fun u =>
      u.p Pid.harnessState bank = (if (s.bh bank).fltHigh then 1 else 0) ∧ (u.bh bank).retryAt = none ∧
      (u.bh bank).missed = 0)) ∧
  (∀ (t bank : Nat) (s : State), bank < 16 → s.p Pid.harnessState bank = 4 →
    s.p Pid.harnessLostLimit bank ≤ (s.bh bank).missed → (s.bh bank).fltHigh = true →
    Completes (.cardLost t bank) s (fun u => (u.bh bank).reenumerate = true ∧ (u.bh bank).missed = 0)) ∧
  (∀ (t bank : Nat) (s : State), bank < 16 → s.p Pid.harnessState bank = 4 →
    s.p Pid.harnessLostLimit bank ≤ (s.bh bank).missed → (s.bh bank).fltHigh = false →
    EffectIs (.cardLost t bank) t s (((s.at_ t).clearCard bank).raise 0x1A bank 0)) ∧
  (∀ (t bank : Nat) (s : State), bank < 16 → (s.bd bank).resuming = true → (s.bd bank).running = false →
    s.spineLocked = true → s.tcxoStopped = none → s.bankPowered bank = true → s.p Pid.harnessState bank ≠ 4 →
    EffectIs (.bankResume t bank) t s ((s.at_ t).startBank bank))

/-- The commands of sensing, diagnosis and colour (R62, R66, R83, R88, R100, R113). -/
def Obligations.SenseDiagnosisAndColour : Prop :=
  (∀ (t ch : Nat) (r : LaneBits) (s : State), ch < 512 → s.d4On = true → s.streamInvalid ch = false →
    (s.bs (ch / 32)).restart = false → (s.bs (ch / 32)).settledFrom ≤ max s.now t →
    bitCount r = 3 * (s.decimation (ch / 32) - 1) + 1 →
    Completes (.decimatorSample t ch r) s (fun u =>
      let i := s.sampleUa (ch / 32) (sincWord (s.decimation (ch / 32)) r)
      let to_ := max s.now t - s.senseLag (ch / 32)
      u.w Pid.snsIInst ch = wordI (satS32 i) ∧
      (if highThrough (s.cs ch).pulses (to_ - bitTime (3 * (s.decimation (ch / 32) - 1) + 1)) to_ then
        (u.cs ch).samples = (s.cs ch).samples + 1 ∧ (u.cs ch).sampleSum = (s.cs ch).sampleSum + i
      else (u.cs ch).samples = (s.cs ch).samples ∧ (u.cs ch).sampleSum = (s.cs ch).sampleSum))) ∧
  (∀ (t ch : Nat) (s : State), ch < 512 → s.d4On = true → s.hasCard ch = true → Completes (.streamStuck t ch) s (fun u =>
    (u.cs ch).invalid = true ∧ u.flagOf Pid.snsLoopStatus ch 6 = true)) ∧
  (∀ (t ch : Nat) (s : State), ch < 512 → s.d4On = true → s.hasCard ch = true → Completes (.streamValidAgain t ch) s
    (fun u => (u.cs ch).invalid = false ∧ (u.cs ch).wasInvalid = (s.cs ch).wasInvalid ∧ u.params = s.params)) ∧
  (∀ (t ch : Nat) (s : State), ch < 512 → (s.cs ch).zeroAt + 600 * sec ≤ max s.now t →
    Completes (.zeroStale t ch) s (fun u => u.flagOf Pid.snsLoopStatus ch 4 = true ∧ u.sense = s.sense)) ∧
  (∀ (t ch a : Nat) (s : State), ch < 512 → (s.cs ch).limitSince = some a → (s.cs ch).limitTold = false →
    a + 10 * sec ≤ max s.now t → Completes (.loopLimitWarning t ch) s (fun u => (u.cs ch).limitTold = true)) ∧
  (∀ (t ch team : Nat) (s : State), ch < 512 → s.teamAt ch = some team →
    EffectIs (.provingWindowExpiry t ch) t s ((s.at_ t).expireWindow ch team)) ∧
  (∀ (t bank : Nat) (s : State), bank < 16 → s.p Pid.harnessState bank = 4 → (s.bh bank).fltHigh = false →
    (s.bh bank).fltSince + 10 * ms ≤ max s.now t → s.inCardFault bank = false →
    ((s.p Pid.harnessLaneOpen bank = 0 ∧ s.p Pid.harnessLaneShort bank = 0 ∧ s.p Pid.harnessLaneClimit bank = 0) ∨
      (s.bh bank).missed ≠ 0) → s.d4On = true →
    Completes (.cardFaultState t bank) s (fun u => u.inCardFault bank = true)) ∧
  (∀ (t team : Nat) (s : State), team < 512 → (s.td team).size ≠ 0 →
    ((s.diag.teams.get team).tempAt.getD (max (s.diag.teams.get team).since s.coldAt)) + 10 * sec ≤ max s.now t →
    EffectIs (.derateBlind t team) t s
      (((s.at_ t).setFlag Pid.diagDerateStatus team 2 true).derateTarget team
        (if (s.diag.teams.get team).tempAt.isSome then
          min (s.p Pid.diagDerateBlind team) (s.derateFormula team (s.pI Pid.diagTeamTemp team)).1
         else s.p Pid.diagDerateBlind team))) ∧
  (∀ (t team : Nat) (s : State), team < 512 → (s.td team).size ≠ 0 → max (s.tc team).tempAt s.coldAt + 10 * sec ≤ max s.now t →
    Completes (.noTempTimeout t team) s (fun u => u.flagOf Pid.colourStatus team 0 = true ∧ u.colour = s.colour)) ∧
  (∀ (t team : Nat) (s : State), team < 512 → (s.td team).size ≠ 0 → (s.at_ t).trimDue team = true →
    (s.at_ t).trimConditions team = false → Completes (.trimUpdate t team) s (fun u =>
      u.flagOf Pid.colourStatus team 1 = true ∧ (u.tc team).trimAt = some (max s.now t) ∧
      u.w Pid.colourTrim team = s.w Pid.colourTrim team)) ∧
  (∀ (t team : Nat) (x : SensorWord) (s v : State), team < 512 → (s.td team).size ≠ 0 →
    (s.at_ t).trimDue team = true → (s.at_ t).trimConditions team = true → (s.tc team).sensor = some x →
    v = ((s.at_ t).modTc team (fun k => { k with trimAt := some (max s.now t) })).modTd team
      (fun d => { d with faded := (s.at_ t).fading team }) →
    (s.pB Pid.colourSensorCal team = true →
      EffectIs (.trimUpdate t team) t s ((v.calibrate team x).setFlag Pid.colourStatus team 1 false)) ∧
    (s.pB Pid.colourSensorCal team = false → (∀ i : Nat, i < 3 → s.p Pid.colourSensorGain (3 * team + i) ≠ 0) →
      EffectIs (.trimUpdate t team) t s ((v.trimUpdate team x).setFlag Pid.colourStatus team 1 false))) ∧
  (∀ (t team a : Nat) (s : State), team < 512 → (s.tc team).limitedSince = some a → (s.tc team).limitedTold = false →
    a + 600 * sec ≤ max s.now t → Completes (.trimLimitedWarning t team) s (fun u => (u.tc team).limitedTold = true))

/-- MINUTE_CLOSE, METER_TOTALS_RECORD and SETTINGS_RECORD (R76, R79, R259). -/
def Obligations.MeterRecords : Prop :=
  (∀ (t a : Nat) (s : State), s.d4On = true → (s.at_ t).minuteDue = true → s.sense.nextClose = some a →
    EffectIs (.minuteClose t) t s (((s.at_ t).closeMinute 0).scheduleClose a)) ∧
  (∀ (t : Nat) (s : State), s.settingsTake = true → s.awake = true →
    (∀ a : Nat, s.sense.totalsAt = some a → a + 3600 * sec ≤ max s.now t) →
    EffectIs (.meterTotalsRecord t) t s (s.at_ t).recordTotals) ∧
  (∀ (t a : Nat) (s : State), s.sense.totalsAt = some a → max s.now t < a + 3600 * sec →
    EffectIs (.meterTotalsRecord t) t s (s.at_ t)) ∧
  (∀ (t a : Nat) (s : State), s.settingsTake = true → s.awake = true → s.storage.countersAt = some a →
    max s.now t < a + 3600 * sec → EffectIs (.settingsRecord t) t s (s.at_ t).recordMarks) ∧
  (∀ (t : Nat) (s : State), s.settingsTake = true → s.awake = true →
    (∀ a : Nat, s.storage.countersAt = some a → a + 3600 * sec ≤ max s.now t) →
    Completes (.settingsRecord t) s (fun u => u.storage.countersAt = some (max s.now t))) ∧
  (∀ (t : Nat) (s : State), s.settingsTake = false → EffectIs (.settingsRecord t) t s (s.at_ t))

/-- The commands of the link tests (R469, R470, R472, R475). -/
def Obligations.LinkTestCommands : Prop :=
  (∀ (t link lane : Nat) (bs : List Bool) (s : State),
    EffectIs (.patternCheckerSync t link lane bs) t s ((s.at_ t).feedLink link lane bs)) ∧
  (∀ (t link lane : Nat) (bs : List Bool) (s : State),
    EffectIs (.patternCheckerSyncLoss t link lane bs) t s ((s.at_ t).feedLink link lane bs)) ∧
  (∀ (t link lane : Nat) (bs : List Bool) (s : State), s.underTest link = false → Completes (.patternCheckerSync t link lane bs) s
    (fun u => u.test = s.test ∧ u.params = s.params)) ∧
  (∀ (t port : Nat) (s : State), port < 2 → s.underTest (36 + port) = true →
    EffectIs (.testFrameTimeout t port) t s ((s.at_ t).addCounts (36 + port) ⟨12000, 12000, 375, 0⟩)) ∧
  (∀ (t c n errors words : Nat) (s : State), c < 2 → s.underTest (32 + c) = true → s.d8On = true →
    EffectIs (.storageTestPass t c n errors words) t s
      (((s.at_ t).addCounts (32 + c) ⟨n, min n errors, min n words, 0⟩).setP Pid.testState (32 + c) 3)) ∧
  (∀ (t bank a : Nat) (s : State), bank < 16 → (s.lt (16 + bank)).loopAt = some a → s.underTest (16 + bank) = true →
    a + 100 * ms ≤ max s.now t → ((s.lt (16 + bank)).checkers.get 0).synced = false →
    EffectIs (.testSyncTimeout t bank) t s ((s.at_ t).endTest (16 + bank) 9))

/-- The TAP commands complete and change the TAP alone (R476). -/
def Obligations.TapCommands : Prop :=
  (∀ (t : Nat) (c : Instr) (s : State),
    (c = .tapReset t ∨ (∃ tdi, c = .bypass t tdi ∨ c = .idcode t tdi ∨ c = .clamp t tdi ∨ c = .highz t tdi) ∨
      (∃ lands tdi, c = .samplePreload t lands tdi ∨ c = .extest t lands tdi)) →
    Completes c s (fun u => ∃ k, u = ({ s with now := max s.now t, test := { s.test with tap := k } } : State).settleHold)) ∧
  (∀ (t : Nat) (s : State), Completes (.tapReset t) s (fun u =>
    u.test.tap.instruction = 1 ∧ u.test.tap.driven = false ∧ u.test.tap.highZ = false ∧ u.test.tap.cells = s.test.tap.cells)) ∧
  (∀ (t : Nat) (tdi : List Bool) (s : State), Completes (.bypass t tdi) s (fun u =>
    u.test.tap = bypassScan 0 false false tdi s.test.tap ∧ u.test.tap.driven = false)) ∧
  (∀ (t : Nat) (tdi : List Bool) (s : State), Completes (.idcode t tdi) s (fun u =>
    u.test.tap.instruction = 1 ∧ u.test.tap.driven = false ∧ u.test.tap.highZ = false ∧
    u.test.tap.shifted = shiftedOut s.idcodeBits tdi)) ∧
  (∀ (t : Nat) (lands tdi : List Bool) (s : State), Completes (.samplePreload t lands tdi) s (fun u =>
    u.test.tap = boundaryScan 2 false lands tdi s.test.tap ∧ u.test.tap.driven = false)) ∧
  (∀ (t : Nat) (lands tdi : List Bool) (s : State), s.tapOpen = true → Completes (.extest t lands tdi) s (fun u =>
    u.test.tap = boundaryScan 3 true lands tdi s.test.tap ∧ u.test.tap.driven = true)) ∧
  (∀ (t : Nat) (tdi : List Bool) (s : State), s.tapOpen = true → Completes (.clamp t tdi) s (fun u =>
    u.test.tap.instruction = 4 ∧ u.test.tap.driven = true ∧ u.test.tap.highZ = false ∧
    u.test.tap.cells = s.test.tap.cells)) ∧
  (∀ (t : Nat) (tdi : List Bool) (s : State), s.tapOpen = true → Completes (.highz t tdi) s (fun u =>
    u.test.tap.instruction = 5 ∧ u.test.tap.highZ = true ∧ u.test.tap.cells = s.test.tap.cells)) ∧
  (∀ (t : Nat) (lands tdi : List Bool) (s : State), s.tapOpen = false →
    exec (.extest t lands tdi) s = exec (.bypass t tdi) s ∧ exec (.clamp t tdi) s = exec (.bypass t tdi) s ∧
    exec (.highz t tdi) s = exec (.bypass t tdi) s)

/-- SPI_NOP, SPI_WRITE and SPI_READ (R228 to R230). -/
def Obligations.HostPortCommands : Prop :=
  (∀ (t octet : Nat) (s : State), EffectIs (.spiNop t octet) t s
    (if s.domainOn 1 then
      (if octet ∈ [0x00, 0x01, 0x02, 0x04, 0x05] then (s.at_ t).spiBegin else (s.at_ t).spiBegin.bump Pid.cmdHpBadCmd)
     else s.at_ t)) ∧
  (∀ (t count clocked : Nat) (cut : Bool) (s : State), s.domainOn 1 = false →
    EffectIs (.spiRead t count clocked cut) t s (s.at_ t)) ∧
  (∀ (t count : Nat) (words : List (BitVec 40)) (cut : Bool) (s : State), s.domainOn 1 = false →
    EffectIs (.spiWrite t count words cut) t s (s.at_ t)) ∧
  (∀ (t count : Nat) (words : List (BitVec 40)) (s : State), s.domainOn 1 = true → Completes (.spiWrite t count words true) s
    (fun u => u.bridle.spiStatus = (s.at_ t).hostStatus ∧
      u.bridle.hostPoisonNext = (decide (words.length < count) || (s.bridle.hostPoisonNext && ((words.take count).isEmpty))) ∧
      u.w Pid.cmdHpPartial 0 = s.w Pid.cmdHpPartial 0 + (if words.length < count then 1 else 0))) ∧
  (∀ (t octet : Nat) (s : State), s.domainOn 1 = true → octet ∈ [0x00, 0x01, 0x02, 0x04, 0x05] →
    Completes (.spiNop t octet) s (fun u => u.bridle.spiStatus = (s.at_ t).hostStatus ∧ u.params = s.params ∧
      u.bridle.hostIn = s.bridle.hostIn ∧ u.bridle.hostOut = s.bridle.hostOut)) ∧
  (∀ (t octet : Nat) (s : State), s.domainOn 1 = true → octet ∉ [0x00, 0x01, 0x02, 0x04, 0x05] →
    Completes (.spiNop t octet) s (fun u => u.w Pid.cmdHpBadCmd 0 = s.w Pid.cmdHpBadCmd 0 + 1)) ∧
  (∀ (t count : Nat) (words : List (BitVec 40)) (s : State), s.domainOn 1 = true → s.bridle.hostPoisonNext = false →
    Completes (.spiWrite t count words false) s (fun u =>
      u.bridle.spiStatus = (s.at_ t).hostStatus ∧ u.bridle.hostPoisonNext = false ∧
      u.bridle.hostIn = (((words.take count).map hostWord).foldl PortQueue.push s.hostQueue).words ∧
      u.bridle.hostInDrain = (((words.take count).map hostWord).foldl PortQueue.push s.hostQueue).drain ∧
      u.bridle.hostOut = s.bridle.hostOut)) ∧
  (∀ (t count clocked : Nat) (cut : Bool) (s : State), s.domainOn 1 = true →
    Completes (.spiRead t count clocked cut) s (fun u =>
      u.bridle.hostOut = s.bridle.hostOut.drop (min count clocked) ∧
      u.bridle.spiRead.length = min count clocked ∧
      (∀ i : Nat, i < min count clocked → u.bridle.spiRead[i]? =
        some ((s.bridle.hostOut[i]?.map readWord).getD emptyReadWord)) ∧
      u.w Pid.cmdHpPartial 0 = s.w Pid.cmdHpPartial 0 + (if cut = true ∧ clocked < count then 1 else 0)))

/-- A flush discards every word of its queue, counts the whole packets and drains to the next end mark (R234). -/
def Obligations.FlushesDiscardAndDrain : Prop :=
  (∀ (t : Nat) (s : State), s.domainOn 1 = true → Completes (.flushIn t) s (fun u =>
    u.bridle.hostIn = [] ∧ packetCount u.bridle.hostIn = 0 ∧
    u.p Pid.cmdHpFlushed = (s.p Pid.cmdHpFlushed + packetCount s.bridle.hostIn) % 2 ^ 32 ∧
    (∀ w : QueuedWord, s.bridle.hostIn.getLast? = some w → u.bridle.hostInDrain = (s.bridle.hostInDrain || !w.endMark)) ∧
    (s.bridle.hostIn = [] → u.bridle.hostInDrain = s.bridle.hostInDrain) ∧
    u.bridle.sessions = s.bridle.sessions ∧ u.bridle.hostOut = s.bridle.hostOut)) ∧
  (∀ (t : Nat) (s : State), s.domainOn 1 = true → Completes (.flushOut t) s (fun u =>
    u.bridle.hostOut = [] ∧ packetCount u.bridle.hostOut = 0 ∧
    u.p Pid.cmdHpFlushed = (s.p Pid.cmdHpFlushed + packetCount s.bridle.hostOut) % 2 ^ 32 ∧
    (∀ w : QueuedWord, s.bridle.hostOut.getLast? = some w →
      u.bridle.hostOutDrain = (s.bridle.hostOutDrain || !w.endMark)) ∧
    (s.bridle.hostOut = [] → u.bridle.hostOutDrain = s.bridle.hostOutDrain) ∧
    u.bridle.sessions = s.bridle.sessions ∧ u.bridle.hostIn = s.bridle.hostIn)) ∧
  (∀ (t : Nat) (words : List (BitVec 40)) (last : BitVec 40) (s : State), s.domainOn 1 = true →
    s.bridle.hostInDrain = true → (∀ w ∈ words, (hostWord w).endMark = false) → (hostWord last).endMark = true →
    Completes (.spiWrite t (words.length + 1) (words ++ [last]) false) s (fun u =>
      u.bridle.hostIn = s.bridle.hostIn ∧ u.bridle.hostInDrain = false ∧
      u.p Pid.cmdHpDrainedIn = (s.p Pid.cmdHpDrainedIn + words.length + 1) % 2 ^ 32)) ∧
  (∀ (t : Nat) (words : List (BitVec 40)) (s : State), s.domainOn 1 = true →
    s.bridle.hostInDrain = true → (∀ w ∈ words, (hostWord w).endMark = false) → 
    Completes (.spiWrite t words.length words false) s (fun u =>
      u.bridle.hostIn = s.bridle.hostIn ∧ u.bridle.hostInDrain = true ∧
      u.p Pid.cmdHpDrainedIn = (s.p Pid.cmdHpDrainedIn + words.length) % 2 ^ 32)) ∧
  (∀ (s : State) (ws : List Word), s.bridle.hostOutDrain = true →
    (s.sendReply .host ws).bridle.hostOut = s.bridle.hostOut ∧ (s.sendReply .host ws).bridle.hostOutDrain = false ∧
    (s.sendReply .host ws).bridle.sessions = s.bridle.sessions ∧
    (s.sendReply .host ws).p Pid.cmdHpDrainedOut = (s.p Pid.cmdHpDrainedOut + ws.length) % 2 ^ 32)

/-- SERVICE_PORT_RECEIVE, SERVICE_PORT_TRANSMIT, REPLY_ENQUEUE and REPLY_DROP (R227, R236). -/
def Obligations.ServicePortAndReplies : Prop :=
  (∀ (t : Nat) (octets : List LineOctet) (s : State), s.domainOn 1 = true →
    EffectIs (.servicePortReceive t octets) t s ((octets.foldl State.serviceReceive (s.at_ t)).wakeOnPacket
      (packetCount s.bridle.hostIn + packetCount s.bridle.serviceIn))) ∧
  (∀ (t count : Nat) (s : State), s.domainOn 1 = true → Completes (.servicePortTransmit t count) s (fun u =>
    u.bridle.serviceOut = s.bridle.serviceOut.drop count ∧
    u.bridle.serviceSent = (s.bridle.serviceOut.take count).flatMap (fun w =>
      (octetsOf w.data).flatMap slipOctet ++ (if w.endMark then [(0xC0 : Byte)] else [])))) ∧
  (∀ (t : Nat) (w : WaitingReply) (s : State), s.firstWaiting false = some w →
    s.bridle.hostOut.length + w.words.length ≤ 8192 → s.bridle.hostOutDrain = false →
    Completes (.replyEnqueue t .host) s (fun u => u.bridle.hostOut = s.bridle.hostOut ++ asQueued w.words ∧
      u.bridle.waiting = (s.dropWaiting false).bridle.waiting)) ∧
  (∀ (t : Nat) (w : WaitingReply) (s : State), s.firstWaiting true = some w →
    s.bridle.serviceOut.length + w.words.length ≤ 8192 →
    Completes (.replyEnqueue t .service) s (fun u => u.bridle.serviceOut = s.bridle.serviceOut ++ asQueued w.words ∧
      u.bridle.waiting = (s.dropWaiting true).bridle.waiting)) ∧
  (∀ (t : Nat) (w : WaitingReply) (s : State), s.firstWaiting false = some w →
    8192 < s.bridle.hostOut.length + w.words.length → EffectIs (.replyEnqueue t .host) t s (s.at_ t)) ∧
  (∀ (t : Nat) (tr : Transport) (w : WaitingReply) (s : State), (tr = .host ∨ tr = .service) →
    s.firstWaiting (tr == .service) = some w → w.since + 60 * sec ≤ max s.now t →
    Completes (.replyDrop t tr) s (fun u => u.bridle.waiting = (s.dropWaiting (tr == .service)).bridle.waiting ∧
      u.w Pid.cmdRepliesDropped 0 = s.w Pid.cmdRepliesDropped 0 + 1))

/-- Tickets, sessions, lockouts and kept identifiers end on time (R237, R238, R245). -/
def Obligations.SessionDeadlines : Prop :=
  (∀ (t sid n a : Nat) (r : Result) (k : Session) (tk : Ticket) (s : State), s.session sid = some k →
    k.ticket n = some tk → tk.result = some (a, r) → a + 60 * sec ≤ max s.now t →
    Completes (.ticketExpiry t sid n) s (fun u =>
      (∀ k' ∈ u.bridle.sessions, k'.id = sid → k'.ticket n = none) ∧
      u.w Pid.cmdTicketsExpired 0 = s.w Pid.cmdTicketsExpired 0 + 1)) ∧
  (∀ (t sid : Nat) (k : Session) (s : State), s.session sid = some k →
    k.lastAccept + s.p Pid.cmdSessionIdleS * sec ≤ max s.now t →
    EffectIs (.sessionIdleClose t sid) t s ((s.at_ t).closeSession sid)) ∧
  (∀ (t sid : Nat) (k : Session) (s : State), s.session sid = some k → k.proved = false →
    k.openedAt + 5 * sec ≤ max s.now t → EffectIs (.provisionalTimeout t sid) t s ((s.at_ t).closeSession sid)) ∧
  (∀ (t sid : Nat) (k : Session) (s : State), s.session sid = some k → k.proved = true →
    EffectIs (.provisionalTimeout t sid) t s (s.at_ t)) ∧
  (∀ (s : State) (sid : Nat), (∀ k ∈ (s.closeSession sid).bridle.sessions, k.id ≠ sid) ∧
    (∀ k ∈ s.bridle.sessions, k.id ≠ sid → k ∈ (s.closeSession sid).bridle.sessions)) ∧
  (∀ (t : Nat) (tr : Transport) (s : State), Completes (.proofLockoutEnd t tr) s (fun u =>
    ∀ l : Transport × Nat, l ∈ u.bridle.lockouts ↔ l ∈ s.bridle.lockouts ∧ ¬ (l.1 = tr ∧ l.2 ≤ max s.now t))) ∧
  (∀ (t sid : Nat) (s : State), Completes (.revokedIdentifierRelease t sid) s (fun u =>
    ∀ k, k ∈ u.bridle.kept ↔ k ∈ s.bridle.kept ∧ ¬ (k.id = sid ∧ k.until_ ≤ max s.now t)))

/-- PACKET_DISCARD, UNASSIGNED_OPCODE and SESSION_OPEN (R226, R237, R247); the identifier is a drawn free value
(assumption 2). -/
def Obligations.PacketsOutsideSessions : Prop :=
  (∀ (t : Nat) (tr : Transport) (p : Packet) (s : State), s.awake = true → s.replyWaits tr = false →
    s.onTurn tr = true → s.frontPacket tr = some p → p.source.transport = tr → p.row = .discard →
    EffectIs (.packetDiscard t tr) t s (((s.at_ t).taken tr).bump Pid.cmdDiscards tr.index)) ∧
  (∀ (t gaps : Nat) (tr : Transport) (p : Packet) (k : Session) (s : State), s.awake = true → s.replyWaits tr = false →
    s.onTurn tr = true → s.frontPacket tr = some p → p.source.transport = tr → p.row = .unassigned →
    s.session (headerOf p.data).session = some k → ((s.at_ t).taken tr).verdict p = .accept (some k) gaps →
    k.slot = 0xFF → EffectIs (.unassignedOpcode t tr) t s
      (((s.at_ t).note tr p k gaps).reply (p.request k) none (p.data.getLastD 0) (fail stUnknownOp))) ∧
  (∀ (t : Nat) (tr : Transport) (p : Packet) (nonce : List Word) (s : State), s.awake = true →
    s.replyWaits tr = false → s.onTurn tr = true → s.frontPacket tr = some p → p.source.transport = tr →
    p.row = .opcode 0x00 →
    s.farrier = false → (headerOf p.data).ticket = 0 → (headerOf p.data).session = 0 →
    ((s.at_ t).taken tr).verdict p = .accept none 0 →
    EffectIs (.sessionOpen t tr nonce) t s
      (let v := ((s.at_ t).taken tr).bump Pid.cmdSeqGaps tr.index 0
       let q : Request := ⟨p.source, 0, (headerOf p.data).seq, 0xFF, 0x00, 0, (p.data.drop 3).take
         (headerOf p.data).length, p.broadcast⟩
       match openBody nonce q v with
       | (.later, v) => v.reply q none (p.data.getLastD 0) (fail stPending)
       | (.done r, v) => v.reply q none (p.data.getLastD 0) r)) ∧
  (∀ (nonce : List Word) (q : Request) (a : State), q.payload.length = 5 → bits (nth q.payload 0) 31 24 ≤ 3 →
    bits (nth q.payload 0) 23 8 = 0 → bits (nth q.payload 0) 7 0 = 0xFF → a.lockedOut q.source.transport = false →
    a.p Pid.keyRngStatus ≠ 1 → bits (nth q.payload 0) 31 24 ≤ a.p Pid.cmdMaxRole q.source.transport.index →
    a.farrier = false → a.bridle.sessions.length < 32 → a.usedIdentifiers.length < 0xFFFE →
    (a.slotOpens q.source.transport 0xFF (bits (nth q.payload 0) 31 24)).1 = true →
    ∃ k : Session, (openBody nonce q a).2.bridle.sessions = a.bridle.sessions ++ [k] ∧
      k.proved = false ∧ k.source = q.source ∧ k.role = bits (nth q.payload 0) 31 24 ∧ k.slot = 0xFF ∧
      k.clientNonce = (q.payload.drop 1).take 4 ∧ k.id ∉ a.usedIdentifiers ∧ 1 ≤ k.id ∧ k.id ≤ 0xFFFE) ∧
  (∀ (nonce : List Word) (q : Request) (a : State), q.payload.length = 5 → bits (nth q.payload 0) 31 24 ≤ 4 →
    bits (nth q.payload 0) 23 8 = 0 → bits (nth q.payload 0) 7 0 = 0xFF → a.lockedOut q.source.transport = true →
    openBody nonce q a = (.done (fail stAuth 5), a)) ∧
  (∀ (nonce : List Word) (q : Request) (a : State), q.payload.length = 5 → bits (nth q.payload 0) 31 24 ≤ 4 →
    bits (nth q.payload 0) 23 8 = 0 → bits (nth q.payload 0) 7 0 = 0xFF → a.lockedOut q.source.transport = false →
    a.p Pid.keyRngStatus = 1 → openBody nonce q a = (.done (fail stAuth 6), a))

/-- The commands of links, discovery and forgetting (R266 to R275, R280). -/
def Obligations.LinkCommands : Prop :=
  (∀ (t port speed : Nat) (eee : Bool) (s : State), port < 2 → s.phyRuns port = true → s.linkUp port = false →
    s.speedAllowed port speed = true → Completes (.linkUp t port speed false eee) s (fun u =>
      u.p Pid.netLink port = 1 + 2 * speed + 8 * flag (s.eeeWanted port && eee && decide (2 ≤ speed)) ∧
      (u.port port).refusedAt = none ∧ (u.port port).lpiSince = none ∧ (u.port port).partnerEee = eee ∧
      u.net.mode = s.net.mode ∧ u.net.rings = s.net.rings)) ∧
  (∀ (t port speed : Nat) (eee : Bool) (s : State), port < 2 → s.phyRuns port = true → s.linkUp port = false →
    s.speedAllowed port speed = true → Completes (.linkUp t port speed true eee) s (fun u =>
      u.linkUp port = false ∧ u.flagOf Pid.netLink port 5 = true ∧ (u.port port).refusedAt = some (max s.now t))) ∧
  (∀ (t port : Nat) (s : State), port < 2 → s.linkUp port = true → s.net.modeWaits = false → s.net.ipWaits = false →
    Completes (.linkDown t port) s (fun u =>
      (u.port port).high = [] ∧ (u.port port).normal = [] ∧ (u.port port).partnerEee = false)) ∧
  (∀ (t port : Nat) (s : State), port < 2 →
    EffectIs (.linkDown t port) t s ((s.at_ t).linkLost port).afterReply) ∧
  (∀ (t port a : Nat) (s : State), port < 2 → (s.port port).refusedAt = some a → a + 2 * sec ≤ max s.now t →
    Completes (.halfDuplexRetry t port) s (fun u => (u.port port).refusedAt = some (max s.now t) ∧ u.params = s.params)) ∧
  (∀ (t port : Nat) (s : State), port < 2 → s.linkUp port = true → s.flagOf Pid.netLink port 3 = true →
    (s.port port).lpiSince = none → (s.port port).high = [] → (s.port port).normal = [] →
    (s.port port).idleSince + s.p Pid.netEeeIdleUs * us ≤ max s.now t → Completes (.lpiEntry t port) s (fun u =>
      u.flagOf Pid.netLink port 4 = true ∧ (u.port port).lpiSince = some (max s.now t))) ∧
  (∀ (t port a : Nat) (s : State), port < 2 → s.phyRuns port = true → (s.port port).lldpSent = some a →
    a + s.p Pid.netLldpIntervalS * sec ≤ max s.now t → Completes (.lldpSend t port) s (fun u =>
      (u.port port).lldpSent = some (max s.now t) ∧ ∃ f : Frame, f.dest = nearestBridge ∧ f.source = s.mac port ∧
        u.net.originated = s.net.originated ++ [([port], ⟨f, true, none, none⟩)])) ∧
  (∀ (t port : Nat) (n : LldpNeighbour) (s : State), (s.port port).neighbour = some n → n.expires ≤ max s.now t →
    EffectIs (.lldpNeighbourExpiry t port) t s
      (((s.at_ t).modifyPort port (fun k => { k with neighbour := none })).showTw port)) ∧
  (∀ (t : Nat) (s : State), s.net.mode < 2 → s.domainOn 6 = true → s.net.lifeSent = none →
    Completes (.supervisionSend t) s (fun u => u.net.lifeSent = some (max s.now t) ∧
      u.net.originated = s.net.originated ++ [([0, 1], ⟨⟨0x01154E000100 + s.p Pid.netSupAddrLsb, s.mac 0, 64, true,
        none, none, none, .supervision (s.mac 0)⟩, true, none, none⟩)])) ∧
  (∀ (t source : Nat) (s : State), Completes (.nodeForget t source) s (fun u => ∀ x, x ∈ u.net.nodes ↔
    x ∈ s.net.nodes ∧ ¬ (x.1 = source ∧ x.2 + s.p Pid.netNodeForgetS * sec ≤ max s.now t))) ∧
  (∀ (t source seq : Nat) (e : DupEntry) (s : State),
    s.net.dups.find? (fun e => e.source == source && e.seq == seq &&
      decide (e.at_ + s.p Pid.netEntryForgetMs * ms ≤ max s.now t)) = some e →
    Completes (.duplicateEntryForget t source seq) s (fun u => u.net.dups = s.net.dups.erase e ∧
      u.w Pid.netSinglePath e.port = s.w Pid.netSinglePath e.port + (if e.both then 0 else 1))) ∧
  (∀ (t cand due : Nat) (s : State), s.net.probing = some (cand, 3, due) → due ≤ max s.now t → s.p Pid.netIpAddr = 0 →
    Completes (.linkLocalProbe t) s (fun u => u.p Pid.netIpInUse = cand % 2 ^ 32 ∧
      u.net.probing = some (cand, 4, max s.now t + 2 * sec))) ∧
  (∀ (t cand due : Nat) (s : State), s.net.probing = some (cand, 2, due) → due ≤ max s.now t → s.p Pid.netIpAddr = 0 →
    Completes (.linkLocalProbe t) s (fun u => u.net.probing = some (cand, 3, max s.now t + 2 * sec) ∧
      u.net.originated.length = s.net.originated.length + 1)) ∧
  (∀ (t a : Nat) (s : State), s.net.reduceStep = some (1, a) → s.linkUp s.net.keptPort = true →
    s.net.keptPort < 2 → Completes (.reducedUplinkStep t) s (fun u =>
      (u.port (1 - s.net.keptPort)).phyOn = false ∧ u.net.reduceStep = none))

/-- FRAME_RECEIVE, FRAME_TRANSMIT, ORIGINATED_FRAME_QUEUE and DISCOVERY_REPLY (R271, R276, R278). -/
def Obligations.FrameCommands : Prop :=
  (∀ (t port sfd : Nat) (f : Frame) (o b : Bool) (s : State), port < 2 → s.portTested port = false → s.phyRuns port = true →
    s.linkUp port = true → s.net.mode ≠ 1 → f.length < 64 →
    EffectIs (.frameReceive t port sfd f o b) t s
      (if b then (s.at_ t).bump Pid.netRxRunts port else ((s.at_ t).bump Pid.netRxRunts port).takeFrames)) ∧
  (∀ (t port sfd : Nat) (f : Frame) (o b : Bool) (s : State), port < 2 → s.portTested port = false → s.phyRuns port = true →
    s.linkUp port = true → s.net.mode ≠ 1 → 1536 < f.length →
    EffectIs (.frameReceive t port sfd f o b) t s
      (if b then (s.at_ t).bump Pid.netRxOversize port else ((s.at_ t).bump Pid.netRxOversize port).takeFrames)) ∧
  (∀ (t port sfd : Nat) (f : Frame) (o b : Bool) (s : State), port < 2 → s.portTested port = false → s.phyRuns port = true →
    s.linkUp port = true → s.net.mode ≠ 1 → 64 ≤ f.length → f.length ≤ 1536 → f.fcsGood = false →
    EffectIs (.frameReceive t port sfd f o b) t s
      (if b then (s.at_ t).bump Pid.netRxFcs port else ((s.at_ t).bump Pid.netRxFcs port).takeFrames)) ∧
  (∀ (t port sfd : Nat) (f : Frame) (o b : Bool) (s : State), (2 ≤ port ∨ s.linkUp port = false) →
    EffectIs (.frameReceive t port sfd f o b) t s (if b then s.at_ t else (s.at_ t).takeFrames)) ∧
  (∀ (t port sfd need : Nat) (f : Frame) (s : State), port < 2 → s.portTested port = false → s.phyRuns port = true →
    s.linkUp port = true → s.net.mode = 2 → 64 ≤ f.length → f.length ≤ 1536 → f.fcsGood = true →
    s.ownMac f.dest = true → f.vlan = none → f.body ≠ .pause → s.copySeq f = none → s.power.asleep = false →
    need = divUp (f.length - 4) 256 →
    need ≤ (s.net.rings.getD (2 * port + (if highQueue f then 0 else 1)) (.full 0)).free.length →
    EffectIs (.frameReceive t port sfd f false true) t s
      (let v := ((s.at_ t).forward port sfd f).countFrame 0 (s.frameKind f) port f
       let i := 2 * port + (if highQueue f then 0 else 1)
       let ring := v.net.rings.getD i (.full 0)
       v.withNet (fun n => { n with rings := n.rings.set i (RxRing.mk (ring.free.drop need)
         (ring.held ++ [HeldFrame.mk f sfd (ring.free.take need)])) }))) ∧
  (∀ (t port : Nat) (q : QueuedFrame) (rest : List QueuedFrame) (s : State), port < 2 → s.portTested port = false →
    s.linkUp port = true → (s.port port).wakeUntil = none → (s.port port).high = q :: rest → q.ingress = none →
    q.stampSlot = none → s.net.modeWaits = false → s.net.ipWaits = false → Completes (.frameTransmit t port) s (fun u =>
      u.net.sent = [(port, q.frame)] ∧ (u.port port).high = rest ∧ (u.port port).normal = (s.port port).normal)) ∧
  (∀ (t port : Nat) (q : QueuedFrame) (rest : List QueuedFrame) (s : State), port < 2 → s.portTested port = false →
    s.linkUp port = true → (s.port port).wakeUntil = none → (s.port port).high = [] → (s.port port).normal = q :: rest →
    q.ingress = none → q.stampSlot = none → s.net.modeWaits = false → s.net.ipWaits = false →
    Completes (.frameTransmit t port) s (fun u => u.net.sent = [(port, q.frame)] ∧ (u.port port).normal = rest)) ∧
  (∀ (t : Nat) (ports : List Nat) (q : QueuedFrame) (rest : List (List Nat × QueuedFrame)) (v s : State),
    s.domainOn 6 = true → s.net.originated = (ports, q) :: rest → (s.at_ t).placeOwn ports q = some v →
    EffectIs (.originatedFrameQueue t) t s (v.withNet (fun n => { n with originated := rest })).afterReply) ∧
  (∀ (t : Nat) (ports : List Nat) (q : QueuedFrame) (rest : List (List Nat × QueuedFrame)) (s : State),
    s.net.originated = (ports, q) :: rest → (s.at_ t).placeOwn ports q = none →
    EffectIs (.originatedFrameQueue t) t s (s.at_ t).afterReply) ∧
  (∀ (t : Nat) (d : Nat × Source × List Word) (s : State),
    s.bridle.discovery.find? (fun d => decide (d.1 ≤ max s.now t)) = some d → Completes (.discoveryReply t) s (fun u =>
      u.bridle.discovery = s.bridle.discovery.erase d ∧
      u.bridle.uplinkOut = s.bridle.uplinkOut ++ [(d.2.1, d.2.2)]))

/-- The commands of the local clock and of PTP (R289 to R295). -/
def Obligations.ClockCommands : Prop :=
  (∀ (t : Nat) (s : State), (s.at_ t).count / 3125000 ≤ s.time.steered → EffectIs (.localSteer t) t s (s.at_ t)) ∧
  (∀ (t : Nat) (s : State), s.time.steered < (s.at_ t).count / 3125000 → 2 ≤ s.p Pid.timeSelected →
    s.time.pendingSet = [] → s.time.slewLeft = none → Completes (.localSteer t) s (fun u =>
      u.time.steered = (s.at_ t).count / 3125000 ∧ u.time.clock = s.time.clock ∧ u.params = s.params)) ∧
  (∀ (t : Nat) (s v : State), s.time.steered < (s.at_ t).count / 3125000 →
    v = s.time.pendingSet.foldl State.doTimeSet ((s.at_ t).withTime (fun k => { k with
      steered := (s.at_ t).count / 3125000, pendingSet := [] })) →
    EffectIs (.localSteer t) t s
      (if 1 < v.p Pid.timeSelected then v.slewStep
       else
        let m := (v.ptpSlot (v.p Pid.timeSelected)).model
        let e := m.at_ v.count - v.clockNow
        let w := (v.setI Pid.timeOffsetNs 0 (satS32 (Int.tdiv e nsUnit))).withTime (fun k => { k with
          slewLeft := none, bySlot := true })
        if (w.p Pid.timeStepNs : Int) * nsUnit < e.natAbs then w.adjust e
        else w.setRate (m.rate + ofPpb (clampI (-(w.p Pid.timeSlewPpb : Int)) (w.p Pid.timeSlewPpb)
          (Int.tdiv e nsUnit))))) ∧
  (∀ (t slot a : Nat) (s : State), slot < 2 → (s.p Pid.timeDomState slot = 2 ∨ s.p Pid.timeDomState slot = 3) →
    (s.ptpSlot slot).lastSync = some a → a + s.p Pid.timeSyncTimeoutMs * ms ≤ max s.now t →
    EffectIs (.syncTimeout t slot) t s ((s.at_ t).slotLostPtp slot)) ∧
  (∀ (t slot : Nat) (a : Announcer) (s : State), slot < 2 →
    (s.ptpSlot slot).announcers.find? (fun a => some (a.port, a.source) == (s.ptpSlot slot).chosen) = some a →
    a.heard + s.p Pid.timeAnnounceTimeout * intervalSteps a.interval ≤ max s.now t →
    EffectIs (.announceTimeout t slot) t s ((s.at_ t).slotLostPtp slot)) ∧
  (∀ (t a : Nat) (s : State), (s.ptpSlot 0).lockedSince = some a → s.p Pid.timeSelected = 1 → s.p Pid.timeRevertS ≠ 0 →
    s.slotLocked 0 = true → a + s.p Pid.timeRevertS * sec ≤ max s.now t → EffectIs (.domainRevert t) t s
      ((((s.at_ t).setP Pid.timeSelected 0 0).bump Pid.timeSwitches).setQuality 0)) ∧
  (∀ (t a : Nat) (s : State), s.time.holdoverSince = some a → s.p Pid.timeQuality = 2 →
    a + s.p Pid.timeHoldoverS * sec ≤ max s.now t → EffectIs (.holdoverExpiry t) t s ((s.at_ t).setQuality 3)) ∧
  (∀ (t slot port : Nat) (s : State), slot < 2 → port < 2 → s.pB Pid.timeDomEnable slot = true → s.domainOn 6 = true →
    s.p Pid.timeDomDelayMech slot = 1 → Completes (.ptpRequestSend t slot port) s (fun u =>
      (u.ptpSlot slot).request = some (port, (s.ptpSlot slot).nextSequence) ∧ (u.ptpSlot slot).response = none ∧
      (u.ptpSlot slot).nextSequence = ((s.ptpSlot slot).nextSequence + 1) % 65536 ∧
      u.net.originated.length = s.net.originated.length + 1)) ∧
  (∀ (t : Nat) (e : StampEntry) (rest : List StampEntry) (s : State), s.time.awaiting = e :: rest →
    s.time.stamps.length < 32 → e.messageType ≠ 3 → Completes (.txTimestamp t) s (fun u =>
      u.time.awaiting = rest ∧ u.time.stamps = s.time.stamps ++ [e])) ∧
  (∀ (t : Nat) (e : StampEntry) (rest : List StampEntry) (s : State), s.time.awaiting = e :: rest →
    32 ≤ s.time.stamps.length → Completes (.txTimestamp t) s (fun u =>
      u.time.awaiting = rest ∧ u.time.stamps = s.time.stamps))

/-- The commands of the calendar, the wake timer and the alarms (R296 to R302). -/
def Obligations.CalendarCommands : Prop :=
  (∀ (t : Nat) (s : State), s.time.leapAt = none → s.flagOf Pid.timeCalStatus 0 3 = false →
    (s.at_ t).calSynced = false → EffectIs (.calendarSecond t) t s (s.at_ t)) ∧
  (∀ (t : Nat) (s : State), s.time.leapAt = none → s.flagOf Pid.timeCalStatus 0 3 = false →
    (s.at_ t).calSynced = true → s.p Pid.timeQuality ≤ 3 → 2 < ((s.at_ t).calMs - (s.at_ t).civilMs).natAbs →
    EffectIs (.calendarSecond t) t s (s.at_ t).rewriteCalendar) ∧
  (∀ (t : Nat) (m : Int) (s v : State), s.time.leapAt = some m → m ≤ (s.at_ t).clockSec →
    v = ((((s.at_ t).setI Pid.timeUtcOffsetS 0 (s.pI Pid.timeUtcOffsetS + 1)).mark Pid.timeUtcOffsetS 0).setFlag
      Pid.timeCalStatus 0 2 false).withTime (fun k => { k with leapAt := none }) →
    v.flagOf Pid.timeCalStatus 0 3 = false → v.calSynced = false → EffectIs (.calendarSecond t) t s v) ∧
  (∀ (t ticks : Nat) (s : State), s.p Pid.timeQuality ≤ 1 → s.time.trimWindow = none →
    Completes (.rtcTrimWindow t ticks) s (fun u =>
      u.time.trimWindow = some ((s.at_ t).clockNs, s.time.rtcTicks) ∧ u.params = s.params)) ∧
  (∀ (t ticks : Nat) (s : State), 2 ≤ s.p Pid.timeQuality → Completes (.rtcTrimWindow t ticks) s (fun u =>
    u.time.trimWindow = none ∧ u.params = s.params)) ∧
  (∀ (t ticks rtc : Nat) (from_ : Int) (s : State), s.p Pid.timeQuality ≤ 1 → s.time.trimWindow = some (from_, rtc) →
    (s.at_ t).clockNs - from_ < 1024000000000 → EffectIs (.rtcTrimWindow t ticks) t s (s.at_ t)) ∧
  (∀ (t : Nat) (s : State), s.power.d0OnVin = false → Completes (.retentionLoss t) s (fun u =>
    u.p Pid.timeContinuity = 0 ∧ u.power.standDownFlag = false ∧ u.power.resetCause = none ∧
    u.power.sleepDeadline = none ∧ u.time.retained = false ∧ u.time.wakeAt = none)) ∧
  (∀ (t : Nat) (s : State), s.power.d0OnVin = true → EffectIs (.retentionLoss t) t s (s.at_ t)) ∧
  (∀ (t : Nat) (on : Bool) (s : State), Completes (.d0SupplyChangeover t on) s (fun u =>
    u.power.d0OnVin = on ∧ u.time.retained = (on || s.time.retained))) ∧
  (∀ (t a : Nat) (s : State), s.time.wakeAt = some a → a ≤ max s.now t → Completes (.wakeTimerExpiry t) s (fun u =>
    u.w Pid.timeWakeCount 0 = s.w Pid.timeWakeCount 0 + 1 ∧ u.power.wakes = s.power.wakes ++ [3] ∧
    u.time.wakeAt = some (a + s.p Pid.timeWakePeriod * sec / 256))) ∧
  (∀ (t alarm : Nat) (s : State), alarm < 8 → s.alarmArmed alarm = true → s.alarmTarget alarm ≤ (s.at_ t).clockNs →
    Completes (.alarmFire t alarm) s (fun u => u.flagOf Pid.timeAlarmStatus alarm 0 = true ∧
      (s.p Pid.timeAlarmPeriodMs alarm = 0 → u.flagOf Pid.timeAlarmCtrl alarm 0 = false)))

/-- The commands of the relay radio (R314 to R335). -/
def Obligations.RelayCommands : Prop :=
  (∀ (t : Nat) (s : State), s.relay.served = some (s.at_ t).asn → EffectIs (.relaySlot t) t s (s.at_ t)) ∧
  (∀ (t : Nat) (s : State), s.relay.served ≠ some (s.at_ t).asn → (s.at_ t).relaySends = false →
    EffectIs (.relaySlot t) t s
      ((s.relay.evicting.map (fun x => x.1)).eraseDups.foldl State.evicted (s.at_ t))) ∧
  (∀ (t : Nat) (s v : State), s.relay.served ≠ some (s.at_ t).asn → (s.at_ t).relaySends = true →
    v = (((s.at_ t).withRelay (fun r => { r with served := some (s.at_ t).asn, sent := [] })).trimAir).takeReplies →
    (v.asn % v.relay.config.slotframe = 0 → v.slotframeNow % v.p Pid.relayBeaconEvery = 0 →
      EffectIs (.relaySlot t) t s v.sendBeacon) ∧
    (¬ (v.asn % v.relay.config.slotframe = 0 ∧ v.slotframeNow % v.p Pid.relayBeaconEvery = 0) →
      v.asn % v.relay.config.slotframe ≤ v.relay.config.shared → EffectIs (.relaySlot t) t s v.sharedSlot) ∧
    (∀ n : Nat, 1 ≤ v.asn % v.relay.config.slotframe → v.relay.config.shared < v.asn % v.relay.config.slotframe →
      v.contexts.find? (fun n => (v.cellOf n).down == v.asn % v.relay.config.slotframe &&
        v.slotframeNow % 2 ^ (v.cellOf n).log2P == (v.cellOf n).phase) = some n →
      EffectIs (.relaySlot t) t s (v.downlinkCell n))) ∧
  (∀ (s : State) (e : Nat), s.reading Pid.relayAsn e = word (if e = 0 then s.asn / 2 ^ 32 else s.asn % 2 ^ 32)) ∧
  (∀ (t n : Nat) (f : RadioFrame) (h : RelayHeader) (kinds : List Nat) (c : Bool × State) (s : State),
    nodeOfShort f.source = some n → s.domainOn 7 = true → s.contextHeld n = true → s.radios.contains f.radio = true →
    h = relayHeader f.source f.payload → h.ttl = 0 → (s.at_ t).positionHeard n f.radio = true →
    ((s.at_ t).windowOf n f.arrivalUs).1 = true → kinds = frameKinds h.type_ (h.more || h.index != 0) false →
    c = (s.at_ t).checkFrame n kinds f →
    (c.1 = false → EffectIs (.uplinkFrame t f) t s c.2) ∧
    (c.1 = true → EffectIs (.uplinkFrame t f) t s
      (let v := (c.2.relayTally 0 kinds 0 f.radio).relayTally 0 kinds 1 f.radio f.payload.length
       let v := (v.acceptFrame n f).setI Pid.relayNodeDriftPpb n ((s.at_ t).windowOf n f.arrivalUs).2
       let v := v.modifyNode n (fun k => { k with
         frames := (v.slotframeNow :: k.frames.filter (fun a => a != v.slotframeNow)).take 2 })
       v.takeFrame n f))) ∧
  (∀ (t n : Nat) (f : RadioFrame) (h : RelayHeader) (kinds : List Nat) (c : Bool × State) (s : State),
    nodeOfShort f.source = some n → s.domainOn 7 = true → s.contextHeld n = true → s.radios.contains f.radio = true →
    h = relayHeader f.source f.payload → h.ttl ≠ 0 → kinds = frameKinds h.type_ (h.more || h.index != 0) true →
    c = (s.at_ t).checkFrame n kinds f →
    (c.1 = false → EffectIs (.floodReceive t f) t s c.2) ∧
    (c.1 = true → EffectIs (.floodReceive t f) t s
      (((((c.2.relayTally 0 kinds 0 f.radio).relayTally 0 kinds 1 f.radio f.payload.length).relayTally 0 kinds 9
        f.radio).acceptFrame n f).onFlood h f))) ∧
  (∀ (s : State) (h : RelayHeader) (f : RadioFrame), s.relay.seen.contains (h.origin, h.seq) = true →
    s.onFlood h f = s.bump Pid.relaySeenDrops) ∧
  (∀ (s : State) (h : RelayHeader) (f : RadioFrame), s.relay.seen.contains (h.origin, h.seq) = false →
    s.relay.seen.length < 256 → h.dest ≠ 0 → h.dest ≠ 0xFFFF → h.ttl ≤ 1 →
    s.onFlood h f = s.withRelay (fun r => { r with seen := r.seen ++ [(h.origin, h.seq)] })) ∧
  (∀ (t n : Nat) (h : HitchRequest) (s v : State), s.domainOn 7 = true → s.farrier = false → s.wheeler = false →
    s.power.phase ≠ .reloading → s.joinKey h.eui = some h.key → h.flooded = false →
    v = ((((s.at_ t).drawBelow 2).2.relayTally 0 (frameKinds 4 false true) 0 ((s.at_ t).drawBelow 2).1).relayTally 0
      (frameKinds 4 false true) 8 ((s.at_ t).drawBelow 2).1) →
    v.contextOf h.eui = some n → (v.cellOf n).flood = false → (v.cellOf n).up ≠ 0 →
    EffectIs (.hitchRequest t h) t s (v.placeNode n h.key h (v.cellOf n) true)) ∧
  (∀ (t n : Nat) (f : RadioFrame) (s : State), nodeOfShort f.source = some n → s.contextHeld n = false →
    EffectIs (.uplinkFrame t f) t s (s.at_ t)) ∧
  (∀ (t n : Nat) (f : RadioFrame) (h : RelayHeader) (s : State), nodeOfShort f.source = some n → s.domainOn 7 = true →
    s.contextHeld n = true → s.radios.contains f.radio = true → h = relayHeader f.source f.payload → h.ttl = 0 →
    (s.at_ t).positionHeard n f.radio = true → ((s.at_ t).windowOf n f.arrivalUs).1 = false →
    EffectIs (.uplinkFrame t f) t s (((s.at_ t).bump Pid.relayWindowMisses).relayTally 0
      (frameKinds h.type_ (h.more || h.index != 0) false) 5 f.radio)) ∧
  (∀ (t : Nat) (f : RadioFrame) (s : State), s.domainOn 7 = false → EffectIs (.floodReceive t f) t s (s.at_ t)) ∧
  (∀ (t join : Nat) (h : HitchRequest) (s : State), s.domainOn 7 = true → s.farrier = false → s.wheeler = false →
    s.power.phase ≠ .reloading → s.joinKey h.eui = some join → join ≠ h.key →
    EffectIs (.hitchRequest t h) t s ((((s.at_ t).drawBelow 2).2.relayTally 0 (frameKinds 4 false true) 2
      ((s.at_ t).drawBelow 2).1).keyCount .hitch 1 3)) ∧
  (∀ (t : Nat) (h : HitchRequest) (s v : State), s.domainOn 7 = true → s.farrier = false → s.wheeler = false →
    s.power.phase ≠ .reloading → s.joinKey h.eui = some h.key → h.flooded = false →
    v = ((((s.at_ t).drawBelow 2).2.relayTally 0 (frameKinds 4 false true) 0 ((s.at_ t).drawBelow 2).1).relayTally 0
      (frameKinds 4 false true) 8 ((s.at_ t).drawBelow 2).1) →
    v.contextOf h.eui = none → s.relay.permitUntil = none →
    EffectIs (.hitchRequest t h) t s (v.hitchReply h h.key stRefusedState 0 0xFFFF 0 (0xFFFF, 0))) ∧
  (∀ (t n : Nat) (p : Reassembly) (s : State), (s.relay.nodes.get n).partial_ = some p →
    p.since + s.p Pid.relayFragTimeoutMs * ms ≤ max s.now t → Completes (.fragmentTimeout t n) s (fun u =>
      (u.relay.nodes.get n).partial_ = none ∧ u.w Pid.relayFragDrops 0 = s.w Pid.relayFragDrops 0 + 1)) ∧
  (∀ (t e : Nat) (s : State), s.relay.permitUntil = some e → e ≤ max s.now t → Completes (.joinWindowClose t) s (fun u =>
    u.relay.permitUntil = none ∧ u.params = s.params)) ∧
  (∀ (t n a : Nat) (s : State), s.p Pid.relayForgetDays ≠ 0 → s.contextHeld n = true →
    (s.relay.nodes.get n).heard = some a → a + s.p Pid.relayForgetDays * 86400 * sec ≤ max s.now t →
    EffectIs (.contextForget t n) t s ((s.at_ t).evicted n)) ∧
  (∀ (t n a : Nat) (s : State), s.contextHeld n = true → s.p Pid.relayNodeState n ≠ 0 →
    (s.relay.nodes.get n).heard = some a →
    a + 8 * (2 ^ (s.cellOf n).log2P * s.relay.config.slotframe * 10 * ms) ≤ max s.now t →
    Completes (.nodeSilent t n) s (fun u => u.p Pid.relayNodeState n = 4 ∧ u.relay = s.relay)) ∧
  (∀ (t n free : Nat) (off : Int) (s : State), s.domainOn 7 = true → s.hasParent = true → s.wheeler = false →
    n = s.p Pid.relayTimeParent 0 → s.relay.following = true →
    Completes (.parentBeacon t n s.relay.config.pan free off) s (fun u =>
      u.relay.missed = 0 ∧ u.relay.received = s.relay.received + 1 ∧ u.relay.following = true ∧
      s.relay.phaseNs - 50000 ≤ u.relay.phaseNs ∧ u.relay.phaseNs ≤ s.relay.phaseNs + 50000 ∧
      (-50 ≤ off → off ≤ 50 → u.relay.phaseNs = s.relay.phaseNs + off * 1000))) ∧
  (∀ (t : Nat) (s : State), s.domainOn 7 = true → s.hasParent = true → Completes (.parentBeaconsMissed t) s (fun u =>
    u.relay.missed = s.relay.missed + 1 ∧ u.relay.received = 0 ∧
    u.w Pid.relayMissedBeacons 0 = s.w Pid.relayMissedBeacons 0 + 1 ∧
    (s.relay.missed = 7 → u.relay.following = false) ∧ (s.relay.missed ≠ 7 → u.relay.following = s.relay.following))) ∧
  (∀ (t key : Nat) (s : State), s.relay.keyMove = some 0 → s.slotKey 4 = none →
    s.networkKey ((s.p Pid.relayKeyGen + 1) % 256) = some key →
    EffectIs (.keyGenerationChange t) t s
      ((s.at_ t).withRelay (fun r => { r with keyMove := none })).nextGeneration) ∧
  (∀ (t k key : Nat) (s v : State), s.relay.keyMove = some 0 → s.slotKey 4 = some k →
    s.networkKey ((s.p Pid.relayKeyGen + 1) % 256) = some key →
    v = ((s.at_ t).withRelay (fun r => { r with keyMove := none })).placeDerived 5 (derivedAttr 5 0 2 3 false) k →
    EffectIs (.keyGenerationChange t) t s
      ({ v with vault := { v.vault with previousLeft := 16 } } : State).nextGeneration) ∧
  (∀ (t : Nat) (s : State), s.relay.keyMove ≠ some 0 → EffectIs (.keyGenerationChange t) t s (s.at_ t)) ∧
  (∀ (t a b : Nat) (s : State), s.relay.announced = some (a, b) → a ≤ (s.at_ t).asn →
    EffectIs (.relayConfigApply t) t s (s.at_ t).applyRelayConfig)

/-- The commands of the cassettes (R340 to R357). -/
def Obligations.CassetteCommands : Prop :=
  (∀ (t c : Nat) (s : State), c < 2 → (s.cassette c).detSince = none → Completes (.cassetteDetect t c) s (fun u =>
    (u.cassette c).detSince = some (max s.now t) ∧ (u.cassette c).powered = (s.cassette c).powered ∧ u.params = s.params)) ∧
  (∀ (t c d : Nat) (r : CassetteReport) (s v : State), c < 2 → (s.cassette c).detSince = some d →
    (s.cassette c).powered = false → d + 100 * ms ≤ max s.now t → s.d8On = true →
    s.flagOf Pid.sbFlags c sbEjectReady = false →
    v = ((((s.at_ t).cassetteIdentity c r).setP Pid.sbState c 1).setP Pid.sbFlags c 0).setP Pid.sbBusMode c
      (if r.mode = 0xFF then 0xFF else min r.mode
        (((((s.at_ t).cassetteIdentity c r).setP Pid.sbState c 1).setP Pid.sbFlags c 0).p Pid.sbMaxMode)) →
    (r.maker = none → EffectIs (.cassettePowerOn t c r) t s
      (((((v.setI Pid.sbTemp c r.temperature).setP Pid.sbState c 4).setFlag Pid.sbFlags c sbBusError true).storageChange
        c).placeCassettes)) ∧
    (∀ m : MakerPart, r.maker = some m → makerAccepted m = false → EffectIs (.cassettePowerOn t c r) t s
      (((((((v.setI Pid.sbTemp c r.temperature).setW Pid.sbSerial (2 * c) m.serialHi).setW Pid.sbSerial (2 * c + 1)
        m.serialLo).setP Pid.sbState c 4).setFlag Pid.sbFlags c sbGeometry true).storageChange c).placeCassettes)) ∧
    (∀ m : MakerPart, r.maker = some m → makerAccepted m = true → EffectIs (.cassettePowerOn t c r) t s
      ((((((v.setI Pid.sbTemp c r.temperature).setW Pid.sbSerial (2 * c) m.serialHi).setW Pid.sbSerial (2 * c + 1)
        m.serialLo).setP Pid.sbSpare (2 * c) (128 - r.factoryBadPslc)).setP Pid.sbSpare (2 * c + 1)
          (min 65535 (553 + (m.dies * m.blocksPerDie - 5464) - r.factoryBadTlc))).setP Pid.sbFactoryBad c
            (r.factoryBadPslc + r.factoryBadTlc)).placeCassettes)) ∧
  (∀ (t c : Nat) (r : CassetteReport) (s : State), s.flagOf Pid.sbFlags c sbEjectReady = true →
    EffectIs (.cassettePowerOn t c r) t s (s.at_ t)) ∧
  (∀ (t c : Nat) (s v : State), c < 2 → (s.cassette c).powered = true →
    v = ((((s.at_ t).modifyCassette c (fun k => { k with detSince := none })).endTest (32 + c) 5).memberLeft c false).setP
      Pid.sbFlags c 0 →
    EffectIs (.cassetteRemoved t c) t s (if v.storageUp then v else v.placeCassettes)) ∧
  (∀ (t c : Nat) (s : State) (r : Resilver), (s.cassette c).resilver = some r →
    r.todo = [] → EffectIs (.resilverUnitCopy t c) t s (s.at_ t)) ∧
  (∀ (t c : Nat) (r : Resilver) (u v : StorageUnit) (rest : List StorageUnit) (s : State), c < 2 →
    (s.cassette c).resilver = some r → s.p Pid.sbState c = 2 → r.stopped = none → s.inService (1 - c) = true → s.shed = 0 →
    s.d8On = true → r.todo = u :: v :: rest → (s.storage.writes.all (fun w => !w.waits) = true) →
    EffectIs (.resilverUnitCopy t c) t s
      (let kib := if u.isPslc then 4096 else 12288
       let w := ((((s.at_ t).sbOp 0 u.region (1 - c) kib).sbOp 1 u.region c kib).programUnit c u kib).modifyCassette c
         (fun k => { k with resilver := some { r with todo := v :: rest } })
       ((w.setFlag Pid.sbHold 0 4 (w.storage.writes.any (fun w => w.waits))).showResilver c))) ∧
  (∀ (t n c : Nat) (s : State), s.d8On = true → EffectIs (.writeComplete t n c) t s
    (({ (s.at_ t) with storage := { s.storage with writes := s.storage.writes.map (fun (w : PendingWrite) =>
      if w.number = n ∧ !w.waits then { w with targets := w.targets.filter (· != c) } else w) } } : State).settleWrites.endFlush)) ∧
  (∀ (t c block : Nat) (s : State), (s.p Pid.sbState c = 2 ∨ s.p Pid.sbState c = 3) →
    EffectIs (.programFailure t c block) t s
      (((s.at_ t).sbCount 1 (s.block c block).region 5 c).retireBlock c block)) ∧
  (∀ (t c region block step corrected : Nat) (offsets : List Int) (mirror : Bool) (s : State), s.inService c = true →
    region ≤ 8 → step ≤ 1 → corrected * 100 ≤ hardCapacity * s.p Pid.sbRefreshPct →
    EffectIs (.readComplete t c region block step corrected offsets mirror) t s
      (((s.at_ t).sbOp 0 region c 16).modifyCassette c (fun k => { k with
        families := modifyFamily (fun f => f.afterRead step offsets) (s.block c block).family k.families })))

/-- The upkeep of the storage and the waybill (R346 to R369). -/
def Obligations.StorageUpkeep : Prop :=
  (∀ (t c : Nat) (s : State), (s.cassette c).powered = true → s.d8On = true → c < 2 →
    (s.cassette c).checkpointAt + 600 * sec ≤ max s.now t → Completes (.mapCheckpoint t c) s (fun u =>
      (u.cassette c).checkpointAt = max s.now t ∧ u.params = s.params)) ∧
  (∀ (t c family : Nat) (bs : List (Nat × Nat × Nat)) (s : State), c < 2 → s.inService c = true → s.d8On = true →
    max s.now t < (s.cassette c).scrubFrom + s.p Pid.sbScrubDays * 86400 * sec →
    EffectIs (.patrolScrub t c family bs) t s (((s.at_ t).modifyCassette c (fun k => { k with
      families := modifyFamily (fun f => if f.trackedPass = (s.cassette c).scrubPass + 1 then f else
        { f with
          offsets := trackOffsets ((((s.cassette c).maker.map (fun m => m.largestOffset)).getD 0 : Nat) : Int) f.offsets bs
          trackedPass := (s.cassette c).scrubPass + 1 }) family k.families })).sbOp 0
      ((((s.cassette c).blocks.cells.find? (fun x => x.2.occupied && x.2.family == family)).map (fun x => x.2.region)).getD 8)
      c (48 * bs.length) (3 * bs.length))) ∧
  (∀ (t c family : Nat) (bs : List (Nat × Nat × Nat)) (s : State), c < 2 → s.inService c = true → s.d8On = true →
    (s.cassette c).scrubFrom + s.p Pid.sbScrubDays * 86400 * sec ≤ max s.now t →
    Completes (.patrolScrub t c family bs) s (fun u => (u.cassette c).scrubPass = (s.cassette c).scrubPass + 1 ∧
      (u.cassette c).scrubFrom = max s.now t ∧ (u.cassette c).blocks = (s.cassette c).blocks)) ∧
  (∀ (t : Nat) (temps : List Int) (s : State), max s.now t < s.storage.ageAt + 3600 * sec →
    EffectIs (.retentionAgeUpdate t temps) t s (s.at_ t)) ∧
  (∀ (t : Nat) (temps : List Int) (s : State), s.storage.ageAt + 3600 * sec ≤ max s.now t →
    Completes (.retentionAgeUpdate t temps) s (fun u => u.storage.ageAt = max s.now t)) ∧
  (∀ (t c source target : Nat) (s : State), c < 2 → s.inService c = true → s.shed = 0 → s.d8On = true →
    (∀ m : Nat, (s.cassette c).lastMove = some m → m + 600 * sec ≤ max s.now t) →
    (s.block c source).occupied = true → (s.block c target).occupied = false →
    (s.block c target).bad = false → blockTlc source = blockTlc target → (s.cassette c).uneven (blockTlc source) = true →
    (∀ x ∈ (s.cassette c).blocks.cells, blockTlc x.1 = blockTlc source → x.2.bad = false → x.2.occupied = true →
      (s.block c source).erases ≤ x.2.erases) →
    (∀ x ∈ (s.cassette c).blocks.cells, blockTlc x.1 = blockTlc source → x.2.bad = false → x.2.occupied = false →
      x.2.erases ≤ (s.block c target).erases) →
    Completes (.wearMove t c source target) s (fun u => (u.cassette c).lastMove = some (max s.now t) ∧
      (u.block c source).occupied = false ∧ (u.block c source).erases = (s.block c source).erases + 1 ∧
      (u.block c target).occupied = true ∧ (u.block c target).age = 0 ∧
      (u.block c target).region = (s.block c source).region)) ∧
  (∀ (t : Nat) (s : State), s.storage.landing.length < 1533 → EffectIs (.fold t) t s (s.at_ t)) ∧
  (∀ (t : Nat) (s : State), 1533 ≤ s.storage.landing.length → s.shed = 0 → s.d8On = true → s.storageUp = true →
    s.foldAllowed 0 = true → s.foldAllowed 1 = true → s.storage.archive.length < 3755 → EffectIs (.fold t) t s
      ([0, 1].foldl (fun (v : State) c => if v.inService c then
          (if v.foldsCold c then v.coldFold c (s.storage.folds % 3755) else v).releaseLanding c else v)
        (({ (s.at_ t) with storage := { s.storage with
          archive := s.storage.archive ++ [s.storage.landing.take 1533], landing := s.storage.landing.drop 1533
          folds := s.storage.folds + 1 } } : State).storeWrite (.archive (s.storage.folds % 3755)) 12288 .nothing))) ∧
  (∀ (t : Nat) (s : State), s.awake = true → EffectIs (.heldWritesRelease t) t s (s.at_ t).writeHeld) ∧
  (∀ (t : Nat) (s : State), s.awake = false → EffectIs (.heldWritesRelease t) t s (s.at_ t)) ∧
  (∀ (t a : Nat) (s : State), s.waybill.frozenSince = some a → a + s.p Pid.wbFreezeMaxS * sec ≤ max s.now t →
    EffectIs (.freezeAutoRelease t) t s (s.at_ t).releaseFreeze) ∧
  (∀ (t a : Nat) (s : State), s.waybill.frozenSince = some a → max s.now t < a + s.p Pid.wbFreezeMaxS * sec →
    EffectIs (.freezeAutoRelease t) t s (s.at_ t))

/-- The commands of the tack room (R387 to R396). -/
def Obligations.KeyCommits : Prop :=
  (∀ (t k a : Nat) (attr check : Word) (key : Nat) (ref : Option TicketRef)
    (rest : List (VaultJob × Option TicketRef × Nat × Bool)) (s : State),
    s.vault.jobs = (.load k attr key check, ref, a, false) :: rest → EffectIs (.keyCommit t) t s
      (((({ (s.at_ t) with vault := { s.vault with jobs := rest } } : State)).commitLoad k attr key check).finishOpt ref
        (ok))) ∧
  (∀ (t target a : Nat) (w : Bool) (ref : Option TicketRef)
    (rest : List (VaultJob × Option TicketRef × Nat × Bool)) (s : State),
    s.vault.jobs = (.lifecycle target, ref, a, w) :: rest → EffectIs (.keyCommit t) t s
      ((((({ (s.at_ t) with vault := { s.vault with jobs := rest } } : State)).bump Pid.keyVaultCommits).finishOpt ref
        (ok)).enterLifecycle target)) ∧
  (∀ (t k a : Nat) (ref : Option TicketRef) (rest : List (VaultJob × Option TicketRef × Nat × Bool)) (s : State),
    s.vault.jobs = (.invalidate k, ref, a, false) :: rest → EffectIs (.invalidationCommit t) t s
      (let x := (({ (s.at_ t) with vault := { s.vault with jobs := rest } } : State)).commitInvalidation k
       x.2.finishOpt ref (ok [word x.1]))) ∧
  (∀ (t k a : Nat) (attr check : Word) (key : Nat) (ref : Option TicketRef)
    (rest : List (VaultJob × Option TicketRef × Nat × Bool)) (s : State),
    s.vault.jobs = (.load k attr key check, ref, a, true) :: rest → EffectIs (.keyCommit t) t s (s.at_ t)) ∧
  (∀ (t slot : Nat) (h : LinkHead) (attr check : Word) (key : Nat) (s : State), ((s.at_ t).linkTakes 7 h).1 = true →
    ((s.at_ t).linkTakes 7 h).2.wheeler = true → EffectIs (.keyTransferReceive t h (.load slot attr key check)) t s
      ((((s.at_ t).linkTakes 7 h).2.commitLoad slot attr key check).tandemPost 7 [1])) ∧
  (∀ (t : Nat) (h : LinkHead) (s : State), ((s.at_ t).linkTakes 7 h).1 = true →
    ((s.at_ t).linkTakes 7 h).2.lead = true → Completes (.keyTransferReceive t h .confirm) s (fun u =>
      u.vault.jobs = releaseJob ((s.at_ t).linkTakes 7 h).2.vault.jobs)) ∧
  (∀ (t a : Nat) (j : VaultJob) (ref : Option TicketRef) (s : State),
    s.vault.jobs.find? (fun j => j.2.2.2) = some (j, ref, a, true) → a + 100 * ms ≤ max s.now t →
    EffectIs (.keyTransferTimeout t) t s
      (({ (s.at_ t) with vault := { s.vault with jobs := releaseJob s.vault.jobs } } : State).keyEvent j.slot 0)) ∧
  (∀ (t input : Nat) (level : Bool) (s : State), input < 2 → s.time.retained = true →
    (s.p Pid.keyTamperCfg).testBit input = true → level ≠ (s.p Pid.keyTamperCfg).testBit (2 + input) →
    Completes (.tamperDetect t input level) s (fun u => u.vault.tamperSince.get input = none ∧
      u.vault.tamperLevel.get input = level ∧ u.params = s.params)) ∧
  (∀ (t input : Nat) (s : State), input < 2 → s.time.retained = true → (s.p Pid.keyTamperCfg).testBit input = true →
    s.vault.tamperSince.get input = none →
    Completes (.tamperDetect t input ((s.p Pid.keyTamperCfg).testBit (2 + input))) s (fun u =>
      u.vault.tamperSince.get input = some (max s.now t) ∧ u.params = s.params)) ∧
  (∀ (t input a : Nat) (s : State), input < 2 → s.time.retained = true → (s.p Pid.keyTamperCfg).testBit input = true →
    s.vault.tamperSince.get input = some a →
    a + tamperTime ≤ max s.now t → s.vault.tamperDone.get input = false → s.domainOn 9 = false →
    Completes (.tamperDetect t input ((s.p Pid.keyTamperCfg).testBit (2 + input))) s (fun u =>
      u.flagOf Pid.keyTamperStatus 0 input = true ∧ u.vault.tamperPending = some input ∧
      u.vault.slots.cells = s.vault.slots.cells.map (fun x => (x.1, { KeySlot.empty with commits := x.2.commits })) ∧
      u.vault.seed = none ∧ u.vault.jobs = [])) ∧
  (∀ (t input : Nat) (s : State), input < 2 → s.time.retained = true → (s.p Pid.keyTamperCfg).testBit input = true →
    s.vault.tamperSince.get input ≠ none → s.vault.tamperDone.get input = true →
    Completes (.tamperDetect t input ((s.p Pid.keyTamperCfg).testBit (2 + input))) s (fun u =>
      u.vault.seed = s.vault.seed ∧ u.vault.slots = s.vault.slots ∧ u.params = s.params)) ∧
  (∀ (t : Nat) (s : State), Completes (.rngHealthFailure t) s (fun u => u.p Pid.keyRngStatus = 1 ∧ u.vault = s.vault))

/-- The commands of the firmware update (R405 to R412). -/
def Obligations.UpdateCommands : Prop :=
  (∀ (t a : Nat) (ref : TicketRef) (s : State), s.update.opening = some (ref, a) → EffectIs (.stagingEraseDone t) t s
    ((((({ (s.at_ t) with update := { s.update with opening := none, lastData := (s.at_ t).now } } : State)).setP
      Pid.updState 0 1).finish ref (ok)).shallower)) ∧
  (∀ (t : Nat) (ref : TicketRef) (digest : List Word) (s : State), s.update.committing = some (ref, digest) →
    s.p Pid.updState = 2 → digest ≠ (s.pRun Pid.updDigest 0 8).map (fun n => word n) → s.update.untagged = true →
    s.update.holderGone = false → EffectIs (.commitVerifyDone t) t s ((s.at_ t).commitFails ref 1)) ∧
  (∀ (t : Nat) (ref : TicketRef) (digest : List Word) (s : State), s.update.committing = some (ref, digest) →
    s.p Pid.updState = 2 → digest = (s.pRun Pid.updDigest 0 8).map (fun n => word n) →
    s.p Pid.updWordsRx = s.p Pid.updSizeWords → s.update.untagged = true → s.update.holderGone = false →
    EffectIs (.commitVerifyDone t) t s
      (match (s.at_ t).imageFailure digest true with
       | some k => (s.at_ t).commitFails ref k
       | none => (s.at_ t).commitPasses ref digest)) ∧
  (∀ (t : Nat) (ref : TicketRef) (digest : List Word) (s : State), s.update.committing = some (ref, digest) →
    s.p Pid.updState = 2 → digest = (s.pRun Pid.updDigest 0 8).map (fun n => word n) →
    s.p Pid.updWordsRx = s.p Pid.updSizeWords → s.update.untagged = false → s.update.holderGone = false →
    EffectIs (.commitVerifyDone t) t s
      (match (s.at_ t).imageFailure digest false with
       | some k => ((s.at_ t).keyUse .image 0 3).commitFails ref k
       | none => ((s.at_ t).keyUse .image 0 3).commitPasses ref digest)) ∧
  (∀ (t : Nat) (s : State), (s.at_ t).switchDue = true → EffectIs (.imageSwitch t) t s (s.at_ t).switchImage) ∧
  (∀ (t : Nat) (s : State), (s.at_ t).switchDue = false → EffectIs (.imageSwitch t) t s (s.at_ t)) ∧
  (∀ (t : Nat) (h : LinkHead) (s : State), ((s.at_ t).linkTakes 9 h).1 = true →
    ((s.at_ t).linkTakes 9 h).2.p Pid.updPairState = 1 → ((s.at_ t).linkTakes 9 h).2.p Pid.updState = 3 →
    Completes (.wheelerImageValid t h) s (fun u => u.p Pid.updPairState = 2 ∧ u.update.committing = none)) ∧
  (∀ (t a : Nat) (s : State), s.update.probationEnd = some a → s.awake = true → a ≤ max s.now t →
    EffectIs (.probationEnd t) t s (s.at_ t).confirmImage) ∧
  (∀ (t a : Nat) (s : State), s.update.firstCommitFrom = some a → a + 2 * sec ≤ max s.now t →
    s.power.phase = .running → EffectIs (.firstCommitTimeout t) t s ((s.at_ t).fallbackNow true)) ∧
  (∀ (t : Nat) (s : State), s.power.phase = .running → s.power.asleep = false → s.update.probationEnd.isSome = true →
    EffectIs (.watchdogReset t) t s ((s.at_ t).fallbackNow false)) ∧
  (∀ (t : Nat) (s : State), s.power.phase = .running → s.power.asleep = false → s.update.probationEnd = none →
    EffectIs (.watchdogReset t) t s
      (((s.at_ t).closeSessionByEvent.drawBelow 256).2.beginWarm
        ((s.at_ t).closeSessionByEvent.drawBelow 256).1 none)) ∧
  (∀ (t : Nat) (s : State), s.p Pid.updState = 1 → s.update.lastData + s.p Pid.updIdleS * sec ≤ max s.now t →
    EffectIs (.updateIdleAbort t) t s (s.at_ t).abortUpdate)

/-- The commands of the tandem link and the heartbeats (R420 to R431).  That a loss of the ring path alone counts as a
dropped ring heartbeat is the model's choice (assumption 95). -/
def Obligations.PairLinkCommands : Prop :=
  (∀ (t : Nat) (s : State), s.tandem.lanes ≠ 3 → s.p Pid.tdmRole = 0 → Completes (.lanesTrained t) s (fun u =>
    u.tandem.lanes = 3 ∧ u.flagOf Pid.tdmStatus 0 1 = true ∧ u.tandem.partner = s.tandem.partner)) ∧
  (∀ (t : Nat) (s : State), s.tandem.lanes ≠ 3 → s.p Pid.tdmRole ≠ 0 → s.p Pid.tdmState ≠ 5 → s.p Pid.tdmState ≠ 6 →
    EffectIs (.lanesTrained t) t s (((((s.at_ t).withTandem (fun k => { k with lanes := 3 })).setFlag Pid.tdmStatus 0 1
      true).tdmStateTo 2).beginHello)) ∧
  (∀ (t lane : Nat) (s : State), lane < 2 → s.tandem.lanes.testBit lane = true → Completes (.tandemLaneLoss t lane) s
    (fun u => u.tandem.lanes.testBit lane = false)) ∧
  (∀ (t : Nat) (h : LinkHead) (m : HelloMessage) (s : State), s.linkUsable = true → h.tagGood = false →
    ((s.at_ t).vaultCheck .tdmFrame 7 4 false).1 = true → EffectIs (.hello t h m) t s
      ((((s.at_ t).vaultCheck .tdmFrame 7 4 false).2.keyUse .tdmFrame 4 7).tdmCount 8 4)) ∧
  (∀ (t : Nat) (h : LinkHead) (m : HelloMessage) (s v : State), s.linkUsable = true → h.tagGood = true →
    ((s.at_ t).vaultCheck .tdmFrame 7 4 false).1 = true →
    v = (((((s.at_ t).vaultCheck .tdmFrame 7 4 false).2.keyUse .tdmFrame 4 7).tdmCount 8 1).tdmCount 8 3
      h.octets).heardPartner.withTandem (fun k => { k with partner := some m }) →
    (m.answer = false → EffectIs (.hello t h m) t s (v.answerHello m)) ∧
    (m.answer = true → v.tandem.nonce = some m.nonce → EffectIs (.hello t h m) t s v.helloComplete)) ∧
  (∀ (t : Nat) (h : LinkHead) (m : HelloMessage) (s : State), s.linkUsable = false →
    EffectIs (.hello t h m) t s (s.at_ t)) ∧
  (∀ (t : Nat) (s : State), s.p Pid.tdmState = 2 → s.tandem.helloDone = true → s.tandem.partner.isSome = true →
    (s.at_ t).pairReady = true → EffectIs (.pairingComplete t) t s (((s.at_ t).tdmStateTo 3).roleRecord (s.p Pid.tdmRole))) ∧
  (∀ (t : Nat) (s : State), s.linkUsable = false → EffectIs (.heartbeatSend t) t s (s.at_ t)) ∧
  (∀ (t : Nat) (s : State), s.linkUsable = true → EffectIs (.heartbeatSend t) t s
    (let v := (s.at_ t).renewCounters.withTandem (fun k => { k with out := [] })
     v.tandemPost 1 [word (v.p Pid.tdmRole * 2 ^ 24 + v.p Pid.tdmState * 65536 + (v.read Pid.tdmStatus 0).toNat % 65536),
       v.w Pid.progCycleCount 0])) ∧
  (∀ (t : Nat) (s : State), s.p Pid.tdmRole = 0 → EffectIs (.ringHeartbeatSend t) t s (s.at_ t)) ∧
  (∀ (t : Nat) (s : State), s.p Pid.tdmRole ≠ 0 → s.partnerIp ≠ 0 → s.domainOn 6 = true →
    EffectIs (.ringHeartbeatSend t) t s ((s.at_ t).sendWitness 9 s.partnerIp
      ((s.at_ t).witnessWords 3 (s.p Pid.tdmRole * 256 + s.p Pid.tdmState) s.serial (s.p Pid.progCycleCount)))) ∧
  (∀ (t role state status cycles : Nat) (h : LinkHead) (s : State), ((s.at_ t).linkTakes 1 h).1 = true →
    Completes (.heartbeatReceive t h role state status cycles) s (fun u =>
      u.tandem.linkHeard = some ((s.at_ t).linkTakes 1 h).2.now ∧ u.tandem.linkLost = false ∧
      u.tandem.partnerRole = role % 256 ∧ u.tandem.partnerState = state % 256 ∧
      u.tandem.partnerStatus = status % 65536 ∧ u.tandem.partnerCycles = cycles % 2 ^ 32 ∧
      u.flagOf Pid.tdmStatus 0 2 = true)) ∧
  (∀ (t a : Nat) (s : State), s.tandem.linkHeard = some a → s.p Pid.tdmRole ≠ 0 → s.tandem.linkLost = false →
    a + s.p Pid.tdmHbLinkUs * us ≤ max s.now t → EffectIs (.linkPathLost t) t s (s.at_ t).linkPathLost) ∧
  (∀ (t a : Nat) (s : State), s.tandem.linkHeard = some a → max s.now t < a + s.p Pid.tdmHbLinkUs * us →
    EffectIs (.linkPathLost t) t s (s.at_ t)) ∧
  (∀ (t a : Nat) (s : State), s.tandem.ringHeard = some a → s.p Pid.tdmRole ≠ 0 → s.tandem.ringLost = false →
    a + s.p Pid.tdmHbRingMiss * s.p Pid.tdmHbRingMs * ms ≤ max s.now t → EffectIs (.ringPathLost t) t s
      (let v := ((s.at_ t).withTandem (fun k => { k with ringLost := true })).setFlag Pid.tdmStatus 0 3 false
       if v.tandem.linkLost then v.partnerLost else v.tdmCount 9 7))

/-- The commands that decide the roles of a pair (R432 to R437). -/
def Obligations.RoleCommands : Prop :=
  (∀ (t : Nat) (s : State), s.tandem.contest = none → EffectIs (.witnessRequestSend t) t s (s.at_ t)) ∧
  (∀ (t : Nat) (c : Contest) (s : State), s.tandem.contest = some c → c.sent = 0 →
    EffectIs (.witnessRequestSend t) t s
      (((s.pRun Pid.tdmWitnessAddr 0 8).filter (fun a => a ≠ 0)).foldl
        (fun v a => v.sendWitness 10 a ((s.at_ t).witnessWords 1 (min 65535 c.own) s.serial c.sequence))
        ((s.at_ t).withTandem (fun k => { k with contest := some { c with sent := c.sent + 1 } })))) ∧
  (∀ (t : Nat) (c : Contest) (s : State), s.tandem.contest = some c → 2 ≤ c.sent →
    EffectIs (.witnessRequestSend t) t s (s.at_ t)) ∧
  (∀ (t : Nat) (c : Contest) (s : State), s.tandem.contest = some c → c.began + s.p Pid.tdmContestMs * ms ≤ max s.now t →
    EffectIs (.contestEnd t) t s ((s.at_ t).decideContest c)) ∧
  (∀ (t : Nat) (c : Contest) (s : State), s.tandem.contest = some c → max s.now t < c.began + s.p Pid.tdmContestMs * ms →
    EffectIs (.contestEnd t) t s (s.at_ t)) ∧
  (∀ (t : Nat) (s : State), (s.lead = false ∨ s.tandem.newLead = false ∨ s.tandem.pole = true) →
    EffectIs (.takeoverPoleRaise t) t s (s.at_ t)) ∧
  (∀ (t : Nat) (s : State), s.lead = true → s.tandem.newLead = true → s.tandem.pole = false → s.tandem.takeover = [] →
    EffectIs (.takeoverPoleRaise t) t s
      ((((s.at_ t).setPole true).withTandem (fun k => { k with takeover := [] })).resumeCycles)) ∧
  (∀ (t : Nat) (s : State), (s.tandem.pole = false ∨ s.lead = false ∨ s.tandem.linkLost = false ∨ s.tandem.ringLost = false) →
    EffectIs (.poleConflict t) t s (s.at_ t)) ∧
  (∀ (t b : Nat) (s : State), s.tandem.pole = true → s.lead = true → s.tandem.linkLost = true → s.tandem.ringLost = true →
    b < 16 → 10 ≤ (s.bh b).conflicts → s.tandem.partner = none → s.pB Pid.tdmPrecedence = true →
    Completes (.poleConflict t) s (fun u => (∀ c : Nat, c < 16 → (u.bh c).conflicts = 0) ∧
      u.w Pid.tdmPoleConflicts 0 = s.w Pid.tdmPoleConflicts 0 + 1 ∧ u.tandem.pole = true)) ∧
  (∀ (t : Nat) (h : LinkHead) (s : State), ((s.at_ t).linkTakes 9 h).1 = true →
    ((s.at_ t).linkTakes 9 h).2.wheeler = true → EffectIs (.yieldRelease t h) t s
      (((((s.at_ t).linkTakes 9 h).2.takeLead []).setPole true).resumeCycles.withTandem
        (fun k => { k with mirror := [], copyAcked := true, resync := false })))

/-- The commands that carry the lead's state to the wheeler (R422 to R427). -/
def Obligations.CopyCommands : Prop :=
  (∀ (t count : Nat) (residual : Int) (h : LinkHead) (s : State), ((s.at_ t).linkTakes 2 h).1 = true →
    ((s.at_ t).linkTakes 2 h).2.wheeler = true → ((s.at_ t).linkTakes 2 h).2.tandem.stepped = true →
    10000 < residual.natAbs → Completes (.timeMark t h count residual) s (fun u => u.tandem.lockedSince = none ∧
      u.flagOf Pid.tdmStatus 0 4 = true)) ∧
  (∀ (t count : Nat) (residual : Int) (h : LinkHead) (s : State), ((s.at_ t).linkTakes 2 h).1 = true →
    ((s.at_ t).linkTakes 2 h).2.wheeler = true → ((s.at_ t).linkTakes 2 h).2.tandem.stepped = false →
    Completes (.timeMark t h count residual) s (fun u => u.tandem.stepped = true ∧
      u.tandem.lockedSince = some ((s.at_ t).linkTakes 2 h).2.now ∧ u.flagOf Pid.tdmStatus 0 4 = true ∧
      u.tickBase = ((s.at_ t).linkTakes 2 h).2.now -
        (count + (((s.at_ t).linkTakes 2 h).2.p Pid.tdmLinkDelayNs) * 4 / 5))) ∧
  (∀ (t count a : Nat) (residual : Int) (h : LinkHead) (s : State), ((s.at_ t).linkTakes 2 h).1 = true →
    ((s.at_ t).linkTakes 2 h).2.wheeler = true → ((s.at_ t).linkTakes 2 h).2.tandem.stepped = true →
    residual.natAbs ≤ 10000 → ((s.at_ t).linkTakes 2 h).2.tandem.lockedSince = some a →
    a + sec ≤ ((s.at_ t).linkTakes 2 h).2.now → Completes (.timeMark t h count residual) s (fun u =>
      u.tandem.lockedSince = some a ∧ u.flagOf Pid.tdmStatus 0 4 = false)) ∧
  (∀ (t count : Nat) (residual : Int) (h : LinkHead) (s : State), ((s.at_ t).linkTakes 2 h).1 = true →
    ((s.at_ t).linkTakes 2 h).2.wheeler = false → EffectIs (.timeMark t h count residual) t s
      ((s.at_ t).linkTakes 2 h).2) ∧
  (∀ (t ns : Nat) (s : State), s.wheeler = true → s.linkUsable = true → s.tandem.helloDone = true →
    Completes (.linkDelayMeasure t ns) s (fun u => u.p Pid.tdmLinkDelayNs = min 65535 (ns / 2) ∧ u.tandem = s.tandem)) ∧
  (∀ (t stamp : Nat) (h : LinkHead) (s : State), ((s.at_ t).linkTakes 3 h).1 = true →
    ((s.at_ t).linkTakes 3 h).2.wheeler = true → EffectIs (.boundaryMark t h stamp) t s
      (let v := ((s.at_ t).linkTakes 3 h).2.withTandem (fun k => { k with mark := some stamp })
       let v := v.withProg (fun p => { p with phaseRef := v.ofCount stamp, commanded := false })
       ((((v.deeperAtBoundary).bump Pid.progCycleCount).podTable).2.boundaryCommands).showPods)) ∧
  (∀ (t : Nat) (h : LinkHead) (b : CommitBlock) (s : State), ((s.at_ t).linkTakes 4 h).1 = true →
    ((s.at_ t).linkTakes 4 h).2.wheeler = true → ((s.at_ t).linkTakes 4 h).2.power.phase = .running →
    ((s.at_ t).linkTakes 4 h).2.toCount ((s.at_ t).linkTakes 4 h).2.now ≤ b.count →
    EffectIs (.commitBlockReceive t h b) t s
      (let v := (((((s.at_ t).linkTakes 4 h).2.setP Pid.tdmCommitOctets 0 (min 16384 (blockOctets b))).takeBlock b).readyResults)
       (({ v with update := { v.update with firstCommitFrom := none } } : State)).yieldDone)) ∧
  (∀ (t n backlog : Nat) (h : LinkHead) (items : List CopyItem) (s : State), ((s.at_ t).linkTakes 5 h).1 = true →
    ((s.at_ t).linkTakes 5 h).2.wheeler = false → EffectIs (.stateCopyReceive t h n backlog items) t s
      ((s.at_ t).linkTakes 5 h).2) ∧
  (∀ (t n backlog : Nat) (h : LinkHead) (items : List CopyItem) (s : State), ((s.at_ t).linkTakes 5 h).1 = true →
    ((s.at_ t).linkTakes 5 h).2.wheeler = true → ((s.at_ t).linkTakes 5 h).2.power.phase ≠ .reloading →
    Completes (.stateCopyReceive t h n backlog items) s (fun u => u.tandem.copyNumber = n ∧ u.tandem.mark = none)) ∧
  (∀ (t n : Nat) (h : LinkHead) (s : State), ((s.at_ t).linkTakes 6 h).1 = true → ((s.at_ t).linkTakes 6 h).2.lead = true →
    n = ((s.at_ t).linkTakes 6 h).2.tandem.copyNumber → ((s.at_ t).linkTakes 6 h).2.p Pid.updPairState ≠ 3 →
    EffectIs (.copyAck t h n) t s
      ((((s.at_ t).linkTakes 6 h).2.withTandem (fun k => { k with copyAcked := true })).releasePole))

/-- The commands of power events and of RST_N (R448, R458 to R463, R486). -/
def Obligations.PowerEventCommands : Prop :=
  (∀ (t vin : Nat) (strap : Bool) (failed : List Nat) (s : State), vin < 13900 →
    EffectIs (.powerOn t vin strap failed) t s (s.at_ t)) ∧
  (∀ (t vin : Nat) (strap : Bool) (failed : List Nat) (s : State), s.power.phase = .unpowered → s.prog.warm = none →
    13900 ≤ vin → s.power.rstLow = none → EffectIs (.powerOn t vin strap failed) t s
      (let v := ((s.at_ t).wakeD1 strap).withPower (fun p => { p with domains := 3 })
       let w := (v.bridleCold none).coldReset (if s.power.resetCause = some 2 then 2 else 0) vin true failed
         (v.bridleCold none).lastGood
       (w.withPower (fun p => { p with resetCause := s.power.resetCause })).countReset)) ∧
  (∀ (t vin : Nat) (strap crc form : Bool) (failed : List Nat) (s : State), (vin < 13900 ∨ s.prog.warm = none) →
    EffectIs (.powerReturn t vin strap crc form failed) t s (s.at_ t)) ∧
  (∀ (t vin : Nat) (strap crc form : Bool) (failed : List Nat) (w : WarmImage) (s : State), s.prog.warm = some w →
    s.power.phase = .stoodDown → 13900 ≤ vin → s.power.rstLow = none → (s.at_ t).warmRefusal w crc form = none →
    EffectIs (.powerReturn t vin strap crc form failed) t s
      ((((s.at_ t).acceptWarm vin false failed).withPower (fun p => { p with resetCause := s.power.resetCause })).countReset)) ∧
  (∀ (t vin : Nat) (s : State), (s.at_ t).sheds = true → EffectIs (.shedStepEnter t vin) t s
    (((s.at_ t).showVin vin).enterSteps vin)) ∧
  (∀ (t vin : Nat) (s : State), (s.at_ t).mayLeave vin = true → EffectIs (.shedStepLeave t vin) t s
    (((s.at_ t).showVin vin).leaveStep)) ∧
  (∀ (t vin : Nat) (s : State), (s.at_ t).mayLeave vin = false → EffectIs (.shedStepLeave t vin) t s (s.at_ t)) ∧
  (∀ (t : Nat) (s : State), s.power.phase = .committing → Completes (.standDown t) s (fun u =>
    u.power.phase = .stoodDown ∧ u.power.domains = 3 ∧ u.prog.warm.isSome = true ∧ u.tandem.pole = false ∧
    u.power.standDownFlag = s.storageUp)) ∧
  (∀ (t : Nat) (s : State), s.power.phase ≠ .committing → EffectIs (.standDown t) t s (s.at_ t)) ∧
  (∀ (t : Nat) (s : State), s.power.phase ≠ .unpowered → Completes (.brownoutReset t) s (fun u =>
    u.power.phase = .unpowered ∧ u.power.domains = 1 ∧ u.power.asleep = false ∧ u.tandem.pole = false ∧
    u.bridle.holdLow = true ∧ u.power.resetCause = some (if s.power.standDownFlag then 7 else 2) ∧
    (s.power.standDownFlag = false → u.prog.warm = none))) ∧
  (∀ (t : Nat) (s : State), s.power.phase = .running → Completes (.rstNLow t) s (fun u =>
    u.power.phase = .held ∧ u.power.rstLow = some (max s.now t) ∧ u.tandem.pole = false ∧ u.bridle.holdLow = true)) ∧
  (∀ (t vin : Nat) (failed : List Nat) (s : State), s.power.phase ≠ .held → Completes (.rstNHigh t vin failed) s (fun u =>
    u.power = { s.power with rstLow := none } ∧ u.params = s.params)) ∧
  (∀ (t vin : Nat) (failed : List Nat) (s v : State), s.power.phase = .held →
    v = (s.at_ t).withPower (fun p => { p with rstLow := none }) →
    ((v.coldCause = 0 ∨ v.coldCause = 2 ∨ v.banksWaited = true) → EffectIs (.rstNHigh t vin failed) t s
      (((v.coldReset v.coldCause vin (decide (v.coldCause = 0 ∨ v.coldCause = 2)) failed v.lastGood).withPower
        (fun p => { p with resetCause := s.power.resetCause })).countReset)) ∧
    (v.coldCause ≠ 0 → v.coldCause ≠ 2 → v.banksWaited = false → EffectIs (.rstNHigh t vin failed) t s
      (v.withPower (fun p => { p with phase := .stopping, phaseSince := max s.now t }))))

/-- WAKE_REQUEST, SLEEP_DEADLINE, FLUSH_WAKE and CORE_FLOOR_RAISE (R452 to R457). -/
def Obligations.PowerUpkeepCommands : Prop :=
  (∀ (t : Nat) (failed : List Nat) (s : State), s.power.asleep = false → Completes (.wakeRequest t failed) s (fun u =>
    u.power = { s.power with wakes := [] } ∧ u.params = s.params)) ∧
  (∀ (t cause : Nat) (rest failed : List Nat) (s : State), s.power.asleep = true → s.power.wakes = cause :: rest →
    EffectIs (.wakeRequest t failed) t s ((s.at_ t).wakeWith cause failed)) ∧
  (∀ (t a : Nat) (failed : List Nat) (s : State), s.power.sleepDeadline = some a → s.power.asleep = true → a ≤ max s.now t →
    EffectIs (.sleepDeadline t failed) t s ((s.at_ t).wakeWith 3 failed)) ∧
  (∀ (t a : Nat) (failed : List Nat) (s : State), s.power.sleepDeadline = some a → max s.now t < a →
    EffectIs (.sleepDeadline t failed) t s (s.at_ t)) ∧
  (∀ (t : Nat) (s : State), s.power.phase = .running → s.d8On = false → (s.at_ t).flushDue = true →
    EffectIs (.flushWake t) t s
      (((s.at_ t).withPower (fun p => { p with flushing := true })).settleDomains).writeHeld.endFlush) ∧
  (∀ (t : Nat) (s : State), (s.power.phase ≠ .running ∨ s.d8On = true ∨ (s.at_ t).flushDue = false) →
    EffectIs (.flushWake t) t s (s.at_ t)) ∧
  (∀ (t floor : Nat) (s : State), s.domainOn 1 = true → s.p Pid.pwrCoreMv ≤ 900 → Completes (.coreFloorRaise t floor) s
    (fun u => u.power.floor = min 900 (max 550 floor) ∧ s.p Pid.pwrCoreMv ≤ u.p Pid.pwrCoreMv ∧
      u.p Pid.pwrCoreMv ≤ 900 ∧ u.power.floor ≤ u.p Pid.pwrCoreMv ∧
      (u.power.floor ≤ s.p Pid.pwrCoreMv → u.p Pid.pwrCoreMv = s.p Pid.pwrCoreMv)))

/-- RESULT reads its ticket; an immediate command's first reply counts as its first read (R244). -/
def Obligations.ResultReadsItsTicket : Prop :=
  (∀ (t : Nat) (tr : Transport) (s : State) (tk : Ticket), Answers (.result t tr) t s tr (.opcode 0x03)
    (fun _ => .immediate) (fun q a => q.payload.length = 0 ∧
      (a.session q.session).bind (fun k => k.ticket q.ticket) = some tk ∧ tk.result = none)
    (gives (fun _ _ => fail stPending))) ∧
  (∀ (t : Nat) (tr : Transport) (s : State) (tk : Ticket) (n : Nat) (r : Result),
    Answers (.result t tr) t s tr (.opcode 0x03) (fun _ => .immediate) (fun q a => q.payload.length = 0 ∧
      (a.session q.session).bind (fun k => k.ticket q.ticket) = some tk ∧ tk.result = some (n, r) ∧ tk.readOnce = false)
    (fun q a => (.done r, a.modifySession q.session (fun k => k.putTicket ⟨tk.number, some (n, r), true⟩)))) ∧
  (∀ (t : Nat) (tr : Transport) (s : State) (tk : Ticket) (n : Nat) (r : Result),
    Answers (.result t tr) t s tr (.opcode 0x03) (fun _ => .immediate) (fun q a => q.payload.length = 0 ∧
      (a.session q.session).bind (fun k => k.ticket q.ticket) = some tk ∧ tk.result = some (n, r) ∧ tk.readOnce = true)
    (gives (fun _ _ => ⟨stRepeat, r.detail, r.words, r.status⟩))) ∧
  (∀ (t : Nat) (tr : Transport) (s : State), Answers (.result t tr) t s tr (.opcode 0x03) (fun _ => .immediate)
    (fun q a => q.payload.length = 0 ∧ (a.session q.session).bind (fun k => k.ticket q.ticket) = none)
    (gives (fun _ _ => fail stTicketGone))) ∧
  (∀ (k : Session) (tk x : Ticket) (n : Nat), k.ticket n = some x → ∃ y, (k.putTicket tk).ticket n = some y ∧
    (n ≠ tk.number → y = x)) ∧
  (∀ (p : Packet), (headerOf p.data).opcode = 0x03 → p.usesTicket = false) ∧
  (∀ (a : State) (r : Result) (tr : Transport) (p : Packet) (k k' : Session), p.usesTicket = true →
    a.session (headerOf p.data).session = some k' →
    ∃ k'', (a.conclude (.done r) tr p k).session (headerOf p.data).session = some k'' ∧
      k''.ticket (headerOf p.data).ticket = some ⟨(headerOf p.data).ticket, some (a.now, r), true⟩)

/-- The TANDEM_STATUS reply carries the role, the partner's state, the heartbeat's age and the copy's octets
(R439). -/
def Obligations.TandemStatusReply : Prop :=
  (∀ (t : Nat) (tr : Transport) (s : State), Answers (.tandemStatus t tr) t s tr (.opcode 0xA0) (fun _ => .immediate)
    (fun q a => q.payload.length = 0 ∧ a.tandem.linkHeard = none ∧ a.tandem.ringHeard = none)
    (gives (fun _ a => ok [a.w Pid.tdmRole 0, word a.tandem.partnerState, 0xFFFFFFFF, a.w Pid.tdmCopyOctets 0]))) ∧
  (∀ (t : Nat) (tr : Transport) (s : State) (x y : Nat), Answers (.tandemStatus t tr) t s tr (.opcode 0xA0)
    (fun _ => .immediate) (fun q a => q.payload.length = 0 ∧
      (a.tandem.linkHeard = some x ∧ (a.tandem.ringHeard = some y ∨ a.tandem.ringHeard = none ∧ y = x) ∨
       a.tandem.ringHeard = some y ∧ a.tandem.linkHeard = none ∧ x = y))
    (gives (fun _ a => ok [a.w Pid.tdmRole 0, word a.tandem.partnerState,
      word (min 0xFFFFFFFF ((a.now - max x y) / us)), a.w Pid.tdmCopyOctets 0]))) ∧
  State.reset.tandem.partnerState = 0xFF ∧
  (∀ (t role state status cycles : Nat) (h : LinkHead) (s : State), ((s.at_ t).linkTakes 1 h).1 = true →
    Completes (.heartbeatReceive t h role state status cycles) s (fun u => u.tandem.partnerState = state % 256))
end

