-- ==== Sys2Proof/Laws/Tab.lean ====
section
/-! SUPPORT.  The two sparse containers: reading after writing, and the canonical form that every operation on
them keeps. -/

namespace Sys2Proof

variable {α : Type}

theorem Tab.look_drop_same (k : Nat) (l : List (Nat × α)) : Tab.look k (Tab.drop k l) = none := by
  induction l with
  | nil => rfl
  | cons c rest ih =>
    obtain ⟨j, a⟩ := c
    by_cases h : j = k <;> simp [Tab.drop, Tab.look, h, ih]

theorem Tab.look_drop_other {k m : Nat} (h : m ≠ k) (l : List (Nat × α)) :
    Tab.look m (Tab.drop k l) = Tab.look m l := by
  induction l with
  | nil => rfl
  | cons c rest ih =>
    obtain ⟨j, a⟩ := c
    by_cases hj : j = k
    · subst hj; simp [Tab.drop, Tab.look, ih, Ne.symm h]
    · simp only [Tab.drop, hj, if_false, Tab.look, ih]

theorem Tab.look_place_same (k : Nat) (a : α) (l : List (Nat × α)) : Tab.look k (Tab.place k a l) = some a := by
  induction l with
  | nil => simp [Tab.place, Tab.look]
  | cons c rest ih =>
    obtain ⟨j, b⟩ := c
    simp only [Tab.place]
    split
    · simp [Tab.look]
    · split
      · simp [Tab.look]
      · rename_i hj; simp [Tab.look, hj, ih]

theorem Tab.look_place_other {k m : Nat} (h : m ≠ k) (a : α) (l : List (Nat × α)) :
    Tab.look m (Tab.place k a l) = Tab.look m l := by
  induction l with
  | nil => simp [Tab.place, Tab.look, Ne.symm h]
  | cons c rest ih =>
    obtain ⟨j, b⟩ := c
    simp only [Tab.place]
    split
    · simp [Tab.look, Ne.symm h]
    · split
      · rename_i hj; subst hj; simp [Tab.look, Ne.symm h]
      · simp only [Tab.look, ih]

@[simp] theorem Tab.get_const (a : α) (k : Nat) : (Tab.const a).get k = a := rfl

variable [DecidableEq α]

@[simp] theorem Tab.set_dflt (t : Tab α) (k : Nat) (a : α) : (t.set k a).dflt = t.dflt := by
  unfold Tab.set; split <;> rfl

@[simp] theorem Tab.get_set_same (t : Tab α) (k : Nat) (a : α) : (t.set k a).get k = a := by
  unfold Tab.set Tab.get
  split
  · rename_i h; simp [Tab.look_drop_same, h]
  · simp [Tab.look_place_same]

theorem Tab.get_set_other (t : Tab α) {k m : Nat} (h : m ≠ k) (a : α) : (t.set k a).get m = t.get m := by
  unfold Tab.set Tab.get
  split
  · simp [Tab.look_drop_other h]
  · simp [Tab.look_place_other h]

@[simp] theorem Tab.get_modify_same (t : Tab α) (k : Nat) (f : α → α) : (t.modify k f).get k = f (t.get k) := by
  simp [Tab.modify]

theorem Tab.get_modify_other (t : Tab α) {k m : Nat} (h : m ≠ k) (f : α → α) :
    (t.modify k f).get m = t.get m := by
  simp [Tab.modify, Tab.get_set_other _ h]

omit [DecidableEq α] in
theorem Tab.mem_drop {k : Nat} {c : Nat × α} {l : List (Nat × α)} (h : c ∈ Tab.drop k l) : c ∈ l ∧ c.1 ≠ k := by
  induction l with
  | nil => cases h
  | cons d rest ih =>
    obtain ⟨j, b⟩ := d
    by_cases hj : j = k
    · simp only [Tab.drop, hj, if_true] at h
      exact ⟨List.mem_cons_of_mem _ (ih h).1, (ih h).2⟩
    · simp only [Tab.drop, hj, if_false, List.mem_cons] at h
      rcases h with h | h
      · subst h; exact ⟨List.mem_cons_self, hj⟩
      · exact ⟨List.mem_cons_of_mem _ (ih h).1, (ih h).2⟩

omit [DecidableEq α] in
theorem Tab.mem_place {k : Nat} {a : α} {c : Nat × α} {l : List (Nat × α)} (h : c ∈ Tab.place k a l) :
    c = (k, a) ∨ c ∈ l := by
  induction l with
  | nil => simp [Tab.place] at h; exact .inl h
  | cons d rest ih =>
    obtain ⟨j, b⟩ := d
    simp only [Tab.place] at h
    split at h
    · simpa using h
    · split at h
      · rcases List.mem_cons.1 h with h | h
        · exact .inl h
        · exact .inr (List.mem_cons_of_mem _ h)
      · rcases List.mem_cons.1 h with h | h
        · exact .inr (h ▸ List.mem_cons_self)
        · rcases ih h with h | h
          · exact .inl h
          · exact .inr (List.mem_cons_of_mem _ h)

omit [DecidableEq α] in
/-- Dropping an entry keeps indexes strictly rising. -/
theorem Tab.rising_drop {l : List (Nat × α)} (k : Nat) (h : l.Pairwise (fun a b => a.1 < b.1)) :
    (Tab.drop k l).Pairwise (fun a b => a.1 < b.1) := by
  induction l with
  | nil => exact List.Pairwise.nil
  | cons c rest ih =>
    obtain ⟨j, b⟩ := c
    rw [List.pairwise_cons] at h
    by_cases hj : j = k
    · simpa [Tab.drop, hj] using ih h.2
    · simp only [Tab.drop, hj, if_false, List.pairwise_cons]
      exact ⟨fun d hd => h.1 d (Tab.mem_drop hd).1, ih h.2⟩

omit [DecidableEq α] in
/-- Placing an entry keeps indexes strictly rising. -/
theorem Tab.rising_place {l : List (Nat × α)} (k : Nat) (a : α) (h : l.Pairwise (fun a b => a.1 < b.1)) :
    (Tab.place k a l).Pairwise (fun a b => a.1 < b.1) := by
  induction l with
  | nil => simp [Tab.place]
  | cons c rest ih =>
    obtain ⟨j, b⟩ := c
    have h' := List.pairwise_cons.1 h
    simp only [Tab.place]
    split
    · rename_i hk
      refine List.pairwise_cons.2 ⟨fun d hd => ?_, h⟩
      rcases List.mem_cons.1 hd with hd | hd
      · subst hd; exact hk
      · exact Nat.lt_trans hk (h'.1 d hd)
    · split
      · rename_i hj
        subst hj
        exact List.pairwise_cons.2 ⟨h'.1, h'.2⟩
      · rename_i hk hj
        refine List.pairwise_cons.2 ⟨fun d hd => ?_, ih h'.2⟩
        rcases Tab.mem_place hd with hd | hd
        · subst hd; simp; omega
        · exact h'.1 d hd

namespace Machine

/-- The parameter store stays in canonical form when an element is written. -/
theorem setW_keeps_canonical (s : State) (id e : Nat) (v : Word) (he : e < 65536)
    (h : paramsCanonical s.params) : paramsCanonical (s.setW id e v).params := by
  unfold State.setW
  split
  · exact ⟨Tab.rising_drop _ h.1, fun c hc => h.2 c (Tab.mem_drop hc).1⟩
  · rename_i hv
    refine ⟨Tab.rising_place _ _ h.1, fun c hc => ?_⟩
    rcases Tab.mem_place hc with hc | hc
    · subst hc
      have h1 : paramKey id e / 65536 = id := by simp only [paramKey]; omega
      have h2 : paramKey id e % 65536 = e := by simp only [paramKey]; omega
      simpa [h1, h2] using hv
    · exact h.2 c hc

/-- An element reads as it was written. -/
@[simp] theorem w_setW_same (s : State) (id e : Nat) (v : Word) : (s.setW id e v).w id e = v := by
  unfold State.setW State.w
  split
  · rename_i h; simp [Tab.look_drop_same, h]
  · simp [Tab.look_place_same]

/-- Writing an element leaves every other element as it was. -/
theorem w_setW_other (s : State) {id e jd d : Nat} (h : paramKey jd d ≠ paramKey id e) (v : Word) :
    (s.setW id e v).w jd d = s.w jd d := by
  unfold State.setW State.w
  split
  · simp [Tab.look_drop_other h]
  · simp [Tab.look_place_other h]

end Machine

end Sys2Proof
end

