-- ==== Sys2Proof/Laws/State.lean ====
section
/-! SUPPORT.  One lemma per field per update of the state: what an update leaves alone, and what it puts. -/

namespace Sys2Proof.Machine

open Sys2Proof

/-! ### `at_` -/

@[simp] theorem at_pending (s : State) (t : Nat) : (s.at_ t).pending = s.pending := rfl
@[simp] theorem at_now (s : State) (t : Nat) : (s.at_ t).now = max s.now t := rfl
@[simp] theorem at_tickBase (s : State) (t : Nat) : (s.at_ t).tickBase = s.tickBase := rfl
@[simp] theorem at_tcxoStopped (s : State) (t : Nat) : (s.at_ t).tcxoStopped = s.tcxoStopped := rfl
@[simp] theorem at_spineLocked (s : State) (t : Nat) : (s.at_ t).spineLocked = s.spineLocked := rfl
@[simp] theorem at_unlockedAt (s : State) (t : Nat) : (s.at_ t).unlockedAt = s.unlockedAt := rfl
@[simp] theorem at_coldAt (s : State) (t : Nat) : (s.at_ t).coldAt = s.coldAt := rfl
@[simp] theorem at_draws (s : State) (t : Nat) : (s.at_ t).draws = s.draws := rfl
@[simp] theorem at_params (s : State) (t : Nat) : (s.at_ t).params = s.params := rfl
@[simp] theorem at_marked (s : State) (t : Nat) : (s.at_ t).marked = s.marked := rfl
@[simp] theorem at_drive (s : State) (t : Nat) : (s.at_ t).drive = s.drive := rfl
@[simp] theorem at_diag (s : State) (t : Nat) : (s.at_ t).diag = s.diag := rfl
@[simp] theorem at_colour (s : State) (t : Nat) : (s.at_ t).colour = s.colour := rfl
@[simp] theorem at_harness (s : State) (t : Nat) : (s.at_ t).harness = s.harness := rfl
@[simp] theorem at_presence (s : State) (t : Nat) : (s.at_ t).presence = s.presence := rfl
@[simp] theorem at_bridle (s : State) (t : Nat) : (s.at_ t).bridle = s.bridle := rfl
@[simp] theorem at_prog (s : State) (t : Nat) : (s.at_ t).prog = s.prog := rfl
@[simp] theorem at_net (s : State) (t : Nat) : (s.at_ t).net = s.net := rfl
@[simp] theorem at_time (s : State) (t : Nat) : (s.at_ t).time = s.time := rfl
@[simp] theorem at_relay (s : State) (t : Nat) : (s.at_ t).relay = s.relay := rfl
@[simp] theorem at_storage (s : State) (t : Nat) : (s.at_ t).storage = s.storage := rfl
@[simp] theorem at_sense (s : State) (t : Nat) : (s.at_ t).sense = s.sense := rfl
@[simp] theorem at_waybill (s : State) (t : Nat) : (s.at_ t).waybill = s.waybill := rfl
@[simp] theorem at_vault (s : State) (t : Nat) : (s.at_ t).vault = s.vault := rfl
@[simp] theorem at_update (s : State) (t : Nat) : (s.at_ t).update = s.update := rfl
@[simp] theorem at_tandem (s : State) (t : Nat) : (s.at_ t).tandem = s.tandem := rfl
@[simp] theorem at_power (s : State) (t : Nat) : (s.at_ t).power = s.power := rfl
@[simp] theorem at_test (s : State) (t : Nat) : (s.at_ t).test = s.test := rfl
@[simp] theorem at_w (s : State) (t : Nat) (id e : Nat) : (s.at_ t).w id e = s.w id e := rfl
@[simp] theorem at_p (s : State) (t : Nat) (id e : Nat) : (s.at_ t).p id e = s.p id e := rfl

/-! ### `withTandem` -/

@[simp] theorem withTandem_pending (s : State) (f : TandemState → TandemState) : (s.withTandem f).pending = s.pending := rfl
@[simp] theorem withTandem_now (s : State) (f : TandemState → TandemState) : (s.withTandem f).now = s.now := rfl
@[simp] theorem withTandem_tickBase (s : State) (f : TandemState → TandemState) : (s.withTandem f).tickBase = s.tickBase := rfl
@[simp] theorem withTandem_tcxoStopped (s : State) (f : TandemState → TandemState) : (s.withTandem f).tcxoStopped = s.tcxoStopped := rfl
@[simp] theorem withTandem_spineLocked (s : State) (f : TandemState → TandemState) : (s.withTandem f).spineLocked = s.spineLocked := rfl
@[simp] theorem withTandem_unlockedAt (s : State) (f : TandemState → TandemState) : (s.withTandem f).unlockedAt = s.unlockedAt := rfl
@[simp] theorem withTandem_coldAt (s : State) (f : TandemState → TandemState) : (s.withTandem f).coldAt = s.coldAt := rfl
@[simp] theorem withTandem_draws (s : State) (f : TandemState → TandemState) : (s.withTandem f).draws = s.draws := rfl
@[simp] theorem withTandem_params (s : State) (f : TandemState → TandemState) : (s.withTandem f).params = s.params := rfl
@[simp] theorem withTandem_marked (s : State) (f : TandemState → TandemState) : (s.withTandem f).marked = s.marked := rfl
@[simp] theorem withTandem_drive (s : State) (f : TandemState → TandemState) : (s.withTandem f).drive = s.drive := rfl
@[simp] theorem withTandem_diag (s : State) (f : TandemState → TandemState) : (s.withTandem f).diag = s.diag := rfl
@[simp] theorem withTandem_colour (s : State) (f : TandemState → TandemState) : (s.withTandem f).colour = s.colour := rfl
@[simp] theorem withTandem_harness (s : State) (f : TandemState → TandemState) : (s.withTandem f).harness = s.harness := rfl
@[simp] theorem withTandem_presence (s : State) (f : TandemState → TandemState) : (s.withTandem f).presence = s.presence := rfl
@[simp] theorem withTandem_bridle (s : State) (f : TandemState → TandemState) : (s.withTandem f).bridle = s.bridle := rfl
@[simp] theorem withTandem_prog (s : State) (f : TandemState → TandemState) : (s.withTandem f).prog = s.prog := rfl
@[simp] theorem withTandem_net (s : State) (f : TandemState → TandemState) : (s.withTandem f).net = s.net := rfl
@[simp] theorem withTandem_time (s : State) (f : TandemState → TandemState) : (s.withTandem f).time = s.time := rfl
@[simp] theorem withTandem_relay (s : State) (f : TandemState → TandemState) : (s.withTandem f).relay = s.relay := rfl
@[simp] theorem withTandem_storage (s : State) (f : TandemState → TandemState) : (s.withTandem f).storage = s.storage := rfl
@[simp] theorem withTandem_sense (s : State) (f : TandemState → TandemState) : (s.withTandem f).sense = s.sense := rfl
@[simp] theorem withTandem_waybill (s : State) (f : TandemState → TandemState) : (s.withTandem f).waybill = s.waybill := rfl
@[simp] theorem withTandem_vault (s : State) (f : TandemState → TandemState) : (s.withTandem f).vault = s.vault := rfl
@[simp] theorem withTandem_update (s : State) (f : TandemState → TandemState) : (s.withTandem f).update = s.update := rfl
@[simp] theorem withTandem_tandem (s : State) (f : TandemState → TandemState) : (s.withTandem f).tandem = f s.tandem := rfl
@[simp] theorem withTandem_power (s : State) (f : TandemState → TandemState) : (s.withTandem f).power = s.power := rfl
@[simp] theorem withTandem_test (s : State) (f : TandemState → TandemState) : (s.withTandem f).test = s.test := rfl
@[simp] theorem withTandem_w (s : State) (f : TandemState → TandemState) (id e : Nat) : (s.withTandem f).w id e = s.w id e := rfl
@[simp] theorem withTandem_p (s : State) (f : TandemState → TandemState) (id e : Nat) : (s.withTandem f).p id e = s.p id e := rfl

/-! ### `withPower` -/

@[simp] theorem withPower_pending (s : State) (f : PowerState → PowerState) : (s.withPower f).pending = s.pending := rfl
@[simp] theorem withPower_now (s : State) (f : PowerState → PowerState) : (s.withPower f).now = s.now := rfl
@[simp] theorem withPower_tickBase (s : State) (f : PowerState → PowerState) : (s.withPower f).tickBase = s.tickBase := rfl
@[simp] theorem withPower_tcxoStopped (s : State) (f : PowerState → PowerState) : (s.withPower f).tcxoStopped = s.tcxoStopped := rfl
@[simp] theorem withPower_spineLocked (s : State) (f : PowerState → PowerState) : (s.withPower f).spineLocked = s.spineLocked := rfl
@[simp] theorem withPower_unlockedAt (s : State) (f : PowerState → PowerState) : (s.withPower f).unlockedAt = s.unlockedAt := rfl
@[simp] theorem withPower_coldAt (s : State) (f : PowerState → PowerState) : (s.withPower f).coldAt = s.coldAt := rfl
@[simp] theorem withPower_draws (s : State) (f : PowerState → PowerState) : (s.withPower f).draws = s.draws := rfl
@[simp] theorem withPower_params (s : State) (f : PowerState → PowerState) : (s.withPower f).params = s.params := rfl
@[simp] theorem withPower_marked (s : State) (f : PowerState → PowerState) : (s.withPower f).marked = s.marked := rfl
@[simp] theorem withPower_drive (s : State) (f : PowerState → PowerState) : (s.withPower f).drive = s.drive := rfl
@[simp] theorem withPower_diag (s : State) (f : PowerState → PowerState) : (s.withPower f).diag = s.diag := rfl
@[simp] theorem withPower_colour (s : State) (f : PowerState → PowerState) : (s.withPower f).colour = s.colour := rfl
@[simp] theorem withPower_harness (s : State) (f : PowerState → PowerState) : (s.withPower f).harness = s.harness := rfl
@[simp] theorem withPower_presence (s : State) (f : PowerState → PowerState) : (s.withPower f).presence = s.presence := rfl
@[simp] theorem withPower_bridle (s : State) (f : PowerState → PowerState) : (s.withPower f).bridle = s.bridle := rfl
@[simp] theorem withPower_prog (s : State) (f : PowerState → PowerState) : (s.withPower f).prog = s.prog := rfl
@[simp] theorem withPower_net (s : State) (f : PowerState → PowerState) : (s.withPower f).net = s.net := rfl
@[simp] theorem withPower_time (s : State) (f : PowerState → PowerState) : (s.withPower f).time = s.time := rfl
@[simp] theorem withPower_relay (s : State) (f : PowerState → PowerState) : (s.withPower f).relay = s.relay := rfl
@[simp] theorem withPower_storage (s : State) (f : PowerState → PowerState) : (s.withPower f).storage = s.storage := rfl
@[simp] theorem withPower_sense (s : State) (f : PowerState → PowerState) : (s.withPower f).sense = s.sense := rfl
@[simp] theorem withPower_waybill (s : State) (f : PowerState → PowerState) : (s.withPower f).waybill = s.waybill := rfl
@[simp] theorem withPower_vault (s : State) (f : PowerState → PowerState) : (s.withPower f).vault = s.vault := rfl
@[simp] theorem withPower_update (s : State) (f : PowerState → PowerState) : (s.withPower f).update = s.update := rfl
@[simp] theorem withPower_tandem (s : State) (f : PowerState → PowerState) : (s.withPower f).tandem = s.tandem := rfl
@[simp] theorem withPower_power (s : State) (f : PowerState → PowerState) : (s.withPower f).power = f s.power := rfl
@[simp] theorem withPower_test (s : State) (f : PowerState → PowerState) : (s.withPower f).test = s.test := rfl
@[simp] theorem withPower_w (s : State) (f : PowerState → PowerState) (id e : Nat) : (s.withPower f).w id e = s.w id e := rfl
@[simp] theorem withPower_p (s : State) (f : PowerState → PowerState) (id e : Nat) : (s.withPower f).p id e = s.p id e := rfl

/-! ### `withProg` -/

@[simp] theorem withProg_pending (s : State) (f : ProgState → ProgState) : (s.withProg f).pending = s.pending := rfl
@[simp] theorem withProg_now (s : State) (f : ProgState → ProgState) : (s.withProg f).now = s.now := rfl
@[simp] theorem withProg_tickBase (s : State) (f : ProgState → ProgState) : (s.withProg f).tickBase = s.tickBase := rfl
@[simp] theorem withProg_tcxoStopped (s : State) (f : ProgState → ProgState) : (s.withProg f).tcxoStopped = s.tcxoStopped := rfl
@[simp] theorem withProg_spineLocked (s : State) (f : ProgState → ProgState) : (s.withProg f).spineLocked = s.spineLocked := rfl
@[simp] theorem withProg_unlockedAt (s : State) (f : ProgState → ProgState) : (s.withProg f).unlockedAt = s.unlockedAt := rfl
@[simp] theorem withProg_coldAt (s : State) (f : ProgState → ProgState) : (s.withProg f).coldAt = s.coldAt := rfl
@[simp] theorem withProg_draws (s : State) (f : ProgState → ProgState) : (s.withProg f).draws = s.draws := rfl
@[simp] theorem withProg_params (s : State) (f : ProgState → ProgState) : (s.withProg f).params = s.params := rfl
@[simp] theorem withProg_marked (s : State) (f : ProgState → ProgState) : (s.withProg f).marked = s.marked := rfl
@[simp] theorem withProg_drive (s : State) (f : ProgState → ProgState) : (s.withProg f).drive = s.drive := rfl
@[simp] theorem withProg_diag (s : State) (f : ProgState → ProgState) : (s.withProg f).diag = s.diag := rfl
@[simp] theorem withProg_colour (s : State) (f : ProgState → ProgState) : (s.withProg f).colour = s.colour := rfl
@[simp] theorem withProg_harness (s : State) (f : ProgState → ProgState) : (s.withProg f).harness = s.harness := rfl
@[simp] theorem withProg_presence (s : State) (f : ProgState → ProgState) : (s.withProg f).presence = s.presence := rfl
@[simp] theorem withProg_bridle (s : State) (f : ProgState → ProgState) : (s.withProg f).bridle = s.bridle := rfl
@[simp] theorem withProg_prog (s : State) (f : ProgState → ProgState) : (s.withProg f).prog = f s.prog := rfl
@[simp] theorem withProg_net (s : State) (f : ProgState → ProgState) : (s.withProg f).net = s.net := rfl
@[simp] theorem withProg_time (s : State) (f : ProgState → ProgState) : (s.withProg f).time = s.time := rfl
@[simp] theorem withProg_relay (s : State) (f : ProgState → ProgState) : (s.withProg f).relay = s.relay := rfl
@[simp] theorem withProg_storage (s : State) (f : ProgState → ProgState) : (s.withProg f).storage = s.storage := rfl
@[simp] theorem withProg_sense (s : State) (f : ProgState → ProgState) : (s.withProg f).sense = s.sense := rfl
@[simp] theorem withProg_waybill (s : State) (f : ProgState → ProgState) : (s.withProg f).waybill = s.waybill := rfl
@[simp] theorem withProg_vault (s : State) (f : ProgState → ProgState) : (s.withProg f).vault = s.vault := rfl
@[simp] theorem withProg_update (s : State) (f : ProgState → ProgState) : (s.withProg f).update = s.update := rfl
@[simp] theorem withProg_tandem (s : State) (f : ProgState → ProgState) : (s.withProg f).tandem = s.tandem := rfl
@[simp] theorem withProg_power (s : State) (f : ProgState → ProgState) : (s.withProg f).power = s.power := rfl
@[simp] theorem withProg_test (s : State) (f : ProgState → ProgState) : (s.withProg f).test = s.test := rfl
@[simp] theorem withProg_w (s : State) (f : ProgState → ProgState) (id e : Nat) : (s.withProg f).w id e = s.w id e := rfl
@[simp] theorem withProg_p (s : State) (f : ProgState → ProgState) (id e : Nat) : (s.withProg f).p id e = s.p id e := rfl

/-! ### `withDrive` -/

@[simp] theorem withDrive_pending (s : State) (f : DriveState → DriveState) : (s.withDrive f).pending = s.pending := rfl
@[simp] theorem withDrive_now (s : State) (f : DriveState → DriveState) : (s.withDrive f).now = s.now := rfl
@[simp] theorem withDrive_tickBase (s : State) (f : DriveState → DriveState) : (s.withDrive f).tickBase = s.tickBase := rfl
@[simp] theorem withDrive_tcxoStopped (s : State) (f : DriveState → DriveState) : (s.withDrive f).tcxoStopped = s.tcxoStopped := rfl
@[simp] theorem withDrive_spineLocked (s : State) (f : DriveState → DriveState) : (s.withDrive f).spineLocked = s.spineLocked := rfl
@[simp] theorem withDrive_unlockedAt (s : State) (f : DriveState → DriveState) : (s.withDrive f).unlockedAt = s.unlockedAt := rfl
@[simp] theorem withDrive_coldAt (s : State) (f : DriveState → DriveState) : (s.withDrive f).coldAt = s.coldAt := rfl
@[simp] theorem withDrive_draws (s : State) (f : DriveState → DriveState) : (s.withDrive f).draws = s.draws := rfl
@[simp] theorem withDrive_params (s : State) (f : DriveState → DriveState) : (s.withDrive f).params = s.params := rfl
@[simp] theorem withDrive_marked (s : State) (f : DriveState → DriveState) : (s.withDrive f).marked = s.marked := rfl
@[simp] theorem withDrive_drive (s : State) (f : DriveState → DriveState) : (s.withDrive f).drive = f s.drive := rfl
@[simp] theorem withDrive_diag (s : State) (f : DriveState → DriveState) : (s.withDrive f).diag = s.diag := rfl
@[simp] theorem withDrive_colour (s : State) (f : DriveState → DriveState) : (s.withDrive f).colour = s.colour := rfl
@[simp] theorem withDrive_harness (s : State) (f : DriveState → DriveState) : (s.withDrive f).harness = s.harness := rfl
@[simp] theorem withDrive_presence (s : State) (f : DriveState → DriveState) : (s.withDrive f).presence = s.presence := rfl
@[simp] theorem withDrive_bridle (s : State) (f : DriveState → DriveState) : (s.withDrive f).bridle = s.bridle := rfl
@[simp] theorem withDrive_prog (s : State) (f : DriveState → DriveState) : (s.withDrive f).prog = s.prog := rfl
@[simp] theorem withDrive_net (s : State) (f : DriveState → DriveState) : (s.withDrive f).net = s.net := rfl
@[simp] theorem withDrive_time (s : State) (f : DriveState → DriveState) : (s.withDrive f).time = s.time := rfl
@[simp] theorem withDrive_relay (s : State) (f : DriveState → DriveState) : (s.withDrive f).relay = s.relay := rfl
@[simp] theorem withDrive_storage (s : State) (f : DriveState → DriveState) : (s.withDrive f).storage = s.storage := rfl
@[simp] theorem withDrive_sense (s : State) (f : DriveState → DriveState) : (s.withDrive f).sense = s.sense := rfl
@[simp] theorem withDrive_waybill (s : State) (f : DriveState → DriveState) : (s.withDrive f).waybill = s.waybill := rfl
@[simp] theorem withDrive_vault (s : State) (f : DriveState → DriveState) : (s.withDrive f).vault = s.vault := rfl
@[simp] theorem withDrive_update (s : State) (f : DriveState → DriveState) : (s.withDrive f).update = s.update := rfl
@[simp] theorem withDrive_tandem (s : State) (f : DriveState → DriveState) : (s.withDrive f).tandem = s.tandem := rfl
@[simp] theorem withDrive_power (s : State) (f : DriveState → DriveState) : (s.withDrive f).power = s.power := rfl
@[simp] theorem withDrive_test (s : State) (f : DriveState → DriveState) : (s.withDrive f).test = s.test := rfl
@[simp] theorem withDrive_w (s : State) (f : DriveState → DriveState) (id e : Nat) : (s.withDrive f).w id e = s.w id e := rfl
@[simp] theorem withDrive_p (s : State) (f : DriveState → DriveState) (id e : Nat) : (s.withDrive f).p id e = s.p id e := rfl

/-! ### `withTime` -/

@[simp] theorem withTime_pending (s : State) (f : TimeState → TimeState) : (s.withTime f).pending = s.pending := rfl
@[simp] theorem withTime_now (s : State) (f : TimeState → TimeState) : (s.withTime f).now = s.now := rfl
@[simp] theorem withTime_tickBase (s : State) (f : TimeState → TimeState) : (s.withTime f).tickBase = s.tickBase := rfl
@[simp] theorem withTime_tcxoStopped (s : State) (f : TimeState → TimeState) : (s.withTime f).tcxoStopped = s.tcxoStopped := rfl
@[simp] theorem withTime_spineLocked (s : State) (f : TimeState → TimeState) : (s.withTime f).spineLocked = s.spineLocked := rfl
@[simp] theorem withTime_unlockedAt (s : State) (f : TimeState → TimeState) : (s.withTime f).unlockedAt = s.unlockedAt := rfl
@[simp] theorem withTime_coldAt (s : State) (f : TimeState → TimeState) : (s.withTime f).coldAt = s.coldAt := rfl
@[simp] theorem withTime_draws (s : State) (f : TimeState → TimeState) : (s.withTime f).draws = s.draws := rfl
@[simp] theorem withTime_params (s : State) (f : TimeState → TimeState) : (s.withTime f).params = s.params := rfl
@[simp] theorem withTime_marked (s : State) (f : TimeState → TimeState) : (s.withTime f).marked = s.marked := rfl
@[simp] theorem withTime_drive (s : State) (f : TimeState → TimeState) : (s.withTime f).drive = s.drive := rfl
@[simp] theorem withTime_diag (s : State) (f : TimeState → TimeState) : (s.withTime f).diag = s.diag := rfl
@[simp] theorem withTime_colour (s : State) (f : TimeState → TimeState) : (s.withTime f).colour = s.colour := rfl
@[simp] theorem withTime_harness (s : State) (f : TimeState → TimeState) : (s.withTime f).harness = s.harness := rfl
@[simp] theorem withTime_presence (s : State) (f : TimeState → TimeState) : (s.withTime f).presence = s.presence := rfl
@[simp] theorem withTime_bridle (s : State) (f : TimeState → TimeState) : (s.withTime f).bridle = s.bridle := rfl
@[simp] theorem withTime_prog (s : State) (f : TimeState → TimeState) : (s.withTime f).prog = s.prog := rfl
@[simp] theorem withTime_net (s : State) (f : TimeState → TimeState) : (s.withTime f).net = s.net := rfl
@[simp] theorem withTime_time (s : State) (f : TimeState → TimeState) : (s.withTime f).time = f s.time := rfl
@[simp] theorem withTime_relay (s : State) (f : TimeState → TimeState) : (s.withTime f).relay = s.relay := rfl
@[simp] theorem withTime_storage (s : State) (f : TimeState → TimeState) : (s.withTime f).storage = s.storage := rfl
@[simp] theorem withTime_sense (s : State) (f : TimeState → TimeState) : (s.withTime f).sense = s.sense := rfl
@[simp] theorem withTime_waybill (s : State) (f : TimeState → TimeState) : (s.withTime f).waybill = s.waybill := rfl
@[simp] theorem withTime_vault (s : State) (f : TimeState → TimeState) : (s.withTime f).vault = s.vault := rfl
@[simp] theorem withTime_update (s : State) (f : TimeState → TimeState) : (s.withTime f).update = s.update := rfl
@[simp] theorem withTime_tandem (s : State) (f : TimeState → TimeState) : (s.withTime f).tandem = s.tandem := rfl
@[simp] theorem withTime_power (s : State) (f : TimeState → TimeState) : (s.withTime f).power = s.power := rfl
@[simp] theorem withTime_test (s : State) (f : TimeState → TimeState) : (s.withTime f).test = s.test := rfl
@[simp] theorem withTime_w (s : State) (f : TimeState → TimeState) (id e : Nat) : (s.withTime f).w id e = s.w id e := rfl
@[simp] theorem withTime_p (s : State) (f : TimeState → TimeState) (id e : Nat) : (s.withTime f).p id e = s.p id e := rfl

/-! ### `withNet` -/

@[simp] theorem withNet_pending (s : State) (f : NetState → NetState) : (s.withNet f).pending = s.pending := rfl
@[simp] theorem withNet_now (s : State) (f : NetState → NetState) : (s.withNet f).now = s.now := rfl
@[simp] theorem withNet_tickBase (s : State) (f : NetState → NetState) : (s.withNet f).tickBase = s.tickBase := rfl
@[simp] theorem withNet_tcxoStopped (s : State) (f : NetState → NetState) : (s.withNet f).tcxoStopped = s.tcxoStopped := rfl
@[simp] theorem withNet_spineLocked (s : State) (f : NetState → NetState) : (s.withNet f).spineLocked = s.spineLocked := rfl
@[simp] theorem withNet_unlockedAt (s : State) (f : NetState → NetState) : (s.withNet f).unlockedAt = s.unlockedAt := rfl
@[simp] theorem withNet_coldAt (s : State) (f : NetState → NetState) : (s.withNet f).coldAt = s.coldAt := rfl
@[simp] theorem withNet_draws (s : State) (f : NetState → NetState) : (s.withNet f).draws = s.draws := rfl
@[simp] theorem withNet_params (s : State) (f : NetState → NetState) : (s.withNet f).params = s.params := rfl
@[simp] theorem withNet_marked (s : State) (f : NetState → NetState) : (s.withNet f).marked = s.marked := rfl
@[simp] theorem withNet_drive (s : State) (f : NetState → NetState) : (s.withNet f).drive = s.drive := rfl
@[simp] theorem withNet_diag (s : State) (f : NetState → NetState) : (s.withNet f).diag = s.diag := rfl
@[simp] theorem withNet_colour (s : State) (f : NetState → NetState) : (s.withNet f).colour = s.colour := rfl
@[simp] theorem withNet_harness (s : State) (f : NetState → NetState) : (s.withNet f).harness = s.harness := rfl
@[simp] theorem withNet_presence (s : State) (f : NetState → NetState) : (s.withNet f).presence = s.presence := rfl
@[simp] theorem withNet_bridle (s : State) (f : NetState → NetState) : (s.withNet f).bridle = s.bridle := rfl
@[simp] theorem withNet_prog (s : State) (f : NetState → NetState) : (s.withNet f).prog = s.prog := rfl
@[simp] theorem withNet_net (s : State) (f : NetState → NetState) : (s.withNet f).net = f s.net := rfl
@[simp] theorem withNet_time (s : State) (f : NetState → NetState) : (s.withNet f).time = s.time := rfl
@[simp] theorem withNet_relay (s : State) (f : NetState → NetState) : (s.withNet f).relay = s.relay := rfl
@[simp] theorem withNet_storage (s : State) (f : NetState → NetState) : (s.withNet f).storage = s.storage := rfl
@[simp] theorem withNet_sense (s : State) (f : NetState → NetState) : (s.withNet f).sense = s.sense := rfl
@[simp] theorem withNet_waybill (s : State) (f : NetState → NetState) : (s.withNet f).waybill = s.waybill := rfl
@[simp] theorem withNet_vault (s : State) (f : NetState → NetState) : (s.withNet f).vault = s.vault := rfl
@[simp] theorem withNet_update (s : State) (f : NetState → NetState) : (s.withNet f).update = s.update := rfl
@[simp] theorem withNet_tandem (s : State) (f : NetState → NetState) : (s.withNet f).tandem = s.tandem := rfl
@[simp] theorem withNet_power (s : State) (f : NetState → NetState) : (s.withNet f).power = s.power := rfl
@[simp] theorem withNet_test (s : State) (f : NetState → NetState) : (s.withNet f).test = s.test := rfl
@[simp] theorem withNet_w (s : State) (f : NetState → NetState) (id e : Nat) : (s.withNet f).w id e = s.w id e := rfl
@[simp] theorem withNet_p (s : State) (f : NetState → NetState) (id e : Nat) : (s.withNet f).p id e = s.p id e := rfl

/-! ### `withRelay` -/

@[simp] theorem withRelay_pending (s : State) (f : RelayState → RelayState) : (s.withRelay f).pending = s.pending := rfl
@[simp] theorem withRelay_now (s : State) (f : RelayState → RelayState) : (s.withRelay f).now = s.now := rfl
@[simp] theorem withRelay_tickBase (s : State) (f : RelayState → RelayState) : (s.withRelay f).tickBase = s.tickBase := rfl
@[simp] theorem withRelay_tcxoStopped (s : State) (f : RelayState → RelayState) : (s.withRelay f).tcxoStopped = s.tcxoStopped := rfl
@[simp] theorem withRelay_spineLocked (s : State) (f : RelayState → RelayState) : (s.withRelay f).spineLocked = s.spineLocked := rfl
@[simp] theorem withRelay_unlockedAt (s : State) (f : RelayState → RelayState) : (s.withRelay f).unlockedAt = s.unlockedAt := rfl
@[simp] theorem withRelay_coldAt (s : State) (f : RelayState → RelayState) : (s.withRelay f).coldAt = s.coldAt := rfl
@[simp] theorem withRelay_draws (s : State) (f : RelayState → RelayState) : (s.withRelay f).draws = s.draws := rfl
@[simp] theorem withRelay_params (s : State) (f : RelayState → RelayState) : (s.withRelay f).params = s.params := rfl
@[simp] theorem withRelay_marked (s : State) (f : RelayState → RelayState) : (s.withRelay f).marked = s.marked := rfl
@[simp] theorem withRelay_drive (s : State) (f : RelayState → RelayState) : (s.withRelay f).drive = s.drive := rfl
@[simp] theorem withRelay_diag (s : State) (f : RelayState → RelayState) : (s.withRelay f).diag = s.diag := rfl
@[simp] theorem withRelay_colour (s : State) (f : RelayState → RelayState) : (s.withRelay f).colour = s.colour := rfl
@[simp] theorem withRelay_harness (s : State) (f : RelayState → RelayState) : (s.withRelay f).harness = s.harness := rfl
@[simp] theorem withRelay_presence (s : State) (f : RelayState → RelayState) : (s.withRelay f).presence = s.presence := rfl
@[simp] theorem withRelay_bridle (s : State) (f : RelayState → RelayState) : (s.withRelay f).bridle = s.bridle := rfl
@[simp] theorem withRelay_prog (s : State) (f : RelayState → RelayState) : (s.withRelay f).prog = s.prog := rfl
@[simp] theorem withRelay_net (s : State) (f : RelayState → RelayState) : (s.withRelay f).net = s.net := rfl
@[simp] theorem withRelay_time (s : State) (f : RelayState → RelayState) : (s.withRelay f).time = s.time := rfl
@[simp] theorem withRelay_relay (s : State) (f : RelayState → RelayState) : (s.withRelay f).relay = f s.relay := rfl
@[simp] theorem withRelay_storage (s : State) (f : RelayState → RelayState) : (s.withRelay f).storage = s.storage := rfl
@[simp] theorem withRelay_sense (s : State) (f : RelayState → RelayState) : (s.withRelay f).sense = s.sense := rfl
@[simp] theorem withRelay_waybill (s : State) (f : RelayState → RelayState) : (s.withRelay f).waybill = s.waybill := rfl
@[simp] theorem withRelay_vault (s : State) (f : RelayState → RelayState) : (s.withRelay f).vault = s.vault := rfl
@[simp] theorem withRelay_update (s : State) (f : RelayState → RelayState) : (s.withRelay f).update = s.update := rfl
@[simp] theorem withRelay_tandem (s : State) (f : RelayState → RelayState) : (s.withRelay f).tandem = s.tandem := rfl
@[simp] theorem withRelay_power (s : State) (f : RelayState → RelayState) : (s.withRelay f).power = s.power := rfl
@[simp] theorem withRelay_test (s : State) (f : RelayState → RelayState) : (s.withRelay f).test = s.test := rfl
@[simp] theorem withRelay_w (s : State) (f : RelayState → RelayState) (id e : Nat) : (s.withRelay f).w id e = s.w id e := rfl
@[simp] theorem withRelay_p (s : State) (f : RelayState → RelayState) (id e : Nat) : (s.withRelay f).p id e = s.p id e := rfl



/-! ### `raiseWake` -/

@[simp] theorem raiseWake_pending (s : State) (cause : Nat) : (s.raiseWake cause).pending = s.pending := rfl
@[simp] theorem raiseWake_now (s : State) (cause : Nat) : (s.raiseWake cause).now = s.now := rfl
@[simp] theorem raiseWake_tickBase (s : State) (cause : Nat) : (s.raiseWake cause).tickBase = s.tickBase := rfl
@[simp] theorem raiseWake_tcxoStopped (s : State) (cause : Nat) : (s.raiseWake cause).tcxoStopped = s.tcxoStopped := rfl
@[simp] theorem raiseWake_spineLocked (s : State) (cause : Nat) : (s.raiseWake cause).spineLocked = s.spineLocked := rfl
@[simp] theorem raiseWake_unlockedAt (s : State) (cause : Nat) : (s.raiseWake cause).unlockedAt = s.unlockedAt := rfl
@[simp] theorem raiseWake_coldAt (s : State) (cause : Nat) : (s.raiseWake cause).coldAt = s.coldAt := rfl
@[simp] theorem raiseWake_draws (s : State) (cause : Nat) : (s.raiseWake cause).draws = s.draws := rfl
@[simp] theorem raiseWake_params (s : State) (cause : Nat) : (s.raiseWake cause).params = s.params := rfl
@[simp] theorem raiseWake_marked (s : State) (cause : Nat) : (s.raiseWake cause).marked = s.marked := rfl
@[simp] theorem raiseWake_drive (s : State) (cause : Nat) : (s.raiseWake cause).drive = s.drive := rfl
@[simp] theorem raiseWake_diag (s : State) (cause : Nat) : (s.raiseWake cause).diag = s.diag := rfl
@[simp] theorem raiseWake_colour (s : State) (cause : Nat) : (s.raiseWake cause).colour = s.colour := rfl
@[simp] theorem raiseWake_harness (s : State) (cause : Nat) : (s.raiseWake cause).harness = s.harness := rfl
@[simp] theorem raiseWake_presence (s : State) (cause : Nat) : (s.raiseWake cause).presence = s.presence := rfl
@[simp] theorem raiseWake_bridle (s : State) (cause : Nat) : (s.raiseWake cause).bridle = s.bridle := rfl
@[simp] theorem raiseWake_prog (s : State) (cause : Nat) : (s.raiseWake cause).prog = s.prog := rfl
@[simp] theorem raiseWake_net (s : State) (cause : Nat) : (s.raiseWake cause).net = s.net := rfl
@[simp] theorem raiseWake_time (s : State) (cause : Nat) : (s.raiseWake cause).time = s.time := rfl
@[simp] theorem raiseWake_relay (s : State) (cause : Nat) : (s.raiseWake cause).relay = s.relay := rfl
@[simp] theorem raiseWake_storage (s : State) (cause : Nat) : (s.raiseWake cause).storage = s.storage := rfl
@[simp] theorem raiseWake_sense (s : State) (cause : Nat) : (s.raiseWake cause).sense = s.sense := rfl
@[simp] theorem raiseWake_waybill (s : State) (cause : Nat) : (s.raiseWake cause).waybill = s.waybill := rfl
@[simp] theorem raiseWake_vault (s : State) (cause : Nat) : (s.raiseWake cause).vault = s.vault := rfl
@[simp] theorem raiseWake_update (s : State) (cause : Nat) : (s.raiseWake cause).update = s.update := rfl
@[simp] theorem raiseWake_tandem (s : State) (cause : Nat) : (s.raiseWake cause).tandem = s.tandem := rfl
@[simp] theorem raiseWake_test (s : State) (cause : Nat) : (s.raiseWake cause).test = s.test := rfl
@[simp] theorem raiseWake_w (s : State) (cause : Nat) (id e : Nat) : (s.raiseWake cause).w id e = s.w id e := rfl
@[simp] theorem raiseWake_p (s : State) (cause : Nat) (id e : Nat) : (s.raiseWake cause).p id e = s.p id e := rfl

/-! ### `originate` -/

@[simp] theorem originate_pending (s : State) (ports : List Nat) (f : Frame) (slot : Option Nat) : (s.originate ports f slot).pending = s.pending := rfl
@[simp] theorem originate_now (s : State) (ports : List Nat) (f : Frame) (slot : Option Nat) : (s.originate ports f slot).now = s.now := rfl
@[simp] theorem originate_tickBase (s : State) (ports : List Nat) (f : Frame) (slot : Option Nat) : (s.originate ports f slot).tickBase = s.tickBase := rfl
@[simp] theorem originate_tcxoStopped (s : State) (ports : List Nat) (f : Frame) (slot : Option Nat) : (s.originate ports f slot).tcxoStopped = s.tcxoStopped := rfl
@[simp] theorem originate_spineLocked (s : State) (ports : List Nat) (f : Frame) (slot : Option Nat) : (s.originate ports f slot).spineLocked = s.spineLocked := rfl
@[simp] theorem originate_unlockedAt (s : State) (ports : List Nat) (f : Frame) (slot : Option Nat) : (s.originate ports f slot).unlockedAt = s.unlockedAt := rfl
@[simp] theorem originate_coldAt (s : State) (ports : List Nat) (f : Frame) (slot : Option Nat) : (s.originate ports f slot).coldAt = s.coldAt := rfl
@[simp] theorem originate_draws (s : State) (ports : List Nat) (f : Frame) (slot : Option Nat) : (s.originate ports f slot).draws = s.draws := rfl
@[simp] theorem originate_params (s : State) (ports : List Nat) (f : Frame) (slot : Option Nat) : (s.originate ports f slot).params = s.params := rfl
@[simp] theorem originate_marked (s : State) (ports : List Nat) (f : Frame) (slot : Option Nat) : (s.originate ports f slot).marked = s.marked := rfl
@[simp] theorem originate_drive (s : State) (ports : List Nat) (f : Frame) (slot : Option Nat) : (s.originate ports f slot).drive = s.drive := rfl
@[simp] theorem originate_diag (s : State) (ports : List Nat) (f : Frame) (slot : Option Nat) : (s.originate ports f slot).diag = s.diag := rfl
@[simp] theorem originate_colour (s : State) (ports : List Nat) (f : Frame) (slot : Option Nat) : (s.originate ports f slot).colour = s.colour := rfl
@[simp] theorem originate_harness (s : State) (ports : List Nat) (f : Frame) (slot : Option Nat) : (s.originate ports f slot).harness = s.harness := rfl
@[simp] theorem originate_presence (s : State) (ports : List Nat) (f : Frame) (slot : Option Nat) : (s.originate ports f slot).presence = s.presence := rfl
@[simp] theorem originate_bridle (s : State) (ports : List Nat) (f : Frame) (slot : Option Nat) : (s.originate ports f slot).bridle = s.bridle := rfl
@[simp] theorem originate_prog (s : State) (ports : List Nat) (f : Frame) (slot : Option Nat) : (s.originate ports f slot).prog = s.prog := rfl
@[simp] theorem originate_time (s : State) (ports : List Nat) (f : Frame) (slot : Option Nat) : (s.originate ports f slot).time = s.time := rfl
@[simp] theorem originate_relay (s : State) (ports : List Nat) (f : Frame) (slot : Option Nat) : (s.originate ports f slot).relay = s.relay := rfl
@[simp] theorem originate_storage (s : State) (ports : List Nat) (f : Frame) (slot : Option Nat) : (s.originate ports f slot).storage = s.storage := rfl
@[simp] theorem originate_sense (s : State) (ports : List Nat) (f : Frame) (slot : Option Nat) : (s.originate ports f slot).sense = s.sense := rfl
@[simp] theorem originate_waybill (s : State) (ports : List Nat) (f : Frame) (slot : Option Nat) : (s.originate ports f slot).waybill = s.waybill := rfl
@[simp] theorem originate_vault (s : State) (ports : List Nat) (f : Frame) (slot : Option Nat) : (s.originate ports f slot).vault = s.vault := rfl
@[simp] theorem originate_update (s : State) (ports : List Nat) (f : Frame) (slot : Option Nat) : (s.originate ports f slot).update = s.update := rfl
@[simp] theorem originate_tandem (s : State) (ports : List Nat) (f : Frame) (slot : Option Nat) : (s.originate ports f slot).tandem = s.tandem := rfl
@[simp] theorem originate_power (s : State) (ports : List Nat) (f : Frame) (slot : Option Nat) : (s.originate ports f slot).power = s.power := rfl
@[simp] theorem originate_test (s : State) (ports : List Nat) (f : Frame) (slot : Option Nat) : (s.originate ports f slot).test = s.test := rfl
@[simp] theorem originate_w (s : State) (ports : List Nat) (f : Frame) (slot : Option Nat) (id e : Nat) : (s.originate ports f slot).w id e = s.w id e := rfl
@[simp] theorem originate_p (s : State) (ports : List Nat) (f : Frame) (slot : Option Nat) (id e : Nat) : (s.originate ports f slot).p id e = s.p id e := rfl

/-! ### Writing an element of the parameter store -/

@[simp] theorem setW_pending (s : State) (id e : Nat) (v : Word) : (s.setW id e v).pending = s.pending := by
  unfold State.setW; split <;> rfl
@[simp] theorem setW_now (s : State) (id e : Nat) (v : Word) : (s.setW id e v).now = s.now := by
  unfold State.setW; split <;> rfl
@[simp] theorem setW_tickBase (s : State) (id e : Nat) (v : Word) : (s.setW id e v).tickBase = s.tickBase := by
  unfold State.setW; split <;> rfl
@[simp] theorem setW_tcxoStopped (s : State) (id e : Nat) (v : Word) : (s.setW id e v).tcxoStopped = s.tcxoStopped := by
  unfold State.setW; split <;> rfl
@[simp] theorem setW_spineLocked (s : State) (id e : Nat) (v : Word) : (s.setW id e v).spineLocked = s.spineLocked := by
  unfold State.setW; split <;> rfl
@[simp] theorem setW_unlockedAt (s : State) (id e : Nat) (v : Word) : (s.setW id e v).unlockedAt = s.unlockedAt := by
  unfold State.setW; split <;> rfl
@[simp] theorem setW_coldAt (s : State) (id e : Nat) (v : Word) : (s.setW id e v).coldAt = s.coldAt := by
  unfold State.setW; split <;> rfl
@[simp] theorem setW_draws (s : State) (id e : Nat) (v : Word) : (s.setW id e v).draws = s.draws := by
  unfold State.setW; split <;> rfl
@[simp] theorem setW_marked (s : State) (id e : Nat) (v : Word) : (s.setW id e v).marked = s.marked := by
  unfold State.setW; split <;> rfl
@[simp] theorem setW_drive (s : State) (id e : Nat) (v : Word) : (s.setW id e v).drive = s.drive := by
  unfold State.setW; split <;> rfl
@[simp] theorem setW_diag (s : State) (id e : Nat) (v : Word) : (s.setW id e v).diag = s.diag := by
  unfold State.setW; split <;> rfl
@[simp] theorem setW_colour (s : State) (id e : Nat) (v : Word) : (s.setW id e v).colour = s.colour := by
  unfold State.setW; split <;> rfl
@[simp] theorem setW_harness (s : State) (id e : Nat) (v : Word) : (s.setW id e v).harness = s.harness := by
  unfold State.setW; split <;> rfl
@[simp] theorem setW_presence (s : State) (id e : Nat) (v : Word) : (s.setW id e v).presence = s.presence := by
  unfold State.setW; split <;> rfl
@[simp] theorem setW_bridle (s : State) (id e : Nat) (v : Word) : (s.setW id e v).bridle = s.bridle := by
  unfold State.setW; split <;> rfl
@[simp] theorem setW_prog (s : State) (id e : Nat) (v : Word) : (s.setW id e v).prog = s.prog := by
  unfold State.setW; split <;> rfl
@[simp] theorem setW_net (s : State) (id e : Nat) (v : Word) : (s.setW id e v).net = s.net := by
  unfold State.setW; split <;> rfl
@[simp] theorem setW_time (s : State) (id e : Nat) (v : Word) : (s.setW id e v).time = s.time := by
  unfold State.setW; split <;> rfl
@[simp] theorem setW_relay (s : State) (id e : Nat) (v : Word) : (s.setW id e v).relay = s.relay := by
  unfold State.setW; split <;> rfl
@[simp] theorem setW_storage (s : State) (id e : Nat) (v : Word) : (s.setW id e v).storage = s.storage := by
  unfold State.setW; split <;> rfl
@[simp] theorem setW_sense (s : State) (id e : Nat) (v : Word) : (s.setW id e v).sense = s.sense := by
  unfold State.setW; split <;> rfl
@[simp] theorem setW_waybill (s : State) (id e : Nat) (v : Word) : (s.setW id e v).waybill = s.waybill := by
  unfold State.setW; split <;> rfl
@[simp] theorem setW_vault (s : State) (id e : Nat) (v : Word) : (s.setW id e v).vault = s.vault := by
  unfold State.setW; split <;> rfl
@[simp] theorem setW_update (s : State) (id e : Nat) (v : Word) : (s.setW id e v).update = s.update := by
  unfold State.setW; split <;> rfl
@[simp] theorem setW_tandem (s : State) (id e : Nat) (v : Word) : (s.setW id e v).tandem = s.tandem := by
  unfold State.setW; split <;> rfl
@[simp] theorem setW_power (s : State) (id e : Nat) (v : Word) : (s.setW id e v).power = s.power := by
  unfold State.setW; split <;> rfl
@[simp] theorem setW_test (s : State) (id e : Nat) (v : Word) : (s.setW id e v).test = s.test := by
  unfold State.setW; split <;> rfl

/-! ### `setP` -/

@[simp] theorem setP_pending (s : State) (id e n : Nat) : (s.setP id e n).pending = s.pending := by simp [State.setP]
@[simp] theorem setP_now (s : State) (id e n : Nat) : (s.setP id e n).now = s.now := by simp [State.setP]
@[simp] theorem setP_tickBase (s : State) (id e n : Nat) : (s.setP id e n).tickBase = s.tickBase := by simp [State.setP]
@[simp] theorem setP_tcxoStopped (s : State) (id e n : Nat) : (s.setP id e n).tcxoStopped = s.tcxoStopped := by simp [State.setP]
@[simp] theorem setP_spineLocked (s : State) (id e n : Nat) : (s.setP id e n).spineLocked = s.spineLocked := by simp [State.setP]
@[simp] theorem setP_unlockedAt (s : State) (id e n : Nat) : (s.setP id e n).unlockedAt = s.unlockedAt := by simp [State.setP]
@[simp] theorem setP_coldAt (s : State) (id e n : Nat) : (s.setP id e n).coldAt = s.coldAt := by simp [State.setP]
@[simp] theorem setP_draws (s : State) (id e n : Nat) : (s.setP id e n).draws = s.draws := by simp [State.setP]
@[simp] theorem setP_marked (s : State) (id e n : Nat) : (s.setP id e n).marked = s.marked := by simp [State.setP]
@[simp] theorem setP_drive (s : State) (id e n : Nat) : (s.setP id e n).drive = s.drive := by simp [State.setP]
@[simp] theorem setP_diag (s : State) (id e n : Nat) : (s.setP id e n).diag = s.diag := by simp [State.setP]
@[simp] theorem setP_colour (s : State) (id e n : Nat) : (s.setP id e n).colour = s.colour := by simp [State.setP]
@[simp] theorem setP_harness (s : State) (id e n : Nat) : (s.setP id e n).harness = s.harness := by simp [State.setP]
@[simp] theorem setP_presence (s : State) (id e n : Nat) : (s.setP id e n).presence = s.presence := by simp [State.setP]
@[simp] theorem setP_bridle (s : State) (id e n : Nat) : (s.setP id e n).bridle = s.bridle := by simp [State.setP]
@[simp] theorem setP_prog (s : State) (id e n : Nat) : (s.setP id e n).prog = s.prog := by simp [State.setP]
@[simp] theorem setP_net (s : State) (id e n : Nat) : (s.setP id e n).net = s.net := by simp [State.setP]
@[simp] theorem setP_time (s : State) (id e n : Nat) : (s.setP id e n).time = s.time := by simp [State.setP]
@[simp] theorem setP_relay (s : State) (id e n : Nat) : (s.setP id e n).relay = s.relay := by simp [State.setP]
@[simp] theorem setP_storage (s : State) (id e n : Nat) : (s.setP id e n).storage = s.storage := by simp [State.setP]
@[simp] theorem setP_sense (s : State) (id e n : Nat) : (s.setP id e n).sense = s.sense := by simp [State.setP]
@[simp] theorem setP_waybill (s : State) (id e n : Nat) : (s.setP id e n).waybill = s.waybill := by simp [State.setP]
@[simp] theorem setP_vault (s : State) (id e n : Nat) : (s.setP id e n).vault = s.vault := by simp [State.setP]
@[simp] theorem setP_update (s : State) (id e n : Nat) : (s.setP id e n).update = s.update := by simp [State.setP]
@[simp] theorem setP_tandem (s : State) (id e n : Nat) : (s.setP id e n).tandem = s.tandem := by simp [State.setP]
@[simp] theorem setP_power (s : State) (id e n : Nat) : (s.setP id e n).power = s.power := by simp [State.setP]
@[simp] theorem setP_test (s : State) (id e n : Nat) : (s.setP id e n).test = s.test := by simp [State.setP]

/-! ### `setI` -/

@[simp] theorem setI_pending (s : State) (id e : Nat) (n : Int) : (s.setI id e n).pending = s.pending := by simp [State.setI]
@[simp] theorem setI_now (s : State) (id e : Nat) (n : Int) : (s.setI id e n).now = s.now := by simp [State.setI]
@[simp] theorem setI_tickBase (s : State) (id e : Nat) (n : Int) : (s.setI id e n).tickBase = s.tickBase := by simp [State.setI]
@[simp] theorem setI_tcxoStopped (s : State) (id e : Nat) (n : Int) : (s.setI id e n).tcxoStopped = s.tcxoStopped := by simp [State.setI]
@[simp] theorem setI_spineLocked (s : State) (id e : Nat) (n : Int) : (s.setI id e n).spineLocked = s.spineLocked := by simp [State.setI]
@[simp] theorem setI_unlockedAt (s : State) (id e : Nat) (n : Int) : (s.setI id e n).unlockedAt = s.unlockedAt := by simp [State.setI]
@[simp] theorem setI_coldAt (s : State) (id e : Nat) (n : Int) : (s.setI id e n).coldAt = s.coldAt := by simp [State.setI]
@[simp] theorem setI_draws (s : State) (id e : Nat) (n : Int) : (s.setI id e n).draws = s.draws := by simp [State.setI]
@[simp] theorem setI_marked (s : State) (id e : Nat) (n : Int) : (s.setI id e n).marked = s.marked := by simp [State.setI]
@[simp] theorem setI_drive (s : State) (id e : Nat) (n : Int) : (s.setI id e n).drive = s.drive := by simp [State.setI]
@[simp] theorem setI_diag (s : State) (id e : Nat) (n : Int) : (s.setI id e n).diag = s.diag := by simp [State.setI]
@[simp] theorem setI_colour (s : State) (id e : Nat) (n : Int) : (s.setI id e n).colour = s.colour := by simp [State.setI]
@[simp] theorem setI_harness (s : State) (id e : Nat) (n : Int) : (s.setI id e n).harness = s.harness := by simp [State.setI]
@[simp] theorem setI_presence (s : State) (id e : Nat) (n : Int) : (s.setI id e n).presence = s.presence := by simp [State.setI]
@[simp] theorem setI_bridle (s : State) (id e : Nat) (n : Int) : (s.setI id e n).bridle = s.bridle := by simp [State.setI]
@[simp] theorem setI_prog (s : State) (id e : Nat) (n : Int) : (s.setI id e n).prog = s.prog := by simp [State.setI]
@[simp] theorem setI_net (s : State) (id e : Nat) (n : Int) : (s.setI id e n).net = s.net := by simp [State.setI]
@[simp] theorem setI_time (s : State) (id e : Nat) (n : Int) : (s.setI id e n).time = s.time := by simp [State.setI]
@[simp] theorem setI_relay (s : State) (id e : Nat) (n : Int) : (s.setI id e n).relay = s.relay := by simp [State.setI]
@[simp] theorem setI_storage (s : State) (id e : Nat) (n : Int) : (s.setI id e n).storage = s.storage := by simp [State.setI]
@[simp] theorem setI_sense (s : State) (id e : Nat) (n : Int) : (s.setI id e n).sense = s.sense := by simp [State.setI]
@[simp] theorem setI_waybill (s : State) (id e : Nat) (n : Int) : (s.setI id e n).waybill = s.waybill := by simp [State.setI]
@[simp] theorem setI_vault (s : State) (id e : Nat) (n : Int) : (s.setI id e n).vault = s.vault := by simp [State.setI]
@[simp] theorem setI_update (s : State) (id e : Nat) (n : Int) : (s.setI id e n).update = s.update := by simp [State.setI]
@[simp] theorem setI_tandem (s : State) (id e : Nat) (n : Int) : (s.setI id e n).tandem = s.tandem := by simp [State.setI]
@[simp] theorem setI_power (s : State) (id e : Nat) (n : Int) : (s.setI id e n).power = s.power := by simp [State.setI]
@[simp] theorem setI_test (s : State) (id e : Nat) (n : Int) : (s.setI id e n).test = s.test := by simp [State.setI]

/-! ### `setB` -/

@[simp] theorem setB_pending (s : State) (id e : Nat) (b : Bool) : (s.setB id e b).pending = s.pending := by simp [State.setB]
@[simp] theorem setB_now (s : State) (id e : Nat) (b : Bool) : (s.setB id e b).now = s.now := by simp [State.setB]
@[simp] theorem setB_tickBase (s : State) (id e : Nat) (b : Bool) : (s.setB id e b).tickBase = s.tickBase := by simp [State.setB]
@[simp] theorem setB_tcxoStopped (s : State) (id e : Nat) (b : Bool) : (s.setB id e b).tcxoStopped = s.tcxoStopped := by simp [State.setB]
@[simp] theorem setB_spineLocked (s : State) (id e : Nat) (b : Bool) : (s.setB id e b).spineLocked = s.spineLocked := by simp [State.setB]
@[simp] theorem setB_unlockedAt (s : State) (id e : Nat) (b : Bool) : (s.setB id e b).unlockedAt = s.unlockedAt := by simp [State.setB]
@[simp] theorem setB_coldAt (s : State) (id e : Nat) (b : Bool) : (s.setB id e b).coldAt = s.coldAt := by simp [State.setB]
@[simp] theorem setB_draws (s : State) (id e : Nat) (b : Bool) : (s.setB id e b).draws = s.draws := by simp [State.setB]
@[simp] theorem setB_marked (s : State) (id e : Nat) (b : Bool) : (s.setB id e b).marked = s.marked := by simp [State.setB]
@[simp] theorem setB_drive (s : State) (id e : Nat) (b : Bool) : (s.setB id e b).drive = s.drive := by simp [State.setB]
@[simp] theorem setB_diag (s : State) (id e : Nat) (b : Bool) : (s.setB id e b).diag = s.diag := by simp [State.setB]
@[simp] theorem setB_colour (s : State) (id e : Nat) (b : Bool) : (s.setB id e b).colour = s.colour := by simp [State.setB]
@[simp] theorem setB_harness (s : State) (id e : Nat) (b : Bool) : (s.setB id e b).harness = s.harness := by simp [State.setB]
@[simp] theorem setB_presence (s : State) (id e : Nat) (b : Bool) : (s.setB id e b).presence = s.presence := by simp [State.setB]
@[simp] theorem setB_bridle (s : State) (id e : Nat) (b : Bool) : (s.setB id e b).bridle = s.bridle := by simp [State.setB]
@[simp] theorem setB_prog (s : State) (id e : Nat) (b : Bool) : (s.setB id e b).prog = s.prog := by simp [State.setB]
@[simp] theorem setB_net (s : State) (id e : Nat) (b : Bool) : (s.setB id e b).net = s.net := by simp [State.setB]
@[simp] theorem setB_time (s : State) (id e : Nat) (b : Bool) : (s.setB id e b).time = s.time := by simp [State.setB]
@[simp] theorem setB_relay (s : State) (id e : Nat) (b : Bool) : (s.setB id e b).relay = s.relay := by simp [State.setB]
@[simp] theorem setB_storage (s : State) (id e : Nat) (b : Bool) : (s.setB id e b).storage = s.storage := by simp [State.setB]
@[simp] theorem setB_sense (s : State) (id e : Nat) (b : Bool) : (s.setB id e b).sense = s.sense := by simp [State.setB]
@[simp] theorem setB_waybill (s : State) (id e : Nat) (b : Bool) : (s.setB id e b).waybill = s.waybill := by simp [State.setB]
@[simp] theorem setB_vault (s : State) (id e : Nat) (b : Bool) : (s.setB id e b).vault = s.vault := by simp [State.setB]
@[simp] theorem setB_update (s : State) (id e : Nat) (b : Bool) : (s.setB id e b).update = s.update := by simp [State.setB]
@[simp] theorem setB_tandem (s : State) (id e : Nat) (b : Bool) : (s.setB id e b).tandem = s.tandem := by simp [State.setB]
@[simp] theorem setB_power (s : State) (id e : Nat) (b : Bool) : (s.setB id e b).power = s.power := by simp [State.setB]
@[simp] theorem setB_test (s : State) (id e : Nat) (b : Bool) : (s.setB id e b).test = s.test := by simp [State.setB]

/-! ### `bump` -/

@[simp] theorem bump_pending (s : State) (id e n : Nat) : (s.bump id e n).pending = s.pending := by simp [State.bump]
@[simp] theorem bump_now (s : State) (id e n : Nat) : (s.bump id e n).now = s.now := by simp [State.bump]
@[simp] theorem bump_tickBase (s : State) (id e n : Nat) : (s.bump id e n).tickBase = s.tickBase := by simp [State.bump]
@[simp] theorem bump_tcxoStopped (s : State) (id e n : Nat) : (s.bump id e n).tcxoStopped = s.tcxoStopped := by simp [State.bump]
@[simp] theorem bump_spineLocked (s : State) (id e n : Nat) : (s.bump id e n).spineLocked = s.spineLocked := by simp [State.bump]
@[simp] theorem bump_unlockedAt (s : State) (id e n : Nat) : (s.bump id e n).unlockedAt = s.unlockedAt := by simp [State.bump]
@[simp] theorem bump_coldAt (s : State) (id e n : Nat) : (s.bump id e n).coldAt = s.coldAt := by simp [State.bump]
@[simp] theorem bump_draws (s : State) (id e n : Nat) : (s.bump id e n).draws = s.draws := by simp [State.bump]
@[simp] theorem bump_marked (s : State) (id e n : Nat) : (s.bump id e n).marked = s.marked := by simp [State.bump]
@[simp] theorem bump_drive (s : State) (id e n : Nat) : (s.bump id e n).drive = s.drive := by simp [State.bump]
@[simp] theorem bump_diag (s : State) (id e n : Nat) : (s.bump id e n).diag = s.diag := by simp [State.bump]
@[simp] theorem bump_colour (s : State) (id e n : Nat) : (s.bump id e n).colour = s.colour := by simp [State.bump]
@[simp] theorem bump_harness (s : State) (id e n : Nat) : (s.bump id e n).harness = s.harness := by simp [State.bump]
@[simp] theorem bump_presence (s : State) (id e n : Nat) : (s.bump id e n).presence = s.presence := by simp [State.bump]
@[simp] theorem bump_bridle (s : State) (id e n : Nat) : (s.bump id e n).bridle = s.bridle := by simp [State.bump]
@[simp] theorem bump_prog (s : State) (id e n : Nat) : (s.bump id e n).prog = s.prog := by simp [State.bump]
@[simp] theorem bump_net (s : State) (id e n : Nat) : (s.bump id e n).net = s.net := by simp [State.bump]
@[simp] theorem bump_time (s : State) (id e n : Nat) : (s.bump id e n).time = s.time := by simp [State.bump]
@[simp] theorem bump_relay (s : State) (id e n : Nat) : (s.bump id e n).relay = s.relay := by simp [State.bump]
@[simp] theorem bump_storage (s : State) (id e n : Nat) : (s.bump id e n).storage = s.storage := by simp [State.bump]
@[simp] theorem bump_sense (s : State) (id e n : Nat) : (s.bump id e n).sense = s.sense := by simp [State.bump]
@[simp] theorem bump_waybill (s : State) (id e n : Nat) : (s.bump id e n).waybill = s.waybill := by simp [State.bump]
@[simp] theorem bump_vault (s : State) (id e n : Nat) : (s.bump id e n).vault = s.vault := by simp [State.bump]
@[simp] theorem bump_update (s : State) (id e n : Nat) : (s.bump id e n).update = s.update := by simp [State.bump]
@[simp] theorem bump_tandem (s : State) (id e n : Nat) : (s.bump id e n).tandem = s.tandem := by simp [State.bump]
@[simp] theorem bump_power (s : State) (id e n : Nat) : (s.bump id e n).power = s.power := by simp [State.bump]
@[simp] theorem bump_test (s : State) (id e n : Nat) : (s.bump id e n).test = s.test := by simp [State.bump]

/-! ### `bumpSat` -/

@[simp] theorem bumpSat_pending (s : State) (cap id e n : Nat) : (s.bumpSat cap id e n).pending = s.pending := by simp [State.bumpSat, setP_pending]
@[simp] theorem bumpSat_now (s : State) (cap id e n : Nat) : (s.bumpSat cap id e n).now = s.now := by simp [State.bumpSat, setP_now]
@[simp] theorem bumpSat_tickBase (s : State) (cap id e n : Nat) : (s.bumpSat cap id e n).tickBase = s.tickBase := by simp [State.bumpSat, setP_tickBase]
@[simp] theorem bumpSat_tcxoStopped (s : State) (cap id e n : Nat) : (s.bumpSat cap id e n).tcxoStopped = s.tcxoStopped := by simp [State.bumpSat, setP_tcxoStopped]
@[simp] theorem bumpSat_spineLocked (s : State) (cap id e n : Nat) : (s.bumpSat cap id e n).spineLocked = s.spineLocked := by simp [State.bumpSat, setP_spineLocked]
@[simp] theorem bumpSat_unlockedAt (s : State) (cap id e n : Nat) : (s.bumpSat cap id e n).unlockedAt = s.unlockedAt := by simp [State.bumpSat, setP_unlockedAt]
@[simp] theorem bumpSat_coldAt (s : State) (cap id e n : Nat) : (s.bumpSat cap id e n).coldAt = s.coldAt := by simp [State.bumpSat, setP_coldAt]
@[simp] theorem bumpSat_draws (s : State) (cap id e n : Nat) : (s.bumpSat cap id e n).draws = s.draws := by simp [State.bumpSat, setP_draws]
@[simp] theorem bumpSat_marked (s : State) (cap id e n : Nat) : (s.bumpSat cap id e n).marked = s.marked := by simp [State.bumpSat, setP_marked]
@[simp] theorem bumpSat_drive (s : State) (cap id e n : Nat) : (s.bumpSat cap id e n).drive = s.drive := by simp [State.bumpSat, setP_drive]
@[simp] theorem bumpSat_diag (s : State) (cap id e n : Nat) : (s.bumpSat cap id e n).diag = s.diag := by simp [State.bumpSat, setP_diag]
@[simp] theorem bumpSat_colour (s : State) (cap id e n : Nat) : (s.bumpSat cap id e n).colour = s.colour := by simp [State.bumpSat, setP_colour]
@[simp] theorem bumpSat_harness (s : State) (cap id e n : Nat) : (s.bumpSat cap id e n).harness = s.harness := by simp [State.bumpSat, setP_harness]
@[simp] theorem bumpSat_presence (s : State) (cap id e n : Nat) : (s.bumpSat cap id e n).presence = s.presence := by simp [State.bumpSat, setP_presence]
@[simp] theorem bumpSat_bridle (s : State) (cap id e n : Nat) : (s.bumpSat cap id e n).bridle = s.bridle := by simp [State.bumpSat, setP_bridle]
@[simp] theorem bumpSat_prog (s : State) (cap id e n : Nat) : (s.bumpSat cap id e n).prog = s.prog := by simp [State.bumpSat, setP_prog]
@[simp] theorem bumpSat_net (s : State) (cap id e n : Nat) : (s.bumpSat cap id e n).net = s.net := by simp [State.bumpSat, setP_net]
@[simp] theorem bumpSat_time (s : State) (cap id e n : Nat) : (s.bumpSat cap id e n).time = s.time := by simp [State.bumpSat, setP_time]
@[simp] theorem bumpSat_relay (s : State) (cap id e n : Nat) : (s.bumpSat cap id e n).relay = s.relay := by simp [State.bumpSat, setP_relay]
@[simp] theorem bumpSat_storage (s : State) (cap id e n : Nat) : (s.bumpSat cap id e n).storage = s.storage := by simp [State.bumpSat, setP_storage]
@[simp] theorem bumpSat_sense (s : State) (cap id e n : Nat) : (s.bumpSat cap id e n).sense = s.sense := by simp [State.bumpSat, setP_sense]
@[simp] theorem bumpSat_waybill (s : State) (cap id e n : Nat) : (s.bumpSat cap id e n).waybill = s.waybill := by simp [State.bumpSat, setP_waybill]
@[simp] theorem bumpSat_vault (s : State) (cap id e n : Nat) : (s.bumpSat cap id e n).vault = s.vault := by simp [State.bumpSat, setP_vault]
@[simp] theorem bumpSat_update (s : State) (cap id e n : Nat) : (s.bumpSat cap id e n).update = s.update := by simp [State.bumpSat, setP_update]
@[simp] theorem bumpSat_tandem (s : State) (cap id e n : Nat) : (s.bumpSat cap id e n).tandem = s.tandem := by simp [State.bumpSat, setP_tandem]
@[simp] theorem bumpSat_power (s : State) (cap id e n : Nat) : (s.bumpSat cap id e n).power = s.power := by simp [State.bumpSat, setP_power]
@[simp] theorem bumpSat_test (s : State) (cap id e n : Nat) : (s.bumpSat cap id e n).test = s.test := by simp [State.bumpSat, setP_test]

/-! ### `setFlag` -/

@[simp] theorem setFlag_pending (s : State) (id e k : Nat) (b : Bool) : (s.setFlag id e k b).pending = s.pending := by simp [State.setFlag, setP_pending]
@[simp] theorem setFlag_now (s : State) (id e k : Nat) (b : Bool) : (s.setFlag id e k b).now = s.now := by simp [State.setFlag, setP_now]
@[simp] theorem setFlag_tickBase (s : State) (id e k : Nat) (b : Bool) : (s.setFlag id e k b).tickBase = s.tickBase := by simp [State.setFlag, setP_tickBase]
@[simp] theorem setFlag_tcxoStopped (s : State) (id e k : Nat) (b : Bool) : (s.setFlag id e k b).tcxoStopped = s.tcxoStopped := by simp [State.setFlag, setP_tcxoStopped]
@[simp] theorem setFlag_spineLocked (s : State) (id e k : Nat) (b : Bool) : (s.setFlag id e k b).spineLocked = s.spineLocked := by simp [State.setFlag, setP_spineLocked]
@[simp] theorem setFlag_unlockedAt (s : State) (id e k : Nat) (b : Bool) : (s.setFlag id e k b).unlockedAt = s.unlockedAt := by simp [State.setFlag, setP_unlockedAt]
@[simp] theorem setFlag_coldAt (s : State) (id e k : Nat) (b : Bool) : (s.setFlag id e k b).coldAt = s.coldAt := by simp [State.setFlag, setP_coldAt]
@[simp] theorem setFlag_draws (s : State) (id e k : Nat) (b : Bool) : (s.setFlag id e k b).draws = s.draws := by simp [State.setFlag, setP_draws]
@[simp] theorem setFlag_marked (s : State) (id e k : Nat) (b : Bool) : (s.setFlag id e k b).marked = s.marked := by simp [State.setFlag, setP_marked]
@[simp] theorem setFlag_drive (s : State) (id e k : Nat) (b : Bool) : (s.setFlag id e k b).drive = s.drive := by simp [State.setFlag, setP_drive]
@[simp] theorem setFlag_diag (s : State) (id e k : Nat) (b : Bool) : (s.setFlag id e k b).diag = s.diag := by simp [State.setFlag, setP_diag]
@[simp] theorem setFlag_colour (s : State) (id e k : Nat) (b : Bool) : (s.setFlag id e k b).colour = s.colour := by simp [State.setFlag, setP_colour]
@[simp] theorem setFlag_harness (s : State) (id e k : Nat) (b : Bool) : (s.setFlag id e k b).harness = s.harness := by simp [State.setFlag, setP_harness]
@[simp] theorem setFlag_presence (s : State) (id e k : Nat) (b : Bool) : (s.setFlag id e k b).presence = s.presence := by simp [State.setFlag, setP_presence]
@[simp] theorem setFlag_bridle (s : State) (id e k : Nat) (b : Bool) : (s.setFlag id e k b).bridle = s.bridle := by simp [State.setFlag, setP_bridle]
@[simp] theorem setFlag_prog (s : State) (id e k : Nat) (b : Bool) : (s.setFlag id e k b).prog = s.prog := by simp [State.setFlag, setP_prog]
@[simp] theorem setFlag_net (s : State) (id e k : Nat) (b : Bool) : (s.setFlag id e k b).net = s.net := by simp [State.setFlag, setP_net]
@[simp] theorem setFlag_time (s : State) (id e k : Nat) (b : Bool) : (s.setFlag id e k b).time = s.time := by simp [State.setFlag, setP_time]
@[simp] theorem setFlag_relay (s : State) (id e k : Nat) (b : Bool) : (s.setFlag id e k b).relay = s.relay := by simp [State.setFlag, setP_relay]
@[simp] theorem setFlag_storage (s : State) (id e k : Nat) (b : Bool) : (s.setFlag id e k b).storage = s.storage := by simp [State.setFlag, setP_storage]
@[simp] theorem setFlag_sense (s : State) (id e k : Nat) (b : Bool) : (s.setFlag id e k b).sense = s.sense := by simp [State.setFlag, setP_sense]
@[simp] theorem setFlag_waybill (s : State) (id e k : Nat) (b : Bool) : (s.setFlag id e k b).waybill = s.waybill := by simp [State.setFlag, setP_waybill]
@[simp] theorem setFlag_vault (s : State) (id e k : Nat) (b : Bool) : (s.setFlag id e k b).vault = s.vault := by simp [State.setFlag, setP_vault]
@[simp] theorem setFlag_update (s : State) (id e k : Nat) (b : Bool) : (s.setFlag id e k b).update = s.update := by simp [State.setFlag, setP_update]
@[simp] theorem setFlag_tandem (s : State) (id e k : Nat) (b : Bool) : (s.setFlag id e k b).tandem = s.tandem := by simp [State.setFlag, setP_tandem]
@[simp] theorem setFlag_power (s : State) (id e k : Nat) (b : Bool) : (s.setFlag id e k b).power = s.power := by simp [State.setFlag, setP_power]
@[simp] theorem setFlag_test (s : State) (id e k : Nat) (b : Bool) : (s.setFlag id e k b).test = s.test := by simp [State.setFlag, setP_test]

/-! ### `raiseTo`, `setRun` and `mark` -/

@[simp] theorem raiseTo_pending (s : State) (id e n : Nat) : (s.raiseTo id e n).pending = s.pending := by
  unfold State.raiseTo; split <;> simp
@[simp] theorem raiseTo_now (s : State) (id e n : Nat) : (s.raiseTo id e n).now = s.now := by
  unfold State.raiseTo; split <;> simp
@[simp] theorem raiseTo_tickBase (s : State) (id e n : Nat) : (s.raiseTo id e n).tickBase = s.tickBase := by
  unfold State.raiseTo; split <;> simp
@[simp] theorem raiseTo_tcxoStopped (s : State) (id e n : Nat) : (s.raiseTo id e n).tcxoStopped = s.tcxoStopped := by
  unfold State.raiseTo; split <;> simp
@[simp] theorem raiseTo_spineLocked (s : State) (id e n : Nat) : (s.raiseTo id e n).spineLocked = s.spineLocked := by
  unfold State.raiseTo; split <;> simp
@[simp] theorem raiseTo_unlockedAt (s : State) (id e n : Nat) : (s.raiseTo id e n).unlockedAt = s.unlockedAt := by
  unfold State.raiseTo; split <;> simp
@[simp] theorem raiseTo_coldAt (s : State) (id e n : Nat) : (s.raiseTo id e n).coldAt = s.coldAt := by
  unfold State.raiseTo; split <;> simp
@[simp] theorem raiseTo_draws (s : State) (id e n : Nat) : (s.raiseTo id e n).draws = s.draws := by
  unfold State.raiseTo; split <;> simp
@[simp] theorem raiseTo_marked (s : State) (id e n : Nat) : (s.raiseTo id e n).marked = s.marked := by
  unfold State.raiseTo; split <;> simp
@[simp] theorem raiseTo_drive (s : State) (id e n : Nat) : (s.raiseTo id e n).drive = s.drive := by
  unfold State.raiseTo; split <;> simp
@[simp] theorem raiseTo_diag (s : State) (id e n : Nat) : (s.raiseTo id e n).diag = s.diag := by
  unfold State.raiseTo; split <;> simp
@[simp] theorem raiseTo_colour (s : State) (id e n : Nat) : (s.raiseTo id e n).colour = s.colour := by
  unfold State.raiseTo; split <;> simp
@[simp] theorem raiseTo_harness (s : State) (id e n : Nat) : (s.raiseTo id e n).harness = s.harness := by
  unfold State.raiseTo; split <;> simp
@[simp] theorem raiseTo_presence (s : State) (id e n : Nat) : (s.raiseTo id e n).presence = s.presence := by
  unfold State.raiseTo; split <;> simp
@[simp] theorem raiseTo_bridle (s : State) (id e n : Nat) : (s.raiseTo id e n).bridle = s.bridle := by
  unfold State.raiseTo; split <;> simp
@[simp] theorem raiseTo_prog (s : State) (id e n : Nat) : (s.raiseTo id e n).prog = s.prog := by
  unfold State.raiseTo; split <;> simp
@[simp] theorem raiseTo_net (s : State) (id e n : Nat) : (s.raiseTo id e n).net = s.net := by
  unfold State.raiseTo; split <;> simp
@[simp] theorem raiseTo_time (s : State) (id e n : Nat) : (s.raiseTo id e n).time = s.time := by
  unfold State.raiseTo; split <;> simp
@[simp] theorem raiseTo_relay (s : State) (id e n : Nat) : (s.raiseTo id e n).relay = s.relay := by
  unfold State.raiseTo; split <;> simp
@[simp] theorem raiseTo_storage (s : State) (id e n : Nat) : (s.raiseTo id e n).storage = s.storage := by
  unfold State.raiseTo; split <;> simp
@[simp] theorem raiseTo_sense (s : State) (id e n : Nat) : (s.raiseTo id e n).sense = s.sense := by
  unfold State.raiseTo; split <;> simp
@[simp] theorem raiseTo_waybill (s : State) (id e n : Nat) : (s.raiseTo id e n).waybill = s.waybill := by
  unfold State.raiseTo; split <;> simp
@[simp] theorem raiseTo_vault (s : State) (id e n : Nat) : (s.raiseTo id e n).vault = s.vault := by
  unfold State.raiseTo; split <;> simp
@[simp] theorem raiseTo_update (s : State) (id e n : Nat) : (s.raiseTo id e n).update = s.update := by
  unfold State.raiseTo; split <;> simp
@[simp] theorem raiseTo_tandem (s : State) (id e n : Nat) : (s.raiseTo id e n).tandem = s.tandem := by
  unfold State.raiseTo; split <;> simp
@[simp] theorem raiseTo_power (s : State) (id e n : Nat) : (s.raiseTo id e n).power = s.power := by
  unfold State.raiseTo; split <;> simp
@[simp] theorem raiseTo_test (s : State) (id e n : Nat) : (s.raiseTo id e n).test = s.test := by
  unfold State.raiseTo; split <;> simp
@[simp] theorem setRun_pending (ns : List Nat) (s : State) (id e : Nat) : (s.setRun id e ns).pending = s.pending := by
  induction ns generalizing s e with
  | nil => rfl
  | cons n rest ih => simp [State.setRun, ih]
@[simp] theorem setRun_now (ns : List Nat) (s : State) (id e : Nat) : (s.setRun id e ns).now = s.now := by
  induction ns generalizing s e with
  | nil => rfl
  | cons n rest ih => simp [State.setRun, ih]
@[simp] theorem setRun_tickBase (ns : List Nat) (s : State) (id e : Nat) : (s.setRun id e ns).tickBase = s.tickBase := by
  induction ns generalizing s e with
  | nil => rfl
  | cons n rest ih => simp [State.setRun, ih]
@[simp] theorem setRun_tcxoStopped (ns : List Nat) (s : State) (id e : Nat) : (s.setRun id e ns).tcxoStopped = s.tcxoStopped := by
  induction ns generalizing s e with
  | nil => rfl
  | cons n rest ih => simp [State.setRun, ih]
@[simp] theorem setRun_spineLocked (ns : List Nat) (s : State) (id e : Nat) : (s.setRun id e ns).spineLocked = s.spineLocked := by
  induction ns generalizing s e with
  | nil => rfl
  | cons n rest ih => simp [State.setRun, ih]
@[simp] theorem setRun_unlockedAt (ns : List Nat) (s : State) (id e : Nat) : (s.setRun id e ns).unlockedAt = s.unlockedAt := by
  induction ns generalizing s e with
  | nil => rfl
  | cons n rest ih => simp [State.setRun, ih]
@[simp] theorem setRun_coldAt (ns : List Nat) (s : State) (id e : Nat) : (s.setRun id e ns).coldAt = s.coldAt := by
  induction ns generalizing s e with
  | nil => rfl
  | cons n rest ih => simp [State.setRun, ih]
@[simp] theorem setRun_draws (ns : List Nat) (s : State) (id e : Nat) : (s.setRun id e ns).draws = s.draws := by
  induction ns generalizing s e with
  | nil => rfl
  | cons n rest ih => simp [State.setRun, ih]
@[simp] theorem setRun_marked (ns : List Nat) (s : State) (id e : Nat) : (s.setRun id e ns).marked = s.marked := by
  induction ns generalizing s e with
  | nil => rfl
  | cons n rest ih => simp [State.setRun, ih]
@[simp] theorem setRun_drive (ns : List Nat) (s : State) (id e : Nat) : (s.setRun id e ns).drive = s.drive := by
  induction ns generalizing s e with
  | nil => rfl
  | cons n rest ih => simp [State.setRun, ih]
@[simp] theorem setRun_diag (ns : List Nat) (s : State) (id e : Nat) : (s.setRun id e ns).diag = s.diag := by
  induction ns generalizing s e with
  | nil => rfl
  | cons n rest ih => simp [State.setRun, ih]
@[simp] theorem setRun_colour (ns : List Nat) (s : State) (id e : Nat) : (s.setRun id e ns).colour = s.colour := by
  induction ns generalizing s e with
  | nil => rfl
  | cons n rest ih => simp [State.setRun, ih]
@[simp] theorem setRun_harness (ns : List Nat) (s : State) (id e : Nat) : (s.setRun id e ns).harness = s.harness := by
  induction ns generalizing s e with
  | nil => rfl
  | cons n rest ih => simp [State.setRun, ih]
@[simp] theorem setRun_presence (ns : List Nat) (s : State) (id e : Nat) : (s.setRun id e ns).presence = s.presence := by
  induction ns generalizing s e with
  | nil => rfl
  | cons n rest ih => simp [State.setRun, ih]
@[simp] theorem setRun_bridle (ns : List Nat) (s : State) (id e : Nat) : (s.setRun id e ns).bridle = s.bridle := by
  induction ns generalizing s e with
  | nil => rfl
  | cons n rest ih => simp [State.setRun, ih]
@[simp] theorem setRun_prog (ns : List Nat) (s : State) (id e : Nat) : (s.setRun id e ns).prog = s.prog := by
  induction ns generalizing s e with
  | nil => rfl
  | cons n rest ih => simp [State.setRun, ih]
@[simp] theorem setRun_net (ns : List Nat) (s : State) (id e : Nat) : (s.setRun id e ns).net = s.net := by
  induction ns generalizing s e with
  | nil => rfl
  | cons n rest ih => simp [State.setRun, ih]
@[simp] theorem setRun_time (ns : List Nat) (s : State) (id e : Nat) : (s.setRun id e ns).time = s.time := by
  induction ns generalizing s e with
  | nil => rfl
  | cons n rest ih => simp [State.setRun, ih]
@[simp] theorem setRun_relay (ns : List Nat) (s : State) (id e : Nat) : (s.setRun id e ns).relay = s.relay := by
  induction ns generalizing s e with
  | nil => rfl
  | cons n rest ih => simp [State.setRun, ih]
@[simp] theorem setRun_storage (ns : List Nat) (s : State) (id e : Nat) : (s.setRun id e ns).storage = s.storage := by
  induction ns generalizing s e with
  | nil => rfl
  | cons n rest ih => simp [State.setRun, ih]
@[simp] theorem setRun_sense (ns : List Nat) (s : State) (id e : Nat) : (s.setRun id e ns).sense = s.sense := by
  induction ns generalizing s e with
  | nil => rfl
  | cons n rest ih => simp [State.setRun, ih]
@[simp] theorem setRun_waybill (ns : List Nat) (s : State) (id e : Nat) : (s.setRun id e ns).waybill = s.waybill := by
  induction ns generalizing s e with
  | nil => rfl
  | cons n rest ih => simp [State.setRun, ih]
@[simp] theorem setRun_vault (ns : List Nat) (s : State) (id e : Nat) : (s.setRun id e ns).vault = s.vault := by
  induction ns generalizing s e with
  | nil => rfl
  | cons n rest ih => simp [State.setRun, ih]
@[simp] theorem setRun_update (ns : List Nat) (s : State) (id e : Nat) : (s.setRun id e ns).update = s.update := by
  induction ns generalizing s e with
  | nil => rfl
  | cons n rest ih => simp [State.setRun, ih]
@[simp] theorem setRun_tandem (ns : List Nat) (s : State) (id e : Nat) : (s.setRun id e ns).tandem = s.tandem := by
  induction ns generalizing s e with
  | nil => rfl
  | cons n rest ih => simp [State.setRun, ih]
@[simp] theorem setRun_power (ns : List Nat) (s : State) (id e : Nat) : (s.setRun id e ns).power = s.power := by
  induction ns generalizing s e with
  | nil => rfl
  | cons n rest ih => simp [State.setRun, ih]
@[simp] theorem setRun_test (ns : List Nat) (s : State) (id e : Nat) : (s.setRun id e ns).test = s.test := by
  induction ns generalizing s e with
  | nil => rfl
  | cons n rest ih => simp [State.setRun, ih]
@[simp] theorem mark_pending (s : State) (id e : Nat) : (s.mark id e).pending = s.pending := by
  unfold State.mark; split
  · split <;> rfl
  · rfl
@[simp] theorem mark_now (s : State) (id e : Nat) : (s.mark id e).now = s.now := by
  unfold State.mark; split
  · split <;> rfl
  · rfl
@[simp] theorem mark_tickBase (s : State) (id e : Nat) : (s.mark id e).tickBase = s.tickBase := by
  unfold State.mark; split
  · split <;> rfl
  · rfl
@[simp] theorem mark_tcxoStopped (s : State) (id e : Nat) : (s.mark id e).tcxoStopped = s.tcxoStopped := by
  unfold State.mark; split
  · split <;> rfl
  · rfl
@[simp] theorem mark_spineLocked (s : State) (id e : Nat) : (s.mark id e).spineLocked = s.spineLocked := by
  unfold State.mark; split
  · split <;> rfl
  · rfl
@[simp] theorem mark_unlockedAt (s : State) (id e : Nat) : (s.mark id e).unlockedAt = s.unlockedAt := by
  unfold State.mark; split
  · split <;> rfl
  · rfl
@[simp] theorem mark_coldAt (s : State) (id e : Nat) : (s.mark id e).coldAt = s.coldAt := by
  unfold State.mark; split
  · split <;> rfl
  · rfl
@[simp] theorem mark_draws (s : State) (id e : Nat) : (s.mark id e).draws = s.draws := by
  unfold State.mark; split
  · split <;> rfl
  · rfl
@[simp] theorem mark_params (s : State) (id e : Nat) : (s.mark id e).params = s.params := by
  unfold State.mark; split
  · split <;> rfl
  · rfl
@[simp] theorem mark_drive (s : State) (id e : Nat) : (s.mark id e).drive = s.drive := by
  unfold State.mark; split
  · split <;> rfl
  · rfl
@[simp] theorem mark_diag (s : State) (id e : Nat) : (s.mark id e).diag = s.diag := by
  unfold State.mark; split
  · split <;> rfl
  · rfl
@[simp] theorem mark_colour (s : State) (id e : Nat) : (s.mark id e).colour = s.colour := by
  unfold State.mark; split
  · split <;> rfl
  · rfl
@[simp] theorem mark_harness (s : State) (id e : Nat) : (s.mark id e).harness = s.harness := by
  unfold State.mark; split
  · split <;> rfl
  · rfl
@[simp] theorem mark_presence (s : State) (id e : Nat) : (s.mark id e).presence = s.presence := by
  unfold State.mark; split
  · split <;> rfl
  · rfl
@[simp] theorem mark_bridle (s : State) (id e : Nat) : (s.mark id e).bridle = s.bridle := by
  unfold State.mark; split
  · split <;> rfl
  · rfl
@[simp] theorem mark_prog (s : State) (id e : Nat) : (s.mark id e).prog = s.prog := by
  unfold State.mark; split
  · split <;> rfl
  · rfl
@[simp] theorem mark_net (s : State) (id e : Nat) : (s.mark id e).net = s.net := by
  unfold State.mark; split
  · split <;> rfl
  · rfl
@[simp] theorem mark_time (s : State) (id e : Nat) : (s.mark id e).time = s.time := by
  unfold State.mark; split
  · split <;> rfl
  · rfl
@[simp] theorem mark_relay (s : State) (id e : Nat) : (s.mark id e).relay = s.relay := by
  unfold State.mark; split
  · split <;> rfl
  · rfl
@[simp] theorem mark_storage (s : State) (id e : Nat) : (s.mark id e).storage = s.storage := by
  unfold State.mark; split
  · split <;> rfl
  · rfl
@[simp] theorem mark_sense (s : State) (id e : Nat) : (s.mark id e).sense = s.sense := by
  unfold State.mark; split
  · split <;> rfl
  · rfl
@[simp] theorem mark_waybill (s : State) (id e : Nat) : (s.mark id e).waybill = s.waybill := by
  unfold State.mark; split
  · split <;> rfl
  · rfl
@[simp] theorem mark_vault (s : State) (id e : Nat) : (s.mark id e).vault = s.vault := by
  unfold State.mark; split
  · split <;> rfl
  · rfl
@[simp] theorem mark_update (s : State) (id e : Nat) : (s.mark id e).update = s.update := by
  unfold State.mark; split
  · split <;> rfl
  · rfl
@[simp] theorem mark_tandem (s : State) (id e : Nat) : (s.mark id e).tandem = s.tandem := by
  unfold State.mark; split
  · split <;> rfl
  · rfl
@[simp] theorem mark_power (s : State) (id e : Nat) : (s.mark id e).power = s.power := by
  unfold State.mark; split
  · split <;> rfl
  · rfl
@[simp] theorem mark_test (s : State) (id e : Nat) : (s.mark id e).test = s.test := by
  unfold State.mark; split
  · split <;> rfl
  · rfl

/-! ### Reading an element after a write -/

@[simp] theorem p_setP_same (s : State) (id e n : Nat) : (s.setP id e n).p id e = n % 2 ^ 32 := by
  unfold State.setP State.p; rw [w_setW_same]; rfl

@[simp] theorem w_setP_same (s : State) (id e n : Nat) : (s.setP id e n).w id e = word n := by
  simp [State.setP]

theorem w_setP_other (s : State) {id e jd d : Nat} (h : paramKey jd d ≠ paramKey id e) (n : Nat) :
    (s.setP id e n).w jd d = s.w jd d := w_setW_other s h _

theorem p_setP_other (s : State) {id e jd d : Nat} (h : paramKey jd d ≠ paramKey id e) (n : Nat) :
    (s.setP id e n).p jd d = s.p jd d := by
  unfold State.p; rw [w_setP_other s h]

@[simp] theorem w_bump_same (s : State) (id e n : Nat) : (s.bump id e n).w id e = s.w id e + word n := by
  simp [State.bump]

theorem w_bump_other (s : State) {id e jd d : Nat} (h : paramKey jd d ≠ paramKey id e) (n : Nat) :
    (s.bump id e n).w jd d = s.w jd d := w_setW_other s h _

end Sys2Proof.Machine
end

