-- ==== Sys2Proof/Laws/Events.lean ====
section
/-! SUPPORT.  Raising an event changes the parameter store (its counters) and the waybill alone (R364 to R370). -/

namespace Sys2Proof.Machine

open Sys2Proof

/-- Two states agree on everything but the parameter store and the waybill. -/
structure SameButRecords (u s : State) : Prop where
  pending : u.pending = s.pending
  now : u.now = s.now
  tickBase : u.tickBase = s.tickBase
  tcxoStopped : u.tcxoStopped = s.tcxoStopped
  spineLocked : u.spineLocked = s.spineLocked
  unlockedAt : u.unlockedAt = s.unlockedAt
  coldAt : u.coldAt = s.coldAt
  draws : u.draws = s.draws
  marked : u.marked = s.marked
  drive : u.drive = s.drive
  diag : u.diag = s.diag
  colour : u.colour = s.colour
  harness : u.harness = s.harness
  presence : u.presence = s.presence
  bridle : u.bridle = s.bridle
  prog : u.prog = s.prog
  net : u.net = s.net
  time : u.time = s.time
  relay : u.relay = s.relay
  storage : u.storage = s.storage
  sense : u.sense = s.sense
  vault : u.vault = s.vault
  update : u.update = s.update
  tandem : u.tandem = s.tandem
  power : u.power = s.power
  test : u.test = s.test

theorem SameButRecords.refl (s : State) : SameButRecords s s := by constructor <;> rfl

theorem SameButRecords.trans {u v s : State} (h : SameButRecords u v) (g : SameButRecords v s) :
    SameButRecords u s := by
  constructor
  · exact h.pending.trans g.pending
  · exact h.now.trans g.now
  · exact h.tickBase.trans g.tickBase
  · exact h.tcxoStopped.trans g.tcxoStopped
  · exact h.spineLocked.trans g.spineLocked
  · exact h.unlockedAt.trans g.unlockedAt
  · exact h.coldAt.trans g.coldAt
  · exact h.draws.trans g.draws
  · exact h.marked.trans g.marked
  · exact h.drive.trans g.drive
  · exact h.diag.trans g.diag
  · exact h.colour.trans g.colour
  · exact h.harness.trans g.harness
  · exact h.presence.trans g.presence
  · exact h.bridle.trans g.bridle
  · exact h.prog.trans g.prog
  · exact h.net.trans g.net
  · exact h.time.trans g.time
  · exact h.relay.trans g.relay
  · exact h.storage.trans g.storage
  · exact h.sense.trans g.sense
  · exact h.vault.trans g.vault
  · exact h.update.trans g.update
  · exact h.tandem.trans g.tandem
  · exact h.power.trans g.power
  · exact h.test.trans g.test

theorem sameRec_setW (s : State) (id e : Nat) (v : Word) : SameButRecords (s.setW id e v) s := by
  constructor <;> simp

theorem sameRec_bump (s : State) (id e n : Nat) : SameButRecords (s.bump id e n) s := by
  constructor <;> simp

theorem sameRec_setP (s : State) (id e n : Nat) : SameButRecords (s.setP id e n) s := by
  constructor <;> simp

theorem sameRec_bumpSat (s : State) (cap id e n : Nat) : SameButRecords (s.bumpSat cap id e n) s := by
  constructor <;> simp

theorem sameRec_wbCount (s : State) (code : Nat) (m : WbMeasure) : SameButRecords (s.wbCount code m) s := by
  unfold State.wbCount; split <;> exact sameRec_bump _ _ _ _

theorem sameRec_waybill (s : State) (w : WaybillState) : SameButRecords { s with waybill := w } s := by
  constructor <;> rfl

theorem sameRec_lose (s : State) (r : EventRecord) : SameButRecords (s.loseRecord r) s :=
  (sameRec_setP _ _ _ _).trans (sameRec_wbCount _ _ _)

theorem sameRec_append (s : State) (r : EventRecord) : SameButRecords (s.appendRecord r) s := by
  unfold State.appendRecord
  have h : SameButRecords ((s.bump Pid.wbNextIndex).wbCount r.code .stored) s :=
    (sameRec_wbCount _ _ _).trans (sameRec_bump _ _ _ _)
  have h2 : ∀ b : Bool, SameButRecords (if b then ((s.bump Pid.wbNextIndex).wbCount r.code .stored).hpEvent 1
      else (s.bump Pid.wbNextIndex).wbCount r.code .stored) s := by
    intro b
    cases b
    · exact h
    · exact (sameRec_setP _ _ _ _).trans h
  have h3 := h2 (decide (sevFault ≤ r.severity))
  simp only [decide_eq_true_eq] at h3
  dsimp only
  split
  · exact (sameRec_waybill _ _).trans h3
  · exact (sameRec_waybill _ _).trans h3

theorem sameRec_store (s : State) (r : EventRecord) : SameButRecords (s.storeRecord r) s := by
  unfold State.storeRecord
  split
  · split
    · exact sameRec_append _ _
    · exact (sameRec_bump _ _ _ _).trans (sameRec_lose _ _)
  · split
    · exact sameRec_append _ _
    · split
      · exact (sameRec_append _ _).trans ((sameRec_waybill _ _).trans (sameRec_wbCount _ _ _))
      · exact (sameRec_bump _ _ _ _).trans (sameRec_lose _ _)

theorem sameRec_fold {f : State → EventRecord → State} (hf : ∀ s r, SameButRecords (f s r) s)
    (rs : List EventRecord) (s : State) : SameButRecords (rs.foldl f s) s := by
  induction rs generalizing s with
  | nil => exact .refl s
  | cons r rest ih => exact (ih _).trans (hf s r)

theorem sameRec_hold (s : State) (r : EventRecord) : SameButRecords (s.holdRecord r) s := by
  unfold State.holdRecord
  dsimp only
  split
  · exact sameRec_waybill _ _
  · split
    · exact (sameRec_waybill _ _).trans (sameRec_lose _ _)
    · exact sameRec_lose _ _

theorem sameRec_place (s : State) (r : EventRecord) : SameButRecords (s.placeRecord r) s := by
  unfold State.placeRecord
  split
  · refine (sameRec_store _ _).trans ?_
    unfold State.releaseHeld
    split
    · exact .refl s
    · exact (sameRec_fold sameRec_store _ _).trans (sameRec_waybill _ _)
  · exact sameRec_hold _ _

theorem sameRec_stage (s : State) (r : EventRecord) : SameButRecords (s.stageRecord r) s := by
  have hl : ∀ (s : State) (r : EventRecord), SameButRecords (s.loseStaged r) s := fun s r =>
    (sameRec_waybill _ _).trans ((sameRec_bump _ _ _ _).trans (sameRec_lose _ _))
  unfold State.stageRecord
  dsimp only
  split
  · exact sameRec_waybill _ _
  · split
    · split
      · exact (sameRec_waybill _ _).trans (hl _ _)
      · exact hl _ _
    · exact hl _ _

theorem raiseNow_same (s : State) (code severity set : Nat) (a b : Word) :
    SameButRecords (s.raiseNow code severity set a b) s := by
  have hform : ∀ v : State, SameButRecords v s → SameButRecords
      ((v.setP Pid.wbSuppressed code 0).keepRecord (v.formRecord code severity set a b)) s := by
    intro v hv
    refine SameButRecords.trans ?_ hv
    unfold State.keepRecord
    split
    · exact (sameRec_stage _ _).trans (sameRec_setP _ _ _ _)
    · exact (sameRec_place _ _).trans (sameRec_setP _ _ _ _)
  unfold State.raiseNow
  dsimp only
  split
  · exact hform _ (sameRec_wbCount _ _ _)
  · split
    · exact hform _ ((sameRec_waybill _ _).trans (sameRec_wbCount _ _ _))
    · exact (sameRec_bumpSat _ _ _ _ _).trans ((sameRec_wbCount _ _ _).trans (sameRec_wbCount _ _ _))

/-- What the first record after a restart tells changes records alone. -/
theorem tellLost_same (s : State) : SameButRecords s.tellLost s := by
  unfold State.tellLost
  split
  · exact (raiseNow_same _ _ _ _ _ _).trans (sameRec_waybill _ _)
  · exact .refl s

/-- Everything raising an event can change: counters and the waybill. -/
theorem raiseWith_same (s : State) (code severity set : Nat) (a b : Word) :
    SameButRecords (s.raiseWith code severity set a b) s :=
  (raiseNow_same _ _ _ _ _ _).trans (tellLost_same s)

/-- Raising a module code. -/
theorem raise_same (s : State) (code a b : Nat) : SameButRecords (s.raise code a b) s :=
  raiseWith_same s _ _ _ _ _

@[simp] theorem raise_pending (s : State) (code a b : Nat) : (s.raise code a b).pending = s.pending := (raise_same s code a b).pending
@[simp] theorem raise_now (s : State) (code a b : Nat) : (s.raise code a b).now = s.now := (raise_same s code a b).now
@[simp] theorem raise_tickBase (s : State) (code a b : Nat) : (s.raise code a b).tickBase = s.tickBase := (raise_same s code a b).tickBase
@[simp] theorem raise_tcxoStopped (s : State) (code a b : Nat) : (s.raise code a b).tcxoStopped = s.tcxoStopped := (raise_same s code a b).tcxoStopped
@[simp] theorem raise_spineLocked (s : State) (code a b : Nat) : (s.raise code a b).spineLocked = s.spineLocked := (raise_same s code a b).spineLocked
@[simp] theorem raise_unlockedAt (s : State) (code a b : Nat) : (s.raise code a b).unlockedAt = s.unlockedAt := (raise_same s code a b).unlockedAt
@[simp] theorem raise_coldAt (s : State) (code a b : Nat) : (s.raise code a b).coldAt = s.coldAt := (raise_same s code a b).coldAt
@[simp] theorem raise_draws (s : State) (code a b : Nat) : (s.raise code a b).draws = s.draws := (raise_same s code a b).draws
@[simp] theorem raise_marked (s : State) (code a b : Nat) : (s.raise code a b).marked = s.marked := (raise_same s code a b).marked
@[simp] theorem raise_drive (s : State) (code a b : Nat) : (s.raise code a b).drive = s.drive := (raise_same s code a b).drive
@[simp] theorem raise_diag (s : State) (code a b : Nat) : (s.raise code a b).diag = s.diag := (raise_same s code a b).diag
@[simp] theorem raise_colour (s : State) (code a b : Nat) : (s.raise code a b).colour = s.colour := (raise_same s code a b).colour
@[simp] theorem raise_harness (s : State) (code a b : Nat) : (s.raise code a b).harness = s.harness := (raise_same s code a b).harness
@[simp] theorem raise_presence (s : State) (code a b : Nat) : (s.raise code a b).presence = s.presence := (raise_same s code a b).presence
@[simp] theorem raise_bridle (s : State) (code a b : Nat) : (s.raise code a b).bridle = s.bridle := (raise_same s code a b).bridle
@[simp] theorem raise_prog (s : State) (code a b : Nat) : (s.raise code a b).prog = s.prog := (raise_same s code a b).prog
@[simp] theorem raise_net (s : State) (code a b : Nat) : (s.raise code a b).net = s.net := (raise_same s code a b).net
@[simp] theorem raise_time (s : State) (code a b : Nat) : (s.raise code a b).time = s.time := (raise_same s code a b).time
@[simp] theorem raise_relay (s : State) (code a b : Nat) : (s.raise code a b).relay = s.relay := (raise_same s code a b).relay
@[simp] theorem raise_storage (s : State) (code a b : Nat) : (s.raise code a b).storage = s.storage := (raise_same s code a b).storage
@[simp] theorem raise_sense (s : State) (code a b : Nat) : (s.raise code a b).sense = s.sense := (raise_same s code a b).sense
@[simp] theorem raise_vault (s : State) (code a b : Nat) : (s.raise code a b).vault = s.vault := (raise_same s code a b).vault
@[simp] theorem raise_update (s : State) (code a b : Nat) : (s.raise code a b).update = s.update := (raise_same s code a b).update
@[simp] theorem raise_tandem (s : State) (code a b : Nat) : (s.raise code a b).tandem = s.tandem := (raise_same s code a b).tandem
@[simp] theorem raise_power (s : State) (code a b : Nat) : (s.raise code a b).power = s.power := (raise_same s code a b).power
@[simp] theorem raise_test (s : State) (code a b : Nat) : (s.raise code a b).test = s.test := (raise_same s code a b).test
@[simp] theorem raiseWith_pending (s : State) (code severity set : Nat) (a b : Word) : (s.raiseWith code severity set a b).pending = s.pending := (raiseWith_same s code severity set a b).pending
@[simp] theorem raiseWith_now (s : State) (code severity set : Nat) (a b : Word) : (s.raiseWith code severity set a b).now = s.now := (raiseWith_same s code severity set a b).now
@[simp] theorem raiseWith_tickBase (s : State) (code severity set : Nat) (a b : Word) : (s.raiseWith code severity set a b).tickBase = s.tickBase := (raiseWith_same s code severity set a b).tickBase
@[simp] theorem raiseWith_tcxoStopped (s : State) (code severity set : Nat) (a b : Word) : (s.raiseWith code severity set a b).tcxoStopped = s.tcxoStopped := (raiseWith_same s code severity set a b).tcxoStopped
@[simp] theorem raiseWith_spineLocked (s : State) (code severity set : Nat) (a b : Word) : (s.raiseWith code severity set a b).spineLocked = s.spineLocked := (raiseWith_same s code severity set a b).spineLocked
@[simp] theorem raiseWith_unlockedAt (s : State) (code severity set : Nat) (a b : Word) : (s.raiseWith code severity set a b).unlockedAt = s.unlockedAt := (raiseWith_same s code severity set a b).unlockedAt
@[simp] theorem raiseWith_coldAt (s : State) (code severity set : Nat) (a b : Word) : (s.raiseWith code severity set a b).coldAt = s.coldAt := (raiseWith_same s code severity set a b).coldAt
@[simp] theorem raiseWith_draws (s : State) (code severity set : Nat) (a b : Word) : (s.raiseWith code severity set a b).draws = s.draws := (raiseWith_same s code severity set a b).draws
@[simp] theorem raiseWith_marked (s : State) (code severity set : Nat) (a b : Word) : (s.raiseWith code severity set a b).marked = s.marked := (raiseWith_same s code severity set a b).marked
@[simp] theorem raiseWith_drive (s : State) (code severity set : Nat) (a b : Word) : (s.raiseWith code severity set a b).drive = s.drive := (raiseWith_same s code severity set a b).drive
@[simp] theorem raiseWith_diag (s : State) (code severity set : Nat) (a b : Word) : (s.raiseWith code severity set a b).diag = s.diag := (raiseWith_same s code severity set a b).diag
@[simp] theorem raiseWith_colour (s : State) (code severity set : Nat) (a b : Word) : (s.raiseWith code severity set a b).colour = s.colour := (raiseWith_same s code severity set a b).colour
@[simp] theorem raiseWith_harness (s : State) (code severity set : Nat) (a b : Word) : (s.raiseWith code severity set a b).harness = s.harness := (raiseWith_same s code severity set a b).harness
@[simp] theorem raiseWith_presence (s : State) (code severity set : Nat) (a b : Word) : (s.raiseWith code severity set a b).presence = s.presence := (raiseWith_same s code severity set a b).presence
@[simp] theorem raiseWith_bridle (s : State) (code severity set : Nat) (a b : Word) : (s.raiseWith code severity set a b).bridle = s.bridle := (raiseWith_same s code severity set a b).bridle
@[simp] theorem raiseWith_prog (s : State) (code severity set : Nat) (a b : Word) : (s.raiseWith code severity set a b).prog = s.prog := (raiseWith_same s code severity set a b).prog
@[simp] theorem raiseWith_net (s : State) (code severity set : Nat) (a b : Word) : (s.raiseWith code severity set a b).net = s.net := (raiseWith_same s code severity set a b).net
@[simp] theorem raiseWith_time (s : State) (code severity set : Nat) (a b : Word) : (s.raiseWith code severity set a b).time = s.time := (raiseWith_same s code severity set a b).time
@[simp] theorem raiseWith_relay (s : State) (code severity set : Nat) (a b : Word) : (s.raiseWith code severity set a b).relay = s.relay := (raiseWith_same s code severity set a b).relay
@[simp] theorem raiseWith_storage (s : State) (code severity set : Nat) (a b : Word) : (s.raiseWith code severity set a b).storage = s.storage := (raiseWith_same s code severity set a b).storage
@[simp] theorem raiseWith_sense (s : State) (code severity set : Nat) (a b : Word) : (s.raiseWith code severity set a b).sense = s.sense := (raiseWith_same s code severity set a b).sense
@[simp] theorem raiseWith_vault (s : State) (code severity set : Nat) (a b : Word) : (s.raiseWith code severity set a b).vault = s.vault := (raiseWith_same s code severity set a b).vault
@[simp] theorem raiseWith_update (s : State) (code severity set : Nat) (a b : Word) : (s.raiseWith code severity set a b).update = s.update := (raiseWith_same s code severity set a b).update
@[simp] theorem raiseWith_tandem (s : State) (code severity set : Nat) (a b : Word) : (s.raiseWith code severity set a b).tandem = s.tandem := (raiseWith_same s code severity set a b).tandem
@[simp] theorem raiseWith_power (s : State) (code severity set : Nat) (a b : Word) : (s.raiseWith code severity set a b).power = s.power := (raiseWith_same s code severity set a b).power
@[simp] theorem raiseWith_test (s : State) (code severity set : Nat) (a b : Word) : (s.raiseWith code severity set a b).test = s.test := (raiseWith_same s code severity set a b).test

end Sys2Proof.Machine
end

