-- ==== Sys2Proof/Laws/Run.lean ====
section
/-! SUPPORT.  What the frame of every meaning does (`State.run`, `State.settleHold`): it goes on, it keeps the
queue, time never goes back, and HOLD_N follows its rule. -/

namespace Sys2Proof.Machine

open Sys2Proof

/-- HOLD_N settles by its rule, whatever came before. -/
theorem settleHold_holdRule (s : State) : s.settleHold.HoldRule := by
  show if s.holdForced = true then s.holdIsLow = true else
    (s.p Pid.cmdHpHiWm ≤ s.bridle.hostIn.length → s.holdIsLow = true) ∧
    (s.bridle.hostIn.length < s.p Pid.cmdHpHiWm → s.bridle.hostIn.length ≤ s.p Pid.cmdHpLoWm → s.holdIsLow = false)
  unfold State.holdIsLow
  split
  · simp
  · refine ⟨fun h1 => ?_, fun h1 h2 => ?_⟩
    · simp [h1]
    · have h3 := Nat.not_le.2 h1
      simp [h3, h2]

@[simp] theorem settleHold_pending (s : State) : s.settleHold.pending = s.pending := rfl
@[simp] theorem settleHold_now (s : State) : s.settleHold.now = s.now := rfl
@[simp] theorem settleHold_tickBase (s : State) : s.settleHold.tickBase = s.tickBase := rfl
@[simp] theorem settleHold_tcxoStopped (s : State) : s.settleHold.tcxoStopped = s.tcxoStopped := rfl
@[simp] theorem settleHold_spineLocked (s : State) : s.settleHold.spineLocked = s.spineLocked := rfl
@[simp] theorem settleHold_unlockedAt (s : State) : s.settleHold.unlockedAt = s.unlockedAt := rfl
@[simp] theorem settleHold_coldAt (s : State) : s.settleHold.coldAt = s.coldAt := rfl
@[simp] theorem settleHold_draws (s : State) : s.settleHold.draws = s.draws := rfl
@[simp] theorem settleHold_params (s : State) : s.settleHold.params = s.params := rfl
@[simp] theorem settleHold_marked (s : State) : s.settleHold.marked = s.marked := rfl
@[simp] theorem settleHold_drive (s : State) : s.settleHold.drive = s.drive := rfl
@[simp] theorem settleHold_diag (s : State) : s.settleHold.diag = s.diag := rfl
@[simp] theorem settleHold_colour (s : State) : s.settleHold.colour = s.colour := rfl
@[simp] theorem settleHold_harness (s : State) : s.settleHold.harness = s.harness := rfl
@[simp] theorem settleHold_presence (s : State) : s.settleHold.presence = s.presence := rfl
@[simp] theorem settleHold_prog (s : State) : s.settleHold.prog = s.prog := rfl
@[simp] theorem settleHold_net (s : State) : s.settleHold.net = s.net := rfl
@[simp] theorem settleHold_time (s : State) : s.settleHold.time = s.time := rfl
@[simp] theorem settleHold_relay (s : State) : s.settleHold.relay = s.relay := rfl
@[simp] theorem settleHold_storage (s : State) : s.settleHold.storage = s.storage := rfl
@[simp] theorem settleHold_sense (s : State) : s.settleHold.sense = s.sense := rfl
@[simp] theorem settleHold_waybill (s : State) : s.settleHold.waybill = s.waybill := rfl
@[simp] theorem settleHold_vault (s : State) : s.settleHold.vault = s.vault := rfl
@[simp] theorem settleHold_update (s : State) : s.settleHold.update = s.update := rfl
@[simp] theorem settleHold_tandem (s : State) : s.settleHold.tandem = s.tandem := rfl
@[simp] theorem settleHold_power (s : State) : s.settleHold.power = s.power := rfl
@[simp] theorem settleHold_test (s : State) : s.settleHold.test = s.test := rfl
@[simp] theorem settleHold_w (s : State) (id e : Nat) : s.settleHold.w id e = s.w id e := rfl
@[simp] theorem settleHold_p (s : State) (id e : Nat) : s.settleHold.p id e = s.p id e := rfl

/-- Of the command interface, settling changes the level of HOLD_N alone. -/
theorem settleHold_bridle (s : State) :
    s.settleHold.bridle = { s.bridle with holdLow := s.settleHold.bridle.holdLow } := rfl

/-- The state that `State.run` answers. -/
def State.after_ (s : State) (t : Nat) (f : State → State) : State :=
  ({ f (s.at_ t) with now := max s.now t, pending := s.pending }).settleHold

/-- A meaning goes on. -/
theorem run_eq (s : State) (t : Nat) (f : State → State) : s.run t f = .next (s.after_ t f) := rfl

/-- A meaning leaves the queue of waiting commands to `step`. -/
@[simp] theorem after_pending (s : State) (t : Nat) (f : State → State) : (s.after_ t f).pending = s.pending := rfl

/-- Time advances to the command's instant and never goes back. -/
@[simp] theorem after_now (s : State) (t : Nat) (f : State → State) : (s.after_ t f).now = max s.now t := rfl

@[simp] theorem after_tickBase (s : State) (t : Nat) (f : State → State) : (s.after_ t f).tickBase = (f (s.at_ t)).tickBase := rfl
@[simp] theorem after_tcxoStopped (s : State) (t : Nat) (f : State → State) : (s.after_ t f).tcxoStopped = (f (s.at_ t)).tcxoStopped := rfl
@[simp] theorem after_spineLocked (s : State) (t : Nat) (f : State → State) : (s.after_ t f).spineLocked = (f (s.at_ t)).spineLocked := rfl
@[simp] theorem after_unlockedAt (s : State) (t : Nat) (f : State → State) : (s.after_ t f).unlockedAt = (f (s.at_ t)).unlockedAt := rfl
@[simp] theorem after_coldAt (s : State) (t : Nat) (f : State → State) : (s.after_ t f).coldAt = (f (s.at_ t)).coldAt := rfl
@[simp] theorem after_draws (s : State) (t : Nat) (f : State → State) : (s.after_ t f).draws = (f (s.at_ t)).draws := rfl
@[simp] theorem after_params (s : State) (t : Nat) (f : State → State) : (s.after_ t f).params = (f (s.at_ t)).params := rfl
@[simp] theorem after_marked (s : State) (t : Nat) (f : State → State) : (s.after_ t f).marked = (f (s.at_ t)).marked := rfl
@[simp] theorem after_drive (s : State) (t : Nat) (f : State → State) : (s.after_ t f).drive = (f (s.at_ t)).drive := rfl
@[simp] theorem after_diag (s : State) (t : Nat) (f : State → State) : (s.after_ t f).diag = (f (s.at_ t)).diag := rfl
@[simp] theorem after_colour (s : State) (t : Nat) (f : State → State) : (s.after_ t f).colour = (f (s.at_ t)).colour := rfl
@[simp] theorem after_harness (s : State) (t : Nat) (f : State → State) : (s.after_ t f).harness = (f (s.at_ t)).harness := rfl
@[simp] theorem after_presence (s : State) (t : Nat) (f : State → State) : (s.after_ t f).presence = (f (s.at_ t)).presence := rfl
@[simp] theorem after_prog (s : State) (t : Nat) (f : State → State) : (s.after_ t f).prog = (f (s.at_ t)).prog := rfl
@[simp] theorem after_net (s : State) (t : Nat) (f : State → State) : (s.after_ t f).net = (f (s.at_ t)).net := rfl
@[simp] theorem after_time (s : State) (t : Nat) (f : State → State) : (s.after_ t f).time = (f (s.at_ t)).time := rfl
@[simp] theorem after_relay (s : State) (t : Nat) (f : State → State) : (s.after_ t f).relay = (f (s.at_ t)).relay := rfl
@[simp] theorem after_storage (s : State) (t : Nat) (f : State → State) : (s.after_ t f).storage = (f (s.at_ t)).storage := rfl
@[simp] theorem after_sense (s : State) (t : Nat) (f : State → State) : (s.after_ t f).sense = (f (s.at_ t)).sense := rfl
@[simp] theorem after_waybill (s : State) (t : Nat) (f : State → State) : (s.after_ t f).waybill = (f (s.at_ t)).waybill := rfl
@[simp] theorem after_vault (s : State) (t : Nat) (f : State → State) : (s.after_ t f).vault = (f (s.at_ t)).vault := rfl
@[simp] theorem after_update (s : State) (t : Nat) (f : State → State) : (s.after_ t f).update = (f (s.at_ t)).update := rfl
@[simp] theorem after_tandem (s : State) (t : Nat) (f : State → State) : (s.after_ t f).tandem = (f (s.at_ t)).tandem := rfl
@[simp] theorem after_power (s : State) (t : Nat) (f : State → State) : (s.after_ t f).power = (f (s.at_ t)).power := rfl
@[simp] theorem after_test (s : State) (t : Nat) (f : State → State) : (s.after_ t f).test = (f (s.at_ t)).test := rfl
@[simp] theorem after_w (s : State) (t : Nat) (f : State → State) (id e : Nat) :
    (s.after_ t f).w id e = (f (s.at_ t)).w id e := rfl
@[simp] theorem after_p (s : State) (t : Nat) (f : State → State) (id e : Nat) :
    (s.after_ t f).p id e = (f (s.at_ t)).p id e := rfl

/-- Everything a meaning can do: it goes on with time advanced, the queue kept and HOLD_N settled. -/
theorem run_spec (s u : State) (t : Nat) (f : State → State) (h : s.run t f = .next u) :
    u.now = max s.now t ∧ u.pending = s.pending ∧ u.HoldRule := by
  rw [run_eq] at h
  cases h
  exact ⟨rfl, rfl, settleHold_holdRule _⟩

end Sys2Proof.Machine
end

