-- ==== Sys2Proof/Laws/Packets.lean ====
section
/-! SUPPORT.  What an accepted packet does: its opcode acts in `State.letIn`, and `State.conclude` answers. -/

namespace Sys2Proof.Machine

open Sys2Proof

/-- A ticket that can fail is used: RESULT and the ticket 0 of an immediate opcode take none. -/
theorem dispatch_accepted {s : State} {kindOf : Request → OpKind} {q : Request} {k : Session} {role : Nat}
    {kd : OpKind} (body : Body) (hop : opcodeInfo q.opcode = some (role, kd)) (hrole : role ≤ q.role)
    (hmode : (s.farrier && !farrierOpcode q.opcode) = false)
    (hticket : ticketFailure k q.opcode q.ticket (kindOf q) = none) :
    s.dispatch body kindOf q (some k) =
      (let keeps := decide (q.ticket ≠ 0) && decide (q.opcode ≠ 0x03)
       let s := if keeps then s.modifySession q.session (fun k => k.putTicket ⟨q.ticket, none, false⟩) else s
       match body q s with
       | (.later, s) => (fail stPending, s)
       | (.done r, s) =>
         (r, if keeps then
               s.modifySession q.session (fun k => k.putTicket ⟨q.ticket, some (s.now, r), true⟩)
             else s)) := by
  have hmode' : ¬ (s.farrier = true ∧ (!farrierOpcode q.opcode) = true) := by
    intro h; rw [h.1, h.2] at hmode; cases hmode
  have hrole' : ¬ (q.role ≠ 0xFF ∧ q.role < role) := by omega
  unfold State.dispatch
  simp only [hop, hmode', hrole', if_false, Option.bind_some, hticket] <;> rfl

theorem farrier_of_power {s u : State} (h : u.power = s.power) : u.farrier = s.farrier := by
  simp [State.farrier, h]

@[simp] theorem dropPacket_pending (s : State) (tr : Transport) : (s.dropPacket tr).pending = s.pending := by cases tr <;> rfl
@[simp] theorem dropPacket_now (s : State) (tr : Transport) : (s.dropPacket tr).now = s.now := by cases tr <;> rfl
@[simp] theorem dropPacket_tickBase (s : State) (tr : Transport) : (s.dropPacket tr).tickBase = s.tickBase := by cases tr <;> rfl
@[simp] theorem dropPacket_tcxoStopped (s : State) (tr : Transport) : (s.dropPacket tr).tcxoStopped = s.tcxoStopped := by cases tr <;> rfl
@[simp] theorem dropPacket_spineLocked (s : State) (tr : Transport) : (s.dropPacket tr).spineLocked = s.spineLocked := by cases tr <;> rfl
@[simp] theorem dropPacket_unlockedAt (s : State) (tr : Transport) : (s.dropPacket tr).unlockedAt = s.unlockedAt := by cases tr <;> rfl
@[simp] theorem dropPacket_coldAt (s : State) (tr : Transport) : (s.dropPacket tr).coldAt = s.coldAt := by cases tr <;> rfl
@[simp] theorem dropPacket_draws (s : State) (tr : Transport) : (s.dropPacket tr).draws = s.draws := by cases tr <;> rfl
@[simp] theorem dropPacket_marked (s : State) (tr : Transport) : (s.dropPacket tr).marked = s.marked := by cases tr <;> rfl
@[simp] theorem dropPacket_drive (s : State) (tr : Transport) : (s.dropPacket tr).drive = s.drive := by cases tr <;> rfl
@[simp] theorem dropPacket_diag (s : State) (tr : Transport) : (s.dropPacket tr).diag = s.diag := by cases tr <;> rfl
@[simp] theorem dropPacket_colour (s : State) (tr : Transport) : (s.dropPacket tr).colour = s.colour := by cases tr <;> rfl
@[simp] theorem dropPacket_harness (s : State) (tr : Transport) : (s.dropPacket tr).harness = s.harness := by cases tr <;> rfl
@[simp] theorem dropPacket_presence (s : State) (tr : Transport) : (s.dropPacket tr).presence = s.presence := by cases tr <;> rfl
@[simp] theorem dropPacket_prog (s : State) (tr : Transport) : (s.dropPacket tr).prog = s.prog := by cases tr <;> rfl
@[simp] theorem dropPacket_net (s : State) (tr : Transport) : (s.dropPacket tr).net = s.net := by cases tr <;> rfl
@[simp] theorem dropPacket_time (s : State) (tr : Transport) : (s.dropPacket tr).time = s.time := by cases tr <;> rfl
@[simp] theorem dropPacket_relay (s : State) (tr : Transport) : (s.dropPacket tr).relay = s.relay := by cases tr <;> rfl
@[simp] theorem dropPacket_storage (s : State) (tr : Transport) : (s.dropPacket tr).storage = s.storage := by cases tr <;> rfl
@[simp] theorem dropPacket_sense (s : State) (tr : Transport) : (s.dropPacket tr).sense = s.sense := by cases tr <;> rfl
@[simp] theorem dropPacket_waybill (s : State) (tr : Transport) : (s.dropPacket tr).waybill = s.waybill := by cases tr <;> rfl
@[simp] theorem dropPacket_vault (s : State) (tr : Transport) : (s.dropPacket tr).vault = s.vault := by cases tr <;> rfl
@[simp] theorem dropPacket_update (s : State) (tr : Transport) : (s.dropPacket tr).update = s.update := by cases tr <;> rfl
@[simp] theorem dropPacket_tandem (s : State) (tr : Transport) : (s.dropPacket tr).tandem = s.tandem := by cases tr <;> rfl
@[simp] theorem dropPacket_power (s : State) (tr : Transport) : (s.dropPacket tr).power = s.power := by cases tr <;> rfl
@[simp] theorem dropPacket_test (s : State) (tr : Transport) : (s.dropPacket tr).test = s.test := by cases tr <;> rfl
@[simp] theorem dropPacket_params (s : State) (tr : Transport) : (s.dropPacket tr).params = s.params := by cases tr <;> rfl

@[simp] theorem modifySession_pending (s : State) (i : Nat) (g : Session → Session) : (s.modifySession i g).pending = s.pending := rfl
@[simp] theorem modifySession_now (s : State) (i : Nat) (g : Session → Session) : (s.modifySession i g).now = s.now := rfl
@[simp] theorem modifySession_tickBase (s : State) (i : Nat) (g : Session → Session) : (s.modifySession i g).tickBase = s.tickBase := rfl
@[simp] theorem modifySession_tcxoStopped (s : State) (i : Nat) (g : Session → Session) : (s.modifySession i g).tcxoStopped = s.tcxoStopped := rfl
@[simp] theorem modifySession_spineLocked (s : State) (i : Nat) (g : Session → Session) : (s.modifySession i g).spineLocked = s.spineLocked := rfl
@[simp] theorem modifySession_unlockedAt (s : State) (i : Nat) (g : Session → Session) : (s.modifySession i g).unlockedAt = s.unlockedAt := rfl
@[simp] theorem modifySession_coldAt (s : State) (i : Nat) (g : Session → Session) : (s.modifySession i g).coldAt = s.coldAt := rfl
@[simp] theorem modifySession_draws (s : State) (i : Nat) (g : Session → Session) : (s.modifySession i g).draws = s.draws := rfl
@[simp] theorem modifySession_marked (s : State) (i : Nat) (g : Session → Session) : (s.modifySession i g).marked = s.marked := rfl
@[simp] theorem modifySession_drive (s : State) (i : Nat) (g : Session → Session) : (s.modifySession i g).drive = s.drive := rfl
@[simp] theorem modifySession_diag (s : State) (i : Nat) (g : Session → Session) : (s.modifySession i g).diag = s.diag := rfl
@[simp] theorem modifySession_colour (s : State) (i : Nat) (g : Session → Session) : (s.modifySession i g).colour = s.colour := rfl
@[simp] theorem modifySession_harness (s : State) (i : Nat) (g : Session → Session) : (s.modifySession i g).harness = s.harness := rfl
@[simp] theorem modifySession_presence (s : State) (i : Nat) (g : Session → Session) : (s.modifySession i g).presence = s.presence := rfl
@[simp] theorem modifySession_prog (s : State) (i : Nat) (g : Session → Session) : (s.modifySession i g).prog = s.prog := rfl
@[simp] theorem modifySession_net (s : State) (i : Nat) (g : Session → Session) : (s.modifySession i g).net = s.net := rfl
@[simp] theorem modifySession_time (s : State) (i : Nat) (g : Session → Session) : (s.modifySession i g).time = s.time := rfl
@[simp] theorem modifySession_relay (s : State) (i : Nat) (g : Session → Session) : (s.modifySession i g).relay = s.relay := rfl
@[simp] theorem modifySession_storage (s : State) (i : Nat) (g : Session → Session) : (s.modifySession i g).storage = s.storage := rfl
@[simp] theorem modifySession_sense (s : State) (i : Nat) (g : Session → Session) : (s.modifySession i g).sense = s.sense := rfl
@[simp] theorem modifySession_waybill (s : State) (i : Nat) (g : Session → Session) : (s.modifySession i g).waybill = s.waybill := rfl
@[simp] theorem modifySession_vault (s : State) (i : Nat) (g : Session → Session) : (s.modifySession i g).vault = s.vault := rfl
@[simp] theorem modifySession_update (s : State) (i : Nat) (g : Session → Session) : (s.modifySession i g).update = s.update := rfl
@[simp] theorem modifySession_tandem (s : State) (i : Nat) (g : Session → Session) : (s.modifySession i g).tandem = s.tandem := rfl
@[simp] theorem modifySession_power (s : State) (i : Nat) (g : Session → Session) : (s.modifySession i g).power = s.power := rfl
@[simp] theorem modifySession_test (s : State) (i : Nat) (g : Session → Session) : (s.modifySession i g).test = s.test := rfl
@[simp] theorem modifySession_params (s : State) (i : Nat) (g : Session → Session) : (s.modifySession i g).params = s.params := rfl

@[simp] theorem keyUse_pending (s : State) (o : KeyOp) (m i : Nat) : (s.keyUse o m i).pending = s.pending := by
  unfold State.keyUse State.keyCount; split <;> simp
@[simp] theorem keyUse_now (s : State) (o : KeyOp) (m i : Nat) : (s.keyUse o m i).now = s.now := by
  unfold State.keyUse State.keyCount; split <;> simp
@[simp] theorem keyUse_tickBase (s : State) (o : KeyOp) (m i : Nat) : (s.keyUse o m i).tickBase = s.tickBase := by
  unfold State.keyUse State.keyCount; split <;> simp
@[simp] theorem keyUse_tcxoStopped (s : State) (o : KeyOp) (m i : Nat) : (s.keyUse o m i).tcxoStopped = s.tcxoStopped := by
  unfold State.keyUse State.keyCount; split <;> simp
@[simp] theorem keyUse_spineLocked (s : State) (o : KeyOp) (m i : Nat) : (s.keyUse o m i).spineLocked = s.spineLocked := by
  unfold State.keyUse State.keyCount; split <;> simp
@[simp] theorem keyUse_unlockedAt (s : State) (o : KeyOp) (m i : Nat) : (s.keyUse o m i).unlockedAt = s.unlockedAt := by
  unfold State.keyUse State.keyCount; split <;> simp
@[simp] theorem keyUse_coldAt (s : State) (o : KeyOp) (m i : Nat) : (s.keyUse o m i).coldAt = s.coldAt := by
  unfold State.keyUse State.keyCount; split <;> simp
@[simp] theorem keyUse_draws (s : State) (o : KeyOp) (m i : Nat) : (s.keyUse o m i).draws = s.draws := by
  unfold State.keyUse State.keyCount; split <;> simp
@[simp] theorem keyUse_marked (s : State) (o : KeyOp) (m i : Nat) : (s.keyUse o m i).marked = s.marked := by
  unfold State.keyUse State.keyCount; split <;> simp
@[simp] theorem keyUse_drive (s : State) (o : KeyOp) (m i : Nat) : (s.keyUse o m i).drive = s.drive := by
  unfold State.keyUse State.keyCount; split <;> simp
@[simp] theorem keyUse_diag (s : State) (o : KeyOp) (m i : Nat) : (s.keyUse o m i).diag = s.diag := by
  unfold State.keyUse State.keyCount; split <;> simp
@[simp] theorem keyUse_colour (s : State) (o : KeyOp) (m i : Nat) : (s.keyUse o m i).colour = s.colour := by
  unfold State.keyUse State.keyCount; split <;> simp
@[simp] theorem keyUse_harness (s : State) (o : KeyOp) (m i : Nat) : (s.keyUse o m i).harness = s.harness := by
  unfold State.keyUse State.keyCount; split <;> simp
@[simp] theorem keyUse_presence (s : State) (o : KeyOp) (m i : Nat) : (s.keyUse o m i).presence = s.presence := by
  unfold State.keyUse State.keyCount; split <;> simp
@[simp] theorem keyUse_prog (s : State) (o : KeyOp) (m i : Nat) : (s.keyUse o m i).prog = s.prog := by
  unfold State.keyUse State.keyCount; split <;> simp
@[simp] theorem keyUse_net (s : State) (o : KeyOp) (m i : Nat) : (s.keyUse o m i).net = s.net := by
  unfold State.keyUse State.keyCount; split <;> simp
@[simp] theorem keyUse_time (s : State) (o : KeyOp) (m i : Nat) : (s.keyUse o m i).time = s.time := by
  unfold State.keyUse State.keyCount; split <;> simp
@[simp] theorem keyUse_relay (s : State) (o : KeyOp) (m i : Nat) : (s.keyUse o m i).relay = s.relay := by
  unfold State.keyUse State.keyCount; split <;> simp
@[simp] theorem keyUse_storage (s : State) (o : KeyOp) (m i : Nat) : (s.keyUse o m i).storage = s.storage := by
  unfold State.keyUse State.keyCount; split <;> simp
@[simp] theorem keyUse_sense (s : State) (o : KeyOp) (m i : Nat) : (s.keyUse o m i).sense = s.sense := by
  unfold State.keyUse State.keyCount; split <;> simp
@[simp] theorem keyUse_waybill (s : State) (o : KeyOp) (m i : Nat) : (s.keyUse o m i).waybill = s.waybill := by
  unfold State.keyUse State.keyCount; split <;> simp
@[simp] theorem keyUse_vault (s : State) (o : KeyOp) (m i : Nat) : (s.keyUse o m i).vault = s.vault := by
  unfold State.keyUse State.keyCount; split <;> simp
@[simp] theorem keyUse_update (s : State) (o : KeyOp) (m i : Nat) : (s.keyUse o m i).update = s.update := by
  unfold State.keyUse State.keyCount; split <;> simp
@[simp] theorem keyUse_tandem (s : State) (o : KeyOp) (m i : Nat) : (s.keyUse o m i).tandem = s.tandem := by
  unfold State.keyUse State.keyCount; split <;> simp
@[simp] theorem keyUse_power (s : State) (o : KeyOp) (m i : Nat) : (s.keyUse o m i).power = s.power := by
  unfold State.keyUse State.keyCount; split <;> simp
@[simp] theorem keyUse_test (s : State) (o : KeyOp) (m i : Nat) : (s.keyUse o m i).test = s.test := by
  unfold State.keyUse State.keyCount; split <;> simp
@[simp] theorem keyUse_bridle (s : State) (o : KeyOp) (m i : Nat) : (s.keyUse o m i).bridle = s.bridle := by
  unfold State.keyUse State.keyCount; split <;> simp

@[simp] theorem sendReply_pending (s : State) (d : Source) (ws : List Word) : (s.sendReply d ws).pending = s.pending := by
  unfold State.sendReply
  cases d with
  | host => dsimp only; split
            · simp
            · split <;> rfl
  | service => dsimp only; split <;> rfl
  | uplink _ _ => rfl
  | relay _ => rfl
@[simp] theorem sendReply_now (s : State) (d : Source) (ws : List Word) : (s.sendReply d ws).now = s.now := by
  unfold State.sendReply
  cases d with
  | host => dsimp only; split
            · simp
            · split <;> rfl
  | service => dsimp only; split <;> rfl
  | uplink _ _ => rfl
  | relay _ => rfl
@[simp] theorem sendReply_tickBase (s : State) (d : Source) (ws : List Word) : (s.sendReply d ws).tickBase = s.tickBase := by
  unfold State.sendReply
  cases d with
  | host => dsimp only; split
            · simp
            · split <;> rfl
  | service => dsimp only; split <;> rfl
  | uplink _ _ => rfl
  | relay _ => rfl
@[simp] theorem sendReply_tcxoStopped (s : State) (d : Source) (ws : List Word) : (s.sendReply d ws).tcxoStopped = s.tcxoStopped := by
  unfold State.sendReply
  cases d with
  | host => dsimp only; split
            · simp
            · split <;> rfl
  | service => dsimp only; split <;> rfl
  | uplink _ _ => rfl
  | relay _ => rfl
@[simp] theorem sendReply_spineLocked (s : State) (d : Source) (ws : List Word) : (s.sendReply d ws).spineLocked = s.spineLocked := by
  unfold State.sendReply
  cases d with
  | host => dsimp only; split
            · simp
            · split <;> rfl
  | service => dsimp only; split <;> rfl
  | uplink _ _ => rfl
  | relay _ => rfl
@[simp] theorem sendReply_unlockedAt (s : State) (d : Source) (ws : List Word) : (s.sendReply d ws).unlockedAt = s.unlockedAt := by
  unfold State.sendReply
  cases d with
  | host => dsimp only; split
            · simp
            · split <;> rfl
  | service => dsimp only; split <;> rfl
  | uplink _ _ => rfl
  | relay _ => rfl
@[simp] theorem sendReply_coldAt (s : State) (d : Source) (ws : List Word) : (s.sendReply d ws).coldAt = s.coldAt := by
  unfold State.sendReply
  cases d with
  | host => dsimp only; split
            · simp
            · split <;> rfl
  | service => dsimp only; split <;> rfl
  | uplink _ _ => rfl
  | relay _ => rfl
@[simp] theorem sendReply_draws (s : State) (d : Source) (ws : List Word) : (s.sendReply d ws).draws = s.draws := by
  unfold State.sendReply
  cases d with
  | host => dsimp only; split
            · simp
            · split <;> rfl
  | service => dsimp only; split <;> rfl
  | uplink _ _ => rfl
  | relay _ => rfl
@[simp] theorem sendReply_marked (s : State) (d : Source) (ws : List Word) : (s.sendReply d ws).marked = s.marked := by
  unfold State.sendReply
  cases d with
  | host => dsimp only; split
            · simp
            · split <;> rfl
  | service => dsimp only; split <;> rfl
  | uplink _ _ => rfl
  | relay _ => rfl
@[simp] theorem sendReply_drive (s : State) (d : Source) (ws : List Word) : (s.sendReply d ws).drive = s.drive := by
  unfold State.sendReply
  cases d with
  | host => dsimp only; split
            · simp
            · split <;> rfl
  | service => dsimp only; split <;> rfl
  | uplink _ _ => rfl
  | relay _ => rfl
@[simp] theorem sendReply_diag (s : State) (d : Source) (ws : List Word) : (s.sendReply d ws).diag = s.diag := by
  unfold State.sendReply
  cases d with
  | host => dsimp only; split
            · simp
            · split <;> rfl
  | service => dsimp only; split <;> rfl
  | uplink _ _ => rfl
  | relay _ => rfl
@[simp] theorem sendReply_colour (s : State) (d : Source) (ws : List Word) : (s.sendReply d ws).colour = s.colour := by
  unfold State.sendReply
  cases d with
  | host => dsimp only; split
            · simp
            · split <;> rfl
  | service => dsimp only; split <;> rfl
  | uplink _ _ => rfl
  | relay _ => rfl
@[simp] theorem sendReply_harness (s : State) (d : Source) (ws : List Word) : (s.sendReply d ws).harness = s.harness := by
  unfold State.sendReply
  cases d with
  | host => dsimp only; split
            · simp
            · split <;> rfl
  | service => dsimp only; split <;> rfl
  | uplink _ _ => rfl
  | relay _ => rfl
@[simp] theorem sendReply_presence (s : State) (d : Source) (ws : List Word) : (s.sendReply d ws).presence = s.presence := by
  unfold State.sendReply
  cases d with
  | host => dsimp only; split
            · simp
            · split <;> rfl
  | service => dsimp only; split <;> rfl
  | uplink _ _ => rfl
  | relay _ => rfl
@[simp] theorem sendReply_prog (s : State) (d : Source) (ws : List Word) : (s.sendReply d ws).prog = s.prog := by
  unfold State.sendReply
  cases d with
  | host => dsimp only; split
            · simp
            · split <;> rfl
  | service => dsimp only; split <;> rfl
  | uplink _ _ => rfl
  | relay _ => rfl
@[simp] theorem sendReply_net (s : State) (d : Source) (ws : List Word) : (s.sendReply d ws).net = s.net := by
  unfold State.sendReply
  cases d with
  | host => dsimp only; split
            · simp
            · split <;> rfl
  | service => dsimp only; split <;> rfl
  | uplink _ _ => rfl
  | relay _ => rfl
@[simp] theorem sendReply_time (s : State) (d : Source) (ws : List Word) : (s.sendReply d ws).time = s.time := by
  unfold State.sendReply
  cases d with
  | host => dsimp only; split
            · simp
            · split <;> rfl
  | service => dsimp only; split <;> rfl
  | uplink _ _ => rfl
  | relay _ => rfl
@[simp] theorem sendReply_relay (s : State) (d : Source) (ws : List Word) : (s.sendReply d ws).relay = s.relay := by
  unfold State.sendReply
  cases d with
  | host => dsimp only; split
            · simp
            · split <;> rfl
  | service => dsimp only; split <;> rfl
  | uplink _ _ => rfl
  | relay _ => rfl
@[simp] theorem sendReply_storage (s : State) (d : Source) (ws : List Word) : (s.sendReply d ws).storage = s.storage := by
  unfold State.sendReply
  cases d with
  | host => dsimp only; split
            · simp
            · split <;> rfl
  | service => dsimp only; split <;> rfl
  | uplink _ _ => rfl
  | relay _ => rfl
@[simp] theorem sendReply_sense (s : State) (d : Source) (ws : List Word) : (s.sendReply d ws).sense = s.sense := by
  unfold State.sendReply
  cases d with
  | host => dsimp only; split
            · simp
            · split <;> rfl
  | service => dsimp only; split <;> rfl
  | uplink _ _ => rfl
  | relay _ => rfl
@[simp] theorem sendReply_waybill (s : State) (d : Source) (ws : List Word) : (s.sendReply d ws).waybill = s.waybill := by
  unfold State.sendReply
  cases d with
  | host => dsimp only; split
            · simp
            · split <;> rfl
  | service => dsimp only; split <;> rfl
  | uplink _ _ => rfl
  | relay _ => rfl
@[simp] theorem sendReply_vault (s : State) (d : Source) (ws : List Word) : (s.sendReply d ws).vault = s.vault := by
  unfold State.sendReply
  cases d with
  | host => dsimp only; split
            · simp
            · split <;> rfl
  | service => dsimp only; split <;> rfl
  | uplink _ _ => rfl
  | relay _ => rfl
@[simp] theorem sendReply_update (s : State) (d : Source) (ws : List Word) : (s.sendReply d ws).update = s.update := by
  unfold State.sendReply
  cases d with
  | host => dsimp only; split
            · simp
            · split <;> rfl
  | service => dsimp only; split <;> rfl
  | uplink _ _ => rfl
  | relay _ => rfl
@[simp] theorem sendReply_tandem (s : State) (d : Source) (ws : List Word) : (s.sendReply d ws).tandem = s.tandem := by
  unfold State.sendReply
  cases d with
  | host => dsimp only; split
            · simp
            · split <;> rfl
  | service => dsimp only; split <;> rfl
  | uplink _ _ => rfl
  | relay _ => rfl
@[simp] theorem sendReply_power (s : State) (d : Source) (ws : List Word) : (s.sendReply d ws).power = s.power := by
  unfold State.sendReply
  cases d with
  | host => dsimp only; split
            · simp
            · split <;> rfl
  | service => dsimp only; split <;> rfl
  | uplink _ _ => rfl
  | relay _ => rfl
@[simp] theorem sendReply_test (s : State) (d : Source) (ws : List Word) : (s.sendReply d ws).test = s.test := by
  unfold State.sendReply
  cases d with
  | host => dsimp only; split
            · simp
            · split <;> rfl
  | service => dsimp only; split <;> rfl
  | uplink _ _ => rfl
  | relay _ => rfl

@[simp] theorem reply_pending (s : State) (q : Request) (key : Option Nat) (crc : Word) (r : Result) : (s.reply q key crc r).pending = s.pending := by simp [State.reply]
@[simp] theorem reply_now (s : State) (q : Request) (key : Option Nat) (crc : Word) (r : Result) : (s.reply q key crc r).now = s.now := by simp [State.reply]
@[simp] theorem reply_tickBase (s : State) (q : Request) (key : Option Nat) (crc : Word) (r : Result) : (s.reply q key crc r).tickBase = s.tickBase := by simp [State.reply]
@[simp] theorem reply_tcxoStopped (s : State) (q : Request) (key : Option Nat) (crc : Word) (r : Result) : (s.reply q key crc r).tcxoStopped = s.tcxoStopped := by simp [State.reply]
@[simp] theorem reply_spineLocked (s : State) (q : Request) (key : Option Nat) (crc : Word) (r : Result) : (s.reply q key crc r).spineLocked = s.spineLocked := by simp [State.reply]
@[simp] theorem reply_unlockedAt (s : State) (q : Request) (key : Option Nat) (crc : Word) (r : Result) : (s.reply q key crc r).unlockedAt = s.unlockedAt := by simp [State.reply]
@[simp] theorem reply_coldAt (s : State) (q : Request) (key : Option Nat) (crc : Word) (r : Result) : (s.reply q key crc r).coldAt = s.coldAt := by simp [State.reply]
@[simp] theorem reply_draws (s : State) (q : Request) (key : Option Nat) (crc : Word) (r : Result) : (s.reply q key crc r).draws = s.draws := by simp [State.reply]
@[simp] theorem reply_marked (s : State) (q : Request) (key : Option Nat) (crc : Word) (r : Result) : (s.reply q key crc r).marked = s.marked := by simp [State.reply]
@[simp] theorem reply_drive (s : State) (q : Request) (key : Option Nat) (crc : Word) (r : Result) : (s.reply q key crc r).drive = s.drive := by simp [State.reply]
@[simp] theorem reply_diag (s : State) (q : Request) (key : Option Nat) (crc : Word) (r : Result) : (s.reply q key crc r).diag = s.diag := by simp [State.reply]
@[simp] theorem reply_colour (s : State) (q : Request) (key : Option Nat) (crc : Word) (r : Result) : (s.reply q key crc r).colour = s.colour := by simp [State.reply]
@[simp] theorem reply_harness (s : State) (q : Request) (key : Option Nat) (crc : Word) (r : Result) : (s.reply q key crc r).harness = s.harness := by simp [State.reply]
@[simp] theorem reply_presence (s : State) (q : Request) (key : Option Nat) (crc : Word) (r : Result) : (s.reply q key crc r).presence = s.presence := by simp [State.reply]
@[simp] theorem reply_prog (s : State) (q : Request) (key : Option Nat) (crc : Word) (r : Result) : (s.reply q key crc r).prog = s.prog := by simp [State.reply]
@[simp] theorem reply_net (s : State) (q : Request) (key : Option Nat) (crc : Word) (r : Result) : (s.reply q key crc r).net = s.net := by simp [State.reply]
@[simp] theorem reply_time (s : State) (q : Request) (key : Option Nat) (crc : Word) (r : Result) : (s.reply q key crc r).time = s.time := by simp [State.reply]
@[simp] theorem reply_relay (s : State) (q : Request) (key : Option Nat) (crc : Word) (r : Result) : (s.reply q key crc r).relay = s.relay := by simp [State.reply]
@[simp] theorem reply_storage (s : State) (q : Request) (key : Option Nat) (crc : Word) (r : Result) : (s.reply q key crc r).storage = s.storage := by simp [State.reply]
@[simp] theorem reply_sense (s : State) (q : Request) (key : Option Nat) (crc : Word) (r : Result) : (s.reply q key crc r).sense = s.sense := by simp [State.reply]
@[simp] theorem reply_waybill (s : State) (q : Request) (key : Option Nat) (crc : Word) (r : Result) : (s.reply q key crc r).waybill = s.waybill := by simp [State.reply]
@[simp] theorem reply_vault (s : State) (q : Request) (key : Option Nat) (crc : Word) (r : Result) : (s.reply q key crc r).vault = s.vault := by simp [State.reply]
@[simp] theorem reply_update (s : State) (q : Request) (key : Option Nat) (crc : Word) (r : Result) : (s.reply q key crc r).update = s.update := by simp [State.reply]
@[simp] theorem reply_tandem (s : State) (q : Request) (key : Option Nat) (crc : Word) (r : Result) : (s.reply q key crc r).tandem = s.tandem := by simp [State.reply]
@[simp] theorem reply_power (s : State) (q : Request) (key : Option Nat) (crc : Word) (r : Result) : (s.reply q key crc r).power = s.power := by simp [State.reply]
@[simp] theorem reply_test (s : State) (q : Request) (key : Option Nat) (crc : Word) (r : Result) : (s.reply q key crc r).test = s.test := by simp [State.reply]

@[simp] theorem note_pending (s : State) (tr : Transport) (p : Packet) (k : Session) (gaps : Nat) : (s.note tr p k gaps).pending = s.pending := by
  unfold State.note State.taken; dsimp only; split <;> simp
@[simp] theorem note_now (s : State) (tr : Transport) (p : Packet) (k : Session) (gaps : Nat) : (s.note tr p k gaps).now = s.now := by
  unfold State.note State.taken; dsimp only; split <;> simp
@[simp] theorem note_tickBase (s : State) (tr : Transport) (p : Packet) (k : Session) (gaps : Nat) : (s.note tr p k gaps).tickBase = s.tickBase := by
  unfold State.note State.taken; dsimp only; split <;> simp
@[simp] theorem note_tcxoStopped (s : State) (tr : Transport) (p : Packet) (k : Session) (gaps : Nat) : (s.note tr p k gaps).tcxoStopped = s.tcxoStopped := by
  unfold State.note State.taken; dsimp only; split <;> simp
@[simp] theorem note_spineLocked (s : State) (tr : Transport) (p : Packet) (k : Session) (gaps : Nat) : (s.note tr p k gaps).spineLocked = s.spineLocked := by
  unfold State.note State.taken; dsimp only; split <;> simp
@[simp] theorem note_unlockedAt (s : State) (tr : Transport) (p : Packet) (k : Session) (gaps : Nat) : (s.note tr p k gaps).unlockedAt = s.unlockedAt := by
  unfold State.note State.taken; dsimp only; split <;> simp
@[simp] theorem note_coldAt (s : State) (tr : Transport) (p : Packet) (k : Session) (gaps : Nat) : (s.note tr p k gaps).coldAt = s.coldAt := by
  unfold State.note State.taken; dsimp only; split <;> simp
@[simp] theorem note_draws (s : State) (tr : Transport) (p : Packet) (k : Session) (gaps : Nat) : (s.note tr p k gaps).draws = s.draws := by
  unfold State.note State.taken; dsimp only; split <;> simp
@[simp] theorem note_marked (s : State) (tr : Transport) (p : Packet) (k : Session) (gaps : Nat) : (s.note tr p k gaps).marked = s.marked := by
  unfold State.note State.taken; dsimp only; split <;> simp
@[simp] theorem note_drive (s : State) (tr : Transport) (p : Packet) (k : Session) (gaps : Nat) : (s.note tr p k gaps).drive = s.drive := by
  unfold State.note State.taken; dsimp only; split <;> simp
@[simp] theorem note_diag (s : State) (tr : Transport) (p : Packet) (k : Session) (gaps : Nat) : (s.note tr p k gaps).diag = s.diag := by
  unfold State.note State.taken; dsimp only; split <;> simp
@[simp] theorem note_colour (s : State) (tr : Transport) (p : Packet) (k : Session) (gaps : Nat) : (s.note tr p k gaps).colour = s.colour := by
  unfold State.note State.taken; dsimp only; split <;> simp
@[simp] theorem note_harness (s : State) (tr : Transport) (p : Packet) (k : Session) (gaps : Nat) : (s.note tr p k gaps).harness = s.harness := by
  unfold State.note State.taken; dsimp only; split <;> simp
@[simp] theorem note_presence (s : State) (tr : Transport) (p : Packet) (k : Session) (gaps : Nat) : (s.note tr p k gaps).presence = s.presence := by
  unfold State.note State.taken; dsimp only; split <;> simp
@[simp] theorem note_prog (s : State) (tr : Transport) (p : Packet) (k : Session) (gaps : Nat) : (s.note tr p k gaps).prog = s.prog := by
  unfold State.note State.taken; dsimp only; split <;> simp
@[simp] theorem note_net (s : State) (tr : Transport) (p : Packet) (k : Session) (gaps : Nat) : (s.note tr p k gaps).net = s.net := by
  unfold State.note State.taken; dsimp only; split <;> simp
@[simp] theorem note_time (s : State) (tr : Transport) (p : Packet) (k : Session) (gaps : Nat) : (s.note tr p k gaps).time = s.time := by
  unfold State.note State.taken; dsimp only; split <;> simp
@[simp] theorem note_relay (s : State) (tr : Transport) (p : Packet) (k : Session) (gaps : Nat) : (s.note tr p k gaps).relay = s.relay := by
  unfold State.note State.taken; dsimp only; split <;> simp
@[simp] theorem note_storage (s : State) (tr : Transport) (p : Packet) (k : Session) (gaps : Nat) : (s.note tr p k gaps).storage = s.storage := by
  unfold State.note State.taken; dsimp only; split <;> simp
@[simp] theorem note_sense (s : State) (tr : Transport) (p : Packet) (k : Session) (gaps : Nat) : (s.note tr p k gaps).sense = s.sense := by
  unfold State.note State.taken; dsimp only; split <;> simp
@[simp] theorem note_waybill (s : State) (tr : Transport) (p : Packet) (k : Session) (gaps : Nat) : (s.note tr p k gaps).waybill = s.waybill := by
  unfold State.note State.taken; dsimp only; split <;> simp
@[simp] theorem note_vault (s : State) (tr : Transport) (p : Packet) (k : Session) (gaps : Nat) : (s.note tr p k gaps).vault = s.vault := by
  unfold State.note State.taken; dsimp only; split <;> simp
@[simp] theorem note_update (s : State) (tr : Transport) (p : Packet) (k : Session) (gaps : Nat) : (s.note tr p k gaps).update = s.update := by
  unfold State.note State.taken; dsimp only; split <;> simp
@[simp] theorem note_tandem (s : State) (tr : Transport) (p : Packet) (k : Session) (gaps : Nat) : (s.note tr p k gaps).tandem = s.tandem := by
  unfold State.note State.taken; dsimp only; split <;> simp
@[simp] theorem note_power (s : State) (tr : Transport) (p : Packet) (k : Session) (gaps : Nat) : (s.note tr p k gaps).power = s.power := by
  unfold State.note State.taken; dsimp only; split <;> simp
@[simp] theorem note_test (s : State) (tr : Transport) (p : Packet) (k : Session) (gaps : Nat) : (s.note tr p k gaps).test = s.test := by
  unfold State.note State.taken; dsimp only; split <;> simp

@[simp] theorem admit_pending (s : State) (tr : Transport) (p : Packet) (k : Session) (gaps : Nat) : (s.letIn tr p k gaps).pending = s.pending := by
  unfold State.letIn; dsimp only; split <;> simp
@[simp] theorem admit_now (s : State) (tr : Transport) (p : Packet) (k : Session) (gaps : Nat) : (s.letIn tr p k gaps).now = s.now := by
  unfold State.letIn; dsimp only; split <;> simp
@[simp] theorem admit_tickBase (s : State) (tr : Transport) (p : Packet) (k : Session) (gaps : Nat) : (s.letIn tr p k gaps).tickBase = s.tickBase := by
  unfold State.letIn; dsimp only; split <;> simp
@[simp] theorem admit_tcxoStopped (s : State) (tr : Transport) (p : Packet) (k : Session) (gaps : Nat) : (s.letIn tr p k gaps).tcxoStopped = s.tcxoStopped := by
  unfold State.letIn; dsimp only; split <;> simp
@[simp] theorem admit_spineLocked (s : State) (tr : Transport) (p : Packet) (k : Session) (gaps : Nat) : (s.letIn tr p k gaps).spineLocked = s.spineLocked := by
  unfold State.letIn; dsimp only; split <;> simp
@[simp] theorem admit_unlockedAt (s : State) (tr : Transport) (p : Packet) (k : Session) (gaps : Nat) : (s.letIn tr p k gaps).unlockedAt = s.unlockedAt := by
  unfold State.letIn; dsimp only; split <;> simp
@[simp] theorem admit_coldAt (s : State) (tr : Transport) (p : Packet) (k : Session) (gaps : Nat) : (s.letIn tr p k gaps).coldAt = s.coldAt := by
  unfold State.letIn; dsimp only; split <;> simp
@[simp] theorem admit_draws (s : State) (tr : Transport) (p : Packet) (k : Session) (gaps : Nat) : (s.letIn tr p k gaps).draws = s.draws := by
  unfold State.letIn; dsimp only; split <;> simp
@[simp] theorem admit_marked (s : State) (tr : Transport) (p : Packet) (k : Session) (gaps : Nat) : (s.letIn tr p k gaps).marked = s.marked := by
  unfold State.letIn; dsimp only; split <;> simp
@[simp] theorem admit_drive (s : State) (tr : Transport) (p : Packet) (k : Session) (gaps : Nat) : (s.letIn tr p k gaps).drive = s.drive := by
  unfold State.letIn; dsimp only; split <;> simp
@[simp] theorem admit_diag (s : State) (tr : Transport) (p : Packet) (k : Session) (gaps : Nat) : (s.letIn tr p k gaps).diag = s.diag := by
  unfold State.letIn; dsimp only; split <;> simp
@[simp] theorem admit_colour (s : State) (tr : Transport) (p : Packet) (k : Session) (gaps : Nat) : (s.letIn tr p k gaps).colour = s.colour := by
  unfold State.letIn; dsimp only; split <;> simp
@[simp] theorem admit_harness (s : State) (tr : Transport) (p : Packet) (k : Session) (gaps : Nat) : (s.letIn tr p k gaps).harness = s.harness := by
  unfold State.letIn; dsimp only; split <;> simp
@[simp] theorem admit_presence (s : State) (tr : Transport) (p : Packet) (k : Session) (gaps : Nat) : (s.letIn tr p k gaps).presence = s.presence := by
  unfold State.letIn; dsimp only; split <;> simp
@[simp] theorem admit_prog (s : State) (tr : Transport) (p : Packet) (k : Session) (gaps : Nat) : (s.letIn tr p k gaps).prog = s.prog := by
  unfold State.letIn; dsimp only; split <;> simp
@[simp] theorem admit_net (s : State) (tr : Transport) (p : Packet) (k : Session) (gaps : Nat) : (s.letIn tr p k gaps).net = s.net := by
  unfold State.letIn; dsimp only; split <;> simp
@[simp] theorem admit_time (s : State) (tr : Transport) (p : Packet) (k : Session) (gaps : Nat) : (s.letIn tr p k gaps).time = s.time := by
  unfold State.letIn; dsimp only; split <;> simp
@[simp] theorem admit_relay (s : State) (tr : Transport) (p : Packet) (k : Session) (gaps : Nat) : (s.letIn tr p k gaps).relay = s.relay := by
  unfold State.letIn; dsimp only; split <;> simp
@[simp] theorem admit_storage (s : State) (tr : Transport) (p : Packet) (k : Session) (gaps : Nat) : (s.letIn tr p k gaps).storage = s.storage := by
  unfold State.letIn; dsimp only; split <;> simp
@[simp] theorem admit_sense (s : State) (tr : Transport) (p : Packet) (k : Session) (gaps : Nat) : (s.letIn tr p k gaps).sense = s.sense := by
  unfold State.letIn; dsimp only; split <;> simp
@[simp] theorem admit_waybill (s : State) (tr : Transport) (p : Packet) (k : Session) (gaps : Nat) : (s.letIn tr p k gaps).waybill = s.waybill := by
  unfold State.letIn; dsimp only; split <;> simp
@[simp] theorem admit_vault (s : State) (tr : Transport) (p : Packet) (k : Session) (gaps : Nat) : (s.letIn tr p k gaps).vault = s.vault := by
  unfold State.letIn; dsimp only; split <;> simp
@[simp] theorem admit_update (s : State) (tr : Transport) (p : Packet) (k : Session) (gaps : Nat) : (s.letIn tr p k gaps).update = s.update := by
  unfold State.letIn; dsimp only; split <;> simp
@[simp] theorem admit_tandem (s : State) (tr : Transport) (p : Packet) (k : Session) (gaps : Nat) : (s.letIn tr p k gaps).tandem = s.tandem := by
  unfold State.letIn; dsimp only; split <;> simp
@[simp] theorem admit_power (s : State) (tr : Transport) (p : Packet) (k : Session) (gaps : Nat) : (s.letIn tr p k gaps).power = s.power := by
  unfold State.letIn; dsimp only; split <;> simp
@[simp] theorem admit_test (s : State) (tr : Transport) (p : Packet) (k : Session) (gaps : Nat) : (s.letIn tr p k gaps).test = s.test := by
  unfold State.letIn; dsimp only; split <;> simp

@[simp] theorem conclude_pending (s : State) (ans : Answer) (tr : Transport) (p : Packet) (k : Session) : (s.conclude ans tr p k).pending = s.pending := by
  unfold State.conclude; cases ans <;> dsimp only <;> split <;> simp <;> split <;> simp
@[simp] theorem conclude_now (s : State) (ans : Answer) (tr : Transport) (p : Packet) (k : Session) : (s.conclude ans tr p k).now = s.now := by
  unfold State.conclude; cases ans <;> dsimp only <;> split <;> simp <;> split <;> simp
@[simp] theorem conclude_tickBase (s : State) (ans : Answer) (tr : Transport) (p : Packet) (k : Session) : (s.conclude ans tr p k).tickBase = s.tickBase := by
  unfold State.conclude; cases ans <;> dsimp only <;> split <;> simp <;> split <;> simp
@[simp] theorem conclude_tcxoStopped (s : State) (ans : Answer) (tr : Transport) (p : Packet) (k : Session) : (s.conclude ans tr p k).tcxoStopped = s.tcxoStopped := by
  unfold State.conclude; cases ans <;> dsimp only <;> split <;> simp <;> split <;> simp
@[simp] theorem conclude_spineLocked (s : State) (ans : Answer) (tr : Transport) (p : Packet) (k : Session) : (s.conclude ans tr p k).spineLocked = s.spineLocked := by
  unfold State.conclude; cases ans <;> dsimp only <;> split <;> simp <;> split <;> simp
@[simp] theorem conclude_unlockedAt (s : State) (ans : Answer) (tr : Transport) (p : Packet) (k : Session) : (s.conclude ans tr p k).unlockedAt = s.unlockedAt := by
  unfold State.conclude; cases ans <;> dsimp only <;> split <;> simp <;> split <;> simp
@[simp] theorem conclude_coldAt (s : State) (ans : Answer) (tr : Transport) (p : Packet) (k : Session) : (s.conclude ans tr p k).coldAt = s.coldAt := by
  unfold State.conclude; cases ans <;> dsimp only <;> split <;> simp <;> split <;> simp
@[simp] theorem conclude_draws (s : State) (ans : Answer) (tr : Transport) (p : Packet) (k : Session) : (s.conclude ans tr p k).draws = s.draws := by
  unfold State.conclude; cases ans <;> dsimp only <;> split <;> simp <;> split <;> simp
@[simp] theorem conclude_marked (s : State) (ans : Answer) (tr : Transport) (p : Packet) (k : Session) : (s.conclude ans tr p k).marked = s.marked := by
  unfold State.conclude; cases ans <;> dsimp only <;> split <;> simp <;> split <;> simp
@[simp] theorem conclude_drive (s : State) (ans : Answer) (tr : Transport) (p : Packet) (k : Session) : (s.conclude ans tr p k).drive = s.drive := by
  unfold State.conclude; cases ans <;> dsimp only <;> split <;> simp <;> split <;> simp
@[simp] theorem conclude_diag (s : State) (ans : Answer) (tr : Transport) (p : Packet) (k : Session) : (s.conclude ans tr p k).diag = s.diag := by
  unfold State.conclude; cases ans <;> dsimp only <;> split <;> simp <;> split <;> simp
@[simp] theorem conclude_colour (s : State) (ans : Answer) (tr : Transport) (p : Packet) (k : Session) : (s.conclude ans tr p k).colour = s.colour := by
  unfold State.conclude; cases ans <;> dsimp only <;> split <;> simp <;> split <;> simp
@[simp] theorem conclude_harness (s : State) (ans : Answer) (tr : Transport) (p : Packet) (k : Session) : (s.conclude ans tr p k).harness = s.harness := by
  unfold State.conclude; cases ans <;> dsimp only <;> split <;> simp <;> split <;> simp
@[simp] theorem conclude_presence (s : State) (ans : Answer) (tr : Transport) (p : Packet) (k : Session) : (s.conclude ans tr p k).presence = s.presence := by
  unfold State.conclude; cases ans <;> dsimp only <;> split <;> simp <;> split <;> simp
@[simp] theorem conclude_prog (s : State) (ans : Answer) (tr : Transport) (p : Packet) (k : Session) : (s.conclude ans tr p k).prog = s.prog := by
  unfold State.conclude; cases ans <;> dsimp only <;> split <;> simp <;> split <;> simp
@[simp] theorem conclude_net (s : State) (ans : Answer) (tr : Transport) (p : Packet) (k : Session) : (s.conclude ans tr p k).net = s.net := by
  unfold State.conclude; cases ans <;> dsimp only <;> split <;> simp <;> split <;> simp
@[simp] theorem conclude_time (s : State) (ans : Answer) (tr : Transport) (p : Packet) (k : Session) : (s.conclude ans tr p k).time = s.time := by
  unfold State.conclude; cases ans <;> dsimp only <;> split <;> simp <;> split <;> simp
@[simp] theorem conclude_relay (s : State) (ans : Answer) (tr : Transport) (p : Packet) (k : Session) : (s.conclude ans tr p k).relay = s.relay := by
  unfold State.conclude; cases ans <;> dsimp only <;> split <;> simp <;> split <;> simp
@[simp] theorem conclude_storage (s : State) (ans : Answer) (tr : Transport) (p : Packet) (k : Session) : (s.conclude ans tr p k).storage = s.storage := by
  unfold State.conclude; cases ans <;> dsimp only <;> split <;> simp <;> split <;> simp
@[simp] theorem conclude_sense (s : State) (ans : Answer) (tr : Transport) (p : Packet) (k : Session) : (s.conclude ans tr p k).sense = s.sense := by
  unfold State.conclude; cases ans <;> dsimp only <;> split <;> simp <;> split <;> simp
@[simp] theorem conclude_waybill (s : State) (ans : Answer) (tr : Transport) (p : Packet) (k : Session) : (s.conclude ans tr p k).waybill = s.waybill := by
  unfold State.conclude; cases ans <;> dsimp only <;> split <;> simp <;> split <;> simp
@[simp] theorem conclude_vault (s : State) (ans : Answer) (tr : Transport) (p : Packet) (k : Session) : (s.conclude ans tr p k).vault = s.vault := by
  unfold State.conclude; cases ans <;> dsimp only <;> split <;> simp <;> split <;> simp
@[simp] theorem conclude_update (s : State) (ans : Answer) (tr : Transport) (p : Packet) (k : Session) : (s.conclude ans tr p k).update = s.update := by
  unfold State.conclude; cases ans <;> dsimp only <;> split <;> simp <;> split <;> simp
@[simp] theorem conclude_tandem (s : State) (ans : Answer) (tr : Transport) (p : Packet) (k : Session) : (s.conclude ans tr p k).tandem = s.tandem := by
  unfold State.conclude; cases ans <;> dsimp only <;> split <;> simp <;> split <;> simp
@[simp] theorem conclude_power (s : State) (ans : Answer) (tr : Transport) (p : Packet) (k : Session) : (s.conclude ans tr p k).power = s.power := by
  unfold State.conclude; cases ans <;> dsimp only <;> split <;> simp <;> split <;> simp
@[simp] theorem conclude_test (s : State) (ans : Answer) (tr : Transport) (p : Packet) (k : Session) : (s.conclude ans tr p k).test = s.test := by
  unfold State.conclude; cases ans <;> dsimp only <;> split <;> simp <;> split <;> simp

/-- The dispatch of an accepted packet and its answer, in terms of its opcode's effect. -/
theorem answer_eq_conclude (n : State) (body : Body) (p : Packet) (k : Session) :
    (let q := p.request k
     let r : Result × State :=
       match body q (if p.usesTicket then
         n.modifySession q.session (fun k => k.putTicket ⟨q.ticket, none, false⟩) else n) with
       | (.later, s) => (fail stPending, s)
       | (.done r, s) =>
         (r, if p.usesTicket then
               s.modifySession q.session (fun k => k.putTicket ⟨q.ticket, some (s.now, r), true⟩)
             else s)
     let key := if k.slot ≠ 0xFF ∧ ((headerOf p.data).tagged ∨ (headerOf p.data).opcode = 0x01) then some k.key else none
     let s := if key.isSome then r.2.keyUse .tagMake p.source.transport.master k.slot else r.2
     s.reply q key (p.data.getLastD 0) r.1) =
    (let q := p.request k
     let x := body q (if p.usesTicket then
         n.modifySession q.session (fun k => k.putTicket ⟨q.ticket, none, false⟩) else n)
     x.2.conclude x.1 p.source.transport p k) := by
  dsimp only
  generalize body (p.request k) _ = x
  rcases x with ⟨ans, a⟩
  cases ans <;> rfl

/-- Everything an accepted packet can do: its opcode acts in the admitted state, and the answer follows. -/
theorem onPacket_accepted {s : State} {tr : Transport} {row : PacketRow} {kindOf : Request → OpKind} {p : Packet}
    {k : Session} {gaps : Nat} (h : Accepted s tr row kindOf p k gaps) (body : Body) :
    s.onPacket tr row kindOf body =
      (body (p.request k) (s.letIn tr p k gaps)).2.conclude (body (p.request k) (s.letIn tr p k gaps)).1 tr p k := by
  obtain ⟨⟨role, kd⟩, hop, hrole⟩ := h.role
  have htr := h.transport
  have hpass := h.passes
  subst htr
  have hmode : ((s.note p.source.transport p k gaps).farrier && !farrierOpcode (p.request k).opcode) = false := by
    rw [farrier_of_power (note_power s _ p k gaps)]; exact h.mode
  have hd := dispatch_accepted (s := s.note p.source.transport p k gaps) (q := p.request k) body hop hrole hmode
    h.ticket
  have hi : s.interpret p kindOf body =
      (let r := State.dispatch (s.note p.source.transport p k gaps) body kindOf (p.request k) (some k)
       let key := if k.slot ≠ 0xFF ∧ ((headerOf p.data).tagged ∨ (headerOf p.data).opcode = 0x01) then some k.key else none
       let s := if key.isSome then r.2.keyUse .tagMake p.source.transport.master k.slot else r.2
       s.reply (p.request k) key (p.data.getLastD 0) r.1) := by
    unfold State.interpret
    dsimp only
    unfold State.taken at hpass
    rw [hpass]
    rfl
  unfold State.onPacket
  rw [if_neg (by simp [h.awake, h.room, h.turn]), h.front]
  dsimp only
  rw [if_pos h.row_eq, hi, hd]
  exact answer_eq_conclude (s.note p.source.transport p k gaps) body p k

/-! ### Boundary commands and sessions -/

@[simp] theorem dropPacket_boundary (s : State) (tr : Transport) :
    (s.dropPacket tr).bridle.boundary = s.bridle.boundary := by cases tr <;> rfl

@[simp] theorem modifySession_boundary (s : State) (i : Nat) (g : Session → Session) :
    (s.modifySession i g).bridle.boundary = s.bridle.boundary := rfl

@[simp] theorem sendReply_boundary (s : State) (d : Source) (ws : List Word) :
    (s.sendReply d ws).bridle.boundary = s.bridle.boundary := by
  unfold State.sendReply
  cases d with
  | host => dsimp only; split
            · rfl
            · split <;> rfl
  | service => dsimp only; split <;> rfl
  | uplink _ _ => rfl
  | relay _ => rfl

@[simp] theorem admit_boundary (s : State) (tr : Transport) (p : Packet) (k : Session) (gaps : Nat) :
    (s.letIn tr p k gaps).bridle.boundary = s.bridle.boundary := by
  unfold State.letIn State.note State.taken; dsimp only; split <;> simp <;> split <;> simp

@[simp] theorem conclude_boundary (s : State) (ans : Answer) (tr : Transport) (p : Packet) (k : Session) :
    (s.conclude ans tr p k).bridle.boundary = s.bridle.boundary := by
  unfold State.conclude State.reply; cases ans <;> dsimp only <;> split <;> simp <;> split <;> simp

@[simp] theorem sendReply_sessions (s : State) (d : Source) (ws : List Word) :
    (s.sendReply d ws).bridle.sessions = s.bridle.sessions := by
  unfold State.sendReply
  cases d with
  | host => dsimp only; split
            · rfl
            · split <;> rfl
  | service => dsimp only; split <;> rfl
  | uplink _ _ => rfl
  | relay _ => rfl

@[simp] theorem dropPacket_sessions (s : State) (tr : Transport) :
    (s.dropPacket tr).bridle.sessions = s.bridle.sessions := by cases tr <;> rfl

theorem find_map_id {l : List Session} {i : Nat} {g : Session → Session} (hg : ∀ k, (g k).id = k.id) :
    (l.map (fun k => if k.id = i then g k else k)).find? (fun k => k.id == i) =
      (l.find? (fun k => k.id == i)).map g := by
  induction l with
  | nil => rfl
  | cons k rest ih =>
    by_cases h : k.id = i
    · simp [h, hg]
    · simp [h, ih]

/-- A session changed in place is found changed. -/
theorem session_modifySession (s : State) (i : Nat) (g : Session → Session) (hg : ∀ k, (g k).id = k.id) :
    (s.modifySession i g).session i = (s.session i).map g := find_map_id hg

/-- Changing a session in place opens and closes none. -/
theorem session_modify_isSome (s : State) (i j : Nat) (g : Session → Session) (hg : ∀ x, (g x).id = x.id) :
    ((s.modifySession i g).session j).isSome = (s.session j).isSome := by
  have : ∀ l : List Session, ((l.map (fun x => if x.id = i then g x else x)).find? (fun x => x.id == j)).isSome =
      (l.find? (fun x => x.id == j)).isSome := by
    intro l
    induction l with
    | nil => rfl
    | cons x rest ih =>
      have hx : (if x.id = i then g x else x).id = x.id := by split <;> simp [hg]
      rw [List.map_cons, List.find?_cons, List.find?_cons, hx]
      cases x.id == j
      · exact ih
      · rfl
  exact this _

/-- Sessions are part of the command interface alone. -/
theorem session_of_bridle {u v : State} (h : v.bridle.sessions = u.bridle.sessions) (i : Nat) :
    v.session i = u.session i := by simp [State.session, h]

/-- A reply is the newest record of its session. -/
theorem reply_replied (u : State) (q : Request) (key : Option Nat) (crc : Word) (r : Result)
    (hu : (u.session q.session).isSome) : Replied (u.reply q key crc r) q r := by
  obtain ⟨x, hx⟩ := Option.isSome_iff_exists.1 hu
  let rec_ : Recorded := ⟨q.seq, q.opcode, q.ticket, crc, (fitReply q.limit r).payload, key.isSome⟩
  have h1 := session_modifySession u q.session (fun y => y.record rec_) (fun _ => rfl)
  rw [hx] at h1
  refine ⟨x.record rec_, rec_, ?_, rfl, rfl, rfl, rfl, rfl⟩
  exact (session_of_bridle (sendReply_sessions _ _ _) _).trans h1

/-- The answer to an accepted packet whose session is still open is its newest record. -/
theorem conclude_replied (a : State) (ans : Answer) (tr : Transport) (p : Packet) (k : Session)
    (hs : (a.session (p.request k).session).isSome) :
    Replied (a.conclude ans tr p k) (p.request k)
      (match ans with
       | .later => fail stPending
       | .done r => r) := by
  have hkey : ∀ (u : State) (b : Bool), (u.session (p.request k).session).isSome →
      ((if b then u.keyUse .tagMake tr.master k.slot else u).session (p.request k).session).isSome := by
    intro u b hu
    cases b
    · exact hu
    · rw [if_pos rfl]
      exact (congrArg Option.isSome (session_of_bridle (by rw [keyUse_bridle]) _)).trans hu
  unfold State.conclude
  cases ans with
  | later => exact reply_replied _ _ _ _ _ (hkey a _ hs)
  | done r =>
    refine reply_replied _ _ _ _ _ (hkey _ _ ?_)
    dsimp only
    split
    · rw [session_modify_isSome]
      · exact hs
      · intro _; rfl
    · exact hs

/-- A session open before a packet is accepted is open in the admitted state. -/
theorem letIn_session (s : State) (tr : Transport) (p : Packet) (k : Session) (gaps j : Nat) :
    ((s.letIn tr p k gaps).session j).isSome = (s.session j).isSome := by
  have hn : ((s.note tr p k gaps).session j).isSome = (s.session j).isSome := by
    unfold State.note
    dsimp only
    rw [session_modify_isSome]
    · have : ∀ u : State, u.bridle.sessions = s.bridle.sessions → (u.session j).isSome = (s.session j).isSome :=
        fun u h => by rw [session_of_bridle h]
      apply this
      split <;> simp [State.taken]
    · intro _; rfl
  unfold State.letIn
  dsimp only
  split
  · rw [session_modify_isSome]
    · exact hn
    · intro _; rfl
  · exact hn

/-- The packet's own session is open while its opcode acts. -/
theorem accepted_session {s : State} {tr : Transport} {row : PacketRow} {kindOf : Request → OpKind} {p : Packet}
    {k : Session} {gaps : Nat} (h : Accepted s tr row kindOf p k gaps) :
    ((s.letIn tr p k gaps).session (p.request k).session).isSome := by
  rw [letIn_session, show s.session (p.request k).session = some k from h.known]
  rfl

end Sys2Proof.Machine
end

