-- ==== Sys2Proof/Laws/Effects.lean ====
section
/-! SUPPORT.  How a command's effect follows from its meaning: every meaning is one `State.run`. -/

namespace Sys2Proof.Machine

open Sys2Proof

/-- A command whose meaning runs `f` brings about what `f` makes of the state at the command's instant. -/
theorem effectIs_of_run {c : Instr} {s v : State} {t : Nat} {f : State → State} (hc : exec c s = s.run t f)
    (hv : f (s.at_ t) = v) : EffectIs c t s v := by
  subst hv; exact hc

/-- A command whose meaning runs `f` completes with whatever holds of the state after `f`. -/
theorem completes_of_run {c : Instr} {s : State} {t : Nat} {f : State → State} {P : State → Prop}
    (hc : exec c s = s.run t f) (hP : P (s.after_ t f)) : Completes c s P := ⟨_, hc, hP⟩

/-- A packet command answers as its opcode's body says, on an accepted packet of its row. -/
theorem answers_of_body {c : Instr} {t : Nat} {s : State} {tr : Transport} {row : PacketRow}
    {kindOf : Request → OpKind} {hyp : Request → State → Prop} {ans : Request → State → Answer × State} {body : Body}
    (hc : exec c s = s.run t (fun s => s.onPacket tr row kindOf body))
    (hb : ∀ q a, hyp q a → body q a = ans q a) : Answers c t s tr row kindOf hyp ans := by
  intro p k gaps ha hy
  refine effectIs_of_run hc ?_
  show (s.at_ t).onPacket tr row kindOf body = _
  rw [onPacket_accepted ha body, hb _ _ hy]

/-- The same of a packet command on which something follows once its reply is sent. -/
theorem answersThen_of_body {c : Instr} {t : Nat} {s : State} {tr : Transport} {row : PacketRow}
    {kindOf : Request → OpKind} {hyp : Request → State → Prop} {ans : Request → State → Answer × State} {body : Body}
    {post : State → State} (hc : exec c s = s.run t (fun s => post (s.onPacket tr row kindOf body)))
    (hb : ∀ q a, hyp q a → body q a = ans q a) : AnswersThen c t s tr row kindOf hyp ans post := by
  intro p k gaps ha hy
  refine effectIs_of_run hc ?_
  show post ((s.at_ t).onPacket tr row kindOf body) = _
  rw [onPacket_accepted ha body, hb _ _ hy]

/-- Every command's meaning runs some function at its instant. -/
theorem exec_runs (c : Instr) (s : State) : ∃ (t : Nat) (f : State → State), exec c s = s.run t f := by
  cases c with
  | cycleBoundary _ => unfold exec execCycleBoundary; exact ⟨_, _, rfl⟩
  | cellComplete _ _ => unfold exec execCellComplete; exact ⟨_, _, rfl⟩
  | backPressureWait _ _ => unfold exec execBackPressureWait; exact ⟨_, _, rfl⟩
  | cellOverlong _ _ => unfold exec execCellOverlong; exact ⟨_, _, rfl⟩
  | cellParityError _ _ => unfold exec execCellParityError; exact ⟨_, _, rfl⟩
  | commit _ _ => unfold exec execCommit; exact ⟨_, _, rfl⟩
  | overrun _ => unfold exec execOverrun; exact ⟨_, _, rfl⟩
  | housekeeping _ => unfold exec execHousekeeping; exact ⟨_, _, rfl⟩
  | spineUnlock _ _ => unfold exec execSpineUnlock; exact ⟨_, _, rfl⟩
  | spineRelock _ => unfold exec execSpineRelock; exact ⟨_, _, rfl⟩
  | tcxoLoss _ => unfold exec execTcxoLoss; exact ⟨_, _, rfl⟩
  | tcxoReturn _ => unfold exec execTcxoReturn; exact ⟨_, _, rfl⟩
  | bankPeriodStart _ _ => unfold exec execBankPeriodStart; exact ⟨_, _, rfl⟩
  | lanePulseStart _ _ => unfold exec execLanePulseStart; exact ⟨_, _, rfl⟩
  | extraPeriodMark _ _ => unfold exec execExtraPeriodMark; exact ⟨_, _, rfl⟩
  | amplitudeEpoch _ _ => unfold exec execAmplitudeEpoch; exact ⟨_, _, rfl⟩
  | emltRise _ => unfold exec execEmltRise; exact ⟨_, _, rfl⟩
  | emltFall _ => unfold exec execEmltFall; exact ⟨_, _, rfl⟩
  | emltRelease _ => unfold exec execEmltRelease; exact ⟨_, _, rfl⟩
  | primaryTransaction _ _ _ _ => unfold exec execPrimaryTransaction; exact ⟨_, _, rfl⟩
  | acknowledgement _ _ _ => unfold exec execAcknowledgement; exact ⟨_, _, rfl⟩
  | repeatTransaction _ _ _ => unfold exec execRepeatTransaction; exact ⟨_, _, rfl⟩
  | readbackFrame _ _ _ => unfold exec execReadbackFrame; exact ⟨_, _, rfl⟩
  | decimatorSample _ _ _ => unfold exec execDecimatorSample; exact ⟨_, _, rfl⟩
  | streamStuck _ _ => unfold exec execStreamStuck; exact ⟨_, _, rfl⟩
  | streamValidAgain _ _ => unfold exec execStreamValidAgain; exact ⟨_, _, rfl⟩
  | zeroStale _ _ => unfold exec execZeroStale; exact ⟨_, _, rfl⟩
  | loopLimitWarning _ _ => unfold exec execLoopLimitWarning; exact ⟨_, _, rfl⟩
  | minuteClose _ => unfold exec execMinuteClose; exact ⟨_, _, rfl⟩
  | meterTotalsRecord _ => unfold exec execMeterTotalsRecord; exact ⟨_, _, rfl⟩
  | settingsRecord _ => unfold exec execSettingsRecord; exact ⟨_, _, rfl⟩
  | provingWindowExpiry _ _ => unfold exec execProvingWindowExpiry; exact ⟨_, _, rfl⟩
  | cardFaultState _ _ => unfold exec execCardFaultState; exact ⟨_, _, rfl⟩
  | derateBlind _ _ => unfold exec execDerateBlind; exact ⟨_, _, rfl⟩
  | noTempTimeout _ _ => unfold exec execNoTempTimeout; exact ⟨_, _, rfl⟩
  | trimUpdate _ _ => unfold exec execTrimUpdate; exact ⟨_, _, rfl⟩
  | trimLimitedWarning _ _ => unfold exec execTrimLimitedWarning; exact ⟨_, _, rfl⟩
  | faultLineChange _ _ _ => unfold exec execFaultLineChange; exact ⟨_, _, rfl⟩
  | cardEnumeration _ _ _ _ => unfold exec execCardEnumeration; exact ⟨_, _, rfl⟩
  | enumerationRetry _ _ => unfold exec execEnumerationRetry; exact ⟨_, _, rfl⟩
  | cardLost _ _ => unfold exec execCardLost; exact ⟨_, _, rfl⟩
  | bankResume _ _ => unfold exec execBankResume; exact ⟨_, _, rfl⟩
  | poleConflict _ => unfold exec execPoleConflict; exact ⟨_, _, rfl⟩
  | forceExpiry _ => unfold exec execForceExpiry; exact ⟨_, _, rfl⟩
  | warmRestartReady _ => unfold exec execWarmRestartReady; exact ⟨_, _, rfl⟩
  | coldRestartReset _ _ _ => unfold exec execColdRestartReset; exact ⟨_, _, rfl⟩
  | enumerationWaitEnd _ => unfold exec execEnumerationWaitEnd; exact ⟨_, _, rfl⟩
  | packetDiscard _ _ => unfold exec execPacketDiscard; exact ⟨_, _, rfl⟩
  | unassignedOpcode _ _ => unfold exec execUnassignedOpcode; exact ⟨_, _, rfl⟩
  | sessionOpen _ _ _ => unfold exec execSessionOpen; exact ⟨_, _, rfl⟩
  | sessionProve _ _ => unfold exec execSessionProve; exact ⟨_, _, rfl⟩
  | sessionClose _ _ => unfold exec execSessionClose; exact ⟨_, _, rfl⟩
  | result _ _ => unfold exec execResult; exact ⟨_, _, rfl⟩
  | ping _ _ => unfold exec execPing; exact ⟨_, _, rfl⟩
  | sessionList _ _ => unfold exec execSessionList; exact ⟨_, _, rfl⟩
  | get _ _ => unfold exec execGet; exact ⟨_, _, rfl⟩
  | set _ _ => unfold exec execSet; exact ⟨_, _, rfl⟩
  | force _ _ => unfold exec execForce; exact ⟨_, _, rfl⟩
  | release _ _ => unfold exec execRelease; exact ⟨_, _, rfl⟩
  | describe _ _ => unfold exec execDescribe; exact ⟨_, _, rfl⟩
  | channelSet _ _ => unfold exec execChannelSet; exact ⟨_, _, rfl⟩
  | channelClear _ _ => unfold exec execChannelClear; exact ⟨_, _, rfl⟩
  | teamSet _ _ => unfold exec execTeamSet; exact ⟨_, _, rfl⟩
  | teamClear _ _ => unfold exec execTeamClear; exact ⟨_, _, rfl⟩
  | teamRead _ _ => unfold exec execTeamRead; exact ⟨_, _, rfl⟩
  | progLoad _ _ => unfold exec execProgLoad; exact ⟨_, _, rfl⟩
  | progSwap _ _ => unfold exec execProgSwap; exact ⟨_, _, rfl⟩
  | progRevert _ _ => unfold exec execProgRevert; exact ⟨_, _, rfl⟩
  | progConst _ _ => unfold exec execProgConst; exact ⟨_, _, rfl⟩
  | progState _ _ => unfold exec execProgState; exact ⟨_, _, rfl⟩
  | progRead _ _ => unfold exec execProgRead; exact ⟨_, _, rfl⟩
  | progRestart _ _ => unfold exec execProgRestart; exact ⟨_, _, rfl⟩
  | progUpload _ _ => unfold exec execProgUpload; exact ⟨_, _, rfl⟩
  | timeRead _ _ => unfold exec execTimeRead; exact ⟨_, _, rfl⟩
  | timeSet _ _ => unfold exec execTimeSet; exact ⟨_, _, rfl⟩
  | schedLoad _ _ => unfold exec execSchedLoad; exact ⟨_, _, rfl⟩
  | schedRead _ _ => unfold exec execSchedRead; exact ⟨_, _, rfl⟩
  | wakeSet _ _ => unfold exec execWakeSet; exact ⟨_, _, rfl⟩
  | wbRead _ _ => unfold exec execWbRead; exact ⟨_, _, rfl⟩
  | wbFreeze _ _ => unfold exec execWbFreeze; exact ⟨_, _, rfl⟩
  | wbClear _ _ => unfold exec execWbClear; exact ⟨_, _, rfl⟩
  | wbSnapset _ _ => unfold exec execWbSnapset; exact ⟨_, _, rfl⟩
  | archiveInfo _ _ => unfold exec execArchiveInfo; exact ⟨_, _, rfl⟩
  | archiveRead _ _ => unfold exec execArchiveRead; exact ⟨_, _, rfl⟩
  | meterTotals _ _ => unfold exec execMeterTotals; exact ⟨_, _, rfl⟩
  | relayNodes _ _ => unfold exec execRelayNodes; exact ⟨_, _, rfl⟩
  | relayPermit _ _ => unfold exec execRelayPermit; exact ⟨_, _, rfl⟩
  | relayEvict _ _ => unfold exec execRelayEvict; exact ⟨_, _, rfl⟩
  | keyInfo _ _ => unfold exec execKeyInfo; exact ⟨_, _, rfl⟩
  | keyLoad _ _ => unfold exec execKeyLoad; exact ⟨_, _, rfl⟩
  | keyInvalidate _ _ => unfold exec execKeyInvalidate; exact ⟨_, _, rfl⟩
  | lifecycle _ _ => unfold exec execLifecycle; exact ⟨_, _, rfl⟩
  | updOpen _ _ => unfold exec execUpdOpen; exact ⟨_, _, rfl⟩
  | updData _ _ => unfold exec execUpdData; exact ⟨_, _, rfl⟩
  | updCommit _ _ => unfold exec execUpdCommit; exact ⟨_, _, rfl⟩
  | updAbort _ _ => unfold exec execUpdAbort; exact ⟨_, _, rfl⟩
  | updStatus _ _ => unfold exec execUpdStatus; exact ⟨_, _, rfl⟩
  | tandemStatus _ _ => unfold exec execTandemStatus; exact ⟨_, _, rfl⟩
  | tandemYield _ _ => unfold exec execTandemYield; exact ⟨_, _, rfl⟩
  | powerTolerance _ _ => unfold exec execPowerTolerance; exact ⟨_, _, rfl⟩
  | powerStatus _ _ => unfold exec execPowerStatus; exact ⟨_, _, rfl⟩
  | testStart _ _ => unfold exec execTestStart; exact ⟨_, _, rfl⟩
  | testRead _ _ => unfold exec execTestRead; exact ⟨_, _, rfl⟩
  | testStop _ _ => unfold exec execTestStop; exact ⟨_, _, rfl⟩
  | periodWrite _ _ => unfold exec execPeriodWrite; exact ⟨_, _, rfl⟩
  | staggerWrite _ _ => unfold exec execStaggerWrite; exact ⟨_, _, rfl⟩
  | teamSizeWrite _ _ => unfold exec execTeamSizeWrite; exact ⟨_, _, rfl⟩
  | dimModeWrite _ _ => unfold exec execDimModeWrite; exact ⟨_, _, rfl⟩
  | decimRatioWrite _ _ => unfold exec execDecimRatioWrite; exact ⟨_, _, rfl⟩
  | gainEstWrite _ _ => unfold exec execGainEstWrite; exact ⟨_, _, rfl⟩
  | vfRefWrite _ _ => unfold exec execVfRefWrite; exact ⟨_, _, rfl⟩
  | colourMethodWrite _ _ => unfold exec execColourMethodWrite; exact ⟨_, _, rfl⟩
  | fluxReferenceRecompute _ _ => unfold exec execFluxReferenceRecompute; exact ⟨_, _, rfl⟩
  | sensorCalWrite _ _ => unfold exec execSensorCalWrite; exact ⟨_, _, rfl⟩
  | cycleTimeWrite _ _ => unfold exec execCycleTimeWrite; exact ⟨_, _, rfl⟩
  | podZoneWrite _ _ => unfold exec execPodZoneWrite; exact ⟨_, _, rfl⟩
  | edgeEndpointWrite _ _ => unfold exec execEdgeEndpointWrite; exact ⟨_, _, rfl⟩
  | edgeBoundsWrite _ _ => unfold exec execEdgeBoundsWrite; exact ⟨_, _, rfl⟩
  | edgeHeadingWrite _ _ => unfold exec execEdgeHeadingWrite; exact ⟨_, _, rfl⟩
  | edgeTauWrite _ _ => unfold exec execEdgeTauWrite; exact ⟨_, _, rfl⟩
  | hpEventClear _ _ => unfold exec execHpEventClear; exact ⟨_, _, rfl⟩
  | ringModeWrite _ _ => unfold exec execRingModeWrite; exact ⟨_, _, rfl⟩
  | ipAddressWrite _ _ => unfold exec execIpAddressWrite; exact ⟨_, _, rfl⟩
  | calendarWrite _ _ => unfold exec execCalendarWrite; exact ⟨_, _, rfl⟩
  | tzOffsetWrite _ _ => unfold exec execTzOffsetWrite; exact ⟨_, _, rfl⟩
  | wakePeriodWrite _ _ => unfold exec execWakePeriodWrite; exact ⟨_, _, rfl⟩
  | alarmWrite _ _ => unfold exec execAlarmWrite; exact ⟨_, _, rfl⟩
  | relayConfigWrite _ _ => unfold exec execRelayConfigWrite; exact ⟨_, _, rfl⟩
  | rtFallbackWrite _ _ => unfold exec execRtFallbackWrite; exact ⟨_, _, rfl⟩
  | tandemEnableWrite _ _ => unfold exec execTandemEnableWrite; exact ⟨_, _, rfl⟩
  | toleranceWrite _ _ => unfold exec execToleranceWrite; exact ⟨_, _, rfl⟩
  | ejectWrite _ _ => unfold exec execEjectWrite; exact ⟨_, _, rfl⟩
  | adoptWrite _ _ => unfold exec execAdoptWrite; exact ⟨_, _, rfl⟩
  | snapsetWrite _ _ => unfold exec execSnapsetWrite; exact ⟨_, _, rfl⟩
  | tamperCfgWrite _ _ => unfold exec execTamperCfgWrite; exact ⟨_, _, rfl⟩
  | tamperLatchClear _ _ => unfold exec execTamperLatchClear; exact ⟨_, _, rfl⟩
  | updConfirmWrite _ _ => unfold exec execUpdConfirmWrite; exact ⟨_, _, rfl⟩
  | updFallbackWrite _ _ => unfold exec execUpdFallbackWrite; exact ⟨_, _, rfl⟩
  | switchNowWrite _ _ => unfold exec execSwitchNowWrite; exact ⟨_, _, rfl⟩
  | enterFarrierWrite _ _ => unfold exec execEnterFarrierWrite; exact ⟨_, _, rfl⟩
  | spiNop _ _ => unfold exec execSpiNop; exact ⟨_, _, rfl⟩
  | spiWrite _ _ _ _ => unfold exec execSpiWrite; exact ⟨_, _, rfl⟩
  | spiRead _ _ _ _ => unfold exec execSpiRead; exact ⟨_, _, rfl⟩
  | flushIn _ => unfold exec execFlushIn; exact ⟨_, _, rfl⟩
  | flushOut _ => unfold exec execFlushOut; exact ⟨_, _, rfl⟩
  | replyEnqueue _ _ => unfold exec execReplyEnqueue; exact ⟨_, _, rfl⟩
  | replyDrop _ _ => unfold exec execReplyDrop; exact ⟨_, _, rfl⟩
  | ticketExpiry _ _ _ => unfold exec execTicketExpiry; exact ⟨_, _, rfl⟩
  | sessionIdleClose _ _ => unfold exec execSessionIdleClose; exact ⟨_, _, rfl⟩
  | provisionalTimeout _ _ => unfold exec execProvisionalTimeout; exact ⟨_, _, rfl⟩
  | proofLockoutEnd _ _ => unfold exec execProofLockoutEnd; exact ⟨_, _, rfl⟩
  | revokedIdentifierRelease _ _ => unfold exec execRevokedIdentifierRelease; exact ⟨_, _, rfl⟩
  | frameReceive _ _ _ _ _ _ => unfold exec execFrameReceive; exact ⟨_, _, rfl⟩
  | discoveryReply _ => unfold exec execDiscoveryReply; exact ⟨_, _, rfl⟩
  | frameTransmit _ _ => unfold exec execFrameTransmit; exact ⟨_, _, rfl⟩
  | originatedFrameQueue _ => unfold exec execOriginatedFrameQueue; exact ⟨_, _, rfl⟩
  | linkUp _ _ _ _ _ => unfold exec execLinkUp; exact ⟨_, _, rfl⟩
  | linkDown _ _ => unfold exec execLinkDown; exact ⟨_, _, rfl⟩
  | halfDuplexRetry _ _ => unfold exec execHalfDuplexRetry; exact ⟨_, _, rfl⟩
  | lpiEntry _ _ => unfold exec execLpiEntry; exact ⟨_, _, rfl⟩
  | lldpSend _ _ => unfold exec execLldpSend; exact ⟨_, _, rfl⟩
  | lldpNeighbourExpiry _ _ => unfold exec execLldpNeighbourExpiry; exact ⟨_, _, rfl⟩
  | supervisionSend _ => unfold exec execSupervisionSend; exact ⟨_, _, rfl⟩
  | nodeForget _ _ => unfold exec execNodeForget; exact ⟨_, _, rfl⟩
  | duplicateEntryForget _ _ _ => unfold exec execDuplicateEntryForget; exact ⟨_, _, rfl⟩
  | reducedUplinkStep _ => unfold exec execReducedUplinkStep; exact ⟨_, _, rfl⟩
  | localSteer _ => unfold exec execLocalSteer; exact ⟨_, _, rfl⟩
  | syncTimeout _ _ => unfold exec execSyncTimeout; exact ⟨_, _, rfl⟩
  | announceTimeout _ _ => unfold exec execAnnounceTimeout; exact ⟨_, _, rfl⟩
  | domainRevert _ => unfold exec execDomainRevert; exact ⟨_, _, rfl⟩
  | holdoverExpiry _ => unfold exec execHoldoverExpiry; exact ⟨_, _, rfl⟩
  | ptpRequestSend _ _ _ => unfold exec execPtpRequestSend; exact ⟨_, _, rfl⟩
  | txTimestamp _ => unfold exec execTxTimestamp; exact ⟨_, _, rfl⟩
  | calendarSecond _ => unfold exec execCalendarSecond; exact ⟨_, _, rfl⟩
  | rtcTrimWindow _ _ => unfold exec execRtcTrimWindow; exact ⟨_, _, rfl⟩
  | wakeTimerExpiry _ => unfold exec execWakeTimerExpiry; exact ⟨_, _, rfl⟩
  | alarmFire _ _ => unfold exec execAlarmFire; exact ⟨_, _, rfl⟩
  | retentionLoss _ => unfold exec execRetentionLoss; exact ⟨_, _, rfl⟩
  | relaySlot _ => unfold exec execRelaySlot; exact ⟨_, _, rfl⟩
  | uplinkFrame _ _ => unfold exec execUplinkFrame; exact ⟨_, _, rfl⟩
  | hitchRequest _ _ => unfold exec execHitchRequest; exact ⟨_, _, rfl⟩
  | floodReceive _ _ => unfold exec execFloodReceive; exact ⟨_, _, rfl⟩
  | fragmentTimeout _ _ => unfold exec execFragmentTimeout; exact ⟨_, _, rfl⟩
  | joinWindowClose _ => unfold exec execJoinWindowClose; exact ⟨_, _, rfl⟩
  | contextForget _ _ => unfold exec execContextForget; exact ⟨_, _, rfl⟩
  | nodeSilent _ _ => unfold exec execNodeSilent; exact ⟨_, _, rfl⟩
  | parentBeacon _ _ _ _ _ => unfold exec execParentBeacon; exact ⟨_, _, rfl⟩
  | parentBeaconsMissed _ => unfold exec execParentBeaconsMissed; exact ⟨_, _, rfl⟩
  | keyGenerationChange _ => unfold exec execKeyGenerationChange; exact ⟨_, _, rfl⟩
  | relayConfigApply _ => unfold exec execRelayConfigApply; exact ⟨_, _, rfl⟩
  | cassetteDetect _ _ => unfold exec execCassetteDetect; exact ⟨_, _, rfl⟩
  | cassettePowerOn _ _ _ => unfold exec execCassettePowerOn; exact ⟨_, _, rfl⟩
  | cassetteRemoved _ _ => unfold exec execCassetteRemoved; exact ⟨_, _, rfl⟩
  | resilverUnitCopy _ _ => unfold exec execResilverUnitCopy; exact ⟨_, _, rfl⟩
  | writeComplete _ _ _ => unfold exec execWriteComplete; exact ⟨_, _, rfl⟩
  | programFailure _ _ _ => unfold exec execProgramFailure; exact ⟨_, _, rfl⟩
  | readComplete _ _ _ _ _ _ _ _ => unfold exec execReadComplete; exact ⟨_, _, rfl⟩
  | mapCheckpoint _ _ => unfold exec execMapCheckpoint; exact ⟨_, _, rfl⟩
  | patrolScrub _ _ _ _ => unfold exec execPatrolScrub; exact ⟨_, _, rfl⟩
  | retentionAgeUpdate _ _ => unfold exec execRetentionAgeUpdate; exact ⟨_, _, rfl⟩
  | wearMove _ _ _ _ => unfold exec execWearMove; exact ⟨_, _, rfl⟩
  | fold _ => unfold exec execFold; exact ⟨_, _, rfl⟩
  | heldWritesRelease _ => unfold exec execHeldWritesRelease; exact ⟨_, _, rfl⟩
  | freezeAutoRelease _ => unfold exec execFreezeAutoRelease; exact ⟨_, _, rfl⟩
  | keyCommit _ => unfold exec execKeyCommit; exact ⟨_, _, rfl⟩
  | invalidationCommit _ => unfold exec execInvalidationCommit; exact ⟨_, _, rfl⟩
  | tamperDetect _ _ _ => unfold exec execTamperDetect; exact ⟨_, _, rfl⟩
  | stagingEraseDone _ => unfold exec execStagingEraseDone; exact ⟨_, _, rfl⟩
  | commitVerifyDone _ => unfold exec execCommitVerifyDone; exact ⟨_, _, rfl⟩
  | imageSwitch _ => unfold exec execImageSwitch; exact ⟨_, _, rfl⟩
  | wheelerImageValid _ _ => unfold exec execWheelerImageValid; exact ⟨_, _, rfl⟩
  | probationEnd _ => unfold exec execProbationEnd; exact ⟨_, _, rfl⟩
  | firstCommitTimeout _ => unfold exec execFirstCommitTimeout; exact ⟨_, _, rfl⟩
  | watchdogReset _ => unfold exec execWatchdogReset; exact ⟨_, _, rfl⟩
  | updateIdleAbort _ => unfold exec execUpdateIdleAbort; exact ⟨_, _, rfl⟩
  | heartbeatSend _ => unfold exec execHeartbeatSend; exact ⟨_, _, rfl⟩
  | ringHeartbeatSend _ => unfold exec execRingHeartbeatSend; exact ⟨_, _, rfl⟩
  | heartbeatReceive _ _ _ _ _ _ => unfold exec execHeartbeatReceive; exact ⟨_, _, rfl⟩
  | linkPathLost _ => unfold exec execLinkPathLost; exact ⟨_, _, rfl⟩
  | ringPathLost _ => unfold exec execRingPathLost; exact ⟨_, _, rfl⟩
  | witnessRequestSend _ => unfold exec execWitnessRequestSend; exact ⟨_, _, rfl⟩
  | contestEnd _ => unfold exec execContestEnd; exact ⟨_, _, rfl⟩
  | takeoverPoleRaise _ => unfold exec execTakeoverPoleRaise; exact ⟨_, _, rfl⟩
  | timeMark _ _ _ _ => unfold exec execTimeMark; exact ⟨_, _, rfl⟩
  | linkDelayMeasure _ _ => unfold exec execLinkDelayMeasure; exact ⟨_, _, rfl⟩
  | boundaryMark _ _ _ => unfold exec execBoundaryMark; exact ⟨_, _, rfl⟩
  | commitBlockReceive _ _ _ => unfold exec execCommitBlockReceive; exact ⟨_, _, rfl⟩
  | stateCopyReceive _ _ _ _ _ => unfold exec execStateCopyReceive; exact ⟨_, _, rfl⟩
  | copyAck _ _ _ => unfold exec execCopyAck; exact ⟨_, _, rfl⟩
  | hello _ _ _ => unfold exec execHello; exact ⟨_, _, rfl⟩
  | lanesTrained _ => unfold exec execLanesTrained; exact ⟨_, _, rfl⟩
  | pairingComplete _ => unfold exec execPairingComplete; exact ⟨_, _, rfl⟩
  | keyTransferReceive _ _ _ => unfold exec execKeyTransferReceive; exact ⟨_, _, rfl⟩
  | keyTransferTimeout _ => unfold exec execKeyTransferTimeout; exact ⟨_, _, rfl⟩
  | yieldRelease _ _ => unfold exec execYieldRelease; exact ⟨_, _, rfl⟩
  | powerOn _ _ _ _ => unfold exec execPowerOn; exact ⟨_, _, rfl⟩
  | powerReturn _ _ _ _ _ _ => unfold exec execPowerReturn; exact ⟨_, _, rfl⟩
  | shedStepEnter _ _ => unfold exec execShedStepEnter; exact ⟨_, _, rfl⟩
  | standDown _ => unfold exec execStandDown; exact ⟨_, _, rfl⟩
  | shedStepLeave _ _ => unfold exec execShedStepLeave; exact ⟨_, _, rfl⟩
  | brownoutReset _ => unfold exec execBrownoutReset; exact ⟨_, _, rfl⟩
  | wakeRequest _ _ => unfold exec execWakeRequest; exact ⟨_, _, rfl⟩
  | sleepDeadline _ _ => unfold exec execSleepDeadline; exact ⟨_, _, rfl⟩
  | flushWake _ => unfold exec execFlushWake; exact ⟨_, _, rfl⟩
  | coreFloorRaise _ _ => unfold exec execCoreFloorRaise; exact ⟨_, _, rfl⟩
  | rstNLow _ => unfold exec execRstNLow; exact ⟨_, _, rfl⟩
  | rstNHigh _ _ _ => unfold exec execRstNHigh; exact ⟨_, _, rfl⟩
  | testSyncTimeout _ _ => unfold exec execTestSyncTimeout; exact ⟨_, _, rfl⟩
  | testFrameTimeout _ _ => unfold exec execTestFrameTimeout; exact ⟨_, _, rfl⟩
  | storageTestPass _ _ _ _ _ => unfold exec execStorageTestPass; exact ⟨_, _, rfl⟩
  | tapReset _ => unfold exec execTapReset; exact ⟨_, _, rfl⟩
  | bypass _ _ => unfold exec execBypass; exact ⟨_, _, rfl⟩
  | idcode _ _ => unfold exec execIdcode; exact ⟨_, _, rfl⟩
  | samplePreload _ _ _ => unfold exec execSamplePreload; exact ⟨_, _, rfl⟩
  | extest _ _ _ => unfold exec execExtest; exact ⟨_, _, rfl⟩
  | clamp _ _ => unfold exec execClamp; exact ⟨_, _, rfl⟩
  | highz _ _ => unfold exec execHighz; exact ⟨_, _, rfl⟩
  | servicePortReceive _ _ => unfold exec execServicePortReceive; exact ⟨_, _, rfl⟩
  | servicePortTransmit _ _ => unfold exec execServicePortTransmit; exact ⟨_, _, rfl⟩
  | tandemLaneLoss _ _ => unfold exec execTandemLaneLoss; exact ⟨_, _, rfl⟩
  | patternCheckerSync _ _ _ _ => unfold exec execPatternCheckerSync; exact ⟨_, _, rfl⟩
  | patternCheckerSyncLoss _ _ _ _ => unfold exec execPatternCheckerSyncLoss; exact ⟨_, _, rfl⟩
  | linkLocalProbe _ => unfold exec execLinkLocalProbe; exact ⟨_, _, rfl⟩
  | d0SupplyChangeover _ _ => unfold exec execD0SupplyChangeover; exact ⟨_, _, rfl⟩
  | rngHealthFailure _ => unfold exec execRngHealthFailure; exact ⟨_, _, rfl⟩

end Sys2Proof.Machine
end

