-- ==== Sys2Proof/Laws/Link.lean ====
section
/-! SUPPORT.  What the checks of a link message can do (`State.linkTakes`): counters of the vault and of the link
rise, the message's counter is kept, and nothing else changes. -/

namespace Sys2Proof.Machine

open Sys2Proof

/-- The states differ in parameters of pages 0x70, 0x71 and above 0x80 only. -/
def CountsOnly (s u : State) : Prop :=
  (∃ ps, u = { s with params := ps }) ∧
  ∀ id e : Nat, e < 65536 → (id < 0x7000 ∨ 0x7200 ≤ id) → id < 0x8100 → u.w id e = s.w id e

theorem CountsOnly.refl (s : State) : CountsOnly s s := ⟨⟨s.params, rfl⟩, fun _ _ _ _ _ => rfl⟩

theorem CountsOnly.trans {s u v : State} (h : CountsOnly s u) (k : CountsOnly u v) : CountsOnly s v := by
  obtain ⟨⟨a, rfl⟩, h⟩ := h
  obtain ⟨⟨b, rfl⟩, k⟩ := k
  exact ⟨⟨b, rfl⟩, fun id e he hl hu => (k id e he hl hu).trans (h id e he hl hu)⟩

/-- A counter of the vault or of the link. -/
theorem countsOnly_bump (s : State) (id e n : Nat) (h : (0x7000 ≤ id ∧ id < 0x7200) ∨ 0x8100 ≤ id) (he : e < 65536) :
    CountsOnly s (s.bump id e n) := by
  refine ⟨?_, fun jd d hd hl hu => w_bump_other s ?_ n⟩
  · unfold State.bump State.setW; split <;> exact ⟨_, rfl⟩
  · unfold paramKey; omega

theorem countsOnly_keyCount (s : State) (op : KeyOp) (m master : Nat) (hm : m < 16) (he : master < 65536) :
    CountsOnly s (s.keyCount op m master) := by
  refine countsOnly_bump s _ _ _ (.inl ?_) he
  cases op <;> simp only [KeyOp.index] <;> omega

theorem countsOnly_keyUse (s : State) (op : KeyOp) (master slot : Nat) (he : master < 65536) :
    CountsOnly s (s.keyUse op master slot) := by
  unfold State.keyUse
  have h : CountsOnly s (((s.keyCount op 0 master).bump Pid.keyAesOps master).bump (0x7108 + 0x10 * op.index) master
      (Config.measured (0x7108 + 0x10 * op.index) master ((s.keyCount op 0 master).bump Pid.keyAesOps master).now)) := by
    refine ((countsOnly_keyCount s op 0 master (by omega) he).trans (countsOnly_bump _ _ _ _ (.inl (by decide)) he)).trans
      (countsOnly_bump _ _ _ _ (.inl ?_) he)
    cases op <;> simp only [KeyOp.index] <;> omega
  dsimp only
  split
  · exact h.trans (countsOnly_bump _ _ _ _ (.inl (by decide)) (by omega))
  · exact h

theorem countsOnly_tdmCount (s : State) (k m n : Nat) : CountsOnly s (s.tdmCount k m n) :=
  countsOnly_bump s _ _ _ (.inr (by omega)) (by omega)

theorem countsOnly_vaultCheck (s : State) (op : KeyOp) (slot master : Nat) (secure : Bool) (he : master < 65536) :
    CountsOnly s (s.vaultCheck op slot master secure).2 := by
  have hk : ∀ m, m < 16 → CountsOnly s (s.keyCount op m master) := fun m hm => countsOnly_keyCount _ _ _ _ hm he
  unfold State.vaultCheck
  dsimp only
  by_cases h1 : (s.slotState slot != 1) = true
  · simp only [h1, if_true]; exact hk _ (by split <;> omega)
  by_cases h2 : (!attrMaster (s.slotAttr slot) master) = true
  · simp only [h1, h2, if_true]; exact (hk 2 (by omega)).trans (countsOnly_bump _ _ _ _ (.inl (by decide)) he)
  by_cases h3 : (!(if secure then attrSecure (s.slotAttr slot) else attrNormal (s.slotAttr slot))) = true
  · simp only [h1, h2, h3, if_true]; exact hk 3 (by omega)
  by_cases h4 : (!attrState (s.slotAttr slot) s.lifecycle) = true
  · simp only [h1, h2, h3, h4, if_true]; exact hk 4 (by omega)
  · simp only [h1, h2, h3, h4]; exact .refl s

/-- What a message taken from the link leaves: what it was, but for counters, with its counter kept and the
partner heard. -/
theorem linkTakes_effect (s : State) (kind : Nat) (h : LinkHead) :
    ∃ u, CountsOnly s u ∧ ((s.linkTakes kind h = (false, u)) ∨ (s.linkTakes kind h =
      (true, (u.withTandem (fun k => { k with lastCounter := k.lastCounter.set kind (some h.counter) })).heardPartner))) := by
  unfold State.linkTakes
  dsimp only
  have hv := countsOnly_vaultCheck s .tdmFrame 7 4 false (by omega)
  split
  · exact ⟨s, .refl s, .inl rfl⟩
  split
  · next hf => exact ⟨_, hv, .inl (Prod.ext (by simpa using hf) rfl)⟩
  have hk := hv.trans (countsOnly_keyUse (s.vaultCheck .tdmFrame 7 4 false).2 .tdmFrame 4 7 (by omega))
  split
  · exact ⟨_, hk.trans (countsOnly_tdmCount _ _ _ _), .inl rfl⟩
  split <;> split <;> first
    | exact ⟨_, hk.trans (countsOnly_tdmCount _ _ _ _), .inl rfl⟩
    | exact ⟨_, (hk.trans (countsOnly_tdmCount _ _ _ _)).trans (countsOnly_tdmCount _ _ _ _), .inr rfl⟩

/-- The checks of a link message change no parameter but counters. -/
theorem linkTakes_p (s : State) (kind : Nat) (h : LinkHead) (id e : Nat) (he : e < 65536)
    (hl : id < 0x7000 ∨ 0x7200 ≤ id) (hu : id < 0x8100) : (s.linkTakes kind h).2.p id e = s.p id e := by
  obtain ⟨u, ⟨_, hw⟩, hx | hx⟩ := linkTakes_effect s kind h <;> rw [hx] <;>
    exact congrArg BitVec.toNat (hw id e he hl hu)

/-- The checks of a link message change nothing of the tandem but the last counter and the contest's mark. -/
theorem linkTakes_tandem (s : State) (kind : Nat) (h : LinkHead) :
    (s.linkTakes kind h).2.tandem.stepped = s.tandem.stepped ∧
    (s.linkTakes kind h).2.tandem.lockedSince = s.tandem.lockedSince ∧
    (s.linkTakes kind h).2.tandem.copyNumber = s.tandem.copyNumber := by
  obtain ⟨u, ⟨⟨_, rfl⟩, _⟩, hx | hx⟩ := linkTakes_effect s kind h <;> rw [hx] <;> exact ⟨rfl, rfl, rfl⟩

/-- The checks of a link message change nothing of the power state, the clock and the tick count. -/
theorem linkTakes_rest (s : State) (kind : Nat) (h : LinkHead) :
    (s.linkTakes kind h).2.power = s.power ∧ (s.linkTakes kind h).2.now = s.now ∧
    (s.linkTakes kind h).2.tickBase = s.tickBase ∧ (s.linkTakes kind h).2.vault = s.vault := by
  obtain ⟨u, ⟨⟨_, rfl⟩, _⟩, hx | hx⟩ := linkTakes_effect s kind h <;> rw [hx] <;> exact ⟨rfl, rfl, rfl, rfl⟩

@[simp] theorem linkTakes_wheeler (s : State) (kind : Nat) (h : LinkHead) :
    (s.linkTakes kind h).2.wheeler = s.wheeler := by
  unfold State.wheeler; rw [linkTakes_p s kind h _ _ (by decide) (by decide) (by decide)]

@[simp] theorem linkTakes_lead (s : State) (kind : Nat) (h : LinkHead) : (s.linkTakes kind h).2.lead = s.lead := by
  unfold State.lead; rw [linkTakes_p s kind h _ _ (by decide) (by decide) (by decide)]

@[simp] theorem vaultCheck_tandem (s : State) (op : KeyOp) (slot master : Nat) (secure : Bool) (he : master < 65536) :
    (s.vaultCheck op slot master secure).2.tandem = s.tandem := by
  obtain ⟨⟨_, h⟩, _⟩ := countsOnly_vaultCheck s op slot master secure he; rw [h]

@[simp] theorem tdmCount_tandem (s : State) (k m n : Nat) : (s.tdmCount k m n).tandem = s.tandem := by
  obtain ⟨⟨_, h⟩, _⟩ := countsOnly_tdmCount s k m n; rw [h]

/-- A sound message on a usable link, its counter new, is taken. -/
theorem linkTakes_taken {s : State} {kind : Nat} {h : LinkHead} (hu : s.linkUsable = true)
    (hv : (s.vaultCheck .tdmFrame 7 4 false).1 = true) (ht : h.tagGood = true) (hd : s.tandem.helloDone = true)
    (hc : s.tandem.lastCounter.get kind = none) : (s.linkTakes kind h).1 = true := by
  unfold State.linkTakes
  simp only [hu, hv, ht, Bool.not_true, Bool.false_eq_true, if_false]
  simp [hd, hc]

end Sys2Proof.Machine
end

