-- ==== Sys2Proof/Machine/Lands.lean ====
section
/-! DEFINITION.  The lands (R479 to R485, R490): where each signal lies, and the level that the module gives each
land it drives, in reset, while its domain is off and while it runs. -/

namespace Sys2Proof.Machine

open Sys2Proof

/-! ### The signals (R483, R484) -/

/-- The signals of the module.  Banks are 0 to 15, channels 0 to 511, ports and radios 0 and 1, cassettes 0 (SB-A) and
1 (SB-B); `plus` is the positive half of a pair. -/
inductive Signal where
  | drv (ch : Nat)
  | sns (ch : Nat)
  | bck (bank : Nat)
  | hbclk (bank : Nat)
  | hbdo (bank : Nat)
  | hbdi (bank : Nat)
  | hbsel (bank : Nat)
  | flt (bank : Nat)
  | pole
  | precedence
  | emlt
  | mdi (port pair : Nat) (plus : Bool)
  | rf (radio : Nat)
  | sbDq (cassette k : Nat)
  | sbDqs (cassette : Nat) (complement : Bool)
  | sbRe (cassette : Nat) (complement : Bool)
  | sbWe (cassette : Nat)
  | sbCle (cassette : Nat)
  | sbAle (cassette : Nat)
  | sbWp (cassette : Nat)
  | sbCe (cassette k : Nat)
  | sbRb (cassette : Nat)
  | sbDet (cassette : Nat)
  | sbPen (cassette : Nat)
  | hpSck
  | hpSdi
  | hpCs
  | hpSdo
  | hold
  | attn
  | svTxd
  | svRxd
  | tkTx (lane : Nat) (plus : Bool)
  | tkRx (lane : Nat) (plus : Bool)
  | tamp (k : Nat)
  | tck
  | tms
  | tdi
  | tdo
  | trst
  | rst
  deriving DecidableEq, Repr

/-- The pin classes (R482 to R484). -/
inductive PinClass where
  | lv33 | nv18 | ost | mdi | cml | rf50
  deriving DecidableEq, Repr

/-- The class of a signal's land. -/
def Signal.pinClass : Signal → PinClass
  | .mdi _ _ _ => .mdi
  | .rf _ => .rf50
  | .sbDq _ _ | .sbDqs _ _ | .sbRe _ _ | .sbWe _ | .sbCle _ | .sbAle _ | .sbWp _ | .sbCe _ _ | .sbRb _ => .nv18
  | .tkTx _ _ | .tkRx _ _ => .cml
  | .tamp _ => .ost
  | _ => .lv33

/-! ### Where they lie (R479 to R482) -/

/-- The row names from top to bottom (R479). -/
def rowNames : List String :=
  ["A", "B", "C", "D", "E", "F", "G", "H", "J", "K", "L", "M", "N", "P", "T", "U", "V", "W", "Y",
   "AA", "AB", "AC", "AD", "AE", "AF", "AG", "AH", "AJ", "AK", "AL", "AM", "AN", "AP", "AT", "AU", "AV", "AW", "AY",
   "BA", "BB", "BC"]

/-- The number of the top row of a bank's field and whether its field rows count upwards from the module's edge below
(R481). -/
def fieldRow (bank r : Nat) : Nat :=
  if bank < 4 then 1 + r
  else if bank < 8 then 9 + r
  else if bank < 12 then 33 - r
  else 41 - r

/-- The land of field row `r` and field column `c` of a bank: row and column number (R481). -/
def fieldLand (bank r c : Nat) : Nat × Nat := (fieldRow bank r, 1 + 10 * (bank % 4) + c)

/-- A land of the middle band by its row, V to AF as 0 to 8, and its column (R482). -/
def bandLand (row col : Nat) : Nat × Nat := (17 + row, col)

/-- The land of a signal: row and column number from 1 (R481, R482). -/
def Signal.land : Signal → Nat × Nat
  | .drv ch => fieldLand (ch / 32) (ch % 32 / 8) (ch % 8)
  | .sns ch => fieldLand (ch / 32) (4 + ch % 32 / 8) (ch % 8)
  | .bck b => fieldLand b 0 8
  | .hbclk b => fieldLand b 2 8
  | .hbdo b => fieldLand b 4 8
  | .hbdi b => fieldLand b 6 8
  | .hbsel b => fieldLand b 0 9
  | .flt b => fieldLand b 1 9
  | .mdi port pair plus => bandLand (1 + 4 * port + 2 * (pair / 2)) (1 + 3 * (pair % 2) + (if plus then 0 else 1))
  | .sbDq c k => bandLand (if k < 6 then 1 else 2) (7 + 6 * c + k % 6)
  | .sbDqs c n => bandLand 2 (9 + 6 * c + flag n)
  | .sbRe c n => bandLand 4 (7 + 6 * c + flag n)
  | .sbWe c => bandLand 4 (9 + 6 * c)
  | .sbCle c => bandLand 4 (10 + 6 * c)
  | .sbAle c => bandLand 4 (11 + 6 * c)
  | .sbCe c k => bandLand 6 (7 + 6 * c + k)
  | .sbWp c => bandLand 6 (11 + 6 * c)
  | .sbRb c => bandLand 6 (12 + 6 * c)
  | .sbDet c => bandLand 7 (7 + 6 * c)
  | .sbPen c => bandLand 7 (8 + 6 * c)
  | .hpSck => bandLand 1 19
  | .hpSdi => bandLand 1 21
  | .hpSdo => bandLand 1 22
  | .hpCs => bandLand 1 23
  | .hold => bandLand 2 19
  | .attn => bandLand 2 20
  | .svTxd => bandLand 2 21
  | .svRxd => bandLand 2 22
  | .tck => bandLand 3 19
  | .tms => bandLand 3 20
  | .tdi => bandLand 3 21
  | .tdo => bandLand 3 22
  | .trst => bandLand 3 23
  | .rst => bandLand 5 19
  | .emlt => bandLand 5 20
  | .pole => bandLand 5 22
  | .precedence => bandLand 5 23
  | .tamp k => bandLand 7 (19 + k)
  | .tkTx lane plus => bandLand 1 (24 + 3 * lane + (if plus then 0 else 1))
  | .tkRx lane plus => bandLand 5 (24 + 3 * lane + (if plus then 0 else 1))
  | .rf radio => bandLand (2 + 4 * radio) 32

/-- The name of a land, as in AW6 (R479). -/
def landName (x : Nat × Nat) : String := rowNames.getD (x.1 - 1) "" ++ toString x.2

/-! ### The levels of the outputs (R483 to R485, R490) -/

/-- What stands on a land that the module drives: a level, high impedance, low by the passive resistor of R490, no
defined level, or the signal's own running traffic. -/
inductive Level where
  | low | high | highZ | passiveLow | undefined | active
  deriving DecidableEq, Repr

/-- A level from a truth value. -/
def Level.of (high : Bool) : Level := if high then .high else .low

/-- Spine steps of a harness transaction: HBSELn_N is low for 256.08 µs (R126). -/
abbrev transactionSteps : Nat := 204864

/-- The scan start of the transaction that runs on a bank now (R125, R470). -/
def State.transactionFrom (s : State) (b : Nat) : Option Nat :=
  let h := s.bh b
  if s.now < h.busyUntil then some (h.busyUntil - transactionSteps)
  else if s.now < h.testUntil then some (h.testUntil - transactionSteps)
  else none

/-- HBCLKn (R126, R139): inside a transaction 6,400 periods of 40 ns from 40 ns after the scan start, the first half
of each low; outside it high, but for 40 ns from a period mark. -/
def State.hbclkHigh (s : State) (b : Nat) : Bool :=
  match s.transactionFrom b with
  | some a =>
    let k := s.now - a
    !(decide (32 ≤ k ∧ k < 32 + 6400 * 32) && decide (k % 32 < 16))
  | none => match (s.bd b).markAt with
    | some a => !(decide (a ≤ s.now ∧ s.now < a + 32))
    | none => true

/-- HBDOn (R125 to R127): at the scan start high for a primary and low for a repeat, until the first falling edge of
HBCLKn; then bit i of the frame from falling edge i + 1 on, the most significant bit of each word first; low outside
transactions, but for the 40 ns before a primary's scan start. -/
def State.hbdoHigh (s : State) (b : Nat) : Bool :=
  let h := s.bh b
  match s.transactionFrom b with
  | some a =>
    let k := s.now - a
    if k < 32 then !h.repeat_
    else
      let i := (k - 32) / 32
      bit (nth h.frame (i / 32)) (31 - i % 32)
  | none =>
    -- 40 ns before the next primary slot (R125)
    decide ((s.count + 1) % 25000 = b * 1560) && s.bankPowered b && s.pB Pid.harnessEnable b && !s.busWaits b

/-- The module is held in reset: the pads hold their reset states (R483, R484, R486). -/
def State.padsReset (s : State) : Bool := s.power.phase == .held

/-- The level of each land that the module drives; none of an input (R483 to R485, R490). -/
def State.level (s : State) (x : Signal) : Option Level :=
  let on := s.domainOn 1
  let reset := s.padsReset
  let bank := fun (b : Nat) (idle : Level) (run : Level) => if reset ∨ !s.bankPowered b then idle else run
  let out : Option Level := match x with
    | .drv ch => some (if !on then .passiveLow else .of (s.drvPad ch))
    | .bck _ => some (if !on then .passiveLow else if reset ∨ !s.domainOn 4 then .low else .active)
    | .hbclk b => some (if !on then .undefined else bank b .high (.of (s.hbclkHigh b)))
    | .hbdo b => some (if !on then .passiveLow else bank b .low (if s.now < (s.bh b).testUntil then .active else .of (s.hbdoHigh b)))
    | .hbsel b => some (if !on then .undefined else bank b .high (.of (s.transactionFrom b).isNone))
    | .pole => some (if !on then .undefined else .of (!reset && s.tandem.pole))
    | .mdi port _ _ => some (if !s.domainOn 6 ∨ !(s.net.ports.get port).phyOn then .highZ else .active)
    | .rf _ => some (if !s.domainOn 7 ∨ !s.pB Pid.relayEnable then .highZ else .active)
    | .sbDq c _ | .sbDqs c _ | .sbRe c _ | .sbWe c | .sbCle c | .sbAle c | .sbWp c | .sbCe c _ =>
      some (if !on then .undefined else if !s.domainOn 8 ∨ !(s.storage.cassettes.get c).powered then .highZ else .active)
    | .sbPen c => some (if !on then .undefined else .of (!reset && (s.storage.cassettes.get c).powered))
    | .hpSdo => some (if !on then .undefined else .highZ)
    | .hold => some (if !on then .undefined else .of (!s.holdIsLow))
    | .attn => some (if !on then .undefined else .of (!s.attnLow))
    | .svTxd => some (if !on then .undefined else .high)
    | .tkTx _ _ => some (if !s.domainOn 9 ∨ !s.pB Pid.tdmEnable then .highZ else .active)
    | .tdo => some (if !on then .undefined else .highZ)
    | _ => none
  -- the boundary cells hold the lands; EMLT acts behind them (R476)
  match x, out with
  | .drv ch, some l => if on && !s.rung1 (ch / 32) && (s.test.tap.highZ || s.test.tap.driven) then
      some (if s.test.tap.highZ then .highZ else .active) else some l
  | .tdo, o => o
  | _, some l => if on && s.test.tap.highZ then some .highZ else if on && s.test.tap.driven then some .active else some l
  | _, none => none

end Sys2Proof.Machine
end

