-- ==== Sys2Proof/Tests/Slice0.lean ====
section
/-! SUPPORT.  Tests: ill-formed commands that `Instr.wellFormed` refuses, and for every statement with hypotheses
states and operands that meet them, clause by clause. -/

set_option Elab.async false
set_option maxRecDepth 10000
set_option linter.unusedVariables false

namespace Sys2Proof.Machine.Test

open Sys2Proof

/-! ### Small states -/

/-- The block after reset, with cycles running. -/
def live : State := State.reset.withPower (fun p => { p with phase := .running })

/-- The same 10,000,000 s later. -/
def late : State := { live with now := 10000000 * sec }

/-- A keyless session of the host port with a role. -/
def hostSession (role : Nat) : Session where
  id := 1
  source := .host
  role := role
  slot := 0xFF
  proved := true
  openedAt := 0
  lastAccept := 0
  clientNonce := []
  moduleNonce := []
  key := 0
  highest := none
  recorded := []
  tickets := []
  latched := []

/-- The words of a request in that session. -/
def requestWords (op ticket : Nat) (payload : List Word) : List Word :=
  let body := [0xB7100003, pair 1 1, word (op * 2 ^ 24 + ticket * 2 ^ 16 + payload.length)] ++ payload
  body ++ [crc32 body]

/-- The state in which a session of a role has sent a request. -/
def talk (s : State) (k : Session) (op ticket : Nat) (payload : List Word) : State :=
  { s with bridle := { s.bridle with sessions := [k], hostIn := asQueued (requestWords op ticket payload) } }

/-- The packet and the session that such a state holds. -/
def sentPacket (s : State) : Packet := ⟨.host, s.bridle.hostIn, false, false⟩
def sentSession (s : State) : Session := s.bridle.sessions.headD (hostSession 0)

/-- Some packet and session of the state make its row's command answer as a statement's clause says. -/
def Meets (s : State) (tr : Transport) (row : PacketRow) (kindOf : Request → OpKind)
    (hyp : Request → State → Prop) : Prop :=
  ∃ (p : Packet) (k : Session) (gaps : Nat),
    Accepted (s.at_ 0) tr row kindOf p k gaps ∧ hyp (p.request k) ((s.at_ 0).letIn tr p k gaps)

/-- What `Accepted` asks, as a test. -/
def acceptedTest (s : State) (row : PacketRow) (kindOf : Request → OpKind) (p : Packet) (k : Session) : Bool :=
  s.awake && !s.replyWaits .host && s.onTurn .host && decide (s.frontPacket .host = some p) && decide (p.source.transport = .host) &&
    decide (p.row = row) && decide (s.session (headerOf p.data).session = some k) &&
    decide ((s.taken .host).verdict p = .accept (some k) 0) &&
    (match opcodeInfo (headerOf p.data).opcode with
     | some r => decide (r.1 ≤ k.role)
     | none => false) &&
    !(s.farrier && !farrierOpcode (headerOf p.data).opcode) &&
    decide (ticketFailure k (headerOf p.data).opcode (headerOf p.data).ticket (kindOf (p.request k)) = none)

theorem accepted_of_test {s : State} {row : PacketRow} {kindOf : Request → OpKind} {p : Packet} {k : Session}
    (h : acceptedTest s row kindOf p k = true) : Accepted s .host row kindOf p k 0 := by
  simp only [acceptedTest, Bool.and_eq_true, decide_eq_true_eq, Bool.not_eq_true'] at h
  obtain ⟨⟨⟨⟨⟨⟨⟨⟨⟨⟨h1, h2⟩, h0⟩, h3⟩, h4⟩, h5⟩, h6⟩, h7⟩, h8⟩, h9⟩, h10⟩ := h
  refine ⟨h1, h2, h0, h3, h4, h5, h6, h7, ?_, h9, h10⟩
  split at h8
  · next r hr => exact ⟨r, hr, by simpa using h8⟩
  · cases h8

theorem meets {s : State} {row : PacketRow} {kindOf : Request → OpKind} {hyp : Request → State → Prop}
    (h : acceptedTest (s.at_ 0) row kindOf (sentPacket s) (sentSession s) = true)
    (hy : hyp ((sentPacket s).request (sentSession s)) ((s.at_ 0).letIn .host (sentPacket s) (sentSession s) 0)) :
    Meets s .host row kindOf hyp :=
  ⟨_, _, _, accepted_of_test h, hy⟩

/-- An identity page that R144 accepts. -/
def goodIdent : List Nat :=
  let b := [0x4B5A, 1, 0, 0, 0, 0, 0, 0, 32, 0, 1, 0, 1, 1, 0, 0, 0, 30, 200] ++ List.replicate 44 0
  b ++ [crc16Octets (b.flatMap (fun w => [w / 256, w % 256]))]

/-- A data readback with no pod records. -/
def goodReadback : List Word :=
  let b := (0x5A100000 : Word) :: List.replicate 39 0
  b ++ [crc32 b]

/-- The words of a SESSION_OPEN. -/
def openWords : List Word :=
  let b : List Word := [0xB7100003, 0x00000001, 0x00000005, 0x030000FF, 0, 0, 0, 0]
  b ++ [crc32 b]

/-- A reply that waits behind `n` outbound words. -/
def waitingBehind (n : Nat) (w : WaitingReply) : State :=
  { live with bridle := { live.bridle with waiting := [w], hostOut := List.replicate n (queued 0 false false) } }

theorem waitingBehind_length (n : Nat) (w : WaitingReply) : (waitingBehind n w).bridle.hostOut.length = n :=
  List.length_replicate


/-- A slot that holds a valid key. -/
def withKey (s : State) (k key : Nat) (attr : Word) : State :=
  ((s.modifySlot k (fun _ => ⟨some key, none, some ⟨1, false, attr, 0⟩, none, 0⟩)).setP Pid.keySlotState k 1).setW
    Pid.keySlotAttr k attr

/-- Both uplink links up, in a ring mode. -/
def linked (s : State) (mode : Nat) : State :=
  ((s.setP Pid.netLink 0 1).setP Pid.netLink 1 1).withNet (fun n => { n with mode := mode })

/-- A frame of 64 octets, and one in a transmit queue. -/
def smallFrame : Frame := ⟨0, 0, 64, true, none, none, none, .other⟩
def ownFrame : QueuedFrame := ⟨smallFrame, true, none, none⟩

/-- The block in a pair, its hello exchange done, as lead (1) or wheeler (2). -/
def paired (s : State) (role : Nat) : State :=
  (withKey ((s.setP Pid.tdmRole 0 role).setFlag Pid.tdmStatus 0 1 true) 7 1 0x83F0).withTandem
    (fun k => { k with helloDone := true })

/-- A sound link message. -/
def sound : LinkHead := ⟨5, true, 40⟩

/-- A hello. -/
def plainHello (answer : Bool) : HelloMessage := ⟨answer, 9, 0, false, false, false, 0, 0, 0, 0, 0⟩

/-- A maker part that R341 accepts, at its limits. -/
def goodMaker : MakerPart := ⟨2, 0, 1, 16, 1920, 768, 256, 2732, true, 4, 127, 3000, 60000, 300, 900, 1100, 0, []⟩

/-- A contest that began at 0. -/
def fairContest (sent : Nat) : Contest := ⟨0, 1, sent, false, false, 0, [], none, false⟩

/-- An empty minute block. -/
def blankMinute : MinuteBlock := ⟨0, 0, 0, [], []⟩

/-- A sound first frame of its kind under the pair key is taken. -/
theorem taken (s : State) (kind : Nat) (h : LinkHead)
    (c : (s.linkUsable && (s.vaultCheck .tdmFrame 7 4 false).1 && h.tagGood && s.tandem.helloDone &&
      decide (s.tandem.lastCounter.get kind = none)) = true) : (s.linkTakes kind h).1 = true := by
  simp only [Bool.and_eq_true, decide_eq_true_eq] at c
  exact linkTakes_taken c.1.1.1.1 c.1.1.1.2 c.1.1.2 c.1.2 c.2

/-- What holds whichever of the two radios a free draw names. -/
theorem tallied (s : State) (ks : List Nat) (P : State → Prop)
    (h0 : P (((s.drawBelow 2).2.relayTally 0 ks 0 0).relayTally 0 ks 8 0))
    (h1 : P (((s.drawBelow 2).2.relayTally 0 ks 0 1).relayTally 0 ks 8 1)) :
    P (((s.drawBelow 2).2.relayTally 0 ks 0 (s.drawBelow 2).1).relayTally 0 ks 8 (s.drawBelow 2).1) := by
  have hd : (s.drawBelow 2).1 < 2 := Nat.mod_lt _ (by decide)
  generalize (s.drawBelow 2).1 = r at hd
  match r, hd with
  | 0, _ => exact h0
  | 1, _ => exact h1

/-- The relay sends: a network key, and relay.enable. -/
def relaying : State := (withKey live 4 1 0).setP Pid.relayEnable 0 1

/-- A cassette that has lain in the slot for 100 ms. -/
def inserted : State := late.modifyCassette 1 (fun k => { k with detSince := some (late.now - 100 * ms) })

/-! ### Ill-formed commands -/

/-- Sound operands, one field of which each term below breaks. -/
def head : LinkHead := ⟨0, true, 0⟩
def frame : Frame := ⟨0, 0, 64, true, none, none, none, .other⟩
def radio : RadioFrame := ⟨0, 0, 0, 0, 0, 0, []⟩
def hitch : HitchRequest := ⟨0, 0, 0, false, 0, 0, 0, false⟩
def hello : HelloMessage := ⟨false, 0, 0, false, false, false, 0, 0, 0, 0, 0⟩
def block : CommitBlock := ⟨0, [], [], [], [], [], []⟩
def report : CassetteReport := ⟨none, none, 0, 0, 0, 0⟩
def ptp : PtpMessage := ⟨0, 2, 0, false, 0, 0, 0, 0, 0, false, none, false⟩

theorem test_ill_commands_1 :
    ([
     .cellComplete 0 8, .backPressureWait 0 9, .cellOverlong 0 8, .cellParityError 0 8, .bankPeriodStart 0 16,
     .lanePulseStart 0 512, .extraPeriodMark 0 16, .amplitudeEpoch 0 512, .primaryTransaction 0 16 [] [],
     .primaryTransaction 0 0 [[(true, 10001)]] [], .acknowledgement 0 16 0, .repeatTransaction 0 16 [],
     .readbackFrame 0 16 [], .decimatorSample 0 512 [], .decimatorSample 0 0 [(true, 10001)], .streamStuck 0
     512, .streamValidAgain 0 512, .zeroStale 0 512, .loopLimitWarning 0 512, .provingWindowExpiry 0 512,
     .cardFaultState 0 16, .derateBlind 0 512, .noTempTimeout 0 512, .trimUpdate 0 512, .trimLimitedWarning 0
     512, .faultLineChange 0 16 false, .cardEnumeration 0 16 [] [], .cardEnumeration 0 0 [] [2 ^ 16]]
    : List Instr).all (fun x => !x.wellFormed) = true := by decide +kernel

theorem test_ill_commands_2 :
    ([
     .enumerationRetry 0 16, .cardLost 0 16, .bankResume 0 16, .coldRestartReset 0 0 [8], .spiNop 0 256,
     .ticketExpiry 0 (2 ^ 32) 0, .sessionIdleClose 0 (2 ^ 32), .provisionalTimeout 0 (2 ^ 32),
     .revokedIdentifierRelease 0 (2 ^ 32), .frameReceive 0 2 0 frame false false, .frameReceive 0 0 0
     { frame with dest := 2 ^ 48 } false false, .frameTransmit 0 2, .linkUp 0 2 1 false false, .linkUp 0 0 4
     false false, .linkUp 0 0 0 false false, .linkDown 0 2, .halfDuplexRetry 0 2, .lpiEntry 0 2, .lldpSend 0 2,
     .lldpNeighbourExpiry 0 2, .nodeForget 0 (2 ^ 48), .duplicateEntryForget 0 (2 ^ 48) 0, .duplicateEntryForget
     0 0 (2 ^ 16), .syncTimeout 0 2, .announceTimeout 0 2, .ptpRequestSend 0 2 0, .ptpRequestSend 0 0 2,
     .alarmFire 0 8]
    : List Instr).all (fun x => !x.wellFormed) = true := by decide +kernel

theorem test_ill_commands_3 :
    ([
     .uplinkFrame 0 { radio with source := 2 ^ 16 }, .hitchRequest 0 { hitch with eui := 2 ^ 64 }, .floodReceive
     0 { radio with source := 2 ^ 16 }, .fragmentTimeout 0 1024, .contextForget 0 1024, .nodeSilent 0 1024,
     .parentBeacon 0 1024 0 0 0, .parentBeacon 0 0 (2 ^ 16) 0 0, .cassetteDetect 0 2, .cassettePowerOn 0 2
     report, .cassettePowerOn 0 0 { report with mode := 256 }, .cassetteRemoved 0 2, .resilverUnitCopy 0 2,
     .writeComplete 0 0 2, .programFailure 0 2 0, .readComplete 0 2 0 0 0 0 [] false, .readComplete 0 0 9 0 0 0
     [] false, .mapCheckpoint 0 2, .patrolScrub 0 2 0 [], .wearMove 0 2 0 0, .tamperDetect 0 2 false,
     .wheelerImageValid 0 { head with counter := 2 ^ 64 }, .heartbeatReceive 0 head 256 0 0 0, .heartbeatReceive
     0 head 0 256 0 0, .heartbeatReceive 0 head 0 0 (2 ^ 16) 0, .heartbeatReceive 0 head 0 0 0 (2 ^ 32),
     .heartbeatReceive 0 { head with counter := 2 ^ 64 } 0 0 0 0, .timeMark 0 { head with counter := 2 ^ 64 } 0
     0]
    : List Instr).all (fun x => !x.wellFormed) = true := by decide +kernel

theorem test_ill_commands_4 :
    ([
     .boundaryMark 0 { head with counter := 2 ^ 64 } 0, .commitBlockReceive 0 { head with counter := 2 ^ 64 }
     block, .commitBlockReceive 0 head { block with teams := [(512, 0, [])] }, .stateCopyReceive 0
     { head with counter := 2 ^ 64 } 0 0 [], .stateCopyReceive 0 head 0 0 [.cell (2 ^ 32) [] []], .copyAck 0
     { head with counter := 2 ^ 64 } 0, .hello 0 { head with counter := 2 ^ 64 } hello, .hello 0 head
     { hello with nonce := 2 ^ 128 }, .keyTransferReceive 0 { head with counter := 2 ^ 64 } .confirm,
     .keyTransferReceive 0 head (.invalidate 64), .yieldRelease 0 { head with counter := 2 ^ 64 }, .powerOn 0 0
     false [8], .powerReturn 0 0 false false false [8], .wakeRequest 0 [8], .sleepDeadline 0 [8], .rstNHigh 0 0
     [8], .testSyncTimeout 0 16, .testFrameTimeout 0 2, .storageTestPass 0 2 0 0 0, .tandemLaneLoss 0 2,
     .patternCheckerSync 0 42 0 [], .patternCheckerSyncLoss 0 42 0 []]
    : List Instr).all (fun x => !x.wellFormed) = true := by decide +kernel

theorem test_ill_lanes :
    ([
     [(true, 10001)], [(false, 5000), (true, 5001)]]
    : List LaneBits).all (fun x => !x.wf) = true := by decide +kernel

theorem test_ill_radio :
    ([
     { radio with radio := 2 }, { radio with source := 2 ^ 16 }, { radio with counter := 2 ^ 32 },
     { radio with key := 2 ^ 128 }, { radio with payload := [256] }]
    : List RadioFrame).all (fun x => !x.wf) = true := by decide +kernel

theorem test_ill_hitch :
    ([
     { hitch with eui := 2 ^ 64 }, { hitch with key := 2 ^ 128 }]
    : List HitchRequest).all (fun x => !x.wf) = true := by decide +kernel

theorem test_ill_bodies :
    ([
     .ptp { ptp with messageType := 16 }, .ptp { ptp with version := 16 }, .ptp { ptp with domain := 256 }, .ptp
     { ptp with sequence := 2 ^ 16 }, .supervision (2 ^ 48), .lldp (2 ^ 16) 0 0 [] none, .lldp 0 (2 ^ 48) 0 []
     none, .lldp 0 0 (2 ^ 48) [] none, .lldp 0 0 0 [] (some ⟨2 ^ 16, 0, 0, 0, 0⟩), .arp 1 (2 ^ 32) 0 0, .arp 1 0
     (2 ^ 48) 0, .arp 1 0 0 (2 ^ 32), .icmp 8 (2 ^ 32) 0 [], .icmp 8 0 (2 ^ 32) [], .icmp 8 0 0 [256], .udp (2 ^
     32) 0 0 0 [] 0, .udp 0 (2 ^ 16) 0 0 [] 0, .udp 0 0 (2 ^ 32) 0 [] 0, .udp 0 0 0 (2 ^ 16) [] 0, .udp 0 0 0 0
     [] 4]
    : List FrameBody).all (fun x => !x.wf) = true := by decide +kernel

theorem test_ill_frames :
    ([
     { frame with dest := 2 ^ 48 }, { frame with source := 2 ^ 48 },
     { frame with body := .supervision (2 ^ 48) }]
    : List Frame).all (fun x => !x.wf) = true := by decide +kernel

theorem test_ill_hellos :
    ([
     { hello with nonce := 2 ^ 128 }, { hello with serial := 2 ^ 64 }, { hello with ip := 2 ^ 32 }]
    : List HelloMessage).all (fun x => !x.wf) = true := by decide +kernel

theorem test_ill_blocks :
    ([
     { block with teams := [(512, 0, [])] }, { block with channels := [(512, none)] },
     { block with remotes := [(256, 7, [])] }, { block with latched := [(512, 0, 0)] }]
    : List CommitBlock).all (fun x => !x.wf) = true := by decide +kernel

theorem test_ill_items :
    ([
     .cell (2 ^ 32) [] [], .channelOverride 512 none, .teamOverride 768 none, .element (2 ^ 16) 0 0, .element 0
     (2 ^ 16) 0, .fade 512 0 0 0 0 0 [], .residue 512 0 0, .acceptance 16 0 true true, .prediction 512 none,
     .queued 256 false none, .nodeCounters 1024 []]
    : List CopyItem).all (fun x => !x.wf) = true := by decide +kernel

theorem test_ill_transfers :
    ([
     .load 64 0 0 0, .load 0 0 (2 ^ 256) 0, .invalidate 64]
    : List KeyTransfer).all (fun x => !x.wf) = true := by decide +kernel

/-- The same operands within their bounds are well formed. -/
theorem test_well_formed :
    ([.bankPeriodStart 0 15, .lanePulseStart 0 511, .backPressureWait 0 8, .primaryTransaction 0 0 [[(true, 4000), (false, 6000)]] [],
     .linkUp 0 1 3 false false, .frameReceive 0 1 0 frame false false, .hello 0 head hello, .uplinkFrame 0 radio,
     .hitchRequest 0 hitch, .commitBlockReceive 0 head block, .cassettePowerOn 0 1 report, .testFrameTimeout 0 1]
    : List Instr).all (fun x => x.wellFormed) = true := by decide +kernel


/-! ### Lands: the examples of R481 and R482 -/

theorem test_southern_lands :
    landName (Signal.drv 389).land = "BC6" ∧ landName (Signal.sns 389).land = "AW6" ∧
    landName (Signal.bck 12).land = "BC9" ∧ landName (Signal.hbclk 12).land = "BA9" ∧
    landName (Signal.hbdo 12).land = "AW9" ∧ landName (Signal.hbdi 12).land = "AU9" ∧
    landName (Signal.hbsel 12).land = "BC10" ∧ landName (Signal.flt 12).land = "BB10" := by decide

theorem test_northern_and_band_lands :
    landName (Signal.drv 160).land = "J11" ∧ landName (Signal.sns 160).land = "N11" ∧
    landName (Signal.rf 0).land = "Y32" ∧ landName (Signal.rf 1).land = "AD32" ∧
    landName Signal.emlt.land = "AC20" ∧ landName (Signal.sbDet 1).land = "AE13" := by decide

/-! ### States and operands that meet the hypotheses of each statement, clause by clause -/

theorem witness_IdleStep :
    ∃ (s : State), s.pending = [] :=
  ⟨State.reset, by decide +kernel⟩

theorem witness_StepClockAndQueue :
    ∃ (s u : State), step s = .next u :=
  ⟨live, live, rfl⟩

theorem witness_StepKeepsHoldRule :
    ∃ (s u : State), s.HoldRule ∧ step s = .next u :=
  ⟨live, live, ⟨by unfold State.HoldRule; decide +kernel, rfl⟩⟩

theorem witness_StoreReadsBack :
    ∃ (s : State) (id e : Nat) (v : Word), e < 65536 :=
  ⟨live, 0x0300, 65535, 7, by decide +kernel⟩

theorem witness_CycleCommands :
    (∃ (t : Nat) (s : State), (s.at_ t).boundaryDue = true) ∧
    (∃ (t : Nat) (s : State), (s.at_ t).boundaryDue = false ∧ (s.at_ t).firstBoundary = true) ∧
    (∃ (t : Nat) (s : State), (s.at_ t).boundaryDue = false ∧ (s.at_ t).firstBoundary = false) ∧
    (∃ (t a : Nat) (s : State), s.prog.phase ≠ .idle ∧ s.prog.late = false ∧ s.prog.nextAt = some a ∧ a ≤ max s.now
      t) ∧
    (∃ (t speed : Nat) (s : State), s.prog.phase = .quiescent ∧ s.power.phase = .running) ∧
    (∃ (t : Nat) (s : State) (r : CommittedRecord) (rest : List CommittedRecord), s.awake = true ∧ s.prog.records =
      r :: rest ∧ (rest = [] → s.prog.copyEnds ≤ max s.now t)) ∧
    (∃ (t : Nat) (s : State), (s.at_ t).boundaryDue = true) :=
  ⟨⟨0, late.withProg (fun p => { p with nextAt := some late.now }), by decide +kernel⟩,
   ⟨0, { (late.withPower (fun p => { p with phase := .enumerating })) with spineLocked := true }, by decide +kernel⟩,
   ⟨0, State.reset, by decide +kernel⟩,
   ⟨0, late.now, late.withProg (fun p => { p with phase := .quiescent, nextAt := some late.now }),
     by decide +kernel⟩,
   ⟨0, 0, live.withProg (fun p => { p with phase := .quiescent }), by decide +kernel⟩,
   ⟨0, live.withProg (fun p => { p with records := [⟨[], []⟩] }), ⟨[], []⟩, [],
     ⟨by decide +kernel, rfl, fun _ => by decide +kernel⟩⟩,
   ⟨0, late.withProg (fun p => { p with nextAt := some late.now }), by decide +kernel⟩⟩

theorem witness_GraphCommands :
    (∃ (t core i : Nat) (s : State), s.jobOf core = some i) ∧
    (∃ (t core i : Nat) (s : State), s.jobOf core = some i) ∧
    (∃ (t core i : Nat) (s : State), s.jobOf core = some i ∧ (s.core_ core).since + 2 * ms < max s.now t) ∧
    (∃ (t a : Nat) (s : State), s.prog.phase = .graph ∧ s.prog.tokenWait = some a) ∧
    (∃ (t core a : Nat) (s : State), s.prog.phase = .graph ∧ core < 8 ∧ (s.core_ core).waitFrom = some a) :=
  ⟨⟨0, 7, 3, (live.withProg (fun p => { p with phase := .graph })).modCore 7 (fun c =>
     { c with job := some 3, waitFrom := none }), by decide +kernel⟩,
   ⟨0, 7, 3, (live.withProg (fun p => { p with phase := .graph })).modCore 7 (fun c =>
     { c with job := some 3, waitFrom := none }), by decide +kernel⟩,
   ⟨0, 0, 3, (late.withProg (fun p => { p with phase := .graph })).modCore 0 (fun c =>
     { c with job := some 3, waitFrom := none, since := late.now - 2 * ms - 1 }), by decide +kernel⟩,
   ⟨0, 5, live.withProg (fun p => { p with phase := .graph, tokenWait := some 5 }), by decide +kernel⟩,
   ⟨0, 7, 5, (live.withProg (fun p => { p with phase := .graph })).modCore 7 (fun c =>
     { c with job := some 3, waitFrom := some 5 }), by decide +kernel⟩⟩

theorem witness_FailedCellIsHeldInvalid :
    ∃ (s : State) (i how : Nat), i < s.prog.runs.length :=
  ⟨live.withProg (fun p => { p with runs := [CellRun.fresh [0]] }), 0, 0, by decide +kernel⟩

theorem witness_RestartCommands :
    (∃ (t : Nat) (s : State), s.power.phase = .reloading) ∧
    (∃ (t vin : Nat) (failed : List Nat) (s : State), s.power.phase = .stopping ∧ (s.at_ t).banksWaited = true) ∧
    (∃ (t c : Nat) (s : State), s.tcxoStopped = some c ∧ s.power.phase ∈ [.running, .enumerating, .reloading,
      .farrier, .stopping]) ∧
    (∃ (t c : Nat) (s : State), s.tcxoStopped = some c ∧ s.power.phase ∉ [.running, .enumerating, .reloading,
      .farrier, .stopping]) ∧
    (∃ (t : Nat) (s : State), (s.at_ t).enumerationOver = true) :=
  ⟨⟨0, live.withPower (fun p => { p with phase := .reloading }), by decide +kernel⟩,
   ⟨0, 24000, [], live.withPower (fun p => { p with phase := .stopping }), by decide +kernel⟩,
   ⟨0, 5, { live with tcxoStopped := some 5 }, by decide +kernel⟩,
   ⟨0, 5, { live with tcxoStopped := some 5, power := { live.power with phase := .held } }, by decide +kernel⟩,
   ⟨0, late.withPower (fun p => { p with phase := .enumerating, phaseSince := late.now - 500 * ms }),
     by decide +kernel⟩⟩

theorem witness_SpineCommands :
    (∃ (t error : Nat) (s : State), s.spineLocked = true) ∧
    (∃ (t : Nat) (s : State), s.spineLocked = false ∧ s.tcxoStopped = none) ∧
    (∃ (t : Nat) (s : State), s.tcxoStopped = none) :=
  ⟨⟨0, 3, live, by decide +kernel⟩,
   ⟨0, { live with spineLocked := false }, by decide +kernel⟩,
   ⟨0, live, by decide +kernel⟩⟩

theorem witness_EmltCommands :
    (∃ (t : Nat) (s : State), s.drive.emlt = false ∧ s.domainOn 1 = true) ∧
    (∃ (t : Nat) (s : State), s.drive.emlt = false ∧ s.domainOn 1 = false) ∧
    (∃ (t : Nat) (s : State), s.drive.emlt = true ∧ s.domainOn 1 = true) ∧
    (∃ (t a : Nat) (s : State), s.drive.emltLow = some a ∧ s.drive.emltHeld = true ∧ a + s.p Pid.drvEmltReleaseUs *
      us ≤ max s.now t) :=
  ⟨⟨0, live, by decide +kernel⟩,
   ⟨0, live.withPower (fun p => { p with domains := 0 }), by decide +kernel⟩,
   ⟨0, live.withDrive (fun d => { d with emlt := true }), by decide +kernel⟩,
   ⟨0, 5, late.withDrive (fun d => { d with emltLow := some 5, emltHeld := true }), by decide +kernel⟩⟩

theorem witness_DriveCommands :
    (∃ (t bank : Nat) (s : State), bank < 16 ∧ (s.bd bank).running = true ∧ s.nextPeriod bank ≤ max s.now t ∧ (s.bd
      bank).stopping = false ∧ (s.bd bank).change = false) ∧
    (∃ (t bank : Nat) (s : State), bank < 16 ∧ (s.bd bank).running = true ∧ s.nextPeriod bank ≤ max s.now t ∧ (s.bd
      bank).stopping = true) ∧
    (∃ (t bank : Nat) (s : State), bank < 16 ∧ (s.bd bank).running = true ∧ s.nextPeriod bank ≤ max s.now t ∧ (s.bd
      bank).stopping = false ∧ (s.bd bank).change = true) ∧
    (∃ (t ch a : Nat) (s : State), ch < 512 ∧ (s.at_ t).laneStart ch = some a ∧ s.teamAt ch = none) ∧
    (∃ (t ch a team : Nat) (s : State), ch < 512 ∧ (s.at_ t).laneStart ch = some a ∧ s.teamAt ch = some team) ∧
    (∃ (t bank : Nat) (e : ExtraMarks) (s : State), bank < 16 ∧ (s.bd bank).extra = some e ∧ (s.bd bank).running =
      true ∧ e.next ≤ max s.now t) ∧
    (∃ (t ch : Nat) (a : SentAmp) (s : State), ch < 512 ∧ (s.at_ t).epochDue ch = true ∧ (s.cd ch).sent = some a) :=
  ⟨⟨0, 15, late.modBd 15 (fun d => { d with running := true, nextStart := some late.now }), by decide +kernel⟩,
   ⟨0, 0, late.modBd 0 (fun d => { d with running := true, nextStart := some late.now, stopping := true }),
     by decide +kernel⟩,
   ⟨0, 15, late.modBd 15 (fun d => { d with running := true, nextStart := some late.now, change := true }),
     by decide +kernel⟩,
   ⟨0, 511, late.now - 32000 + lanePhase 31 32000 2, (late.modBd 15 (fun d =>
     { d with running := true, lastStart := some (late.now - 32000) })).modTd 511 (fun d => { d with size := 0 }),
     by decide +kernel⟩,
   ⟨0, 0, late.now - 32000 + lanePhase 0 32000 2, 0, late.modBd 0 (fun d =>
     { d with running := true, lastStart := some (late.now - 32000) }), by decide +kernel⟩,
   ⟨0, 15, ⟨40000, late.now⟩, late.modBd 15 (fun d => { d with running := true, extra := some ⟨40000, late.now⟩ }),
     by decide +kernel⟩,
   ⟨0, 511, ⟨9, 9, 0, false, 0⟩, late.modCd 511 (fun d => { d with sent := some ⟨9, 9, 0, false, 0⟩ }),
     by decide +kernel⟩⟩

theorem witness_BoundaryOpcodesWait :
    (∃ (s : State) , Meets s .host (.opcode 0x12) (fun _ => .boundary) (fun q a => a.wheeler = false ∧
      (q.payload.length = 4 ∨ q.payload.length = 8) ∧ bits (nth q.payload 1) 29 0 = 0 ∧ (nth q.payload 2).toNat ≤
      604800)) ∧
    (∃ (s : State) , Meets s .host (.opcode 0x12) (fun _ => .boundary) (fun q a => a.wheeler = false ∧
      (q.payload.length = 4 ∨ q.payload.length = 8) ∧ bits (nth q.payload 1) 29 0 = 0 ∧ 604800 < (nth q.payload
      2).toNat)) ∧
    (∃ (s : State) , Meets s .host (.opcode 0x13) (fun _ => .boundary) (fun q a => a.wheeler = false ∧
      q.payload.length = 2 ∧ bits (nth q.payload 1) 29 0 = 0)) ∧
    (∃ (s : State) , Meets s .host (.opcode 0x20) (fun _ => .boundary) (fun q a => a.wheeler = false ∧ 1 ≤ bits (nth
      q.payload 0) 15 0 ∧ bits (nth q.payload 0) 31 16 % 32 + bits (nth q.payload 0) 15 0 ≤ 32 ∧ bits (nth q.payload
      0) 31 16 < 512 ∧ q.payload.length = 2 + bits (nth q.payload 0) 15 0 ∧ ∀ w ∈ q.payload.drop 2, w.toNat <
      65536)) ∧
    (∃ (s : State) , Meets s .host (.opcode 0x21) (fun _ => .boundary) (fun q a => a.wheeler = false ∧
      q.payload.length = 1 ∧ (bits (nth q.payload 0) 31 16 = 0xFFFF ∨ (1 ≤ bits (nth q.payload 0) 15 0 ∧ bits (nth
      q.payload 0) 31 16 % 32 + bits (nth q.payload 0) 15 0 ≤ 32 ∧ bits (nth q.payload 0) 31 16 < 512)))) ∧
    (∃ (s : State) , Meets s .host (.opcode 0x22) (fun _ => .boundary) (fun q a => a.wheeler = false ∧
      q.payload.length = 6 ∧ (nth q.payload 0).toNat < 768 ∧ bits (nth q.payload 1) 15 8 ≤ 1 ∧ bits (nth q.payload
      1) 7 0 = 0)) ∧
    (∃ (s : State) , Meets s .host (.opcode 0x23) (fun _ => .boundary) (fun q a => a.wheeler = false ∧
      q.payload.length = 1 ∧ ((nth q.payload 0).toNat < 768 ∨ nth q.payload 0 = 0xFFFF))) ∧
    (∃ (s : State) , Meets s .host (.opcode 0x33) (fun _ => .boundary) (fun q a => a.wheeler = false ∧
      q.payload.length = 3 ∧ bits (nth q.payload 1) 30 8 = 0)) ∧
    (∃ (s : State) , Meets s .host (.opcode 0x34) (fun _ => .boundary) (fun q a => a.wheeler = false ∧
      q.payload.length = 2)) ∧
    (∃ (s : State) , Meets s .host (.opcode 0x12) (fun _ => .boundary) (fun _ a => a.wheeler = true)) ∧
    (∃ (s : State) , Meets s .host (.opcode 0x13) (fun _ => .boundary) (fun _ a => a.wheeler = true)) ∧
    (∃ (s : State) , Meets s .host (.opcode 0x20) (fun _ => .boundary) (fun _ a => a.wheeler = true)) ∧
    (∃ (s : State) , Meets s .host (.opcode 0x22) (fun _ => .boundary) (fun _ a => a.wheeler = true)) :=
  ⟨⟨(talk live (hostSession 4) 0x12 1 [0, 0, 604800, 0]), meets (by decide +kernel) (by decide +kernel)⟩,
   ⟨(talk live (hostSession 2) 0x12 1 [0, 0, 604801, 0]), meets (by decide +kernel) (by decide +kernel)⟩,
   ⟨(talk live (hostSession 2) 0x13 1 [0, 0xC0000000]), meets (by decide +kernel) (by decide +kernel)⟩,
   ⟨(talk live (hostSession 2) 0x20 1 [0x01FF0001, 0, 65535]), meets (by decide +kernel)
     (by refine ⟨by decide +kernel, by decide +kernel, by decide +kernel, by decide +kernel, by decide +kernel, fun w hw => of_decide_eq_true (List.all_eq_true.mp (by decide +kernel : List.all _ (fun w : Word => decide (w.toNat < 65536)) = true) w hw)⟩)⟩,
   ⟨(talk live (hostSession 2) 0x21 1 [0xFFFF0000]), meets (by decide +kernel) (by decide +kernel)⟩,
   ⟨(talk live (hostSession 2) 0x22 1 [767, 0x100, 0, 0, 0, 0]), meets (by decide +kernel) (by decide +kernel)⟩,
   ⟨(talk live (hostSession 2) 0x23 1 [767]), meets (by decide +kernel) (by decide +kernel)⟩,
   ⟨(talk live (hostSession 2) 0x33 1 [1, 0x800000FF, 5]), meets (by decide +kernel) (by decide +kernel)⟩,
   ⟨(talk live (hostSession 2) 0x34 1 [1, 5]), meets (by decide +kernel) (by decide +kernel)⟩,
   ⟨(talk (live.setP Pid.tdmRole 0 2) (hostSession 2) 0x12 1 [0]), meets (by decide +kernel) (by decide +kernel)⟩,
   ⟨(talk (live.setP Pid.tdmRole 0 2) (hostSession 2) 0x13 1 [0]), meets (by decide +kernel) (by decide +kernel)⟩,
   ⟨(talk (live.setP Pid.tdmRole 0 2) (hostSession 2) 0x20 1 [0]), meets (by decide +kernel) (by decide +kernel)⟩,
   ⟨(talk (live.setP Pid.tdmRole 0 2) (hostSession 2) 0x22 1 [0]), meets (by decide +kernel) (by decide +kernel)⟩⟩

theorem witness_MoreBoundaryOpcodesWait :
    (∃ (s : State) , Meets s .host (.opcode 0x31) (fun _ => .boundary) (fun q a => a.wheeler = false ∧ a.storageUp =
      true ∧ q.payload.length = 1)) ∧
    (∃ (s : State) , Meets s .host (.opcode 0x31) (fun _ => .boundary) (fun _ a => a.wheeler = false ∧ a.storageUp =
      false)) ∧
    (∃ (s : State) , Meets s .host (.opcode 0x36) (fun _ => .boundary) (fun q a => q.payload.length = 1 ∧ (nth
      q.payload 0).toNat ≤ 1 ∧ (nth q.payload 0 = 0 → 3 ≤ q.role) ∧ a.p Pid.updState = 0)) ∧
    (∃ (s : State) , Meets s .host (.opcode 0x36) (fun _ => .boundary) (fun q _ => q.payload.length = 1 ∧ nth
      q.payload 0 = 0 ∧ q.role < 3)) ∧
    (∃ (s : State) , Meets s .host (.opcode 0x42) (fun _ => .boundary) (fun q _ => 1 ≤ q.payload.length ∧
      q.payload.length ≤ 129 ∧ bits (nth q.payload 0) 31 8 = 0 ∧ schedBad 1 (q.payload.drop 1) = none)) ∧
    (∃ (s : State) , Meets s .host (.opcode 0xC0) (fun _ => .boundary) (fun q a => q.payload.length = 2 ∧
      a.testFailure q.payload = none)) ∧
    (∃ (s : State) , Meets s .host (.opcode 0xC2) (fun _ => .boundary) (fun q _ => q.payload.length = 1 ∧ (linkOf
      (nth q.payload 0)).isSome = true)) ∧
    (∃ (s : State) , Meets s .host (.opcode 0xA1) (fun _ => .boundary) (fun q a => q.payload.length = 0 ∧
      a.yieldRefusal = none)) ∧
    (∃ (s : State) (n : Nat), Meets s .host (.opcode 0xA1) (fun _ => .boundary) (fun q a => q.payload.length = 0 ∧
      a.yieldRefusal = some n)) :=
  ⟨⟨(talk (live.setP Pid.sbState 1 3) (hostSession 2) 0x31 1 [7]), meets (by decide +kernel) (by decide +kernel)⟩,
   ⟨(talk live (hostSession 2) 0x31 1 [7]), meets (by decide +kernel) (by decide +kernel)⟩,
   ⟨(talk live (hostSession 3) 0x36 1 [0]), meets (by decide +kernel) (by decide +kernel)⟩,
   ⟨(talk live (hostSession 2) 0x36 1 [0]), meets (by decide +kernel) (by decide +kernel)⟩,
   ⟨(talk live (hostSession 2) 0x42 1 [255]), meets (by decide +kernel) (by decide +kernel)⟩,
   ⟨(talk live (hostSession 2) 0xC0 1 [0x000F0000, 1]), meets (by decide +kernel) (by decide +kernel)⟩,
   ⟨(talk live (hostSession 2) 0xC2 1 [0x000F0000]), meets (by decide +kernel) (by decide +kernel)⟩,
   ⟨(talk ((live.setP Pid.tdmRole 0 1).setP Pid.tdmState 0 3) (hostSession 3) 0xA1 1 []), meets (by decide +kernel)
     (by decide +kernel)⟩,
   ⟨(talk live (hostSession 3) 0xA1 1 []), 1, meets (by decide +kernel) (by decide +kernel)⟩⟩

theorem witness_SessionOpcodes :
    (∃ (s : State) (k : Session), Meets s .host (.opcode 0x01) (fun _ => .immediate) (fun q a => a.session q.session
      = some k ∧ k.proved = false ∧ k.slot = 0xFF ∧ q.payload.length = 8 ∧ q.payload = k.proof (a.sessionSlotKey
      k.slot k.role))) ∧
    (∃ (s : State) (k : Session), Meets s .host (.opcode 0x01) (fun _ => .immediate) (fun q a => a.session q.session
      = some k ∧ k.proved = false ∧ k.slot = 0xFF ∧ q.payload.length = 8 ∧ q.payload ≠ k.proof (a.sessionSlotKey
      k.slot k.role))) ∧
    (∃ (s : State) (k : Session), Meets s .host (.opcode 0x01) (fun _ => .immediate) (fun q a => a.session q.session
      = some k ∧ k.proved = true ∧ q.payload.length = 8)) ∧
    (∃ (s : State) , Meets s .host (.opcode 0x02) (fun _ => .immediate) (fun q _ => q.payload.length = 0)) ∧
    (∃ (s : State) (tk : Ticket) (n : Nat) (r : Result), Meets s .host (.opcode 0x03) (fun _ => .immediate) (fun q a
      => q.payload.length = 0 ∧ (a.session q.session).bind (fun k => k.ticket q.ticket) = some tk ∧ tk.result = some
      (n, r) ∧ tk.readOnce = false)) ∧
    (∃ (s : State) (tk : Ticket) (n : Nat) (r : Result), Meets s .host (.opcode 0x03) (fun _ => .immediate) (fun q a
      => q.payload.length = 0 ∧ (a.session q.session).bind (fun k => k.ticket q.ticket) = some tk ∧ tk.result = some
      (n, r) ∧ tk.readOnce = true)) ∧
    (∃ (s : State) (tk : Ticket), Meets s .host (.opcode 0x03) (fun _ => .immediate) (fun q a => q.payload.length =
      0 ∧ (a.session q.session).bind (fun k => k.ticket q.ticket) = some tk ∧ tk.result = none)) ∧
    (∃ (s : State) , Meets s .host (.opcode 0x03) (fun _ => .immediate) (fun q a => q.payload.length = 0 ∧
      (a.session q.session).bind (fun k => k.ticket q.ticket) = none)) ∧
    (∃ (s : State) , Meets s .host (.opcode 0x04) (fun _ => .immediate) (fun q _ => q.broadcast = false ∧
      q.payload.length ≤ 16)) ∧
    (∃ (s : State) , Meets s .host (.opcode 0x04) (fun _ => .immediate) (fun q _ => q.broadcast = false ∧ 16 <
      q.payload.length)) ∧
    (∃ (s : State) , Meets s .host (.opcode 0x05) (fun _ => .immediate) (fun q _ => q.payload.length = 0)) :=
  ⟨⟨(talk live { hostSession 3 with proved := false } 0x01 0 [0, 0, 0, 0, 0, 0, 0, 0]),
     { hostSession 3 with proved := false, highest := some 1 }, meets (by decide +kernel) (by decide +kernel)⟩,
   ⟨(talk live { hostSession 3 with proved := false } 0x01 0 [0, 0, 0, 0, 0, 0, 0, 1]),
     { hostSession 3 with proved := false, highest := some 1 }, meets (by decide +kernel) (by decide +kernel)⟩,
   ⟨(talk live (hostSession 3) 0x01 0 [0, 0, 0, 0, 0, 0, 0, 0]), { hostSession 3 with highest := some 1 }, meets
     (by decide +kernel) (by decide +kernel)⟩,
   ⟨(talk live (hostSession 0) 0x02 0 []), meets (by decide +kernel) (by decide +kernel)⟩,
   ⟨(talk live { hostSession 0 with tickets := [⟨255, some (7, ok [5]), false⟩] } 0x03 255 []), ⟨255, some (7, ok
     [5]), false⟩, 7, ok [5], meets (by decide +kernel) (by decide +kernel)⟩,
   ⟨(talk live { hostSession 0 with tickets := [⟨1, some (7, ok [5]), true⟩] } 0x03 1 []), ⟨1, some (7, ok [5]),
     true⟩, 7, ok [5], meets (by decide +kernel) (by decide +kernel)⟩,
   ⟨(talk live { hostSession 0 with tickets := [⟨1, none, false⟩] } 0x03 1 []), ⟨1, none, false⟩, meets
     (by decide +kernel) (by decide +kernel)⟩,
   ⟨(talk live (hostSession 0) 0x03 1 []), meets (by decide +kernel) (by decide +kernel)⟩,
   ⟨(talk live (hostSession 0) 0x04 0 [1, 2, 3, 4, 5, 6, 7, 8, 9, 10, 11, 12, 13, 14, 15, 16]), meets
     (by decide +kernel) (by decide +kernel)⟩,
   ⟨(talk live (hostSession 0) 0x04 0 [1, 2, 3, 4, 5, 6, 7, 8, 9, 10, 11, 12, 13, 14, 15, 16, 17]), meets
     (by decide +kernel) (by decide +kernel)⟩,
   ⟨(talk live (hostSession 3) 0x05 0 []), meets (by decide +kernel) (by decide +kernel)⟩⟩

theorem witness_ParameterReads :
    (∃ (s : State) (r : ParamRow), Meets s .host (.opcode 0x10) (fun _ => .immediate) (fun q a => q.payload.length =
      2 ∧ paramRow (bits (nth q.payload 0) 31 16) = some r ∧ a.farrier = false ∧ r.readRole ≤ q.role ∧ 1 + (nth
      q.payload 1).toNat ≤ q.limit ∧ 0 < (nth q.payload 1).toNat ∧ runBeyond r (bits (nth q.payload 0) 15 0) (nth
      q.payload 1).toNat = none)) ∧
    (∃ (s : State) , Meets s .host (.opcode 0x10) (fun _ => .immediate) (fun q _ => q.payload.length = 2 ∧ paramRow
      (bits (nth q.payload 0) 31 16) = none)) ∧
    (∃ (s : State) (r : ParamRow), Meets s .host (.opcode 0x10) (fun _ => .immediate) (fun q a => q.payload.length =
      2 ∧ paramRow (bits (nth q.payload 0) 31 16) = some r ∧ a.farrier = false ∧ q.role < r.readRole)) ∧
    (∃ (s : State) (r : ParamRow), Meets s .host (.opcode 0x14) (fun _ => .immediate) (fun q _ => q.payload.length =
      1 ∧ paramRow (bits (nth q.payload 0) 31 16) = some r ∧ bits (nth q.payload 0) 15 0 = 0)) :=
  ⟨⟨(talk live (hostSession 4) 0x10 0 [word (Pid.drvOutAmp * 65536 + 511), 1]), (paramRow Pid.drvOutAmp).get
     (by decide +kernel), meets (by decide +kernel) (by decide +kernel)⟩,
   ⟨(talk live (hostSession 4) 0x10 0 [0xFFFF0000, 1]), meets (by decide +kernel) (by decide +kernel)⟩,
   ⟨(talk live (hostSession 0) 0x10 0 [word (Pid.keySlotState * 65536), 1]), (paramRow Pid.keySlotState).get
     (by decide +kernel), meets (by decide +kernel) (by decide +kernel)⟩,
   ⟨(talk live (hostSession 0) 0x14 0 [word (Pid.keySlotState * 65536)]), (paramRow Pid.keySlotState).get
     (by decide +kernel), meets (by decide +kernel) (by decide +kernel)⟩⟩

theorem witness_ProgramOpcodes :
    (∃ (s : State) (held : List Word), Meets s .host (.opcode 0x30) (fun _ => .deferred) (fun q a => 2 ≤
      q.payload.length ∧ (nth q.payload 1).toNat = 0 ∧ a.storageUp = true ∧ 0 < (nth q.payload 0).toNat ∧
      a.prog.partial_ = some held ∧ held.length = (nth q.payload 0).toNat)) ∧
    (∃ (s : State) (held : List Word), Meets s .host (.opcode 0x30) (fun _ => .deferred) (fun q a => 2 ≤
      q.payload.length ∧ nth q.payload 1 = 0x80000000 ∧ a.storageUp = true ∧ 0 < (nth q.payload 0).toNat ∧
      a.prog.partial_ = some held ∧ held.length = (nth q.payload 0).toNat)) ∧
    (∃ (s : State) , Meets s .host (.opcode 0x32) (fun _ => .deferred) (fun q a => q.payload.length = 0 ∧
      a.prog.previous ≠ [] ∧ a.storageUp = true)) ∧
    (∃ (s : State) , Meets s .host (.opcode 0x32) (fun _ => .deferred) (fun q a => q.payload.length = 0 ∧
      a.prog.previous = [])) ∧
    (∃ (s : State) , Meets s .host (.opcode 0x37) (fun _ => .immediate) (fun q a => q.payload.length = 3 ∧ nth
      q.payload 0 = 0 ∧ (nth q.payload 1).toNat < a.prog.active.length ∧ (nth q.payload 1).toNat + (nth q.payload
      2).toNat ≤ a.prog.active.length)) ∧
    (∃ (s : State) (i : Nat), Meets s .host (.opcode 0x35) (fun _ => .immediate) (fun q a => q.payload.length = 1 ∧
      a.cellNamed (nth q.payload 0).toNat = some i)) ∧
    (∃ (s : State) , Meets s .host (.opcode 0x24) (fun _ => .immediate) (fun q _ => q.payload.length = 1 ∧ 1 ≤ bits
      (nth q.payload 0) 15 0 ∧ bits (nth q.payload 0) 15 0 ≤ 64 ∧ bits (nth q.payload 0) 31 16 + bits (nth q.payload
      0) 15 0 ≤ 768)) ∧
    (∃ (s : State) , Meets s .host (.opcode 0x24) (fun _ => .immediate) (fun q _ => q.payload.length = 1 ∧ 768 <
      bits (nth q.payload 0) 31 16 + bits (nth q.payload 0) 15 0)) :=
  ⟨⟨(talk ((live.setP Pid.sbState 1 3).withProg (fun p => { p with partial_ := some [5] })) (hostSession 2) 0x30 1
     [1, 0, 7]), [5], meets (by decide +kernel) (by decide +kernel)⟩,
   ⟨(talk ((live.setP Pid.sbState 1 3).withProg (fun p => { p with partial_ := some [5] })) (hostSession 2) 0x30 1
     [1, 0x80000000]), [5], meets (by decide +kernel) (by decide +kernel)⟩,
   ⟨(talk ((live.setP Pid.sbState 1 3).withProg (fun p => { p with previous := [5] })) (hostSession 2) 0x32 1 []),
     meets (by decide +kernel) (by decide +kernel)⟩,
   ⟨(talk live (hostSession 2) 0x32 1 []), meets (by decide +kernel) (by decide +kernel)⟩,
   ⟨(talk (live.withProg (fun p => { p with active := [5, 6] })) (hostSession 2) 0x37 0 [0, 1, 1]), meets
     (by decide +kernel) (by decide +kernel)⟩,
   ⟨(talk (live.withProg (fun p => { p with descs := [⟨9, 1, 0, [], [], []⟩] })) (hostSession 0) 0x35 0 [9]), 0,
     meets (by decide +kernel) (by decide +kernel)⟩,
   ⟨(talk live (hostSession 0) 0x24 0 [0x02C00040]), meets (by decide +kernel) (by decide +kernel)⟩,
   ⟨(talk live (hostSession 0) 0x24 0 [0x02C00041]), meets (by decide +kernel) (by decide +kernel)⟩⟩

theorem witness_ClockOpcodes :
    (∃ (s : State) , Meets s .host (.opcode 0x40) (fun _ => .immediate) (fun q _ => q.payload.length = 0)) ∧
    (∃ (s : State) , Meets s .host (.opcode 0x41) (fun _ => .deferred) (fun q a => q.payload.length = 4 ∧ 2 ≤ a.p
      Pid.timeQuality ∧ bits (nth q.payload 0) 31 16 = 0 ∧ (nth q.payload 2).toNat < 1000000000 ∧ (nth q.payload
      3).toNat = 0)) ∧
    (∃ (s : State) , Meets s .host (.opcode 0x41) (fun _ => .deferred) (fun q a => q.payload.length = 4 ∧ a.p
      Pid.timeQuality ≤ 1)) ∧
    (∃ (s : State) , Meets s .host (.opcode 0x43) (fun _ => .immediate) (fun q _ => q.payload.length = 1 ∧ (nth
      q.payload 0).toNat < 256)) ∧
    (∃ (s : State) , Meets s .host (.opcode 0x44) (fun _ => .immediate) (fun q _ => q.payload.length = 1 ∧ (nth
      q.payload 0).toNat ≤ 22118400)) ∧
    (∃ (s : State) , Meets s .host (.opcode 0x44) (fun _ => .immediate) (fun q _ => q.payload.length = 1 ∧ 22118400
      < (nth q.payload 0).toNat)) :=
  ⟨⟨(talk live (hostSession 0) 0x40 0 []), meets (by decide +kernel) (by decide +kernel)⟩,
   ⟨(talk live (hostSession 3) 0x41 1 [0xFFFF, 0, 999999999, 0]), meets (by decide +kernel) (by decide +kernel)⟩,
   ⟨(talk (live.setP Pid.timeQuality 0 1) (hostSession 3) 0x41 1 [0, 0, 0, 0]), meets (by decide +kernel)
     (by decide +kernel)⟩,
   ⟨(talk live (hostSession 0) 0x43 0 [255]), meets (by decide +kernel) (by decide +kernel)⟩,
   ⟨(talk live (hostSession 2) 0x44 0 [22118400]), meets (by decide +kernel) (by decide +kernel)⟩,
   ⟨(talk live (hostSession 2) 0x44 0 [22118401]), meets (by decide +kernel) (by decide +kernel)⟩⟩

theorem witness_WaybillOpcodes :
    (∃ (s : State) , Meets s .host (.opcode 0x50) (fun _ => .immediate) (fun q _ => q.payload.length = 2 ∧ 0 < (nth
      q.payload 1).toNat ∧ (nth q.payload 1).toNat ≤ (q.limit - 1) / 40)) ∧
    (∃ (s : State) , Meets s .host (.opcode 0x51) (fun _ => .immediate) (fun q _ => q.payload.length = 1 ∧ nth
      q.payload 0 = 1)) ∧
    (∃ (s : State) , Meets s .host (.opcode 0x51) (fun _ => .immediate) (fun q a => q.payload.length = 1 ∧ nth
      q.payload 0 = 0 ∧ a.waybill.frozenSince.isSome = true)) ∧
    (∃ (s : State) , Meets s .host (.opcode 0x51) (fun _ => .immediate) (fun q a => q.payload.length = 1 ∧ nth
      q.payload 0 = 0 ∧ a.waybill.frozenSince = none)) ∧
    (∃ (s : State) , Meets s .host (.opcode 0x52) (fun _ => .deferred) (fun q a => q.payload.length = 0 ∧
      a.waybill.frozenSince = none ∧ a.storageUp = true)) ∧
    (∃ (s : State) , Meets s .host (.opcode 0x52) (fun _ => .deferred) (fun q a => q.payload.length = 0 ∧
      (a.waybill.frozenSince.isSome = true ∨ a.storageUp = false))) ∧
    (∃ (s : State) , Meets s .host (.opcode 0x53) (fun _ => .immediate) (fun q _ => 1 ≤ q.payload.length ∧
      q.payload.length ≤ 17 ∧ 1 ≤ (nth q.payload 0).toNat ∧ (nth q.payload 0).toNat ≤ 63 ∧ ∀ w ∈ q.payload.drop 1,
      snapEntryOk w = true)) ∧
    (∃ (s : State) , Meets s .host (.opcode 0x53) (fun _ => .immediate) (fun q _ => 1 ≤ q.payload.length ∧
      q.payload.length ≤ 17 ∧ 63 < (nth q.payload 0).toNat)) :=
  ⟨⟨(talk live (hostSession 0) 0x50 0 [0, 102]), meets (by decide +kernel) (by decide +kernel)⟩,
   ⟨(talk live (hostSession 1) 0x51 0 [1]), meets (by decide +kernel) (by decide +kernel)⟩,
   ⟨(talk ({ live with waybill := { live.waybill with frozenSince := some 5 } }) (hostSession 1) 0x51 0 [0]), meets
     (by decide +kernel) (by decide +kernel)⟩,
   ⟨(talk live (hostSession 1) 0x51 0 [0]), meets (by decide +kernel) (by decide +kernel)⟩,
   ⟨(talk (live.setP Pid.sbState 1 3) (hostSession 3) 0x52 1 []), meets (by decide +kernel) (by decide +kernel)⟩,
   ⟨(talk live (hostSession 3) 0x52 1 []), meets (by decide +kernel) (by decide +kernel)⟩,
   ⟨(talk live (hostSession 3) 0x53 0 [63, 0xFFFFFFFF]), meets (by decide +kernel)
     (by refine ⟨by decide +kernel, by decide +kernel, by decide +kernel, by decide +kernel, fun w hw => List.all_eq_true.mp (by decide +kernel : List.all _ (fun w : Word => snapEntryOk w) = true) w hw⟩)⟩,
   ⟨(talk live (hostSession 3) 0x53 0 [64]), meets (by decide +kernel) (by decide +kernel)⟩⟩

theorem witness_ArchiveAndMeterOpcodes :
    (∃ (s : State) , Meets s .host (.opcode 0x60) (fun _ => .immediate) (fun q _ => q.payload.length = 0)) ∧
    (∃ (s : State) (b : MinuteBlock), Meets s .host (.opcode 0x61) (fun _ => .deferred) (fun q a => q.payload.length
      = 3 ∧ bits (nth q.payload 0) 31 16 = 0 ∧ 0 < bits (nth q.payload 2) 15 0 ∧ bits (nth q.payload 2) 31 16 + bits
      (nth q.payload 2) 15 0 ≤ 512 ∧ a.storageUp = true ∧ chooseBlock (bits (nth q.payload 0) 15 0 * 2 ^ 32 + (nth
      q.payload 1).toNat) a.archivedBlocks = some b)) ∧
    (∃ (s : State) , Meets s .host (.opcode 0x62) (fun _ => .immediate) (fun q _ => q.payload.length = 1 ∧ 0 < bits
      (nth q.payload 0) 15 0 ∧ bits (nth q.payload 0) 31 16 + bits (nth q.payload 0) 15 0 ≤ 512)) ∧
    (∃ (s : State) , Meets s .host (.opcode 0x62) (fun _ => .immediate) (fun q _ => q.payload.length = 1 ∧ 512 <
      bits (nth q.payload 0) 31 16 + bits (nth q.payload 0) 15 0)) :=
  ⟨⟨(talk live (hostSession 0) 0x60 0 []), meets (by decide +kernel) (by decide +kernel)⟩,
   ⟨(talk ((({ live with storage := { live.storage with landing := [⟨0, 100, 60000, [], []⟩] } } : State)).setP
     Pid.sbState 1 3) (hostSession 0) 0x61 1 [0, 100, 0x01FF0001]), ⟨0, 100, 60000, [], []⟩, meets
     (by decide +kernel) (by decide +kernel)⟩,
   ⟨(talk live (hostSession 0) 0x62 0 [0x01FF0001]), meets (by decide +kernel) (by decide +kernel)⟩,
   ⟨(talk live (hostSession 0) 0x62 0 [0x01FF0002]), meets (by decide +kernel) (by decide +kernel)⟩⟩

theorem witness_RelayOpcodes :
    (∃ (s : State) , Meets s .host (.opcode 0x70) (fun _ => .immediate) (fun q _ => q.payload.length = 1 ∧ 0 < bits
      (nth q.payload 0) 15 0 ∧ bits (nth q.payload 0) 31 16 + bits (nth q.payload 0) 15 0 ≤ 1024)) ∧
    (∃ (s : State) , Meets s .host (.opcode 0x71) (fun _ => .immediate) (fun q _ => q.payload.length = 1 ∧ 0 < (nth
      q.payload 0).toNat ∧ (nth q.payload 0).toNat ≤ 3600)) ∧
    (∃ (s : State) , Meets s .host (.opcode 0x71) (fun _ => .immediate) (fun q _ => q.payload.length = 1 ∧ nth
      q.payload 0 = 0)) ∧
    (∃ (s : State) , Meets s .host (.opcode 0x71) (fun _ => .immediate) (fun q _ => q.payload.length = 1 ∧ 3600 <
      (nth q.payload 0).toNat)) ∧
    (∃ (s : State) , Meets s .host (.opcode 0x72) (fun _ => .deferred) (fun q a => q.payload.length = 1 ∧ (nth
      q.payload 0).toNat < 1024 ∧ a.contextHeld (nth q.payload 0).toNat = true ∧ a.relaySends = false)) ∧
    (∃ (s : State) , Meets s .host (.opcode 0x72) (fun _ => .deferred) (fun q a => q.payload.length = 1 ∧ (nth
      q.payload 0).toNat < 1024 ∧ a.contextHeld (nth q.payload 0).toNat = true ∧ a.relaySends = true ∧
      (a.relay.evicting.any (fun x => x.1 == (nth q.payload 0).toNat) = true ∨ ((a.cellOf (nth q.payload
      0).toNat).flood = false ∧ (a.cellOf (nth q.payload 0).toNat).down ≠ 0)))) ∧
    (∃ (s : State) , Meets s .host (.opcode 0x72) (fun _ => .deferred) (fun q a => q.payload.length = 1 ∧ (nth
      q.payload 0).toNat < 1024 ∧ a.contextHeld (nth q.payload 0).toNat = true ∧ a.relaySends = true ∧
      a.relay.evicting.any (fun x => x.1 == (nth q.payload 0).toNat) = false ∧ ((a.cellOf (nth q.payload
      0).toNat).flood = true ∨ (a.cellOf (nth q.payload 0).toNat).down = 0))) ∧
    (∃ (s : State) , Meets s .host (.opcode 0x72) (fun _ => .deferred) (fun q a => q.payload.length = 1 ∧
      a.contextHeld (nth q.payload 0).toNat = false)) :=
  ⟨⟨(talk live (hostSession 0) 0x70 0 [0x03FF0001]), meets (by decide +kernel) (by decide +kernel)⟩,
   ⟨(talk live (hostSession 3) 0x71 0 [3600]), meets (by decide +kernel) (by decide +kernel)⟩,
   ⟨(talk live (hostSession 3) 0x71 0 [0]), meets (by decide +kernel) (by decide +kernel)⟩,
   ⟨(talk live (hostSession 3) 0x71 0 [3601]), meets (by decide +kernel) (by decide +kernel)⟩,
   ⟨(talk (live.setP Pid.relayNodeEui 2046 1) (hostSession 3) 0x72 1 [1023]), meets (by decide +kernel)
     (by decide +kernel)⟩,
   ⟨(talk ((relaying.setP Pid.relayNodeEui 2046 1).setP Pid.relayNodeCell 1023 4) (hostSession 3) 0x72 1 [1023]),
     meets (by decide +kernel) (by decide +kernel)⟩,
   ⟨(talk (relaying.setP Pid.relayNodeEui 2046 1) (hostSession 3) 0x72 1 [1023]), meets (by decide +kernel)
     (by decide +kernel)⟩,
   ⟨(talk live (hostSession 3) 0x72 1 [1023]), meets (by decide +kernel) (by decide +kernel)⟩⟩

theorem witness_KeyOpcodes :
    (∃ (s : State) , Meets s .host (.opcode 0x80) (fun _ => .immediate) (fun q _ => q.payload.length = 1 ∧ (nth
      q.payload 0).toNat ≤ 63)) ∧
    (∃ (s : State) (key : Nat), Meets s .host (.opcode 0x81) (fun _ => .deferred) (fun q a => a.wheeler = false ∧
      a.keyLoadRefusal q = none ∧ (a.openBlob (nth q.payload 0).toNat (q.payload.drop 2)).1 = some key)) ∧
    (∃ (s : State) , Meets s .host (.opcode 0x81) (fun _ => .deferred) (fun _ a => a.wheeler = true)) ∧
    (∃ (s : State) , Meets s .host (.opcode 0x82) (fun _ => .deferred) (fun q a => q.payload.length = 1 ∧ a.wheeler
      = false ∧ 1 ≤ (nth q.payload 0).toNat ∧ (nth q.payload 0).toNat ≤ 63 ∧ a.slotState (nth q.payload 0).toNat ≠
      0)) ∧
    (∃ (s : State) , Meets s .host (.opcode 0x82) (fun _ => .deferred) (fun q a => q.payload.length = 1 ∧ a.wheeler
      = false ∧ nth q.payload 0 = 0)) ∧
    (∃ (s : State) , Meets s .host (.opcode 0x83) (fun _ => .deferred) (fun q a => q.payload.length = 1 ∧ (nth
      q.payload 0).toNat ≤ 4 ∧ a.p Pid.updHolder = 0 ∧ a.lifecycleAllows q (nth q.payload 0).toNat = true)) ∧
    (∃ (s : State) , Meets s .host (.opcode 0x83) (fun _ => .deferred) (fun q a => q.payload.length = 1 ∧ (nth
      q.payload 0).toNat ≤ 4 ∧ a.p Pid.updHolder ≠ 0)) :=
  ⟨⟨(talk live (hostSession 3) 0x80 0 [63]), meets (by decide +kernel) (by decide +kernel)⟩,
   ⟨(talk (live.setP Pid.sbState 1 3) (hostSession 3) 0x81 1 [1, 0, 0x20000000, 0x00100000, 0, 0, 0, 9]), 9, meets
     (by decide +kernel) (by decide +kernel)⟩,
   ⟨(talk (live.setP Pid.tdmRole 0 2) (hostSession 3) 0x81 1 [0]), meets (by decide +kernel) (by decide +kernel)⟩,
   ⟨(talk (live.setP Pid.keySlotState 63 1) (hostSession 3) 0x82 1 [63]), meets (by decide +kernel)
     (by decide +kernel)⟩,
   ⟨(talk live (hostSession 3) 0x82 1 [0]), meets (by decide +kernel) (by decide +kernel)⟩,
   ⟨(talk live (hostSession 3) 0x83 1 [4]), meets (by decide +kernel) (by decide +kernel)⟩,
   ⟨(talk (live.setP Pid.updHolder 0 1) (hostSession 3) 0x83 1 [4]), meets (by decide +kernel) (by decide +kernel)⟩⟩

theorem witness_UpdateOpcodes :
    (∃ (s : State) , Meets s .host (.opcode 0x90) (fun _ => .deferred) (fun q a => q.payload.length = 9 ∧ a.p
      Pid.updHolder = 0 ∧ a.p Pid.updState = 0 ∧ a.farrier = false ∧ a.wheeler = false ∧ (∀ b : Nat, b < 16 →
      a.rung1 b = false) ∧ a.shed < 2 ∧ a.switchingOver = false ∧ a.pB Pid.sysOwnerLock = false ∧ a.slotState 3 = 1
      ∧ a.storageUp = true ∧ 82 ≤ (nth q.payload 8).toNat ∧ (nth q.payload 8).toNat ≤ 16777216)) ∧
    (∃ (s : State) , Meets s .host (.opcode 0x90) (fun _ => .deferred) (fun q a => q.payload.length = 9 ∧ (a.p
      Pid.updHolder ≠ 0 ∨ a.p Pid.updState ≠ 0))) ∧
    (∃ (s : State) , Meets s .host (.opcode 0x91) (fun _ => .immediate) (fun q a => a.p Pid.updHolder = q.session ∧
      a.p Pid.updHolder ≠ 0 ∧ a.p Pid.updState = 1 ∧ 1 ≤ q.payload.length ∧ (nth q.payload 0).toNat = a.p
      Pid.updWordsRx ∧ a.p Pid.updWordsRx + (q.payload.length - 1) ≤ a.p Pid.updSizeWords)) ∧
    (∃ (s : State) , Meets s .host (.opcode 0x91) (fun _ => .immediate) (fun q a => a.p Pid.updHolder = q.session ∧
      a.p Pid.updHolder ≠ 0 ∧ a.p Pid.updState ≠ 1)) ∧
    (∃ (s : State) , Meets s .host (.opcode 0x92) (fun _ => .deferred) (fun q a => q.payload.length = 8 ∧ a.p
      Pid.updHolder = q.session ∧ a.p Pid.updHolder ≠ 0 ∧ a.p Pid.updState = 1)) ∧
    (∃ (s : State) , Meets s .host (.opcode 0x93) (fun _ => .immediate) (fun q a => q.payload.length = 0 ∧ a.p
      Pid.updHolder = q.session ∧ a.p Pid.updHolder ≠ 0 ∧ a.p Pid.updState ≠ 2 ∧ a.update.opening = none)) ∧
    (∃ (s : State) , Meets s .host (.opcode 0x93) (fun _ => .immediate) (fun q a => q.payload.length = 0 ∧ a.p
      Pid.updHolder = q.session ∧ a.p Pid.updHolder ≠ 0 ∧ a.p Pid.updState = 2)) ∧
    (∃ (s : State) , Meets s .host (.opcode 0x94) (fun _ => .immediate) (fun q _ => q.payload.length = 0)) :=
  ⟨⟨(talk ((live.setP Pid.sbState 1 3).setP Pid.keySlotState 3 1) (hostSession 3) 0x90 1 [0, 0, 0, 0, 0, 0, 0, 0,
     82]), meets (by decide +kernel) (by decide +kernel)⟩,
   ⟨(talk (live.setP Pid.updHolder 0 1) (hostSession 3) 0x90 1 [0, 0, 0, 0, 0, 0, 0, 0, 82]), meets
     (by decide +kernel) (by decide +kernel)⟩,
   ⟨(talk (((live.setP Pid.updHolder 0 1).setP Pid.updState 0 1).setP Pid.updSizeWords 0 82) (hostSession 3) 0x91 0
     [0, 7]), meets (by decide +kernel) (by decide +kernel)⟩,
   ⟨(talk (live.setP Pid.updHolder 0 1) (hostSession 3) 0x91 0 [0, 7]), meets (by decide +kernel)
     (by decide +kernel)⟩,
   ⟨(talk ((live.setP Pid.updHolder 0 1).setP Pid.updState 0 1) (hostSession 3) 0x92 1 [0, 0, 0, 0, 0, 0, 0, 0]),
     meets (by decide +kernel) (by decide +kernel)⟩,
   ⟨(talk ((live.setP Pid.updHolder 0 1).setP Pid.updState 0 1) (hostSession 3) 0x93 0 []), meets
     (by decide +kernel) (by decide +kernel)⟩,
   ⟨(talk ((live.setP Pid.updHolder 0 1).setP Pid.updState 0 2) (hostSession 3) 0x93 0 []), meets
     (by decide +kernel) (by decide +kernel)⟩,
   ⟨(talk live (hostSession 3) 0x94 0 []), meets (by decide +kernel) (by decide +kernel)⟩⟩

theorem witness_PowerTandemAndTestOpcodes :
    (∃ (s : State) , Meets s .host (.opcode 0xB0) (fun _ => .immediate) (fun q _ => q.payload.length = 1)) ∧
    (∃ (s : State) , Meets s .host (.opcode 0xB1) (fun _ => .immediate) (fun q _ => q.payload.length = 0)) ∧
    (∃ (s : State) , Meets s .host (.opcode 0xA0) (fun _ => .immediate) (fun q _ => q.payload.length = 0)) ∧
    (∃ (s : State) (l : Nat), Meets s .host (.opcode 0xC1) (fun _ => .immediate) (fun q _ => q.payload.length = 1 ∧
      linkOf (nth q.payload 0) = some l)) ∧
    (∃ (s : State) , Meets s .host (.opcode 0xC1) (fun _ => .immediate) (fun q _ => q.payload.length = 1 ∧ linkOf
      (nth q.payload 0) = none)) :=
  ⟨⟨(talk live (hostSession 3) 0xB0 0 [0xFFFFFFFF]), meets (by decide +kernel) (by decide +kernel)⟩,
   ⟨(talk live (hostSession 3) 0xB1 0 []), meets (by decide +kernel) (by decide +kernel)⟩,
   ⟨(talk live (hostSession 3) 0xA0 0 []), meets (by decide +kernel) (by decide +kernel)⟩,
   ⟨(talk live (hostSession 3) 0xC1 0 [0x000F0000]), 15, meets (by decide +kernel) (by decide +kernel)⟩,
   ⟨(talk live (hostSession 3) 0xC1 0 [0x07000000]), meets (by decide +kernel) (by decide +kernel)⟩⟩

theorem witness_BoundarySetsWait :
    (∃ (s : State) , Meets s .host (.set .period) setKind (isSet Pid.drvPeriodNs)) ∧
    (∃ (s : State) , Meets s .host (.set .stagger) setKind (isSet Pid.drvStaggerMode)) ∧
    (∃ (s : State) , Meets s .host (.set .teamSize) setKind (isSet Pid.drvTeamSize)) ∧
    (∃ (s : State) , Meets s .host (.set .dimMode) setKind (isSet Pid.drvDimMode)) ∧
    (∃ (s : State) , Meets s .host (.set .decimRatio) setKind (isSet Pid.snsDecimRatio)) ∧
    (∃ (s : State) , Meets s .host (.set .colourMethod) setKind (isSet Pid.colourMethod)) ∧
    (∃ (s : State) , Meets s .host (.set .cycleTime) setKind (isSet Pid.progCycleMs)) ∧
    (∃ (s : State) , Meets s .host (.set .podZone) setKind (isSet Pid.presPodZone)) ∧
    (∃ (s : State) (id : Nat), id ∈ [Pid.outEdgeFrom, Pid.outEdgeTo] ∧ Meets s .host (.set .edgeEndpoint) setKind
      (isSet id)) ∧
    (∃ (s : State) (id : Nat), id ∈ [Pid.outEdgeTminMs, Pid.outEdgeTmaxMs] ∧ Meets s .host (.set .edgeBounds)
      setKind (isSet id)) ∧
    (∃ (s : State) , Meets s .host (.set .edgeHeading) setKind (isSet Pid.outEdgeHeading)) ∧
    (∃ (s : State) , Meets s .host (.set .edgeTau) setKind (isSet Pid.outEdgeTauUs)) ∧
    (∃ (s : State) (id : Nat), id ∈ [Pid.relayRate, Pid.relayPanId, Pid.relayChanExclude, Pid.relaySlotframe,
      Pid.relaySharedSlots] ∧ Meets s .host (.set .relayConfig) setKind (isSet id)) ∧
    (∃ (s : State) , Meets s .host (.set .tandemEnable) setKind (isSet Pid.tdmEnable)) :=
  ⟨⟨(talk live (hostSession 4) 0x11 1 [word (Pid.drvPeriodNs * 65536 + 15), 1, 40000]), meets (by decide +kernel)
     (by unfold isSet; decide +kernel)⟩,
   ⟨(talk live (hostSession 4) 0x11 1 [word (Pid.drvStaggerMode * 65536 + 15), 1, 1]), meets (by decide +kernel)
     (by unfold isSet; decide +kernel)⟩,
   ⟨(talk live (hostSession 4) 0x11 1 [word (Pid.drvTeamSize * 65536 + 511), 1, 1]), meets (by decide +kernel)
     (by unfold isSet; decide +kernel)⟩,
   ⟨(talk live (hostSession 4) 0x11 1 [word (Pid.drvDimMode * 65536 + 511), 1, 1]), meets (by decide +kernel)
     (by unfold isSet; decide +kernel)⟩,
   ⟨(talk live (hostSession 4) 0x11 1 [word (Pid.snsDecimRatio * 65536 + 15), 1, 4]), meets (by decide +kernel)
     (by unfold isSet; decide +kernel)⟩,
   ⟨(talk live (hostSession 4) 0x11 1 [word (Pid.colourMethod * 65536 + 511), 1, 1]), meets (by decide +kernel)
     (by unfold isSet; decide +kernel)⟩,
   ⟨(talk live (hostSession 4) 0x11 1 [word (Pid.progCycleMs * 65536 + 0), 1, 10]), meets (by decide +kernel)
     (by unfold isSet; decide +kernel)⟩,
   ⟨(talk live (hostSession 4) 0x11 1 [word (Pid.presPodZone * 65536 + 0), 1, 3]), meets (by decide +kernel)
     (by unfold isSet; decide +kernel)⟩,
   ⟨(talk live (hostSession 4) 0x11 1 [word (Pid.outEdgeFrom * 65536 + 0), 1, 3]), Pid.outEdgeFrom, by decide, meets
     (by decide +kernel) (by unfold isSet; decide +kernel)⟩,
   ⟨(talk live (hostSession 4) 0x11 1 [word (Pid.outEdgeTminMs * 65536 + 0), 1, 300]), Pid.outEdgeTminMs, by decide,
     meets (by decide +kernel) (by unfold isSet; decide +kernel)⟩,
   ⟨(talk live (hostSession 4) 0x11 1 [word (Pid.outEdgeHeading * 65536 + 0), 1, 0]), meets (by decide +kernel)
     (by unfold isSet; decide +kernel)⟩,
   ⟨(talk live (hostSession 4) 0x11 1 [word (Pid.outEdgeTauUs * 65536 + 0), 1, 500000]), meets (by decide +kernel)
     (by unfold isSet; decide +kernel)⟩,
   ⟨(talk live (hostSession 4) 0x11 1 [word (Pid.relayPanId * 65536 + 0), 1, 3]), Pid.relayPanId, by decide, meets
     (by decide +kernel) (by unfold isSet; decide +kernel)⟩,
   ⟨(talk live (hostSession 4) 0x11 1 [word (Pid.tdmEnable * 65536 + 0), 1, 1]), meets (by decide +kernel)
     (by unfold isSet; decide +kernel)⟩⟩

theorem witness_ImmediateSetsAct :
    (∃ (s : State) , Meets s .host (.set .plain) setKind (fun q a => a.setFailure q = none ∧ setKind q =
      .immediate)) ∧
    (∃ (s : State) , Meets s .host (.set .gainEst) setKind (isSet Pid.snsGainEst)) ∧
    (∃ (s : State) , Meets s .host (.set .vfRef) setKind (isSet Pid.diagVfRefMv)) ∧
    (∃ (s : State) (id : Nat), id ∈ [Pid.colourTeamFlux, Pid.colourHeadroom, Pid.colourCctMin, Pid.colourCctMax,
      Pid.colourFluxLm, Pid.colourProfile, Pid.colourProfFlux, Pid.colourProfX, Pid.colourProfY, Pid.colourWShare,
      Pid.colourWLane] ∧ Meets s .host (.set .fluxReference) setKind (isSet id)) ∧
    (∃ (s : State) , Meets s .host (.set .sensorCal) setKind (isSet Pid.colourSensorCal)) ∧
    (∃ (s : State) , Meets s .host (.set .hpEvent) setKind (isSet Pid.cmdHpEvent)) ∧
    (∃ (s : State) , Meets s .host (.set .ringMode) setKind (isSet Pid.netRingMode)) ∧
    (∃ (s : State) (id : Nat), id ∈ [Pid.netIpAddr, Pid.netIpMask, Pid.netIpGateway] ∧ Meets s .host (.set
      .ipAddress) setKind (isSet id)) ∧
    (∃ (s : State) , Meets s .host (.set .calendar) setKind (isSet Pid.timeCal)) ∧
    (∃ (s : State) , Meets s .host (.set .tzOffset) setKind (isSet Pid.timeTzOffsetMin)) ∧
    (∃ (s : State) , Meets s .host (.set .wakePeriod) setKind (isSet Pid.timeWakePeriod)) ∧
    (∃ (s : State) (id : Nat), id ∈ [Pid.timeAlarmS, Pid.timeAlarmNf, Pid.timeAlarmPeriodMs, Pid.timeAlarmCtrl] ∧
      Meets s .host (.set .alarm) setKind (isSet id)) ∧
    (∃ (s : State) , Meets s .host (.set .snapset) setKind (isSet Pid.wbSnapset)) ∧
    (∃ (s : State) , Meets s .host (.set .tamperLatch) setKind (isSet Pid.keyTamperStatus)) :=
  ⟨⟨(talk live (hostSession 4) 0x11 0 [word (Pid.sysName * 65536 + 0), 1, 1]), meets (by decide +kernel)
     (by decide +kernel)⟩,
   ⟨(talk live (hostSession 4) 0x11 0 [word (Pid.snsGainEst * 65536 + 0), 1, 65535]), meets (by decide +kernel)
     (by unfold isSet; decide +kernel)⟩,
   ⟨(talk live (hostSession 4) 0x11 0 [word (Pid.diagVfRefMv * 65536 + 511), 1, 3000]), meets (by decide +kernel)
     (by unfold isSet; decide +kernel)⟩,
   ⟨(talk live (hostSession 4) 0x11 0 [word (Pid.colourTeamFlux * 65536 + 511), 1, 1000]), Pid.colourTeamFlux,
     by decide, meets (by decide +kernel) (by unfold isSet; decide +kernel)⟩,
   ⟨(talk live (hostSession 4) 0x11 0 [word (Pid.colourSensorCal * 65536 + 511), 1, 1]), meets (by decide +kernel)
     (by unfold isSet; decide +kernel)⟩,
   ⟨(talk live (hostSession 4) 0x11 0 [word (Pid.cmdHpEvent * 65536 + 0), 1, 1]), meets (by decide +kernel)
     (by unfold isSet; decide +kernel)⟩,
   ⟨(talk live (hostSession 4) 0x11 0 [word (Pid.netRingMode * 65536 + 0), 1, 2]), meets (by decide +kernel)
     (by unfold isSet; decide +kernel)⟩,
   ⟨(talk live (hostSession 4) 0x11 0 [word (Pid.netIpMask * 65536 + 0), 1, 0xFFFFFF00]), Pid.netIpMask, by decide,
     meets (by decide +kernel) (by unfold isSet; decide +kernel)⟩,
   ⟨(talk live (hostSession 4) 0x11 0 [word (Pid.timeCal * 65536 + 0), 8, 0x20, 0x26, 1, 1, 4, 0x12, 0, 0]), meets
     (by decide +kernel) (by unfold isSet; decide +kernel)⟩,
   ⟨(talk live (hostSession 4) 0x11 0 [word (Pid.timeTzOffsetMin * 65536 + 0), 1, 60]), meets (by decide +kernel)
     (by unfold isSet; decide +kernel)⟩,
   ⟨(talk live (hostSession 4) 0x11 0 [word (Pid.timeWakePeriod * 65536 + 0), 1, 22118400]), meets
     (by decide +kernel) (by unfold isSet; decide +kernel)⟩,
   ⟨(talk live (hostSession 4) 0x11 0 [word (Pid.timeAlarmS * 65536 + 0), 1, 0]), Pid.timeAlarmS, by decide, meets
     (by decide +kernel) (by unfold isSet; decide +kernel)⟩,
   ⟨(talk live (hostSession 4) 0x11 0 [word (Pid.wbSnapset * 65536 + 16), 1, 0xFFFFFFFF]), meets (by decide +kernel)
     (by unfold isSet; decide +kernel)⟩,
   ⟨(talk live (hostSession 4) 0x11 0 [word (Pid.keyTamperStatus * 65536 + 0), 1, 1]), meets (by decide +kernel)
     (by unfold isSet; decide +kernel)⟩⟩

theorem witness_ActingSetsAct :
    (∃ (s : State) (id : Nat), id ∈ [Pid.relayRtFallback, Pid.relayRtFallbackFadeMs] ∧ Meets s .host (.set
      .rtFallback) setKind (isSet id)) ∧
    (∃ (s : State) , Meets s .host (.set .tolerance) setKind (isSet Pid.pwrToleranceUs)) ∧
    (∃ (s : State) , Meets s .host (.set .eject) setKind (isSet Pid.sbEject)) ∧
    (∃ (s : State) , Meets s .host (.set .adopt) setKind (isSet Pid.sbAdopt)) ∧
    (∃ (s : State) , Meets s .host (.set .tamperCfg) setKind (isSet Pid.keyTamperCfg)) ∧
    (∃ (s : State) , Meets s .host (.set .updConfirm) setKind (isSet Pid.updConfirm)) ∧
    (∃ (s : State) , Meets s .host (.set .updFallback) setKind (isSet Pid.updFallback)) ∧
    (∃ (s : State) , Meets s .host (.set .switchNow) setKind (isSet Pid.updSwitchNow)) ∧
    (∃ (s : State) , Meets s .host (.set .enterFarrier) setKind (isSet Pid.updEnterFarrier)) :=
  ⟨⟨(talk live (hostSession 4) 0x11 0 [word (Pid.relayRtFallback * 65536 + 255), 1, 65535]), Pid.relayRtFallback,
     by decide, meets (by decide +kernel) (by unfold isSet; decide +kernel)⟩,
   ⟨(talk live (hostSession 4) 0x11 0 [word (Pid.pwrToleranceUs * 65536 + 0), 1, 0]), meets (by decide +kernel)
     (by unfold isSet; decide +kernel)⟩,
   ⟨(talk (live.setP Pid.sbState 1 3) (hostSession 4) 0x11 0 [word (Pid.sbEject * 65536 + 0), 1, 1]), meets
     (by decide +kernel) (by unfold isSet; decide +kernel)⟩,
   ⟨(talk live (hostSession 4) 0x11 0 [word (Pid.sbAdopt * 65536 + 1), 1, 1]), meets (by decide +kernel)
     (by unfold isSet; decide +kernel)⟩,
   ⟨(talk live (hostSession 4) 0x11 0 [word (Pid.keyTamperCfg * 65536 + 0), 1, 3]), meets (by decide +kernel)
     (by unfold isSet; decide +kernel)⟩,
   ⟨(talk live (hostSession 4) 0x11 0 [word (Pid.updConfirm * 65536 + 0), 1, 1]), meets (by decide +kernel)
     (by unfold isSet; decide +kernel)⟩,
   ⟨(talk live (hostSession 4) 0x11 0 [word (Pid.updFallback * 65536 + 0), 1, 1]), meets (by decide +kernel)
     (by unfold isSet; decide +kernel)⟩,
   ⟨(talk live (hostSession 4) 0x11 0 [word (Pid.updSwitchNow * 65536 + 0), 1, 1]), meets (by decide +kernel)
     (by unfold isSet; decide +kernel)⟩,
   ⟨(talk live (hostSession 4) 0x11 0 [word (Pid.updEnterFarrier * 65536 + 0), 1, 1]), meets (by decide +kernel)
     (by unfold isSet; decide +kernel)⟩⟩

theorem witness_RefusedSetChangesNothing :
    (∃ (s : State) (r : Result), Meets s .host (.set .plain) setKind (fun q a => a.setFailure q = some r)) ∧
    (∃ (s : State) (q : Request), paramRow (setId q) = none) ∧
    (∃ (s : State) (q : Request) (r : ParamRow), paramRow (setId q) = some r ∧ (r.writeRole = 15 ∨ q.role <
      r.writeRole)) ∧
    (∃ (s : State) (q : Request) (r : ParamRow), paramRow (setId q) = some r ∧ r.writeRole ≤ q.role ∧ r.writeRole ≠
      15 ∧ 2 ≤ q.payload.length ∧ (setVals q).length = (nth q.payload 1).toNat ∧ 0 < (nth q.payload 1).toNat ∧
      runBeyond r (setFirst q) (nth q.payload 1).toNat = none ∧ (∀ k : Nat, k < (setVals q).length → readOnlyElement
      (setId q) (setFirst q + k) = false) ∧ (∀ k : Nat, k < (setVals q).length → s.elementInRange r (setFirst q)
      (setVals q) (setFirst q + k) (nth (setVals q) k) = true)) ∧
    (∃ (s : State) (id first : Nat) (vals : List Word), s.wheeler = true ∧ carriedFamily id = true ∧ (∃ w ∈ vals, w
      ≠ 0)) :=
  ⟨⟨(talk live (hostSession 0) 0x11 0 [word (Pid.sysName * 65536 + 0), 1, 1]), fail stAuth, meets
     (by decide +kernel) (by decide +kernel)⟩,
   ⟨live, ⟨.host, 1, 1, 4, 0x11, 0, [0xFFFF0000, 1, 0], false⟩, by decide +kernel⟩,
   ⟨live, ⟨.host, 1, 1, 0, 0x11, 0, [word (Pid.sysName * 65536), 1, 0], false⟩, (paramRow Pid.sysName).get
     (by decide +kernel), by decide +kernel⟩,
   ⟨live, ⟨.host, 1, 1, 4, 0x11, 0, [word (Pid.drvPeriodNs * 65536 + 15), 1, 40000], false⟩, (paramRow
     Pid.drvPeriodNs).get (by decide +kernel), by decide +kernel⟩,
   ⟨live.setP Pid.tdmRole 0 2, Pid.drvPeriodNs, 0, [40000],
     by refine ⟨by decide +kernel, by decide +kernel, 40000, by simp, by decide⟩⟩⟩

theorem witness_SetElementsReadBack :
    ∃ (s : State) (id first : Nat) (vals : List Word), clearsOnOne id = false ∧ id ∉ [Pid.snsGainEst,
      Pid.colourTrim, Pid.sysTempDieMax, Pid.pwrVinMinMv] ∧ first + vals.length ≤ 65536 :=
  ⟨live, Pid.drvPeriodNs, 65535, [40000], by decide +kernel⟩

theorem witness_HarnessTransactions :
    (∃ (t bank : Nat) (lanes : List LaneBits) (din : List Bool) (s : State), bank < 16 ∧ (s.at_ t).count % 25000 =
      bank * 1560 ∧ (s.bh bank).slotCount ≠ some (s.at_ t).count ∧ s.tcxoStopped = none ∧ (s.bh bank).awaiting =
      false ∧ s.busOn bank = true ∧ (s.at_ t).busWaits bank = false ∧ s.carriesPattern bank = false ∧ (s.p
      Pid.harnessState bank = 3 ∨ s.p Pid.harnessState bank = 4)) ∧
    (∃ (t bank : Nat) (lanes : List LaneBits) (din : List Bool) (s : State), bank < 16 ∧ (s.at_ t).count % 25000 =
      bank * 1560 ∧ (s.bh bank).slotCount ≠ some (s.at_ t).count ∧ s.tcxoStopped = none ∧ (s.bh bank).awaiting =
      false ∧ s.busOn bank = true ∧ (s.at_ t).busWaits bank = false ∧ (s.p Pid.harnessState bank = 1 ∨ s.p
      Pid.harnessState bank = 2)) ∧
    (∃ (t bank : Nat) (lanes : List LaneBits) (din : List Bool) (s : State), bank < 16 ∧ (s.at_ t).count % 25000 =
      bank * 1560 ∧ (s.bh bank).slotCount ≠ some (s.at_ t).count ∧ s.tcxoStopped = none ∧ (s.bh bank).awaiting =
      false ∧ s.busOn bank = true ∧ (s.at_ t).busWaits bank = false ∧ s.carriesPattern bank = true ∧ (s.p
      Pid.harnessState bank = 3 ∨ s.p Pid.harnessState bank = 4)) ∧
    (∃ (t bank : Nat) (lanes : List LaneBits) (din : List Bool) (s : State), bank < 16 ∧ (s.at_ t).count % 25000 =
      bank * 1560 ∧ (s.bh bank).slotCount ≠ some (s.at_ t).count ∧ s.tcxoStopped = none ∧ (s.bh bank).awaiting =
      false ∧ (s.busOn bank = false ∨ (s.at_ t).busWaits bank = true ∨ s.p Pid.harnessState bank ∉ [1, 2, 3, 4])) ∧
    (∃ (t bank : Nat) (w : Word) (s : State), bank < 16 ∧ s.busOn bank = true ∧ (s.bh bank).busyUntil - ofNs 256080
      + ofNs 48780 ≤ max s.now t) ∧
    (∃ (t bank a : Nat) (din : List Bool) (s : State), bank < 16 ∧ (s.bh bank).scanAt = some a ∧ a + 500 * us ≤ max
      s.now t ∧ max s.now t < a + 1000 * us ∧ (s.bh bank).repeat_ = false ∧ s.busOn bank = true ∧ (s.at_ t).busWaits
      bank = false ∧ s.carriesPattern bank = false ∧ (s.bh bank).repeatDue = true ∧ 35 ≤ (s.bh bank).frame.length) ∧
    (∃ (t bank : Nat) (words : List Word) (s : State), bank < 16 ∧ (s.bh bank).busyUntil ≠ 0 ∧ (s.bh bank).busyUntil
      ≤ max s.now t ∧ readbackValid words = true) ∧
    (∃ (t bank : Nat) (words : List Word) (s : State), bank < 16 ∧ (s.bh bank).busyUntil ≠ 0 ∧ (s.bh bank).busyUntil
      ≤ max s.now t ∧ readbackValid words = false ∧ (s.bh bank).repeat_ = false ∧ (s.p Pid.harnessState bank ≠ 3 ∨
      (s.bh bank).failedTx + 1 < s.p Pid.harnessLostLimit bank)) :=
  ⟨⟨0, 15, [], [], ({ live with now := 748800 } : State).setP Pid.harnessState 15 4, by decide +kernel⟩,
   ⟨0, 15, [], [], ({ live with now := 748800 } : State).setP Pid.harnessState 15 1, by decide +kernel⟩,
   ⟨0, 15, [], [], (({ live with now := 748800 } : State).setP Pid.harnessState 15 4).modLt 31 (fun r =>
     { r with running := true, loopAt := some 0 }), by decide +kernel⟩,
   ⟨0, 15, [], [], { live with now := 748800 }, by decide +kernel⟩,
   ⟨0, 15, 0, late, by decide +kernel⟩,
   ⟨0, 15, late.now - 1000 * us + 1, [], late.modBh 15 (fun h =>
     { h with scanAt := some (late.now - 1000 * us + 1), repeatDue := true, frame := List.replicate 35 0 }),
     by decide +kernel⟩,
   ⟨0, 15, goodReadback, late.modBh 15 (fun h => { h with busyUntil := late.now }), by decide +kernel⟩,
   ⟨0, 15, [], late.modBh 15 (fun h => { h with busyUntil := late.now }), by decide +kernel⟩⟩

theorem witness_HarnessCards :
    (∃ (t bank : Nat) (high : Bool) (s : State), bank < 16 ∧ (s.bh bank).fltHigh ≠ high) ∧
    (∃ (t bank : Nat) (passes : List Bool) (ident : List Nat) (s : State), bank < 16 ∧ s.busOn bank = true ∧ (s.at_
      t).busWaits bank = false ∧ (s.bh bank).fltHigh = true ∧ s.p Pid.harnessState bank = 0 ∧ (s.bh bank).fltSince +
      10 * ms ≤ max s.now t) ∧
    (∃ (t bank : Nat) (passes : List Bool) (ident : List Nat) (s : State), bank < 16 ∧ s.busOn bank = true ∧ (s.at_
      t).busWaits bank = false ∧ (s.bh bank).fltHigh = true ∧ s.p Pid.harnessState bank = 1 ∧ passes.length = 96 ∧
      12 ≤ (widestRun passes).2) ∧
    (∃ (t bank : Nat) (passes : List Bool) (ident : List Nat) (s : State), bank < 16 ∧ s.busOn bank = true ∧ (s.at_
      t).busWaits bank = false ∧ (s.bh bank).fltHigh = true ∧ s.p Pid.harnessState bank = 1 ∧ passes.length = 96 ∧
      (widestRun passes).2 < 12) ∧
    (∃ (t bank : Nat) (passes : List Bool) (ident : List Nat) (s : State), bank < 16 ∧ s.busOn bank = true ∧ (s.at_
      t).busWaits bank = false ∧ (s.bh bank).fltHigh = true ∧ s.p Pid.harnessState bank = 2 ∧ ident.length = 64 ∧
      identError ident = 0) ∧
    (∃ (t bank a : Nat) (s : State), bank < 16 ∧ s.p Pid.harnessState bank = 6 ∧ (s.bh bank).retryAt = some a ∧ a ≤
      max s.now t) ∧
    (∃ (t bank : Nat) (s : State), bank < 16 ∧ s.p Pid.harnessState bank = 4 ∧ s.p Pid.harnessLostLimit bank ≤ (s.bh
      bank).missed ∧ (s.bh bank).fltHigh = true) ∧
    (∃ (t bank : Nat) (s : State), bank < 16 ∧ s.p Pid.harnessState bank = 4 ∧ s.p Pid.harnessLostLimit bank ≤ (s.bh
      bank).missed ∧ (s.bh bank).fltHigh = false) ∧
    (∃ (t bank : Nat) (s : State), bank < 16 ∧ (s.bd bank).resuming = true ∧ (s.bd bank).running = false ∧
      s.spineLocked = true ∧ s.tcxoStopped = none ∧ s.bankPowered bank = true ∧ s.p Pid.harnessState bank ≠ 4) :=
  ⟨⟨0, 15, true, live, by decide +kernel⟩,
   ⟨0, 15, [], [], late.modBh 15 (fun h => { h with fltHigh := true, fltSince := late.now - 10 * ms }),
     by decide +kernel⟩,
   ⟨0, 15, List.replicate 12 true ++ List.replicate 84 false, [], (late.modBh 15 (fun h =>
     { h with fltHigh := true })).setP Pid.harnessState 15 1, by decide +kernel⟩,
   ⟨0, 15, List.replicate 11 true ++ List.replicate 85 false, [], (late.modBh 15 (fun h =>
     { h with fltHigh := true })).setP Pid.harnessState 15 1, by decide +kernel⟩,
   ⟨0, 15, [], goodIdent, (late.modBh 15 (fun h => { h with fltHigh := true })).setP Pid.harnessState 15 2,
     by decide +kernel⟩,
   ⟨0, 15, late.now, (late.modBh 15 (fun h => { h with retryAt := some late.now })).setP Pid.harnessState 15 6,
     by decide +kernel⟩,
   ⟨0, 15, (late.modBh 15 (fun h => { h with fltHigh := true, missed := 255 })).setP Pid.harnessState 15 4,
     by decide +kernel⟩,
   ⟨0, 15, (late.modBh 15 (fun h => { h with missed := 255 })).setP Pid.harnessState 15 4, by decide +kernel⟩,
   ⟨0, 15, late.modBd 15 (fun d => { d with resuming := true }), by decide +kernel⟩⟩

theorem witness_SenseDiagnosisAndColour :
    (∃ (t ch : Nat) (r : LaneBits) (s : State), ch < 512 ∧ s.d4On = true ∧ s.streamInvalid ch = false ∧ (s.bs (ch /
      32)).restart = false ∧ (s.bs (ch / 32)).settledFrom ≤ max s.now t ∧ bitCount r = 3 * (s.decimation (ch / 32) -
      1) + 1) ∧
    (∃ (t ch : Nat) (s : State), ch < 512 ∧ s.d4On = true ∧ s.hasCard ch = true) ∧
    (∃ (t ch : Nat) (s : State), ch < 512 ∧ s.d4On = true ∧ s.hasCard ch = true) ∧
    (∃ (t ch : Nat) (s : State), ch < 512 ∧ (s.cs ch).zeroAt + 600 * sec ≤ max s.now t) ∧
    (∃ (t ch a : Nat) (s : State), ch < 512 ∧ (s.cs ch).limitSince = some a ∧ (s.cs ch).limitTold = false ∧ a + 10 *
      sec ≤ max s.now t) ∧
    (∃ (t ch team : Nat) (s : State), ch < 512 ∧ s.teamAt ch = some team) ∧
    (∃ (t bank : Nat) (s : State), bank < 16 ∧ s.p Pid.harnessState bank = 4 ∧ (s.bh bank).fltHigh = false ∧ (s.bh
      bank).fltSince + 10 * ms ≤ max s.now t ∧ s.inCardFault bank = false ∧ ((s.p Pid.harnessLaneOpen bank = 0 ∧ s.p
      Pid.harnessLaneShort bank = 0 ∧ s.p Pid.harnessLaneClimit bank = 0) ∨ (s.bh bank).missed ≠ 0) ∧ s.d4On = true) ∧
    (∃ (t team : Nat) (s : State), team < 512 ∧ (s.td team).size ≠ 0 ∧ ((s.diag.teams.get team).tempAt.getD (max
      (s.diag.teams.get team).since s.coldAt)) + 10 * sec ≤ max s.now t) ∧
    (∃ (t team : Nat) (s : State), team < 512 ∧ (s.td team).size ≠ 0 ∧ max (s.tc team).tempAt s.coldAt + 10 * sec ≤
      max s.now t) ∧
    (∃ (t team : Nat) (s : State), team < 512 ∧ (s.td team).size ≠ 0 ∧ (s.at_ t).trimDue team = true ∧ (s.at_
      t).trimConditions team = false) ∧
    (∃ (t team : Nat) (x : SensorWord) (s v : State), team < 512 ∧ (s.td team).size ≠ 0 ∧ (s.at_ t).trimDue team =
      true ∧ (s.at_ t).trimConditions team = true ∧ (s.tc team).sensor = some x ∧ v = ((s.at_ t).modTc team (fun k
      => { k with trimAt := some (max s.now t) })).modTd team (fun d => { d with faded := (s.at_ t).fading team }) ∧
      s.pB Pid.colourSensorCal team = true) ∧
    (∃ (t team : Nat) (x : SensorWord) (s v : State), team < 512 ∧ (s.td team).size ≠ 0 ∧ (s.at_ t).trimDue team =
      true ∧ (s.at_ t).trimConditions team = true ∧ (s.tc team).sensor = some x ∧ v = ((s.at_ t).modTc team (fun k
      => { k with trimAt := some (max s.now t) })).modTd team (fun d => { d with faded := (s.at_ t).fading team }) ∧
      s.pB Pid.colourSensorCal team = false ∧ (∀ i : Nat, i < 3 → s.p Pid.colourSensorGain (3 * team + i) ≠ 0)) ∧
    (∃ (t team a : Nat) (s : State), team < 512 ∧ (s.tc team).limitedSince = some a ∧ (s.tc team).limitedTold =
      false ∧ a + 600 * sec ≤ max s.now t) :=
  ⟨⟨0, 511, [(true, 382)], (live.setP Pid.harnessState 15 4).setP Pid.harnessCardCaps 15 32, by decide +kernel⟩,
   ⟨0, 511, (live.setP Pid.harnessState 15 4).setP Pid.harnessCardCaps 15 32, by decide +kernel⟩,
   ⟨0, 511, (live.setP Pid.harnessState 15 4).setP Pid.harnessCardCaps 15 32, by decide +kernel⟩,
   ⟨0, 511, late.modCs 511 (fun k => { k with zeroAt := late.now - 600 * sec }), by decide +kernel⟩,
   ⟨0, 511, late.now - 10 * sec, late.modCs 511 (fun k => { k with limitSince := some (late.now - 10 * sec) }),
     by decide +kernel⟩,
   ⟨0, 511, 511, live, by decide +kernel⟩,
   ⟨0, 15, (late.modBh 15 (fun h => { h with fltSince := late.now - 10 * ms })).setP Pid.harnessState 15 4,
     by decide +kernel⟩,
   ⟨0, 511, late, by decide +kernel⟩,
   ⟨0, 511, late, by decide +kernel⟩,
   ⟨0, 511, late, by decide +kernel⟩,
   ⟨0, 511, ⟨0, 1, 1, 1, false, late.now⟩, ((late.modTc 511 (fun k =>
     { k with sensor := some ⟨0, 1, 1, 1, false, late.now⟩ })).modTd 511 (fun d =>
     { d with method := 3, lam := 2 ^ 31, lam1 := 2 ^ 31 })).setP Pid.colourSensorCal 511 1, _, ⟨by decide +kernel,
     by decide +kernel, by decide +kernel, by decide +kernel, by decide +kernel, rfl, by decide +kernel⟩⟩,
   ⟨0, 511, ⟨0, 1, 1, 1, false, late.now⟩, (((late.modTc 511 (fun k =>
     { k with sensor := some ⟨0, 1, 1, 1, false, late.now⟩ })).modTd 511 (fun d =>
     { d with method := 3, lam := 2 ^ 31, lam1 := 2 ^ 31 })).setRun Pid.colourSensorGain 1533 [1, 1, 1]), _,
     ⟨by decide +kernel, by decide +kernel, by decide +kernel, by decide +kernel, by decide +kernel, rfl,
     by decide +kernel, by decide +kernel⟩⟩,
   ⟨0, 511, late.now - 600 * sec, late.modTc 511 (fun k => { k with limitedSince := some (late.now - 600 * sec) }),
     by decide +kernel⟩⟩

theorem witness_MeterRecords :
    (∃ (t a : Nat) (s : State), s.d4On = true ∧ (s.at_ t).minuteDue = true ∧ s.sense.nextClose = some a) ∧
    (∃ (t : Nat) (s : State), s.settingsTake = true ∧ s.awake = true ∧ (∀ a : Nat, s.sense.totalsAt = some a → a +
      3600 * sec ≤ max s.now t)) ∧
    (∃ (t a : Nat) (s : State), s.sense.totalsAt = some a ∧ max s.now t < a + 3600 * sec) ∧
    (∃ (t a : Nat) (s : State), s.settingsTake = true ∧ s.awake = true ∧ s.storage.countersAt = some a ∧ max s.now t
      < a + 3600 * sec) ∧
    (∃ (t : Nat) (s : State), s.settingsTake = true ∧ s.awake = true ∧ (∀ a : Nat, s.storage.countersAt = some a → a
      + 3600 * sec ≤ max s.now t)) ∧
    (∃ (t : Nat) (s : State), s.settingsTake = false) :=
  ⟨⟨0, late.now, { late with sense := { late.sense with nextClose := some late.now } }, by decide +kernel⟩,
   ⟨0, (({ late with sense := { late.sense with totalsAt := some (late.now - 3600 * sec) } } : State)).setP
     Pid.sbState 1 3,
     ⟨by decide +kernel, by decide +kernel, fun a h => by have e : late.now - 3600 * sec = a := Option.some.inj h; rw [← e]; decide +kernel⟩⟩,
   ⟨0, late.now - 3600 * sec + 1,
     { late with sense := { late.sense with totalsAt := some (late.now - 3600 * sec + 1) } }, by decide +kernel⟩,
   ⟨0, late.now - 3600 * sec + 1,
     (({ late with storage := { late.storage with countersAt := some (late.now - 3600 * sec + 1) } } : State)).setP
     Pid.sbState 1 3, by decide +kernel⟩,
   ⟨0, (({ late with storage := { late.storage with countersAt := some (late.now - 3600 * sec) } } : State)).setP
     Pid.sbState 1 3,
     ⟨by decide +kernel, by decide +kernel, fun a h => by have e : late.now - 3600 * sec = a := Option.some.inj h; rw [← e]; decide +kernel⟩⟩,
   ⟨0, live, by decide +kernel⟩⟩

theorem witness_LinkTestCommands :
    (∃ (t link lane : Nat) (bs : List Bool) (s : State), s.underTest link = false) ∧
    (∃ (t port : Nat) (s : State), port < 2 ∧ s.underTest (36 + port) = true) ∧
    (∃ (t c n errors words : Nat) (s : State), c < 2 ∧ s.underTest (32 + c) = true ∧ s.d8On = true) ∧
    (∃ (t bank a : Nat) (s : State), bank < 16 ∧ (s.lt (16 + bank)).loopAt = some a ∧ s.underTest (16 + bank) = true
      ∧ a + 100 * ms ≤ max s.now t ∧ ((s.lt (16 + bank)).checkers.get 0).synced = false) :=
  ⟨⟨0, 41, 0, [], live, by decide +kernel⟩,
   ⟨0, 1, live.modLt 37 (fun r => { r with running := true }), by decide +kernel⟩,
   ⟨0, 1, 0, 0, 0, live.modLt 33 (fun r => { r with running := true }), by decide +kernel⟩,
   ⟨0, 15, late.now - 100 * ms, late.modLt 31 (fun r =>
     { r with running := true, loopAt := some (late.now - 100 * ms) }), by decide +kernel⟩⟩

theorem witness_TapCommands :
    (∃ (t : Nat) (c : Instr) (s : State), (c = .tapReset t ∨ (∃ tdi, c = .bypass t tdi ∨ c = .idcode t tdi ∨ c =
      .clamp t tdi ∨ c = .highz t tdi) ∨ (∃ lands tdi, c = .samplePreload t lands tdi ∨ c = .extest t lands tdi))) ∧
    (∃ (t : Nat) (lands tdi : List Bool) (s : State), s.tapOpen = true) ∧
    (∃ (t : Nat) (tdi : List Bool) (s : State), s.tapOpen = true) ∧
    (∃ (t : Nat) (tdi : List Bool) (s : State), s.tapOpen = true) ∧
    (∃ (t : Nat) (lands tdi : List Bool) (s : State), s.tapOpen = false) :=
  ⟨⟨0, .extest 0 [] [true], live, Or.inr (Or.inr ⟨[], [true], Or.inr rfl⟩)⟩,
   ⟨0, [true], [false], live, by decide +kernel⟩,
   ⟨0, [true], live, by decide +kernel⟩,
   ⟨0, [true], live.setP Pid.idLifecycle 0 3, by decide +kernel⟩,
   ⟨0, [true], [false], live.setP Pid.idLifecycle 0 1, by decide +kernel⟩⟩

theorem witness_HostPortCommands :
    (∃ (t count clocked : Nat) (cut : Bool) (s : State), s.domainOn 1 = false) ∧
    (∃ (t count : Nat) (words : List (BitVec 40)) (cut : Bool) (s : State), s.domainOn 1 = false) ∧
    (∃ (t count : Nat) (words : List (BitVec 40)) (s : State), s.domainOn 1 = true) ∧
    (∃ (t octet : Nat) (s : State), s.domainOn 1 = true ∧ octet ∈ [0x00, 0x01, 0x02, 0x04, 0x05]) ∧
    (∃ (t octet : Nat) (s : State), s.domainOn 1 = true ∧ octet ∉ [0x00, 0x01, 0x02, 0x04, 0x05]) ∧
    (∃ (t count : Nat) (words : List (BitVec 40)) (s : State), s.domainOn 1 = true ∧ s.bridle.hostPoisonNext =
      false) ∧
    (∃ (t count clocked : Nat) (cut : Bool) (s : State), s.domainOn 1 = true) :=
  ⟨⟨0, 1, 1, true, live.withPower (fun p => { p with domains := 0 }), by decide +kernel⟩,
   ⟨0, 1, [0], true, live.withPower (fun p => { p with domains := 0 }), by decide +kernel⟩,
   ⟨0, 0, [0], live, by decide +kernel⟩,
   ⟨0, 5, live, by decide +kernel⟩,
   ⟨0, 3, live, by decide +kernel⟩,
   ⟨0, 0, [0], live, by decide +kernel⟩,
   ⟨0, 1, 1, true, live, by decide +kernel⟩⟩

theorem witness_FlushesDiscardAndDrain :
    (∃ (t : Nat) (s : State), s.domainOn 1 = true) ∧
    (∃ (t : Nat) (s : State), s.domainOn 1 = true) ∧
    (∃ (t : Nat) (words : List (BitVec 40)) (last : BitVec 40) (s : State), s.domainOn 1 = true ∧
      s.bridle.hostInDrain = true ∧ (∀ w ∈ words, (hostWord w).endMark = false) ∧ (hostWord last).endMark = true) ∧
    (∃ (t : Nat) (words : List (BitVec 40)) (s : State), s.domainOn 1 = true ∧ s.bridle.hostInDrain = true ∧ (∀ w ∈
      words, (hostWord w).endMark = false)) ∧
    (∃ (s : State) (ws : List Word), s.bridle.hostOutDrain = true) :=
  ⟨⟨0, live, by decide +kernel⟩,
   ⟨0, live, by decide +kernel⟩,
   ⟨0, [0], 0x8000000000, { live with bridle := { live.bridle with hostInDrain := true } }, ⟨by decide +kernel,
     by decide +kernel, by simp; decide +kernel, by decide +kernel⟩⟩,
   ⟨0, [0], { live with bridle := { live.bridle with hostInDrain := true } }, ⟨by decide +kernel, by decide +kernel,
     by simp; decide +kernel⟩⟩,
   ⟨{ live with bridle := { live.bridle with hostOutDrain := true } }, [0], by decide +kernel⟩⟩

theorem witness_ServicePortAndReplies :
    (∃ (t : Nat) (octets : List LineOctet) (s : State), s.domainOn 1 = true) ∧
    (∃ (t count : Nat) (s : State), s.domainOn 1 = true) ∧
    (∃ (t : Nat) (w : WaitingReply) (s : State), s.firstWaiting false = some w ∧ s.bridle.hostOut.length +
      w.words.length ≤ 8192 ∧ s.bridle.hostOutDrain = false) ∧
    (∃ (t : Nat) (w : WaitingReply) (s : State), s.firstWaiting true = some w ∧ s.bridle.serviceOut.length +
      w.words.length ≤ 8192) ∧
    (∃ (t : Nat) (w : WaitingReply) (s : State), s.firstWaiting false = some w ∧ 8192 < s.bridle.hostOut.length +
      w.words.length) ∧
    (∃ (t : Nat) (tr : Transport) (w : WaitingReply) (s : State), (tr = .host ∨ tr = .service) ∧ s.firstWaiting (tr
      == .service) = some w ∧ w.since + 60 * sec ≤ max s.now t) :=
  ⟨⟨0, [], live, by decide +kernel⟩,
   ⟨0, 1, live, by decide +kernel⟩,
   ⟨0, ⟨false, [0], 0⟩, waitingBehind 8191 ⟨false, [0], 0⟩,
     ⟨by decide +kernel, by rw [waitingBehind_length]; decide, by decide +kernel⟩⟩,
   ⟨0, ⟨true, [0], 0⟩, { live with bridle := { live.bridle with waiting := [⟨true, [0], 0⟩] } }, by decide +kernel⟩,
   ⟨0, ⟨false, [0], 0⟩, waitingBehind 8192 ⟨false, [0], 0⟩,
     ⟨by decide +kernel, by rw [waitingBehind_length]; decide⟩⟩,
   ⟨0, .service, ⟨true, [0], late.now - 60 * sec⟩,
     { late with bridle := { late.bridle with waiting := [⟨true, [0], late.now - 60 * sec⟩] } }, by decide +kernel⟩⟩

theorem witness_SessionDeadlines :
    (∃ (t sid n a : Nat) (r : Result) (k : Session) (tk : Ticket) (s : State), s.session sid = some k ∧ k.ticket n =
      some tk ∧ tk.result = some (a, r) ∧ a + 60 * sec ≤ max s.now t) ∧
    (∃ (t sid : Nat) (k : Session) (s : State), s.session sid = some k ∧ k.lastAccept + s.p Pid.cmdSessionIdleS *
      sec ≤ max s.now t) ∧
    (∃ (t sid : Nat) (k : Session) (s : State), s.session sid = some k ∧ k.proved = false ∧ k.openedAt + 5 * sec ≤
      max s.now t) ∧
    (∃ (t sid : Nat) (k : Session) (s : State), s.session sid = some k ∧ k.proved = true) ∧
    (∃ (s : State) (sid : Nat) (k : Session), k ∈ (s.closeSession sid).bridle.sessions) ∧
    (∃ (s : State) (sid : Nat) (k : Session), k ∈ s.bridle.sessions ∧ k.id ≠ sid) :=
  ⟨⟨0, 1, 255, late.now - 60 * sec, ok,
     { hostSession 4 with tickets := [⟨255, some (late.now - 60 * sec, ok), false⟩] }, ⟨255, some (late.now - 60 *
     sec, ok), false⟩, talk late { hostSession 4 with tickets := [⟨255, some (late.now - 60 * sec, ok), false⟩] } 0
     0 [], by decide +kernel⟩,
   ⟨0, 1, hostSession 4, talk late (hostSession 4) 0 0 [], by decide +kernel⟩,
   ⟨0, 1, { hostSession 4 with proved := false, openedAt := late.now - 5 * sec }, talk late
     { hostSession 4 with proved := false, openedAt := late.now - 5 * sec } 0 0 [], by decide +kernel⟩,
   ⟨0, 1, hostSession 4, talk late (hostSession 4) 0 0 [], by decide +kernel⟩,
   ⟨talk live (hostSession 4) 0 0 [], 2, hostSession 4, by decide +kernel⟩,
   ⟨talk live (hostSession 4) 0 0 [], 2, hostSession 4, by decide +kernel⟩⟩

theorem witness_PacketsOutsideSessions :
    (∃ (t : Nat) (tr : Transport) (p : Packet) (s : State), s.awake = true ∧ s.replyWaits tr = false ∧ s.onTurn tr =
      true ∧ s.frontPacket tr = some p ∧ p.source.transport = tr ∧ p.row = .discard) ∧
    (∃ (t gaps : Nat) (tr : Transport) (p : Packet) (k : Session) (s : State), s.awake = true ∧ s.replyWaits tr =
      false ∧ s.onTurn tr = true ∧ s.frontPacket tr = some p ∧ p.source.transport = tr ∧ p.row = .unassigned ∧
      s.session (headerOf p.data).session = some k ∧ ((s.at_ t).taken tr).verdict p = .accept (some k) gaps ∧ k.slot
      = 0xFF) ∧
    (∃ (t : Nat) (tr : Transport) (p : Packet) (nonce : List Word) (s : State), s.awake = true ∧ s.replyWaits tr =
      false ∧ s.onTurn tr = true ∧ s.frontPacket tr = some p ∧ p.source.transport = tr ∧ p.row = .opcode 0x00 ∧
      s.farrier = false ∧ (headerOf p.data).ticket = 0 ∧ (headerOf p.data).session = 0 ∧ ((s.at_ t).taken
      tr).verdict p = .accept none 0) ∧
    (∃ (nonce : List Word) (q : Request) (a : State), q.payload.length = 5 ∧ bits (nth q.payload 0) 31 24 ≤ 3 ∧ bits
      (nth q.payload 0) 23 8 = 0 ∧ bits (nth q.payload 0) 7 0 = 0xFF ∧ a.lockedOut q.source.transport = false ∧ a.p
      Pid.keyRngStatus ≠ 1 ∧ bits (nth q.payload 0) 31 24 ≤ a.p Pid.cmdMaxRole q.source.transport.index ∧ a.farrier
      = false ∧ a.bridle.sessions.length < 32 ∧ a.usedIdentifiers.length < 0xFFFE ∧ (a.slotOpens q.source.transport
      0xFF (bits (nth q.payload 0) 31 24)).1 = true) ∧
    (∃ (nonce : List Word) (q : Request) (a : State), q.payload.length = 5 ∧ bits (nth q.payload 0) 31 24 ≤ 4 ∧ bits
      (nth q.payload 0) 23 8 = 0 ∧ bits (nth q.payload 0) 7 0 = 0xFF ∧ a.lockedOut q.source.transport = true) ∧
    (∃ (nonce : List Word) (q : Request) (a : State), q.payload.length = 5 ∧ bits (nth q.payload 0) 31 24 ≤ 4 ∧ bits
      (nth q.payload 0) 23 8 = 0 ∧ bits (nth q.payload 0) 7 0 = 0xFF ∧ a.lockedOut q.source.transport = false ∧ a.p
      Pid.keyRngStatus = 1) :=
  ⟨⟨0, .host, ⟨.host, [queued 0 true false], false, false⟩,
     { live with bridle := { live.bridle with hostIn := [queued 0 true false] } }, by decide +kernel⟩,
   ⟨0, 0, .host, sentPacket (talk live (hostSession 4) 0x06 0 []), hostSession 4, talk live (hostSession 4) 0x06 0
     [], by decide +kernel⟩,
   ⟨0, .host, ⟨.host, asQueued openWords, false, false⟩, [],
     { live with bridle := { live.bridle with hostIn := asQueued openWords } }, by decide +kernel⟩,
   ⟨[], ⟨.host, 0, 1, 0xFF, 0, 0, [0x030000FF, 0, 0, 0, 0], false⟩, live, by decide +kernel⟩,
   ⟨[], ⟨.host, 0, 1, 0xFF, 0, 0, [0x030000FF, 0, 0, 0, 0], false⟩,
     { live with bridle := { live.bridle with lockouts := [(.host, 1)] } }, by decide +kernel⟩,
   ⟨[], ⟨.host, 0, 1, 0xFF, 0, 0, [0x030000FF, 0, 0, 0, 0], false⟩, live.setP Pid.keyRngStatus 0 1,
     by decide +kernel⟩⟩

theorem witness_LinkCommands :
    (∃ (t port speed : Nat) (eee : Bool) (s : State), port < 2 ∧ s.phyRuns port = true ∧ s.linkUp port = false ∧
      s.speedAllowed port speed = true) ∧
    (∃ (t port speed : Nat) (eee : Bool) (s : State), port < 2 ∧ s.phyRuns port = true ∧ s.linkUp port = false ∧
      s.speedAllowed port speed = true) ∧
    (∃ (t port : Nat) (s : State), port < 2 ∧ s.linkUp port = true ∧ s.net.modeWaits = false ∧ s.net.ipWaits =
      false) ∧
    (∃ (t port : Nat) (s : State), port < 2) ∧
    (∃ (t port a : Nat) (s : State), port < 2 ∧ (s.port port).refusedAt = some a ∧ a + 2 * sec ≤ max s.now t) ∧
    (∃ (t port : Nat) (s : State), port < 2 ∧ s.linkUp port = true ∧ s.flagOf Pid.netLink port 3 = true ∧ (s.port
      port).lpiSince = none ∧ (s.port port).high = [] ∧ (s.port port).normal = [] ∧ (s.port port).idleSince + s.p
      Pid.netEeeIdleUs * us ≤ max s.now t) ∧
    (∃ (t port a : Nat) (s : State), port < 2 ∧ s.phyRuns port = true ∧ (s.port port).lldpSent = some a ∧ a + s.p
      Pid.netLldpIntervalS * sec ≤ max s.now t) ∧
    (∃ (t port : Nat) (n : LldpNeighbour) (s : State), (s.port port).neighbour = some n ∧ n.expires ≤ max s.now t) ∧
    (∃ (t : Nat) (s : State), s.net.mode < 2 ∧ s.domainOn 6 = true ∧ s.net.lifeSent = none) ∧
    (∃ (t source seq : Nat) (e : DupEntry) (s : State), s.net.dups.find? (fun e => e.source == source && e.seq ==
      seq && decide (e.at_ + s.p Pid.netEntryForgetMs * ms ≤ max s.now t)) = some e) ∧
    (∃ (t cand due : Nat) (s : State), s.net.probing = some (cand, 3, due) ∧ due ≤ max s.now t ∧ s.p Pid.netIpAddr =
      0) ∧
    (∃ (t cand due : Nat) (s : State), s.net.probing = some (cand, 2, due) ∧ due ≤ max s.now t ∧ s.p Pid.netIpAddr =
      0) ∧
    (∃ (t a : Nat) (s : State), s.net.reduceStep = some (1, a) ∧ s.linkUp s.net.keptPort = true ∧ s.net.keptPort <
      2) :=
  ⟨⟨0, 0, 3, false, live, by decide +kernel⟩,
   ⟨0, 1, 2, true, live, by decide +kernel⟩,
   ⟨0, 1, linked live 0, by decide +kernel⟩,
   ⟨0, 1, linked live 0, by decide +kernel⟩,
   ⟨0, 1, late.now - 2 * sec, late.modifyPort 1 (fun p => { p with refusedAt := some (late.now - 2 * sec) }),
     by decide +kernel⟩,
   ⟨0, 1, (late.setP Pid.netLink 1 9), by decide +kernel⟩,
   ⟨0, 1, late.now - 30 * sec, late.modifyPort 1 (fun p => { p with lldpSent := some (late.now - 30 * sec) }),
     by decide +kernel⟩,
   ⟨0, 1, ⟨late.now, 0, 0, [], 0, 0⟩, late.modifyPort 1 (fun p =>
     { p with neighbour := some ⟨late.now, 0, 0, [], 0, 0⟩ }), by decide +kernel⟩,
   ⟨0, live, by decide +kernel⟩,
   ⟨0, 7, 3, ⟨7, 3, 0, 0, false⟩, late.withNet (fun n => { n with dups := [⟨7, 3, 0, 0, false⟩] }),
     by decide +kernel⟩,
   ⟨0, 0xA9FE0101, late.now, late.withNet (fun n => { n with probing := some (0xA9FE0101, 3, late.now) }),
     by decide +kernel⟩,
   ⟨0, 0xA9FE0101, late.now, late.withNet (fun n => { n with probing := some (0xA9FE0101, 2, late.now) }),
     by decide +kernel⟩,
   ⟨0, 0, (linked live 0).withNet (fun n => { n with reduceStep := some (1, 0), keptPort := 1 }), by decide +kernel⟩⟩

theorem witness_FrameCommands :
    (∃ (t port sfd : Nat) (f : Frame) (o b : Bool) (s : State), port < 2 ∧ s.portTested port = false ∧ s.phyRuns
      port = true ∧ s.linkUp port = true ∧ s.net.mode ≠ 1 ∧ f.length < 64) ∧
    (∃ (t port sfd : Nat) (f : Frame) (o b : Bool) (s : State), port < 2 ∧ s.portTested port = false ∧ s.phyRuns
      port = true ∧ s.linkUp port = true ∧ s.net.mode ≠ 1 ∧ 1536 < f.length) ∧
    (∃ (t port sfd : Nat) (f : Frame) (o b : Bool) (s : State), port < 2 ∧ s.portTested port = false ∧ s.phyRuns
      port = true ∧ s.linkUp port = true ∧ s.net.mode ≠ 1 ∧ 64 ≤ f.length ∧ f.length ≤ 1536 ∧ f.fcsGood = false) ∧
    (∃ (t port sfd : Nat) (f : Frame) (o b : Bool) (s : State), (2 ≤ port ∨ s.linkUp port = false)) ∧
    (∃ (t port sfd need : Nat) (f : Frame) (s : State), port < 2 ∧ s.portTested port = false ∧ s.phyRuns port = true
      ∧ s.linkUp port = true ∧ s.net.mode = 2 ∧ 64 ≤ f.length ∧ f.length ≤ 1536 ∧ f.fcsGood = true ∧ s.ownMac f.dest
      = true ∧ f.vlan = none ∧ f.body ≠ .pause ∧ s.copySeq f = none ∧ s.power.asleep = false ∧ need = divUp
      (f.length - 4) 256 ∧ need ≤ (s.net.rings.getD (2 * port + (if highQueue f then 0 else 1)) (.full
      0)).free.length) ∧
    (∃ (t port : Nat) (q : QueuedFrame) (rest : List QueuedFrame) (s : State), port < 2 ∧ s.portTested port = false
      ∧ s.linkUp port = true ∧ (s.port port).wakeUntil = none ∧ (s.port port).high = q :: rest ∧ q.ingress = none ∧
      q.stampSlot = none ∧ s.net.modeWaits = false ∧ s.net.ipWaits = false) ∧
    (∃ (t port : Nat) (q : QueuedFrame) (rest : List QueuedFrame) (s : State), port < 2 ∧ s.portTested port = false
      ∧ s.linkUp port = true ∧ (s.port port).wakeUntil = none ∧ (s.port port).high = [] ∧ (s.port port).normal = q
      :: rest ∧ q.ingress = none ∧ q.stampSlot = none ∧ s.net.modeWaits = false ∧ s.net.ipWaits = false) ∧
    (∃ (t : Nat) (ports : List Nat) (q : QueuedFrame) (rest : List (List Nat × QueuedFrame)) (v s : State),
      s.domainOn 6 = true ∧ s.net.originated = (ports, q) :: rest ∧ (s.at_ t).placeOwn ports q = some v) ∧
    (∃ (t : Nat) (ports : List Nat) (q : QueuedFrame) (rest : List (List Nat × QueuedFrame)) (s : State),
      s.net.originated = (ports, q) :: rest ∧ (s.at_ t).placeOwn ports q = none) ∧
    (∃ (t : Nat) (d : Nat × Source × List Word) (s : State), s.bridle.discovery.find? (fun d => decide (d.1 ≤ max
      s.now t)) = some d) :=
  ⟨⟨0, 1, 0, { smallFrame with length := 63 }, false, false, linked live 0, by decide +kernel⟩,
   ⟨0, 1, 0, { smallFrame with length := 1537 }, false, false, linked live 0, by decide +kernel⟩,
   ⟨0, 1, 0, { smallFrame with length := 1536, fcsGood := false }, false, false, linked live 0, by decide +kernel⟩,
   ⟨0, 1, 0, smallFrame, false, false, live, by decide +kernel⟩,
   ⟨0, 0, 0, 1, smallFrame, linked live 2, by decide +kernel⟩,
   ⟨0, 1, ownFrame, [], (linked live 0).modifyPort 1 (fun p => { p with high := [ownFrame] }), by decide +kernel⟩,
   ⟨0, 1, ownFrame, [], (linked live 0).modifyPort 1 (fun p => { p with normal := [ownFrame] }), by decide +kernel⟩,
   ⟨0, [1], ownFrame, [], _, (linked live 0).withNet (fun n => { n with originated := [([1], ownFrame)] }),
     ⟨by decide +kernel, by decide +kernel, rfl⟩⟩,
   ⟨0, [1], ⟨{ smallFrame with length := 16385 }, true, none, none⟩, [], (linked live 0).withNet (fun n =>
     { n with originated := [([1], ⟨{ smallFrame with length := 16385 }, true, none, none⟩)] }), by decide +kernel⟩,
   ⟨0, (late.now, .host, []), { late with bridle := { late.bridle with discovery := [(late.now, .host, [])] } },
     by decide +kernel⟩⟩

theorem witness_ClockCommands :
    (∃ (t : Nat) (s : State), (s.at_ t).count / 3125000 ≤ s.time.steered) ∧
    (∃ (t : Nat) (s : State), s.time.steered < (s.at_ t).count / 3125000 ∧ 2 ≤ s.p Pid.timeSelected ∧
      s.time.pendingSet = [] ∧ s.time.slewLeft = none) ∧
    (∃ (t : Nat) (s v : State), s.time.steered < (s.at_ t).count / 3125000 ∧ v = s.time.pendingSet.foldl
      State.doTimeSet ((s.at_ t).withTime (fun k =>
      { k with steered := (s.at_ t).count / 3125000, pendingSet := [] }))) ∧
    (∃ (t slot a : Nat) (s : State), slot < 2 ∧ (s.p Pid.timeDomState slot = 2 ∨ s.p Pid.timeDomState slot = 3) ∧
      (s.ptpSlot slot).lastSync = some a ∧ a + s.p Pid.timeSyncTimeoutMs * ms ≤ max s.now t) ∧
    (∃ (t slot : Nat) (a : Announcer) (s : State), slot < 2 ∧ (s.ptpSlot slot).announcers.find? (fun a => some
      (a.port, a.source) == (s.ptpSlot slot).chosen) = some a ∧ a.heard + s.p Pid.timeAnnounceTimeout *
      intervalSteps a.interval ≤ max s.now t) ∧
    (∃ (t a : Nat) (s : State), (s.ptpSlot 0).lockedSince = some a ∧ s.p Pid.timeSelected = 1 ∧ s.p Pid.timeRevertS
      ≠ 0 ∧ s.slotLocked 0 = true ∧ a + s.p Pid.timeRevertS * sec ≤ max s.now t) ∧
    (∃ (t a : Nat) (s : State), s.time.holdoverSince = some a ∧ s.p Pid.timeQuality = 2 ∧ a + s.p Pid.timeHoldoverS
      * sec ≤ max s.now t) ∧
    (∃ (t slot port : Nat) (s : State), slot < 2 ∧ port < 2 ∧ s.pB Pid.timeDomEnable slot = true ∧ s.domainOn 6 =
      true ∧ s.p Pid.timeDomDelayMech slot = 1) ∧
    (∃ (t : Nat) (e : StampEntry) (rest : List StampEntry) (s : State), s.time.awaiting = e :: rest ∧
      s.time.stamps.length < 32 ∧ e.messageType ≠ 3) ∧
    (∃ (t : Nat) (e : StampEntry) (rest : List StampEntry) (s : State), s.time.awaiting = e :: rest ∧ 32 ≤
      s.time.stamps.length) :=
  ⟨⟨0, live, by decide +kernel⟩,
   ⟨0, late.setP Pid.timeSelected 0 2, by decide +kernel⟩,
   ⟨0, late, _, ⟨by decide +kernel, rfl⟩⟩,
   ⟨0, 1, 0, (late.setP Pid.timeDomState 1 2).modifySlotPtp 1 (fun k => { k with lastSync := some 0 }),
     by decide +kernel⟩,
   ⟨0, 1, ⟨0, 7, ⟨0, 0, 0, 0, 0, 0, 0⟩, 0, 0⟩, late.modifySlotPtp 1 (fun k =>
     { k with chosen := some (0, 7), announcers := [⟨0, 7, ⟨0, 0, 0, 0, 0, 0, 0⟩, 0, 0⟩] }), by decide +kernel⟩,
   ⟨0, 0, ((late.setP Pid.timeSelected 0 1).setP Pid.timeDomState 0 3).modifySlotPtp 0 (fun k =>
     { k with lockedSince := some 0 }), by decide +kernel⟩,
   ⟨0, 0, (late.setP Pid.timeQuality 0 2).withTime (fun k => { k with holdoverSince := some 0 }), by decide +kernel⟩,
   ⟨0, 1, 1, (live.setP Pid.timeDomEnable 1 1).setP Pid.timeDomDelayMech 1 1, by decide +kernel⟩,
   ⟨0, ⟨0, 0, 1, 0, 0⟩, [], live.withTime (fun k =>
     { k with awaiting := [⟨0, 0, 1, 0, 0⟩], stamps := List.replicate 31 ⟨0, 0, 1, 0, 0⟩ }), by decide +kernel⟩,
   ⟨0, ⟨0, 0, 1, 0, 0⟩, [], live.withTime (fun k =>
     { k with awaiting := [⟨0, 0, 1, 0, 0⟩], stamps := List.replicate 32 ⟨0, 0, 1, 0, 0⟩ }), by decide +kernel⟩⟩

theorem witness_CalendarCommands :
    (∃ (t : Nat) (s : State), s.time.leapAt = none ∧ s.flagOf Pid.timeCalStatus 0 3 = false ∧ (s.at_ t).calSynced =
      false) ∧
    (∃ (t : Nat) (s : State), s.time.leapAt = none ∧ s.flagOf Pid.timeCalStatus 0 3 = false ∧ (s.at_ t).calSynced =
      true ∧ s.p Pid.timeQuality ≤ 3 ∧ 2 < ((s.at_ t).calMs - (s.at_ t).civilMs).natAbs) ∧
    (∃ (t : Nat) (m : Int) (s v : State), s.time.leapAt = some m ∧ m ≤ (s.at_ t).clockSec ∧ v = ((((s.at_ t).setI
      Pid.timeUtcOffsetS 0 (s.pI Pid.timeUtcOffsetS + 1)).mark Pid.timeUtcOffsetS 0).setFlag Pid.timeCalStatus 0 2
      false).withTime (fun k => { k with leapAt := none }) ∧ v.flagOf Pid.timeCalStatus 0 3 = false ∧ v.calSynced =
      false) ∧
    (∃ (t ticks : Nat) (s : State), s.p Pid.timeQuality ≤ 1 ∧ s.time.trimWindow = none) ∧
    (∃ (t ticks : Nat) (s : State), 2 ≤ s.p Pid.timeQuality) ∧
    (∃ (t ticks rtc : Nat) (from_ : Int) (s : State), s.p Pid.timeQuality ≤ 1 ∧ s.time.trimWindow = some (from_,
      rtc) ∧ (s.at_ t).clockNs - from_ < 1024000000000) ∧
    (∃ (t : Nat) (s : State), s.power.d0OnVin = false) ∧
    (∃ (t : Nat) (s : State), s.power.d0OnVin = true) ∧
    (∃ (t a : Nat) (s : State), s.time.wakeAt = some a ∧ a ≤ max s.now t) ∧
    (∃ (t alarm : Nat) (s : State), alarm < 8 ∧ s.alarmArmed alarm = true ∧ s.alarmTarget alarm ≤ (s.at_ t).clockNs) :=
  ⟨⟨0, live, by decide +kernel⟩,
   ⟨0, ((live.setP Pid.timeQuality 0 3).setFlag Pid.timeCalStatus 0 1 true).withTime (fun k =>
     { k with clock := ⟨-3 * 65536000000, 0, 0⟩ }), by decide +kernel⟩,
   ⟨0, 0, live.withTime (fun k => { k with leapAt := some 0 }), _, ⟨by decide +kernel, by decide +kernel, rfl,
     by decide +kernel, by decide +kernel⟩⟩,
   ⟨0, 0, live.setP Pid.timeQuality 0 1, by decide +kernel⟩,
   ⟨0, 0, live.setP Pid.timeQuality 0 2, by decide +kernel⟩,
   ⟨0, 0, 0, late.clockNs - 1023999999999, (late.setP Pid.timeQuality 0 1).withTime (fun k =>
     { k with trimWindow := some (late.clockNs - 1023999999999, 0) }), by decide +kernel⟩,
   ⟨0, { live with power := { live.power with d0OnVin := false } }, by decide +kernel⟩,
   ⟨0, { live with power := { live.power with d0OnVin := true } }, by decide +kernel⟩,
   ⟨0, late.now, late.withTime (fun k => { k with wakeAt := some late.now }), by decide +kernel⟩,
   ⟨0, 7, late.setP Pid.timeAlarmCtrl 7 1, by decide +kernel⟩⟩

theorem witness_RelayCommands :
    (∃ (t : Nat) (s : State), s.relay.served = some (s.at_ t).asn) ∧
    (∃ (t : Nat) (s : State), s.relay.served ≠ some (s.at_ t).asn ∧ (s.at_ t).relaySends = false) ∧
    (∃ (t : Nat) (s v : State), s.relay.served ≠ some (s.at_ t).asn ∧ (s.at_ t).relaySends = true ∧ v = (((s.at_
      t).withRelay (fun r => { r with served := some (s.at_ t).asn, sent := [] })).trimAir).takeReplies ∧ v.asn %
      v.relay.config.slotframe = 0 ∧ v.slotframeNow % v.p Pid.relayBeaconEvery = 0) ∧
    (∃ (t : Nat) (s v : State), s.relay.served ≠ some (s.at_ t).asn ∧ (s.at_ t).relaySends = true ∧ v = (((s.at_
      t).withRelay (fun r => { r with served := some (s.at_ t).asn, sent := [] })).trimAir).takeReplies ∧ ¬ (v.asn %
      v.relay.config.slotframe = 0 ∧ v.slotframeNow % v.p Pid.relayBeaconEvery = 0) ∧ v.asn %
      v.relay.config.slotframe ≤ v.relay.config.shared) ∧
    (∃ (t : Nat) (s v : State) (n : Nat), s.relay.served ≠ some (s.at_ t).asn ∧ (s.at_ t).relaySends = true ∧ v =
      (((s.at_ t).withRelay (fun r => { r with served := some (s.at_ t).asn, sent := [] })).trimAir).takeReplies ∧ 1
      ≤ v.asn % v.relay.config.slotframe ∧ v.relay.config.shared < v.asn % v.relay.config.slotframe ∧
      v.contexts.find? (fun n => (v.cellOf n).down == v.asn % v.relay.config.slotframe && v.slotframeNow % 2 ^
      (v.cellOf n).log2P == (v.cellOf n).phase) = some n) ∧
    (∃ (t n : Nat) (f : RadioFrame) (h : RelayHeader) (kinds : List Nat) (c : Bool × State) (s : State), nodeOfShort
      f.source = some n ∧ s.domainOn 7 = true ∧ s.contextHeld n = true ∧ s.radios.contains f.radio = true ∧ h =
      relayHeader f.source f.payload ∧ h.ttl = 0 ∧ (s.at_ t).positionHeard n f.radio = true ∧ ((s.at_ t).windowOf n
      f.arrivalUs).1 = true ∧ kinds = frameKinds h.type_ (h.more || h.index != 0) false ∧ c = (s.at_ t).checkFrame n
      kinds f ∧ c.1 = false) ∧
    (∃ (t n : Nat) (f : RadioFrame) (h : RelayHeader) (kinds : List Nat) (c : Bool × State) (s : State), nodeOfShort
      f.source = some n ∧ s.domainOn 7 = true ∧ s.contextHeld n = true ∧ s.radios.contains f.radio = true ∧ h =
      relayHeader f.source f.payload ∧ h.ttl = 0 ∧ (s.at_ t).positionHeard n f.radio = true ∧ ((s.at_ t).windowOf n
      f.arrivalUs).1 = true ∧ kinds = frameKinds h.type_ (h.more || h.index != 0) false ∧ c = (s.at_ t).checkFrame n
      kinds f ∧ c.1 = true) ∧
    (∃ (t n : Nat) (f : RadioFrame) (h : RelayHeader) (kinds : List Nat) (c : Bool × State) (s : State), nodeOfShort
      f.source = some n ∧ s.domainOn 7 = true ∧ s.contextHeld n = true ∧ s.radios.contains f.radio = true ∧ h =
      relayHeader f.source f.payload ∧ h.ttl ≠ 0 ∧ kinds = frameKinds h.type_ (h.more || h.index != 0) true ∧ c =
      (s.at_ t).checkFrame n kinds f ∧ c.1 = false) ∧
    (∃ (t n : Nat) (f : RadioFrame) (h : RelayHeader) (kinds : List Nat) (c : Bool × State) (s : State), nodeOfShort
      f.source = some n ∧ s.domainOn 7 = true ∧ s.contextHeld n = true ∧ s.radios.contains f.radio = true ∧ h =
      relayHeader f.source f.payload ∧ h.ttl ≠ 0 ∧ kinds = frameKinds h.type_ (h.more || h.index != 0) true ∧ c =
      (s.at_ t).checkFrame n kinds f ∧ c.1 = true) ∧
    (∃ (s : State) (h : RelayHeader) (f : RadioFrame), s.relay.seen.contains (h.origin, h.seq) = true) ∧
    (∃ (s : State) (h : RelayHeader) (f : RadioFrame), s.relay.seen.contains (h.origin, h.seq) = false ∧
      s.relay.seen.length < 256 ∧ h.dest ≠ 0 ∧ h.dest ≠ 0xFFFF ∧ h.ttl ≤ 1) ∧
    (∃ (t n : Nat) (h : HitchRequest) (s v : State), s.domainOn 7 = true ∧ s.farrier = false ∧ s.wheeler = false ∧
      s.power.phase ≠ .reloading ∧ s.joinKey h.eui = some h.key ∧ h.flooded = false ∧ v = ((((s.at_ t).drawBelow
      2).2.relayTally 0 (frameKinds 4 false true) 0 ((s.at_ t).drawBelow 2).1).relayTally 0 (frameKinds 4 false
      true) 8 ((s.at_ t).drawBelow 2).1) ∧ v.contextOf h.eui = some n ∧ (v.cellOf n).flood = false ∧ (v.cellOf n).up
      ≠ 0) ∧
    (∃ (t n : Nat) (f : RadioFrame) (s : State), nodeOfShort f.source = some n ∧ s.contextHeld n = false) ∧
    (∃ (t n : Nat) (f : RadioFrame) (h : RelayHeader) (s : State), nodeOfShort f.source = some n ∧ s.domainOn 7 =
      true ∧ s.contextHeld n = true ∧ s.radios.contains f.radio = true ∧ h = relayHeader f.source f.payload ∧ h.ttl
      = 0 ∧ (s.at_ t).positionHeard n f.radio = true ∧ ((s.at_ t).windowOf n f.arrivalUs).1 = false) ∧
    (∃ (t : Nat) (f : RadioFrame) (s : State), s.domainOn 7 = false) ∧
    (∃ (t join : Nat) (h : HitchRequest) (s : State), s.domainOn 7 = true ∧ s.farrier = false ∧ s.wheeler = false ∧
      s.power.phase ≠ .reloading ∧ s.joinKey h.eui = some join ∧ join ≠ h.key) ∧
    (∃ (t : Nat) (h : HitchRequest) (s v : State), s.domainOn 7 = true ∧ s.farrier = false ∧ s.wheeler = false ∧
      s.power.phase ≠ .reloading ∧ s.joinKey h.eui = some h.key ∧ h.flooded = false ∧ v = ((((s.at_ t).drawBelow
      2).2.relayTally 0 (frameKinds 4 false true) 0 ((s.at_ t).drawBelow 2).1).relayTally 0 (frameKinds 4 false
      true) 8 ((s.at_ t).drawBelow 2).1) ∧ v.contextOf h.eui = none ∧ s.relay.permitUntil = none) ∧
    (∃ (t n : Nat) (p : Reassembly) (s : State), (s.relay.nodes.get n).partial_ = some p ∧ p.since + s.p
      Pid.relayFragTimeoutMs * ms ≤ max s.now t) ∧
    (∃ (t e : Nat) (s : State), s.relay.permitUntil = some e ∧ e ≤ max s.now t) ∧
    (∃ (t n a : Nat) (s : State), s.p Pid.relayForgetDays ≠ 0 ∧ s.contextHeld n = true ∧ (s.relay.nodes.get n).heard
      = some a ∧ a + s.p Pid.relayForgetDays * 86400 * sec ≤ max s.now t) ∧
    (∃ (t n a : Nat) (s : State), s.contextHeld n = true ∧ s.p Pid.relayNodeState n ≠ 0 ∧ (s.relay.nodes.get
      n).heard = some a ∧ a + 8 * (2 ^ (s.cellOf n).log2P * s.relay.config.slotframe * 10 * ms) ≤ max s.now t) ∧
    (∃ (t n free : Nat) (off : Int) (s : State), s.domainOn 7 = true ∧ s.hasParent = true ∧ s.wheeler = false ∧ n =
      s.p Pid.relayTimeParent 0 ∧ s.relay.following = true) ∧
    (∃ (t : Nat) (s : State), s.domainOn 7 = true ∧ s.hasParent = true) ∧
    (∃ (t key : Nat) (s : State), s.relay.keyMove = some 0 ∧ s.slotKey 4 = none ∧ s.networkKey ((s.p Pid.relayKeyGen
      + 1) % 256) = some key) ∧
    (∃ (t k key : Nat) (s v : State), s.relay.keyMove = some 0 ∧ s.slotKey 4 = some k ∧ s.networkKey ((s.p
      Pid.relayKeyGen + 1) % 256) = some key ∧ v = ((s.at_ t).withRelay (fun r =>
      { r with keyMove := none })).placeDerived 5 (derivedAttr 5 0 2 3 false) k) ∧
    (∃ (t : Nat) (s : State), s.relay.keyMove ≠ some 0) ∧
    (∃ (t a b : Nat) (s : State), s.relay.announced = some (a, b) ∧ a ≤ (s.at_ t).asn) :=
  ⟨⟨0, live.withRelay (fun r => { r with served := some live.asn }), by decide +kernel⟩,
   ⟨0, live, by decide +kernel⟩,
   ⟨0, relaying, _, ⟨by decide +kernel, by decide +kernel, rfl, by decide +kernel, by decide +kernel⟩⟩,
   ⟨0, { relaying with now := 10 * ms }, _, ⟨by decide +kernel, by decide +kernel, rfl, by decide +kernel,
     by decide +kernel⟩⟩,
   ⟨0, ({ relaying with now := 70 * ms } : State).setP Pid.relayNodeEui 0 1 |>.setP Pid.relayNodeCell 0 28, _, 0,
     ⟨by decide +kernel, by decide +kernel, rfl, by decide +kernel, by decide +kernel, by decide +kernel⟩⟩,
   ⟨0, 1023, ⟨0, 0x4FF, 1, 0, 2, 0, [32, 0, 1]⟩, _, _, _, (withKey live 4 1 0).setP Pid.relayNodeEui 2047 1,
     ⟨by decide +kernel, by decide +kernel, by decide +kernel, by decide +kernel, rfl, by decide +kernel,
     by decide +kernel, by decide +kernel, rfl, rfl, by decide +kernel⟩⟩,
   ⟨0, 1023, ⟨0, 0x4FF, 1, 0, 1, 0, [32, 0, 1]⟩, _, _, _, (withKey live 4 1 0).setP Pid.relayNodeEui 2047 1,
     ⟨by decide +kernel, by decide +kernel, by decide +kernel, by decide +kernel, rfl, by decide +kernel,
     by decide +kernel, by decide +kernel, rfl, rfl, by decide +kernel⟩⟩,
   ⟨0, 1023, ⟨0, 0x4FF, 1, 0, 2, 0, [17, 0, 1, 1, 1, 2, 0, 5]⟩, _, _, _, (withKey live 4 1 0).setP Pid.relayNodeEui
     2047 1, ⟨by decide +kernel, by decide +kernel, by decide +kernel, by decide +kernel, rfl, by decide +kernel,
     rfl, rfl, by decide +kernel⟩⟩,
   ⟨0, 1023, ⟨0, 0x4FF, 1, 0, 1, 0, [17, 0, 1, 1, 1, 2, 0, 5]⟩, _, _, _, (withKey live 4 1 0).setP Pid.relayNodeEui
     2047 1, ⟨by decide +kernel, by decide +kernel, by decide +kernel, by decide +kernel, rfl, by decide +kernel,
     rfl, rfl, by decide +kernel⟩⟩,
   ⟨live.withRelay (fun r => { r with seen := [(257, 5)] }), ⟨1, 1, false, 0, 257, 258, 5, []⟩, ⟨0, 0x100, 1, 0, 1,
     0, []⟩, by decide +kernel⟩,
   ⟨live, ⟨1, 1, false, 0, 257, 258, 5, []⟩, ⟨0, 0x100, 1, 0, 1, 0, []⟩, by decide +kernel⟩,
   ⟨0, 1023, ⟨5, kdf 1 labelJoin (octetsOfNat 8 5) 128, 0, false, 0, 0, 0, false⟩, (((withKey live 2 1 0).setP
     Pid.relayNodeEui 2047 5).setP Pid.relayNodeCell 1023 8192), _,
     ⟨by decide +kernel, by decide +kernel, by decide +kernel, by decide +kernel, rfl, by decide +kernel, rfl, tallied _ _ (fun u => u.contextOf 5 = some 1023) (by decide +kernel) (by decide +kernel), tallied _ _ (fun u => (u.cellOf 1023).flood = false) (by decide +kernel) (by decide +kernel), tallied _ _ (fun u => (u.cellOf 1023).up ≠ 0) (by decide +kernel) (by decide +kernel)⟩⟩,
   ⟨0, 1023, ⟨0, 0x4FF, 1, 0, 1, 0, [32, 0, 1]⟩, live, by decide +kernel⟩,
   ⟨0, 1023, ⟨0, 0x4FF, 1, 0, 1, 1401, [32, 0, 1]⟩, _, live.setP Pid.relayNodeEui 2047 1, ⟨by decide +kernel,
     by decide +kernel, by decide +kernel, by decide +kernel, rfl, by decide +kernel, by decide +kernel,
     by decide +kernel⟩⟩,
   ⟨0, ⟨0, 0x100, 1, 0, 1, 0, []⟩, live.withPower (fun p => { p with domains := 0 }), by decide +kernel⟩,
   ⟨0, kdf 1 labelJoin (octetsOfNat 8 5) 128, ⟨5, kdf 1 labelJoin (octetsOfNat 8 5) 128 + 1, 0, false, 0, 0, 0,
     false⟩, withKey live 2 1 0,
     ⟨by decide +kernel, by decide +kernel, by decide +kernel, by decide +kernel, rfl, (Nat.succ_ne_self _).symm⟩⟩,
   ⟨0, ⟨5, kdf 1 labelJoin (octetsOfNat 8 5) 128, 0, false, 0, 0, 0, false⟩, withKey live 2 1 0, _,
     ⟨by decide +kernel, by decide +kernel, by decide +kernel, by decide +kernel, rfl, by decide +kernel, rfl, tallied _ _ (fun u => u.contextOf 5 = none) (by decide +kernel) (by decide +kernel), by decide +kernel⟩⟩,
   ⟨0, 1023, ⟨0, 0, 0, 0, []⟩, late.modifyNode 1023 (fun k => { k with partial_ := some ⟨0, 0, 0, 0, []⟩ }),
     by decide +kernel⟩,
   ⟨0, late.now, late.withRelay (fun r => { r with permitUntil := some late.now }), by decide +kernel⟩,
   ⟨0, 1023, 0, ((late.setP Pid.relayForgetDays 0 1).setP Pid.relayNodeEui 2047 1).modifyNode 1023 (fun k =>
     { k with heard := some 0 }), by decide +kernel⟩,
   ⟨0, 1023, 0, ((late.setP Pid.relayNodeEui 2047 1).setP Pid.relayNodeState 1023 2).modifyNode 1023 (fun k =>
     { k with heard := some 0 }), by decide +kernel⟩,
   ⟨0, _, 0, 0, live.setP Pid.relayTimeRole 0 1, ⟨by decide +kernel, by decide +kernel, by decide +kernel, rfl,
     by decide +kernel⟩⟩,
   ⟨0, live.setP Pid.relayTimeRole 0 1, by decide +kernel⟩,
   ⟨0, _, (withKey live 2 1 0).withRelay (fun r => { r with keyMove := some 0 }), ⟨by decide +kernel,
     by decide +kernel, rfl⟩⟩,
   ⟨0, 1, _, (withKey (withKey live 2 1 0) 4 1 0).withRelay (fun r => { r with keyMove := some 0 }), _,
     ⟨by decide +kernel, by decide +kernel, rfl, rfl⟩⟩,
   ⟨0, live, by decide +kernel⟩,
   ⟨0, 0, 0, live.withRelay (fun r => { r with announced := some (0, 0) }), by decide +kernel⟩⟩

theorem witness_CassetteCommands :
    (∃ (t c : Nat) (s : State), c < 2 ∧ (s.cassette c).detSince = none) ∧
    (∃ (t c d : Nat) (r : CassetteReport) (s v : State), c < 2 ∧ (s.cassette c).detSince = some d ∧ (s.cassette
      c).powered = false ∧ d + 100 * ms ≤ max s.now t ∧ s.d8On = true ∧ s.flagOf Pid.sbFlags c sbEjectReady = false
      ∧ v = ((((s.at_ t).cassetteIdentity c r).setP Pid.sbState c 1).setP Pid.sbFlags c 0).setP Pid.sbBusMode c (if
      r.mode = 0xFF then 0xFF else min r.mode (((((s.at_ t).cassetteIdentity c r).setP Pid.sbState c 1).setP
      Pid.sbFlags c 0).p Pid.sbMaxMode)) ∧ r.maker = none) ∧
    (∃ (t c d : Nat) (r : CassetteReport) (s v : State) (m : MakerPart), c < 2 ∧ (s.cassette c).detSince = some d ∧
      (s.cassette c).powered = false ∧ d + 100 * ms ≤ max s.now t ∧ s.d8On = true ∧ s.flagOf Pid.sbFlags c
      sbEjectReady = false ∧ v = ((((s.at_ t).cassetteIdentity c r).setP Pid.sbState c 1).setP Pid.sbFlags c 0).setP
      Pid.sbBusMode c (if r.mode = 0xFF then 0xFF else min r.mode (((((s.at_ t).cassetteIdentity c r).setP
      Pid.sbState c 1).setP Pid.sbFlags c 0).p Pid.sbMaxMode)) ∧ r.maker = some m ∧ makerAccepted m = false) ∧
    (∃ (t c d : Nat) (r : CassetteReport) (s v : State) (m : MakerPart), c < 2 ∧ (s.cassette c).detSince = some d ∧
      (s.cassette c).powered = false ∧ d + 100 * ms ≤ max s.now t ∧ s.d8On = true ∧ s.flagOf Pid.sbFlags c
      sbEjectReady = false ∧ v = ((((s.at_ t).cassetteIdentity c r).setP Pid.sbState c 1).setP Pid.sbFlags c 0).setP
      Pid.sbBusMode c (if r.mode = 0xFF then 0xFF else min r.mode (((((s.at_ t).cassetteIdentity c r).setP
      Pid.sbState c 1).setP Pid.sbFlags c 0).p Pid.sbMaxMode)) ∧ r.maker = some m ∧ makerAccepted m = true) ∧
    (∃ (t c : Nat) (r : CassetteReport) (s : State), s.flagOf Pid.sbFlags c sbEjectReady = true) ∧
    (∃ (t c : Nat) (s v : State), c < 2 ∧ (s.cassette c).powered = true ∧ v = ((((s.at_ t).modifyCassette c (fun k
      => { k with detSince := none })).endTest (32 + c) 5).memberLeft c false).setP Pid.sbFlags c 0) ∧
    (∃ (t c : Nat) (s : State) (r : Resilver), (s.cassette c).resilver = some r ∧ r.todo = []) ∧
    (∃ (t c : Nat) (r : Resilver) (u v : StorageUnit) (rest : List StorageUnit) (s : State), c < 2 ∧ (s.cassette
      c).resilver = some r ∧ s.p Pid.sbState c = 2 ∧ r.stopped = none ∧ s.inService (1 - c) = true ∧ s.shed = 0 ∧
      s.d8On = true ∧ r.todo = u :: v :: rest ∧ (s.storage.writes.all (fun w => !w.waits) = true)) ∧
    (∃ (t n c : Nat) (s : State), s.d8On = true) ∧
    (∃ (t c block : Nat) (s : State), (s.p Pid.sbState c = 2 ∨ s.p Pid.sbState c = 3)) ∧
    (∃ (t c region block step corrected : Nat) (offsets : List Int) (mirror : Bool) (s : State), s.inService c =
      true ∧ region ≤ 8 ∧ step ≤ 1 ∧ corrected * 100 ≤ hardCapacity * s.p Pid.sbRefreshPct) :=
  ⟨⟨0, 1, live, by decide +kernel⟩,
   ⟨0, 1, late.now - 100 * ms, ⟨none, none, 0, 0, 0, 0⟩, inserted, _, ⟨by decide +kernel, by decide +kernel,
     by decide +kernel, by decide +kernel, by decide +kernel, by decide +kernel, rfl, by decide +kernel⟩⟩,
   ⟨0, 1, late.now - 100 * ms, ⟨some { goodMaker with dies := 5 }, none, 0, 0, 0, 0⟩, inserted, _,
     { goodMaker with dies := 5 }, ⟨by decide +kernel, by decide +kernel, by decide +kernel, by decide +kernel,
     by decide +kernel, by decide +kernel, rfl, by decide +kernel, by decide +kernel⟩⟩,
   ⟨0, 1, late.now - 100 * ms, ⟨some goodMaker, none, 0, 0, 0, 0⟩, inserted, _, goodMaker, ⟨by decide +kernel,
     by decide +kernel, by decide +kernel, by decide +kernel, by decide +kernel, by decide +kernel, rfl,
     by decide +kernel, by decide +kernel⟩⟩,
   ⟨0, 1, ⟨none, none, 0, 0, 0, 0⟩, live.setP Pid.sbFlags 1 16, by decide +kernel⟩,
   ⟨0, 1, live.modifyCassette 1 (fun k => { k with powered := true }), _, ⟨by decide +kernel, by decide +kernel,
     rfl⟩⟩,
   ⟨0, 1, live.modifyCassette 1 (fun k => { k with resilver := some ⟨true, [], 0, none⟩ }), ⟨true, [], 0, none⟩,
     by decide +kernel⟩,
   ⟨0, 1, ⟨true, [.pslc 0 0, .pslc 0 1], 2, none⟩, .pslc 0 0, .pslc 0 1, [], ((live.setP Pid.sbState 0 3).setP
     Pid.sbState 1 2).modifyCassette 1 (fun k =>
     { k with resilver := some ⟨true, [.pslc 0 0, .pslc 0 1], 2, none⟩ }), by decide +kernel⟩,
   ⟨0, 0, 0, live, by decide +kernel⟩,
   ⟨0, 1, 7, live.setP Pid.sbState 1 2, by decide +kernel⟩,
   ⟨0, 1, 8, 7, 1, 0, [], true, live.setP Pid.sbState 1 3, by decide +kernel⟩⟩

theorem witness_StorageUpkeep :
    (∃ (t c : Nat) (s : State), (s.cassette c).powered = true ∧ s.d8On = true ∧ c < 2 ∧ (s.cassette c).checkpointAt
      + 600 * sec ≤ max s.now t) ∧
    (∃ (t c family : Nat) (bs : List (Nat × Nat × Nat)) (s : State), c < 2 ∧ s.inService c = true ∧ s.d8On = true ∧
      max s.now t < (s.cassette c).scrubFrom + s.p Pid.sbScrubDays * 86400 * sec) ∧
    (∃ (t c family : Nat) (bs : List (Nat × Nat × Nat)) (s : State), c < 2 ∧ s.inService c = true ∧ s.d8On = true ∧
      (s.cassette c).scrubFrom + s.p Pid.sbScrubDays * 86400 * sec ≤ max s.now t) ∧
    (∃ (t : Nat) (temps : List Int) (s : State), max s.now t < s.storage.ageAt + 3600 * sec) ∧
    (∃ (t : Nat) (temps : List Int) (s : State), s.storage.ageAt + 3600 * sec ≤ max s.now t) ∧
    (∃ (t c source target : Nat) (s : State), c < 2 ∧ s.inService c = true ∧ s.shed = 0 ∧ s.d8On = true ∧ (∀ m :
      Nat, (s.cassette c).lastMove = some m → m + 600 * sec ≤ max s.now t) ∧ (s.block c source).occupied = true ∧
      (s.block c target).occupied = false ∧ (s.block c target).bad = false ∧ blockTlc source = blockTlc target ∧
      (s.cassette c).uneven (blockTlc source) = true ∧ (∀ x ∈ (s.cassette c).blocks.cells, blockTlc x.1 = blockTlc
      source → x.2.bad = false → x.2.occupied = true → (s.block c source).erases ≤ x.2.erases) ∧ (∀ x ∈ (s.cassette
      c).blocks.cells, blockTlc x.1 = blockTlc source → x.2.bad = false → x.2.occupied = false → x.2.erases ≤
      (s.block c target).erases)) ∧
    (∃ (t : Nat) (s : State), s.storage.landing.length < 1533) ∧
    (∃ (t : Nat) (s : State), 1533 ≤ s.storage.landing.length ∧ s.shed = 0 ∧ s.d8On = true ∧ s.storageUp = true ∧
      s.foldAllowed 0 = true ∧ s.foldAllowed 1 = true ∧ s.storage.archive.length < 3755) ∧
    (∃ (t : Nat) (s : State), s.awake = true) ∧
    (∃ (t : Nat) (s : State), s.awake = false) ∧
    (∃ (t a : Nat) (s : State), s.waybill.frozenSince = some a ∧ a + s.p Pid.wbFreezeMaxS * sec ≤ max s.now t) ∧
    (∃ (t a : Nat) (s : State), s.waybill.frozenSince = some a ∧ max s.now t < a + s.p Pid.wbFreezeMaxS * sec) :=
  ⟨⟨0, 1, late.modifyCassette 1 (fun k => { k with powered := true }), by decide +kernel⟩,
   ⟨0, 1, 0, [], live.setP Pid.sbState 1 3, by decide +kernel⟩,
   ⟨0, 1, 0, [], late.setP Pid.sbState 1 3, by decide +kernel⟩,
   ⟨0, [], live, by decide +kernel⟩,
   ⟨0, [], late, by decide +kernel⟩,
   ⟨0, 1, 0, 1, (live.setP Pid.sbState 1 3).modifyCassette 1 (fun k =>
     { k with blocks := (k.blocks.set 0 { BlockInfo.fresh with occupied := true }).set 1 { BlockInfo.fresh with erases := 201 } }),
     by decide +kernel⟩,
   ⟨0, { live with storage := { live.storage with landing := List.replicate 1532 blankMinute } }, by decide +kernel⟩,
   ⟨0, ({ live with storage := { live.storage with landing := List.replicate 1533 blankMinute } } : State).setP
     Pid.sbState 1 3, by decide +kernel⟩,
   ⟨0, live, by decide +kernel⟩,
   ⟨0, live.withPower (fun p => { p with asleep := true }), by decide +kernel⟩,
   ⟨0, 0, { late with waybill := { late.waybill with frozenSince := some 0 } }, by decide +kernel⟩,
   ⟨0, late.now, { late with waybill := { late.waybill with frozenSince := some late.now } }, by decide +kernel⟩⟩

theorem witness_KeyCommits :
    (∃ (t k a : Nat) (attr check : Word) (key : Nat) (ref : Option TicketRef) (rest : List (VaultJob × Option
      TicketRef × Nat × Bool)) (s : State), s.vault.jobs = (.load k attr key check, ref, a, false) :: rest) ∧
    (∃ (t target a : Nat) (w : Bool) (ref : Option TicketRef) (rest : List (VaultJob × Option TicketRef × Nat ×
      Bool)) (s : State), s.vault.jobs = (.lifecycle target, ref, a, w) :: rest) ∧
    (∃ (t k a : Nat) (ref : Option TicketRef) (rest : List (VaultJob × Option TicketRef × Nat × Bool)) (s : State),
      s.vault.jobs = (.invalidate k, ref, a, false) :: rest) ∧
    (∃ (t k a : Nat) (attr check : Word) (key : Nat) (ref : Option TicketRef) (rest : List (VaultJob × Option
      TicketRef × Nat × Bool)) (s : State), s.vault.jobs = (.load k attr key check, ref, a, true) :: rest) ∧
    (∃ (t slot : Nat) (h : LinkHead) (attr check : Word) (key : Nat) (s : State), ((s.at_ t).linkTakes 7 h).1 = true
      ∧ ((s.at_ t).linkTakes 7 h).2.wheeler = true) ∧
    (∃ (t : Nat) (h : LinkHead) (s : State), ((s.at_ t).linkTakes 7 h).1 = true ∧ ((s.at_ t).linkTakes 7 h).2.lead =
      true) ∧
    (∃ (t a : Nat) (j : VaultJob) (ref : Option TicketRef) (s : State), s.vault.jobs.find? (fun j => j.2.2.2) = some
      (j, ref, a, true) ∧ a + 100 * ms ≤ max s.now t) ∧
    (∃ (t input : Nat) (level : Bool) (s : State), input < 2 ∧ s.time.retained = true ∧ (s.p
      Pid.keyTamperCfg).testBit input = true ∧ level ≠ (s.p Pid.keyTamperCfg).testBit (2 + input)) ∧
    (∃ (t input : Nat) (s : State), input < 2 ∧ s.time.retained = true ∧ (s.p Pid.keyTamperCfg).testBit input = true
      ∧ s.vault.tamperSince.get input = none) ∧
    (∃ (t input a : Nat) (s : State), input < 2 ∧ s.time.retained = true ∧ (s.p Pid.keyTamperCfg).testBit input =
      true ∧ s.vault.tamperSince.get input = some a ∧ a + tamperTime ≤ max s.now t ∧ s.vault.tamperDone.get input =
      false ∧ s.domainOn 9 = false) ∧
    (∃ (t input : Nat) (s : State), input < 2 ∧ s.time.retained = true ∧ (s.p Pid.keyTamperCfg).testBit input = true
      ∧ s.vault.tamperSince.get input ≠ none ∧ s.vault.tamperDone.get input = true) :=
  ⟨⟨0, 63, 0, 0, 0, 1, none, [],
     { live with vault := { live.vault with jobs := [(.load 63 0 1 0, none, 0, false)] } }, by decide +kernel⟩,
   ⟨0, 4, 0, true, none, [], { live with vault := { live.vault with jobs := [(.lifecycle 4, none, 0, true)] } },
     by decide +kernel⟩,
   ⟨0, 63, 0, none, [], { live with vault := { live.vault with jobs := [(.invalidate 63, none, 0, false)] } },
     by decide +kernel⟩,
   ⟨0, 63, 0, 0, 0, 1, none, [],
     { live with vault := { live.vault with jobs := [(.load 63 0 1 0, none, 0, true)] } }, by decide +kernel⟩,
   ⟨0, 63, sound, 0, 0, 1, paired live 2, ⟨taken _ _ _ (by decide +kernel), (linkTakes_wheeler _ _ _).trans
     (by decide +kernel)⟩⟩,
   ⟨0, sound, paired live 1, ⟨taken _ _ _ (by decide +kernel), (linkTakes_lead _ _ _).trans (by decide +kernel)⟩⟩,
   ⟨0, late.now - 100 * ms, .invalidate 63, none,
     { late with vault := { late.vault with jobs := [(.invalidate 63, none, late.now - 100 * ms, true)] } },
     by decide +kernel⟩,
   ⟨0, 1, true, live.setP Pid.keyTamperCfg 0 2, by decide +kernel⟩,
   ⟨0, 1, live.setP Pid.keyTamperCfg 0 2, by decide +kernel⟩,
   ⟨0, 1, 0, ({ late with vault := { late.vault with tamperSince := late.vault.tamperSince.set 1 (some 0) } } :
     State).setP Pid.keyTamperCfg 0 2 |>.withPower (fun p => { p with domains := 0x1FF }), by decide +kernel⟩,
   ⟨0, 1,
     ({ late with vault := { late.vault with tamperSince := late.vault.tamperSince.set 1 (some 0), tamperDone := late.vault.tamperDone.set 1 true } }
     : State).setP Pid.keyTamperCfg 0 2, by decide +kernel⟩⟩

theorem witness_UpdateCommands :
    (∃ (t a : Nat) (ref : TicketRef) (s : State), s.update.opening = some (ref, a)) ∧
    (∃ (t : Nat) (ref : TicketRef) (digest : List Word) (s : State), s.update.committing = some (ref, digest) ∧ s.p
      Pid.updState = 2 ∧ digest ≠ (s.pRun Pid.updDigest 0 8).map (fun n => word n) ∧ s.update.untagged = true ∧
      s.update.holderGone = false) ∧
    (∃ (t : Nat) (ref : TicketRef) (digest : List Word) (s : State), s.update.committing = some (ref, digest) ∧ s.p
      Pid.updState = 2 ∧ digest = (s.pRun Pid.updDigest 0 8).map (fun n => word n) ∧ s.p Pid.updWordsRx = s.p
      Pid.updSizeWords ∧ s.update.untagged = true ∧ s.update.holderGone = false) ∧
    (∃ (t : Nat) (ref : TicketRef) (digest : List Word) (s : State), s.update.committing = some (ref, digest) ∧ s.p
      Pid.updState = 2 ∧ digest = (s.pRun Pid.updDigest 0 8).map (fun n => word n) ∧ s.p Pid.updWordsRx = s.p
      Pid.updSizeWords ∧ s.update.untagged = false ∧ s.update.holderGone = false) ∧
    (∃ (t : Nat) (s : State), (s.at_ t).switchDue = true) ∧
    (∃ (t : Nat) (s : State), (s.at_ t).switchDue = false) ∧
    (∃ (t : Nat) (h : LinkHead) (s : State), ((s.at_ t).linkTakes 9 h).1 = true ∧ ((s.at_ t).linkTakes 9 h).2.p
      Pid.updPairState = 1 ∧ ((s.at_ t).linkTakes 9 h).2.p Pid.updState = 3) ∧
    (∃ (t a : Nat) (s : State), s.update.probationEnd = some a ∧ s.awake = true ∧ a ≤ max s.now t) ∧
    (∃ (t a : Nat) (s : State), s.update.firstCommitFrom = some a ∧ a + 2 * sec ≤ max s.now t ∧ s.power.phase =
      .running) ∧
    (∃ (t : Nat) (s : State), s.power.phase = .running ∧ s.power.asleep = false ∧ s.update.probationEnd.isSome =
      true) ∧
    (∃ (t : Nat) (s : State), s.power.phase = .running ∧ s.power.asleep = false ∧ s.update.probationEnd = none) ∧
    (∃ (t : Nat) (s : State), s.p Pid.updState = 1 ∧ s.update.lastData + s.p Pid.updIdleS * sec ≤ max s.now t) :=
  ⟨⟨0, 0, ⟨1, 1⟩, { live with update := { live.update with opening := some (⟨1, 1⟩, 0) } }, by decide +kernel⟩,
   ⟨0, ⟨1, 1⟩, [1], ({ live with update := { live.update with committing := some (⟨1, 1⟩, [1]), untagged := true } }
     : State).setP Pid.updState 0 2, by decide +kernel⟩,
   ⟨0, ⟨1, 1⟩, List.replicate 8 0,
     ({ live with update := { live.update with committing := some (⟨1, 1⟩, List.replicate 8 0), untagged := true } }
     : State).setP Pid.updState 0 2, by decide +kernel⟩,
   ⟨0, ⟨1, 1⟩, List.replicate 8 0,
     ({ live with update := { live.update with committing := some (⟨1, 1⟩, List.replicate 8 0) } } : State).setP
     Pid.updState 0 2, by decide +kernel⟩,
   ⟨0, (live.setP Pid.updState 0 3).withProg (fun g => { g with nextAt := some 0 }), by decide +kernel⟩,
   ⟨0, live, by decide +kernel⟩,
   ⟨0, sound, ((paired live 1).setP Pid.updState 0 3).setP Pid.updPairState 0 1, ⟨taken _ _ _ (by decide +kernel),
     (linkTakes_p _ _ _ _ _ (by decide) (by decide) (by decide)).trans (by decide +kernel), (linkTakes_p _ _ _ _ _
     (by decide) (by decide) (by decide)).trans (by decide +kernel)⟩⟩,
   ⟨0, late.now, { late with update := { late.update with probationEnd := some late.now } }, by decide +kernel⟩,
   ⟨0, late.now - 2 * sec,
     { late with update := { late.update with firstCommitFrom := some (late.now - 2 * sec) } }, by decide +kernel⟩,
   ⟨0, { late with update := { late.update with probationEnd := some late.now } }, by decide +kernel⟩,
   ⟨0, live, by decide +kernel⟩,
   ⟨0, late.setP Pid.updState 0 1, by decide +kernel⟩⟩

theorem witness_PairLinkCommands :
    (∃ (t : Nat) (s : State), s.tandem.lanes ≠ 3 ∧ s.p Pid.tdmRole = 0) ∧
    (∃ (t : Nat) (s : State), s.tandem.lanes ≠ 3 ∧ s.p Pid.tdmRole ≠ 0 ∧ s.p Pid.tdmState ≠ 5 ∧ s.p Pid.tdmState ≠
      6) ∧
    (∃ (t lane : Nat) (s : State), lane < 2 ∧ s.tandem.lanes.testBit lane = true) ∧
    (∃ (t : Nat) (h : LinkHead) (m : HelloMessage) (s : State), s.linkUsable = true ∧ h.tagGood = false ∧ ((s.at_
      t).vaultCheck .tdmFrame 7 4 false).1 = true) ∧
    (∃ (t : Nat) (h : LinkHead) (m : HelloMessage) (s v : State), s.linkUsable = true ∧ h.tagGood = true ∧ ((s.at_
      t).vaultCheck .tdmFrame 7 4 false).1 = true ∧ v = (((((s.at_ t).vaultCheck .tdmFrame 7 4 false).2.keyUse
      .tdmFrame 4 7).tdmCount 8 1).tdmCount 8 3 h.octets).heardPartner.withTandem (fun k =>
      { k with partner := some m }) ∧ m.answer = false) ∧
    (∃ (t : Nat) (h : LinkHead) (m : HelloMessage) (s v : State), s.linkUsable = true ∧ h.tagGood = true ∧ ((s.at_
      t).vaultCheck .tdmFrame 7 4 false).1 = true ∧ v = (((((s.at_ t).vaultCheck .tdmFrame 7 4 false).2.keyUse
      .tdmFrame 4 7).tdmCount 8 1).tdmCount 8 3 h.octets).heardPartner.withTandem (fun k =>
      { k with partner := some m }) ∧ m.answer = true ∧ v.tandem.nonce = some m.nonce) ∧
    (∃ (t : Nat) (h : LinkHead) (m : HelloMessage) (s : State), s.linkUsable = false) ∧
    (∃ (t : Nat) (s : State), s.p Pid.tdmState = 2 ∧ s.tandem.helloDone = true ∧ s.tandem.partner.isSome = true ∧
      (s.at_ t).pairReady = true) ∧
    (∃ (t : Nat) (s : State), s.linkUsable = false) ∧
    (∃ (t : Nat) (s : State), s.linkUsable = true) ∧
    (∃ (t : Nat) (s : State), s.p Pid.tdmRole = 0) ∧
    (∃ (t : Nat) (s : State), s.p Pid.tdmRole ≠ 0 ∧ s.partnerIp ≠ 0 ∧ s.domainOn 6 = true) ∧
    (∃ (t role state status cycles : Nat) (h : LinkHead) (s : State), ((s.at_ t).linkTakes 1 h).1 = true) ∧
    (∃ (t a : Nat) (s : State), s.tandem.linkHeard = some a ∧ s.p Pid.tdmRole ≠ 0 ∧ s.tandem.linkLost = false ∧ a +
      s.p Pid.tdmHbLinkUs * us ≤ max s.now t) ∧
    (∃ (t a : Nat) (s : State), s.tandem.linkHeard = some a ∧ max s.now t < a + s.p Pid.tdmHbLinkUs * us) ∧
    (∃ (t a : Nat) (s : State), s.tandem.ringHeard = some a ∧ s.p Pid.tdmRole ≠ 0 ∧ s.tandem.ringLost = false ∧ a +
      s.p Pid.tdmHbRingMiss * s.p Pid.tdmHbRingMs * ms ≤ max s.now t) :=
  ⟨⟨0, live, by decide +kernel⟩,
   ⟨0, live.setP Pid.tdmRole 0 1, by decide +kernel⟩,
   ⟨0, 1, live.withTandem (fun k => { k with lanes := 2 }), by decide +kernel⟩,
   ⟨0, ⟨5, false, 40⟩, plainHello false, paired live 1, by decide +kernel⟩,
   ⟨0, sound, plainHello false, paired live 1, _, ⟨by decide +kernel, by decide +kernel, by decide +kernel, rfl,
     by decide +kernel⟩⟩,
   ⟨0, sound, plainHello true, (paired live 1).withTandem (fun k => { k with nonce := some 9 }), _,
     ⟨by decide +kernel, by decide +kernel, by decide +kernel, rfl, by decide +kernel, by simp [State.heardPartner, State.withTandem]; rfl⟩⟩,
   ⟨0, sound, plainHello true, live, by decide +kernel⟩,
   ⟨0, ((paired live 1).setP Pid.tdmState 0 2).withTandem (fun k => { k with partner := some (plainHello true) }),
     by decide +kernel⟩,
   ⟨0, live, by decide +kernel⟩,
   ⟨0, paired live 2, by decide +kernel⟩,
   ⟨0, live, by decide +kernel⟩,
   ⟨0, (paired live 1).setP Pid.tdmPartnerIp 0 1, by decide +kernel⟩,
   ⟨0, 2, 3, 0, 1, sound, paired live 1, taken _ _ _ (by decide +kernel)⟩,
   ⟨0, 0, (paired late 1).withTandem (fun k => { k with linkHeard := some 0 }), by decide +kernel⟩,
   ⟨0, late.now, (paired late 1).withTandem (fun k => { k with linkHeard := some late.now }), by decide +kernel⟩,
   ⟨0, 0, (paired late 1).withTandem (fun k => { k with ringHeard := some 0 }), by decide +kernel⟩⟩

theorem witness_RoleCommands :
    (∃ (t : Nat) (s : State), s.tandem.contest = none) ∧
    (∃ (t : Nat) (c : Contest) (s : State), s.tandem.contest = some c ∧ c.sent = 0) ∧
    (∃ (t : Nat) (c : Contest) (s : State), s.tandem.contest = some c ∧ 2 ≤ c.sent) ∧
    (∃ (t : Nat) (c : Contest) (s : State), s.tandem.contest = some c ∧ c.began + s.p Pid.tdmContestMs * ms ≤ max
      s.now t) ∧
    (∃ (t : Nat) (c : Contest) (s : State), s.tandem.contest = some c ∧ max s.now t < c.began + s.p Pid.tdmContestMs
      * ms) ∧
    (∃ (t : Nat) (s : State), (s.lead = false ∨ s.tandem.newLead = false ∨ s.tandem.pole = true)) ∧
    (∃ (t : Nat) (s : State), s.lead = true ∧ s.tandem.newLead = true ∧ s.tandem.pole = false ∧ s.tandem.takeover =
      []) ∧
    (∃ (t : Nat) (s : State), (s.tandem.pole = false ∨ s.lead = false ∨ s.tandem.linkLost = false ∨
      s.tandem.ringLost = false)) ∧
    (∃ (t b : Nat) (s : State), s.tandem.pole = true ∧ s.lead = true ∧ s.tandem.linkLost = true ∧ s.tandem.ringLost
      = true ∧ b < 16 ∧ 10 ≤ (s.bh b).conflicts ∧ s.tandem.partner = none ∧ s.pB Pid.tdmPrecedence = true) ∧
    (∃ (t : Nat) (h : LinkHead) (s : State), ((s.at_ t).linkTakes 9 h).1 = true ∧ ((s.at_ t).linkTakes 9
      h).2.wheeler = true) :=
  ⟨⟨0, live, by decide +kernel⟩,
   ⟨0, fairContest 0, live.withTandem (fun k => { k with contest := some (fairContest 0) }), by decide +kernel⟩,
   ⟨0, fairContest 2, live.withTandem (fun k => { k with contest := some (fairContest 2) }), by decide +kernel⟩,
   ⟨0, fairContest 2, late.withTandem (fun k => { k with contest := some (fairContest 2) }), by decide +kernel⟩,
   ⟨0, fairContest 2, live.withTandem (fun k => { k with contest := some (fairContest 2) }), by decide +kernel⟩,
   ⟨0, live, by decide +kernel⟩,
   ⟨0, (paired live 1).withTandem (fun k => { k with newLead := true, pole := false }), by decide +kernel⟩,
   ⟨0, live, by decide +kernel⟩,
   ⟨0, 15, (((paired live 1).setP Pid.tdmPrecedence 0 1).withTandem (fun k =>
     { k with pole := true, linkLost := true, ringLost := true })).modBh 15 (fun h => { h with conflicts := 10 }),
     by decide +kernel⟩,
   ⟨0, sound, paired live 2, ⟨taken _ _ _ (by decide +kernel), (linkTakes_wheeler _ _ _).trans (by decide +kernel)⟩⟩⟩

theorem witness_CopyCommands :
    (∃ (t count : Nat) (residual : Int) (h : LinkHead) (s : State), ((s.at_ t).linkTakes 2 h).1 = true ∧ ((s.at_
      t).linkTakes 2 h).2.wheeler = true ∧ ((s.at_ t).linkTakes 2 h).2.tandem.stepped = true ∧ 10000 <
      residual.natAbs) ∧
    (∃ (t count : Nat) (residual : Int) (h : LinkHead) (s : State), ((s.at_ t).linkTakes 2 h).1 = true ∧ ((s.at_
      t).linkTakes 2 h).2.wheeler = true ∧ ((s.at_ t).linkTakes 2 h).2.tandem.stepped = false) ∧
    (∃ (t count a : Nat) (residual : Int) (h : LinkHead) (s : State), ((s.at_ t).linkTakes 2 h).1 = true ∧ ((s.at_
      t).linkTakes 2 h).2.wheeler = true ∧ ((s.at_ t).linkTakes 2 h).2.tandem.stepped = true ∧ residual.natAbs ≤
      10000 ∧ ((s.at_ t).linkTakes 2 h).2.tandem.lockedSince = some a ∧ a + sec ≤ ((s.at_ t).linkTakes 2 h).2.now) ∧
    (∃ (t count : Nat) (residual : Int) (h : LinkHead) (s : State), ((s.at_ t).linkTakes 2 h).1 = true ∧ ((s.at_
      t).linkTakes 2 h).2.wheeler = false) ∧
    (∃ (t ns : Nat) (s : State), s.wheeler = true ∧ s.linkUsable = true ∧ s.tandem.helloDone = true) ∧
    (∃ (t stamp : Nat) (h : LinkHead) (s : State), ((s.at_ t).linkTakes 3 h).1 = true ∧ ((s.at_ t).linkTakes 3
      h).2.wheeler = true) ∧
    (∃ (t : Nat) (h : LinkHead) (b : CommitBlock) (s : State), ((s.at_ t).linkTakes 4 h).1 = true ∧ ((s.at_
      t).linkTakes 4 h).2.wheeler = true ∧ ((s.at_ t).linkTakes 4 h).2.power.phase = .running ∧ ((s.at_ t).linkTakes
      4 h).2.toCount ((s.at_ t).linkTakes 4 h).2.now ≤ b.count) ∧
    (∃ (t n backlog : Nat) (h : LinkHead) (items : List CopyItem) (s : State), ((s.at_ t).linkTakes 5 h).1 = true ∧
      ((s.at_ t).linkTakes 5 h).2.wheeler = false) ∧
    (∃ (t n backlog : Nat) (h : LinkHead) (items : List CopyItem) (s : State), ((s.at_ t).linkTakes 5 h).1 = true ∧
      ((s.at_ t).linkTakes 5 h).2.wheeler = true ∧ ((s.at_ t).linkTakes 5 h).2.power.phase ≠ .reloading) ∧
    (∃ (t n : Nat) (h : LinkHead) (s : State), ((s.at_ t).linkTakes 6 h).1 = true ∧ ((s.at_ t).linkTakes 6 h).2.lead
      = true ∧ n = ((s.at_ t).linkTakes 6 h).2.tandem.copyNumber ∧ ((s.at_ t).linkTakes 6 h).2.p Pid.updPairState ≠
      3) :=
  ⟨⟨0, 0, 10001, sound, (paired live 2).withTandem (fun k => { k with stepped := true }), ⟨taken _ _ _
     (by decide +kernel), (linkTakes_wheeler _ _ _).trans (by decide +kernel), (linkTakes_tandem _ _ _).1.trans
     (by decide +kernel), by decide +kernel⟩⟩,
   ⟨0, 0, 0, sound, paired live 2, ⟨taken _ _ _ (by decide +kernel), (linkTakes_wheeler _ _ _).trans
     (by decide +kernel), (linkTakes_tandem _ _ _).1.trans (by decide +kernel)⟩⟩,
   ⟨0, 0, late.now - sec, -10000, sound, (paired late 2).withTandem (fun k =>
     { k with stepped := true, lockedSince := some (late.now - sec) }),
     ⟨taken _ _ _ (by decide +kernel), (linkTakes_wheeler _ _ _).trans (by decide +kernel), (linkTakes_tandem _ _ _).1.trans (by decide +kernel), by decide +kernel, (linkTakes_tandem _ _ _).2.1.trans (by decide +kernel), by rw [(linkTakes_rest _ _ _).2.1]; decide +kernel⟩⟩,
   ⟨0, 0, 0, sound, paired live 1, ⟨taken _ _ _ (by decide +kernel), (linkTakes_wheeler _ _ _).trans
     (by decide +kernel)⟩⟩,
   ⟨0, 0, paired live 2, by decide +kernel⟩,
   ⟨0, 0, sound, paired live 2, ⟨taken _ _ _ (by decide +kernel), (linkTakes_wheeler _ _ _).trans
     (by decide +kernel)⟩⟩,
   ⟨0, sound, ⟨0, [], [], [], [], [], []⟩, paired live 2,
     ⟨taken _ _ _ (by decide +kernel), (linkTakes_wheeler _ _ _).trans (by decide +kernel), by rw [(linkTakes_rest _ _ _).1]; decide +kernel, by unfold State.toCount; rw [(linkTakes_rest _ _ _).2.1, (linkTakes_rest _ _ _).2.2.1]; decide +kernel⟩⟩,
   ⟨0, 1, 0, sound, [], paired live 1, ⟨taken _ _ _ (by decide +kernel), (linkTakes_wheeler _ _ _).trans
     (by decide +kernel)⟩⟩,
   ⟨0, 1, 0, sound, [], paired live 2,
     ⟨taken _ _ _ (by decide +kernel), (linkTakes_wheeler _ _ _).trans (by decide +kernel), by rw [(linkTakes_rest _ _ _).1]; decide +kernel⟩⟩,
   ⟨0, 0, sound, paired live 1,
     ⟨taken _ _ _ (by decide +kernel), (linkTakes_lead _ _ _).trans (by decide +kernel), Eq.trans (by decide +kernel) (linkTakes_tandem _ _ _).2.2.symm, by rw [linkTakes_p _ _ _ _ _ (by decide) (by decide) (by decide)]; decide +kernel⟩⟩⟩

theorem witness_PowerEventCommands :
    (∃ (t vin : Nat) (strap : Bool) (failed : List Nat) (s : State), vin < 13900) ∧
    (∃ (t vin : Nat) (strap : Bool) (failed : List Nat) (s : State), s.power.phase = .unpowered ∧ s.prog.warm = none
      ∧ 13900 ≤ vin ∧ s.power.rstLow = none) ∧
    (∃ (t vin : Nat) (strap crc form : Bool) (failed : List Nat) (s : State), (vin < 13900 ∨ s.prog.warm = none)) ∧
    (∃ (t vin : Nat) (strap crc form : Bool) (failed : List Nat) (w : WarmImage) (s : State), s.prog.warm = some w ∧
      s.power.phase = .stoodDown ∧ 13900 ≤ vin ∧ s.power.rstLow = none ∧ (s.at_ t).warmRefusal w crc form = none) ∧
    (∃ (t vin : Nat) (s : State), (s.at_ t).sheds = true) ∧
    (∃ (t vin : Nat) (s : State), (s.at_ t).mayLeave vin = true) ∧
    (∃ (t vin : Nat) (s : State), (s.at_ t).mayLeave vin = false) ∧
    (∃ (t : Nat) (s : State), s.power.phase = .committing) ∧
    (∃ (t : Nat) (s : State), s.power.phase ≠ .committing) ∧
    (∃ (t : Nat) (s : State), s.power.phase ≠ .unpowered) ∧
    (∃ (t : Nat) (s : State), s.power.phase = .running) ∧
    (∃ (t vin : Nat) (failed : List Nat) (s : State), s.power.phase ≠ .held) ∧
    (∃ (t vin : Nat) (failed : List Nat) (s v : State), s.power.phase = .held ∧ v = (s.at_ t).withPower (fun p =>
      { p with rstLow := none }) ∧ (v.coldCause = 0 ∨ v.coldCause = 2 ∨ v.banksWaited = true)) ∧
    (∃ (t vin : Nat) (failed : List Nat) (s v : State), s.power.phase = .held ∧ v = (s.at_ t).withPower (fun p =>
      { p with rstLow := none }) ∧ v.coldCause ≠ 0 ∧ v.coldCause ≠ 2 ∧ v.banksWaited = false) :=
  ⟨⟨0, 13899, true, [], live, by decide +kernel⟩,
   ⟨0, 13900, true, [], live.withPower (fun p => { p with phase := .unpowered }), by decide +kernel⟩,
   ⟨0, 13899, true, true, true, [], live, by decide +kernel⟩,
   ⟨0, 13900, true, true, true, [], ⟨0, 0, 0, 0, true⟩, (live.withPower (fun p =>
     { p with phase := .stoodDown })).withProg (fun g => { g with warm := some ⟨0, 0, 0, 0, true⟩ }),
     by decide +kernel⟩,
   ⟨0, 13900, live, by decide +kernel⟩,
   ⟨0, 48000, late.setP Pid.pwrShedStep 0 5, by decide +kernel⟩,
   ⟨0, 48000, live, by decide +kernel⟩,
   ⟨0, live.withPower (fun p => { p with phase := .committing }), by decide +kernel⟩,
   ⟨0, live, by decide +kernel⟩,
   ⟨0, live, by decide +kernel⟩,
   ⟨0, live, by decide +kernel⟩,
   ⟨0, 13900, [], live, by decide +kernel⟩,
   ⟨0, 13900, [], (live.withPower (fun p => { p with phase := .held })).withProg (fun g =>
     { g with restarting := some (false, 2) }), _, ⟨by decide +kernel, rfl, by decide +kernel⟩⟩,
   ⟨0, 13900, [], ((live.withPower (fun p => { p with phase := .held })).modBd 15 (fun d =>
     { d with running := true })), _, ⟨by decide +kernel, rfl, by decide +kernel, by decide +kernel,
     by decide +kernel⟩⟩⟩

theorem witness_PowerUpkeepCommands :
    (∃ (t : Nat) (failed : List Nat) (s : State), s.power.asleep = false) ∧
    (∃ (t cause : Nat) (rest failed : List Nat) (s : State), s.power.asleep = true ∧ s.power.wakes = cause :: rest) ∧
    (∃ (t a : Nat) (failed : List Nat) (s : State), s.power.sleepDeadline = some a ∧ s.power.asleep = true ∧ a ≤ max
      s.now t) ∧
    (∃ (t a : Nat) (failed : List Nat) (s : State), s.power.sleepDeadline = some a ∧ max s.now t < a) ∧
    (∃ (t : Nat) (s : State), s.power.phase = .running ∧ s.d8On = false ∧ (s.at_ t).flushDue = true) ∧
    (∃ (t : Nat) (s : State), (s.power.phase ≠ .running ∨ s.d8On = true ∨ (s.at_ t).flushDue = false)) ∧
    (∃ (t floor : Nat) (s : State), s.domainOn 1 = true ∧ s.p Pid.pwrCoreMv ≤ 900) :=
  ⟨⟨0, [], live, by decide +kernel⟩,
   ⟨0, 3, [], [], live.withPower (fun p => { p with asleep := true, wakes := [3] }), by decide +kernel⟩,
   ⟨0, late.now, [], late.withPower (fun p => { p with asleep := true, sleepDeadline := some late.now }),
     by decide +kernel⟩,
   ⟨0, late.now + 1, [], late.withPower (fun p => { p with asleep := true, sleepDeadline := some (late.now + 1) }),
     by decide +kernel⟩,
   ⟨0, ({ late with marked := [(0, 0)] } : State).setP Pid.pwrState 0 1, by decide +kernel⟩,
   ⟨0, live, by decide +kernel⟩,
   ⟨0, 550, live, by decide +kernel⟩⟩

theorem witness_ResultReadsItsTicket :
    (∃ (s : State) (tk : Ticket), Meets s .host (.opcode 0x03) (fun _ => .immediate) (fun q a => q.payload.length =
      0 ∧ (a.session q.session).bind (fun k => k.ticket q.ticket) = some tk ∧ tk.result = none)) ∧
    (∃ (s : State) (tk : Ticket) (n : Nat) (r : Result), Meets s .host (.opcode 0x03) (fun _ => .immediate) (fun q a
      => q.payload.length = 0 ∧ (a.session q.session).bind (fun k => k.ticket q.ticket) = some tk ∧ tk.result = some
      (n, r) ∧ tk.readOnce = false)) ∧
    (∃ (s : State) (tk : Ticket) (n : Nat) (r : Result), Meets s .host (.opcode 0x03) (fun _ => .immediate) (fun q a
      => q.payload.length = 0 ∧ (a.session q.session).bind (fun k => k.ticket q.ticket) = some tk ∧ tk.result = some
      (n, r) ∧ tk.readOnce = true)) ∧
    (∃ (s : State) , Meets s .host (.opcode 0x03) (fun _ => .immediate) (fun q a => q.payload.length = 0 ∧
      (a.session q.session).bind (fun k => k.ticket q.ticket) = none)) ∧
    (∃ (k : Session) (tk x : Ticket) (n : Nat), k.ticket n = some x) ∧
    (∃ (p : Packet), (headerOf p.data).opcode = 0x03) ∧
    (∃ (a : State) (r : Result) (tr : Transport) (p : Packet) (k k' : Session), p.usesTicket = true ∧ a.session
      (headerOf p.data).session = some k') :=
  ⟨⟨(talk live { hostSession 1 with tickets := [⟨7, none, false⟩] } 3 7 []), ⟨7, none, false⟩, meets
     (by decide +kernel) (by decide +kernel)⟩,
   ⟨(talk live { hostSession 1 with tickets := [⟨7, some (0, ok), false⟩] } 3 7 []), ⟨7, some (0, ok), false⟩, 0,
     ok, meets (by decide +kernel) (by decide +kernel)⟩,
   ⟨(talk live { hostSession 1 with tickets := [⟨7, some (0, ok), true⟩] } 3 7 []), ⟨7, some (0, ok), true⟩, 0, ok,
     meets (by decide +kernel) (by decide +kernel)⟩,
   ⟨(talk live (hostSession 1) 3 7 []), meets (by decide +kernel) (by decide +kernel)⟩,
   ⟨{ hostSession 1 with tickets := [⟨7, none, false⟩] }, ⟨7, none, true⟩, ⟨7, none, false⟩, 7, by decide +kernel⟩,
   ⟨sentPacket (talk live (hostSession 1) 3 7 []), by decide +kernel⟩,
   ⟨talk live (hostSession 1) 0x12 7 [], ok, .host, sentPacket (talk live (hostSession 1) 0x12 7 []), hostSession 1,
     hostSession 1, by decide +kernel⟩⟩

theorem witness_TandemStatusReply :
    (∃ (s : State) , Meets s .host (.opcode 0xA0) (fun _ => .immediate) (fun q a => q.payload.length = 0 ∧
      a.tandem.linkHeard = none ∧ a.tandem.ringHeard = none)) ∧
    (∃ (s : State) (x y : Nat), Meets s .host (.opcode 0xA0) (fun _ => .immediate) (fun q a => q.payload.length = 0
      ∧ (a.tandem.linkHeard = some x ∧ (a.tandem.ringHeard = some y ∨ a.tandem.ringHeard = none ∧ y = x) ∨
      a.tandem.ringHeard = some y ∧ a.tandem.linkHeard = none ∧ x = y))) ∧
    (∃ (t role state status cycles : Nat) (h : LinkHead) (s : State), ((s.at_ t).linkTakes 1 h).1 = true) :=
  ⟨⟨(talk live (hostSession 1) 0xA0 1 []), meets (by decide +kernel) (by decide +kernel)⟩,
   ⟨(talk (live.withTandem (fun k => { k with linkHeard := some 0 })) (hostSession 1) 0xA0 1 []), 0, 0 , meets
     (by decide +kernel) (by decide +kernel)⟩,
   ⟨0, 2, 3, 0, 1, sound, paired live 1, taken _ _ _ (by decide +kernel)⟩⟩

end Sys2Proof.Machine.Test
end

/-! PROOF.  SET at once (O30): an accepted SET of an immediate parameter writes its elements, then does what its row of
the command table adds (R246, R256). -/

namespace Sys2Proof.Machine

open Sys2Proof

/-- The parameter map has the parameter, and a SET of it does not wait for the boundary (R246, R258). -/
def setAtOnce (id : Nat) : Bool := (paramRow id).any (fun r => !r.boundary)

theorem setKind_of_setAtOnce {q : Request} (h : setAtOnce (setId q) = true) : setKind q = .immediate := by
  unfold setAtOnce at h
  obtain ⟨r, hrow, hnot⟩ := (Option.any_eq_true _ _).1 h
  have hb : r.boundary = false := by simpa using hnot
  have hrow' : paramRow (bits (nth q.payload 0) 31 16) = some r := hrow
  unfold setKind
  simp [hrow', hb]

/-- An immediate SET that meets no failure is answered ST_OK and writes; then its row's `hook` acts. -/
theorem setBody_immediate (hook : Nat → Nat → List Word → State → State) {q : Request} {a : State}
    (hok : a.setFailure q = none) (hkind : setKind q = .immediate) :
    setBody hook q a = writes (fun q a => hook (setId q) (setFirst q) (setVals q) a) q a := by
  unfold setBody
  simp [hok, hkind, writes, setId, setFirst, setVals]

/-- The same for a row's own parameter. -/
theorem setBody_isSet (hook : Nat → Nat → List Word → State → State) {id : Nat} (hid : setAtOnce id = true)
    (q : Request) (a : State) (h : isSet id q a) :
    setBody hook q a = writes (fun q a => hook id (setFirst q) (setVals q) a) q a := by
  obtain ⟨rfl, hok⟩ := h
  rw [setBody_immediate hook hok (setKind_of_setAtOnce hid)]
  rfl

section Rows

variable {c : Instr} {t : Nat} {s : State} {tr : Transport} {row : PacketRow} {id : Nat}

/-- A row of the command table that runs a SET with `hook` answers a SET of an immediate parameter by writing it and
letting `hook` act. -/
theorem answers_immediateSet (hook : Nat → Nat → List Word → State → State)
    (hc : exec c s = s.run t (fun s => s.onPacket tr row setKind (setBody hook))) (hid : setAtOnce id = true) :
    Answers c t s tr row setKind (isSet id) (writes (fun q a => hook id (setFirst q) (setVals q) a)) :=
  answers_of_body hc (setBody_isSet hook hid)

/-- The same of a row on which something follows once the reply is sent. -/
theorem answersThen_immediateSet (hook : Nat → Nat → List Word → State → State) (post : State → State)
    (hc : exec c s = s.run t (fun s => post (s.onPacket tr row setKind (setBody hook))))
    (hid : setAtOnce id = true) :
    AnswersThen c t s tr row setKind (isSet id) (writes (fun q a => hook id (setFirst q) (setVals q) a)) post :=
  answersThen_of_body hc (setBody_isSet hook hid)

end Rows

/-- SET itself, of a parameter without a row of its own. -/
theorem set_answers (t : Nat) (tr : Transport) (s : State) :
    Answers (.set t tr) t s tr (.set .plain) setKind (fun q a => a.setFailure q = none ∧ setKind q = .immediate)
      (writes (fun q a => a.plainWritten (setId q) (setFirst q) (setVals q).length)) :=
  answers_of_body rfl (fun _ _ ⟨hok, hkind⟩ => setBody_immediate _ hok hkind)

theorem setAtOnce_fluxInputs : ∀ id ∈ [Pid.colourTeamFlux, Pid.colourHeadroom, Pid.colourCctMin, Pid.colourCctMax,
    Pid.colourFluxLm, Pid.colourProfile, Pid.colourProfFlux, Pid.colourProfX, Pid.colourProfY, Pid.colourWShare,
    Pid.colourWLane], setAtOnce id = true := by decide

theorem setAtOnce_addresses : ∀ id ∈ [Pid.netIpAddr, Pid.netIpMask, Pid.netIpGateway], setAtOnce id = true := by decide

theorem setAtOnce_alarmFields : ∀ id ∈ [Pid.timeAlarmS, Pid.timeAlarmNf, Pid.timeAlarmPeriodMs, Pid.timeAlarmCtrl],
    setAtOnce id = true := by decide

/-- Settles O30: each row runs a SET with its own hook, and none of its parameters waits for the boundary. -/
theorem immediateSetsAct : Obligations.ImmediateSetsAct := by
  intro t tr s
  refine ⟨set_answers t tr s, ?gainEst, ?vfRef, ?fluxReference, ?sensorCal, ?hpEvent, ?ringMode, ?ipAddress, ?calendar,
    ?tzOffset, ?wakePeriod, ?alarm, ?snapset, ?tamperLatch⟩
  case gainEst => exact answers_immediateSet (fun _ _ _ a => a) rfl (by decide)
  case vfRef =>
    exact answers_immediateSet (fun _ first vals a => eachElement State.vfRefWritten first vals.length a) rfl (by decide)
  case fluxReference =>
    exact fun id hid => answers_immediateSet
      (fun id first vals a => eachElement (fun a e => a.fluxInputWritten id e) first vals.length a) rfl
      (setAtOnce_fluxInputs id hid)
  case sensorCal => exact answers_immediateSet (fun _ _ _ a => a) rfl (by decide)
  case hpEvent => exact answers_immediateSet (fun _ _ _ a => a) rfl (by decide)
  case ringMode =>
    exact answersThen_immediateSet (fun _ _ _ a => a.withNet (fun n => { n with modeWaits := true })) _ rfl (by decide)
  case ipAddress =>
    exact fun id hid => answersThen_immediateSet
      (fun _ _ _ a => a.withNet (fun n => { n with ipWaits := true })) _ rfl (setAtOnce_addresses id hid)
  case calendar => exact answers_immediateSet (fun _ _ _ a => a.calendarWritten) rfl (by decide)
  case tzOffset =>
    exact answers_immediateSet (fun _ _ _ a => if a.calSynced then a.rewriteCalendar else a) rfl (by decide)
  case wakePeriod => exact answers_immediateSet (fun _ _ _ a => a.startWakeTimer) rfl (by decide)
  case alarm =>
    exact fun id hid => answers_immediateSet (fun id first vals a => a.alarmFieldWritten id first vals.length) rfl
      (setAtOnce_alarmFields id hid)
  case snapset => exact answers_immediateSet (fun _ _ _ a => a) rfl (by decide)
  case tamperLatch => exact answers_immediateSet (fun _ _ _ a => a) rfl (by decide)

end Sys2Proof.Machine

/-! PROOF.  The queue of waiting commands (O1 to O4): a step takes its front, and every command goes on, so the steps run
the queue to its end and the clock never goes back (R14, R17). -/

namespace Sys2Proof.Machine

open Sys2Proof

/-- Settles O1: a step looks at the queue's front alone. -/
theorem stepRunsFront : Obligations.StepRunsFront := fun _ _ _ => rfl

theorem step_idle {s : State} (h : s.pending = []) : step s = .next s := by
  unfold step; rw [h]

/-- Settles O2: an empty queue idles. -/
theorem idleStep : Obligations.IdleStep := fun _ => step_idle

/-- Everything a step can do to the queue and the clock: it goes on, takes the front, and time does not go back. -/
theorem step_goesOn (s : State) : ∃ u, step s = .next u ∧ u.pending = s.pending.tail ∧ s.now ≤ u.now := by
  cases hq : s.pending with
  | nil => exact ⟨s, step_idle hq, hq, le_rfl⟩
  | cons c rest =>
    obtain ⟨t, f, hrun⟩ := exec_runs c { s with pending := rest }
    have hstep : step s = exec c { s with pending := rest } := by unfold step; rw [hq]
    exact ⟨_, by rw [hstep, hrun, run_eq], after_pending .., le_max_left ..⟩

/-- Settles O4: the step answers the one state of which `step_goesOn` tells. -/
theorem stepClockAndQueue : Obligations.StepClockAndQueue := by
  intro s u h
  obtain ⟨v, hv, hqueue, hclock⟩ := step_goesOn s
  cases hv.symm.trans h
  exact ⟨hqueue, hclock⟩

/-- Settles O3, by induction on the number of waiting commands: each step leaves one fewer. -/
theorem queueRunsToItsEnd : Obligations.QueueRunsToItsEnd := by
  intro s
  induction hn : s.pending.length generalizing s with
  | zero => exact ⟨s, rfl, List.length_eq_zero_iff.1 hn, le_rfl⟩
  | succ n ih =>
    obtain ⟨v, hstep, hqueue, hclock⟩ := step_goesOn s
    obtain ⟨u, hrun, hempty, hlater⟩ := ih v (by rw [hqueue, List.length_tail, hn]; rfl)
    refine ⟨u, ?_, hempty, hclock.trans hlater⟩
    have hcore : core.step s = .next v := hstep
    simp only [Host.Core.run, hcore, hrun]

end Sys2Proof.Machine

/-! PROOF.  A SET that waits for the boundary (O29): an accepted SET of a boundary parameter goes behind the boundary
commands that wait (R22, R258). -/

namespace Sys2Proof.Machine

open Sys2Proof

/-- The parameter map has the parameter, and a SET of it waits for the boundary (R246, R258). -/
def setWaits (id : Nat) : Bool := (paramRow id).any (fun r => r.boundary)

theorem setKind_of_setWaits {q : Request} (h : setWaits (setId q) = true) : setKind q = .boundary := by
  obtain ⟨r, hrow, hb⟩ := (Option.any_eq_true _ _).1 h
  have hrow' : paramRow (bits (nth q.payload 0) 31 16) = some r := hrow
  unfold setKind
  simp [hrow', hb]

/-- A SET of a boundary parameter that meets no failure waits; no row's hook acts. -/
theorem setBody_waits (hook : Nat → Nat → List Word → State → State) {id : Nat} (hid : setWaits id = true)
    (q : Request) (a : State) (h : isSet id q a) : setBody hook q a = enqueueBoundary q a := by
  obtain ⟨rfl, hok⟩ := h
  simp [setBody, hok, setKind_of_setWaits hid]

/-- A row of the command table that runs a SET answers a SET of a boundary parameter by letting it wait. -/
theorem answers_waitingSet {c : Instr} {t : Nat} {s : State} {tr : Transport} {row : PacketRow} {id : Nat}
    {hook : Nat → Nat → List Word → State → State}
    (hc : exec c s = s.run t (fun s => s.onPacket tr row setKind (setBody hook))) (hid : setWaits id = true) :
    Answers c t s tr row setKind (isSet id) enqueueBoundary :=
  answers_of_body hc (setBody_waits hook hid)

theorem setWaits_edgeEnds : ∀ id ∈ [Pid.outEdgeFrom, Pid.outEdgeTo], setWaits id = true := by decide

theorem setWaits_edgeBounds : ∀ id ∈ [Pid.outEdgeTminMs, Pid.outEdgeTmaxMs], setWaits id = true := by decide

theorem setWaits_relayConfig : ∀ id ∈ [Pid.relayRate, Pid.relayPanId, Pid.relayChanExclude, Pid.relaySlotframe,
    Pid.relaySharedSlots], setWaits id = true := by decide

/-- Settles O29: each row runs a SET, and its parameters wait for the boundary. -/
theorem boundarySetsWait : Obligations.BoundarySetsWait := by
  intro t tr s
  refine ⟨?period, ?stagger, ?teamSize, ?dimMode, ?decimRatio, ?colourMethod, ?cycleTime, ?podZone, ?edgeEnds,
    ?edgeBounds, ?edgeHeading, ?edgeTau, ?relayConfig, ?tandemEnable⟩
  case edgeEnds => exact fun id hid => answers_waitingSet rfl (setWaits_edgeEnds id hid)
  case edgeBounds => exact fun id hid => answers_waitingSet rfl (setWaits_edgeBounds id hid)
  case relayConfig => exact fun id hid => answers_waitingSet rfl (setWaits_relayConfig id hid)
  all_goals exact answers_waitingSet rfl (by decide)

end Sys2Proof.Machine

/-! PROOF.  The commands of the cycle (O10): CYCLE_BOUNDARY, OVERRUN, COMMIT, HOUSEKEEPING and FORCE_EXPIRY (R18, R24 to
R26, R187). -/

namespace Sys2Proof.Machine

open Sys2Proof

/-! ### Overrun -/

/-- In a cycle not yet late whose next boundary has come, the cycle becomes late and the overrun is counted (R25). -/
theorem markOverrun_due {s : State} {a : Nat} (hphase : s.prog.phase ≠ .idle) (hlate : s.prog.late = false)
    (hnext : s.prog.nextAt = some a) (hdue : a ≤ s.now) :
    s.markOverrun = ((s.withProg (fun p => { p with late := true })).withPower
      (fun p => { p with overrunAt := some s.now })).bump Pid.progOverruns := by
  unfold State.markOverrun
  simp [hphase, hlate, hnext, hdue]

/-! ### Forces that expire -/

/-- The hold time of a force has not passed by an instant; a force without one holds on (R187). -/
def Force.holds (now : Nat) (f : Force) : Bool :=
  match f.until_ with
  | some a => decide (now < a)
  | none => true

/-- The expired forces are those that no longer hold. -/
theorem expiredForces_eq (s : State) : s.expiredForces = s.prog.forces.filter (fun f => !f.holds s.now) := by
  unfold State.expiredForces
  congr 1
  funext f
  cases h : f.until_ with
  | none => simp [Force.holds, h]
  | some a => simp [Force.holds, h, ← decide_not]

@[simp] theorem touchCell_forces (s : State) (i : Nat) : (s.touchCell i).prog.forces = s.prog.forces := rfl

/-- What keeps the forces keeps them over a list of acts. -/
theorem foldl_forces {α : Type} {act : State → α → State} (hact : ∀ s x, (act s x).prog.forces = s.prog.forces)
    (l : List α) (s : State) : (l.foldl act s).prog.forces = s.prog.forces := by
  induction l generalizing s with
  | nil => rfl
  | cons x rest ih => rw [List.foldl_cons, ih, hact]

/-- Releasing forces leaves exactly the others. -/
theorem releaseForces_forces (s : State) (g : Force → Bool) :
    (s.releaseForces g).prog.forces = s.prog.forces.filter (fun f => !g f) := by
  unfold State.releaseForces
  refine (foldl_forces (fun s x => ?_) _ _).trans rfl
  cases s.cellNamed x.sid <;> rfl

/-- Exactly the forces whose hold time has not passed remain. -/
theorem expireForces_forces (s : State) :
    s.expireForces.prog.forces = s.prog.forces.filter (fun f => f.holds s.now) := by
  unfold State.expireForces
  refine (foldl_forces (fun s f => by rw [raise_prog]) _ _).trans ?_
  rw [releaseForces_forces, expiredForces_eq]
  refine List.filter_congr (fun f hf => ?_)
  simp [hf]

/-! ### The effects of the commands -/

section Cycle

variable {t : Nat} {s : State}

/-- CYCLE_BOUNDARY at a due boundary (R18). -/
theorem cycleBoundary_due (h : (s.at_ t).boundaryDue = true) : EffectIs (.cycleBoundary t) t s (s.at_ t).stepOne :=
  effectIs_of_run (Eq.refl (execCycleBoundary t s)) (if_pos h)

/-- CYCLE_BOUNDARY at the first boundary of a start. -/
theorem cycleBoundary_first (hdue : (s.at_ t).boundaryDue = false) (h : (s.at_ t).firstBoundary = true) :
    EffectIs (.cycleBoundary t) t s
      ((s.at_ t).withPower (fun p => { p with phase := .running, phaseSince := (s.at_ t).now })).stepOne := by
  refine effectIs_of_run (Eq.refl (execCycleBoundary t s)) ?_
  simp only [hdue, h, if_true, Bool.false_eq_true, if_false]

/-- CYCLE_BOUNDARY where no boundary has come. -/
theorem cycleBoundary_none (hdue : (s.at_ t).boundaryDue = false) (h : (s.at_ t).firstBoundary = false) :
    EffectIs (.cycleBoundary t) t s (s.at_ t) := by
  refine effectIs_of_run (Eq.refl (execCycleBoundary t s)) ?_
  simp only [hdue, h, Bool.false_eq_true, if_false]

theorem overrun_completes {a : Nat} (hphase : s.prog.phase ≠ .idle) (hlate : s.prog.late = false)
    (hnext : s.prog.nextAt = some a) (hdue : a ≤ max s.now t) :
    Completes (.overrun t) s (fun u =>
      u.prog.late = true ∧ u.w Pid.progOverruns 0 = s.w Pid.progOverruns 0 + 1 ∧
      u.power.overrunAt = some (max s.now t)) := by
  have hmark := markOverrun_due (s := s.at_ t) hphase hlate hnext hdue
  refine completes_of_run rfl ⟨?_, ?_, ?_⟩
  · simp [hmark]
  · simp [hmark, word]
  · simp [hmark]

/-- COMMIT of a running module whose graph is quiescent (R24, R25). -/
theorem commit_effect (speed : Nat) (hphase : s.prog.phase = .quiescent) (hrun : s.power.phase = .running) :
    EffectIs (.commit t speed) t s
      (if ((s.at_ t).commitCycle speed).boundaryDue then ((s.at_ t).commitCycle speed).stepOne
       else (s.at_ t).commitCycle speed) := by
  refine effectIs_of_run (Eq.refl (execCommit t speed s)) ?_
  exact if_neg (by rw [at_prog, at_power, hphase, hrun]; simp)

/-- HOUSEKEEPING of an awake module: the oldest record, the last only once its copy has been sent (R26). -/
theorem housekeeping_effect {r : CommittedRecord} {rest : List CommittedRecord} (hawake : s.awake = true)
    (hrecords : s.prog.records = r :: rest) (hcopy : rest = [] → s.prog.copyEnds ≤ max s.now t) :
    EffectIs (.housekeeping t) t s
      (let v := (((s.at_ t).withProg (fun p => { p with records := rest })).housekeep r).takeFrames
       if rest.isEmpty then v.sleepNow else v) := by
  have hgo : ¬ ((!(s.at_ t).awake) = true ∨
      ((s.at_ t).prog.records.length = 1 ∧ (s.at_ t).now < (s.at_ t).prog.copyEnds)) := by
    rintro (h | ⟨hone, hearly⟩)
    · have : (s.at_ t).awake = true := hawake
      simp [this] at h
    · have hlast : rest = [] := by simpa [hrecords] using hone
      exact absurd (hcopy hlast) (Nat.not_le.2 hearly)
  refine effectIs_of_run (Eq.refl (execHousekeeping t s)) ((if_neg hgo).trans ?_)
  simp only [at_prog, hrecords]

/-- FORCE_EXPIRY at a due boundary (R187). -/
theorem forceExpiry_completes (h : (s.at_ t).boundaryDue = true) :
    Completes (.forceExpiry t) s (fun u => u.prog.forces = s.prog.forces.filter (fun f => f.holds (max s.now t))) := by
  refine completes_of_run rfl ?_
  rw [after_prog, if_pos h, expireForces_forces]
  rfl

end Cycle

/-- Settles O10, command by command. -/
theorem cycleCommands : Obligations.CycleCommands :=
  ⟨fun _ _ => cycleBoundary_due, fun _ _ => cycleBoundary_first, fun _ _ => cycleBoundary_none,
    fun _ _ _ => overrun_completes, fun _ speed _ => commit_effect speed, fun _ _ _ _ => housekeeping_effect,
    fun _ _ => forceExpiry_completes⟩

end Sys2Proof.Machine

/-! PROOF.  PROG_RESTART during an update (O18 fails): an update is under way from its accepted UPD_OPEN on, when
upd.holder names its session, but upd.state stays 0 while the staging is erased (R403, R408).  A restart is then refused,
where the statement, which asks of upd.state alone, lets it wait. -/

namespace Sys2Proof.Machine

open Sys2Proof

/-- PROG_RESTART is refused while an update is under way (R203). -/
theorem progRestart_refused (t : Nat) (tr : Transport) (s : State) :
    Answers (.progRestart t tr) t s tr (.opcode 0x36) (fun _ => .boundary) (fun q a => q.payload.length = 1 ∧
      (nth q.payload 0).toNat ≤ 1 ∧ (nth q.payload 0 = 0 → 3 ≤ q.role) ∧ a.updateOpen = true)
      (gives (fun _ _ => fail stRefusedState)) := by
  refine answers_of_body rfl ?_
  rintro q a ⟨hlen, hkind, hrole, hopen⟩
  have hauth : ¬ ((nth q.payload 0).toNat = 0 ∧ q.role < 3) := by
    rintro ⟨hzero, hlow⟩
    exact absurd (hrole (BitVec.eq_of_toNat_eq hzero)) (Nat.not_le.2 hlow)
  simp [withLength, Request.exactly, hlen, Nat.not_lt.2 hkind, hauth, hopen, refuse, gives]

/-- A command cannot both wait for the boundary and be answered at once: only the first leaves it among the boundary
commands. -/
theorem not_waits_and_answered {c : Instr} {t : Nat} {s : State} {tr : Transport} {row : PacketRow}
    {kindOf : Request → OpKind} {hyp hyp' : Request → State → Prop} {f : Request → State → Result}
    (hwaits : Answers c t s tr row kindOf hyp enqueueBoundary) (hgives : Answers c t s tr row kindOf hyp' (gives f))
    {p : Packet} {k : Session} {gaps : Nat} (hacc : Accepted (s.at_ t) tr row kindOf p k gaps)
    (h : hyp (p.request k) ((s.at_ t).letIn tr p k gaps)) (h' : hyp' (p.request k) ((s.at_ t).letIn tr p k gaps)) :
    False := by
  have heq := (hwaits p k gaps hacc h).symm.trans (hgives p k gaps hacc h')
  have hboundary := congrArg (fun o => match o with
    | Host.Outcome.next u => u.bridle.boundary.length
    | _ => 0) heq
  simp [State.settleHold, enqueueBoundary, gives] at hboundary

/-! ### The counterexample: a warm restart is asked for while the staging is erased -/

/-- The keyless Owner session of the host port that has opened the update. -/
def updaterSession : Session where
  id := 1
  source := .host
  role := 3
  slot := 0xFF
  proved := true
  openedAt := 0
  lastAccept := 0
  clientNonce := []
  moduleNonce := []
  key := 0
  highest := none
  recorded := []
  tickets := []
  latched := []

/-- PROG_RESTART, warm, under ticket 1 of session 1. -/
def warmRestartPacket : Packet :=
  let body : List Word := [0xB7100003, pair 1 1, 0x36010001, 1]
  ⟨.host, asQueued (body ++ [crc32 body]), false, false⟩

/-- Session 1 holds the update, its staging is not yet erased, and its PROG_RESTART waits at the host port. -/
def erasingState : State :=
  let s := (State.reset.withPower (fun p => { p with phase := .running })).setP Pid.updHolder 0 1
  { s with bridle := { s.bridle with sessions := [updaterSession], hostIn := warmRestartPacket.words } }

theorem warmRestart_accepted :
    Accepted (erasingState.at_ 0) .host (.opcode 0x36) (fun _ => .boundary) warmRestartPacket updaterSession 0 where
  awake := by decide +kernel
  room := by decide +kernel
  turn := by decide +kernel
  front := by decide +kernel
  transport := rfl
  row_eq := by decide +kernel
  known := by decide +kernel
  passes := by decide +kernel
  role := ⟨(2, .boundary), by decide +kernel, by decide⟩
  mode := by decide +kernel
  ticket := by decide +kernel

/-- When it acts, upd.state is 0 and an update is under way. -/
theorem warmRestart_duringErase :
    ((erasingState.at_ 0).letIn .host warmRestartPacket updaterSession 0).p Pid.updState = 0 ∧
    ((erasingState.at_ 0).letIn .host warmRestartPacket updaterSession 0).updateOpen = true := by
  decide +kernel

/-- Its payload is the one word 1: a warm restart. -/
theorem warmRestart_payload : (warmRestartPacket.request updaterSession).payload = [1] := by decide +kernel

/-- Refutes O18: PROG_RESTART is said to wait wherever upd.state is 0, but while the staging is erased it is refused. -/
theorem not_moreBoundaryOpcodesWait : ¬ Obligations.MoreBoundaryOpcodesWait := by
  intro h
  obtain ⟨-, -, hrestart, -⟩ := h 0 .host erasingState
  obtain ⟨hstate, hopen⟩ := warmRestart_duringErase
  have hword : nth (warmRestartPacket.request updaterSession).payload 0 = 1 := by rw [warmRestart_payload]; rfl
  have hlen : (warmRestartPacket.request updaterSession).payload.length = 1 := by rw [warmRestart_payload]; rfl
  have hkind : (nth (warmRestartPacket.request updaterSession).payload 0).toNat ≤ 1 := by rw [hword]; decide
  have hwarm : nth (warmRestartPacket.request updaterSession).payload 0 = 0 →
      3 ≤ (warmRestartPacket.request updaterSession).role := fun _ => le_rfl
  exact not_waits_and_answered hrestart (progRestart_refused 0 .host erasingState) warmRestart_accepted
    ⟨hlen, hkind, hwarm, hstate⟩ ⟨hlen, hkind, hwarm, hopen⟩

end Sys2Proof.Machine

/-! PROOF.  The commands of the emergency input (O15): EMLT_RISE, EMLT_FALL and EMLT_RELEASE (R52, R54). -/

namespace Sys2Proof.Machine

open Sys2Proof

/-- What every act of a list keeps, the whole list keeps. -/
theorem foldl_keeps {α β : Type} (g : State → β) {act : State → α → State} (hact : ∀ s x, g (act s x) = g s)
    (l : List α) (s : State) : g (l.foldl act s) = g s :=
  (List.foldl_hom g (g₂ := fun y _ => y) (fun s x => (hact s x).symm)).symm.trans (List.foldl_fixed l)

/-- A command whose effect is `v` completes with whatever holds of every state with the drive engine of `v`. -/
theorem completes_of_drive {c : Instr} {t : Nat} {s v : State} {P : State → Prop} (h : EffectIs c t s v)
    (hP : ∀ u : State, u.drive = v.drive → P u) : Completes c s P := ⟨_, h, hP _ (settleHold_drive _)⟩

/-! ### The emergency input and rung 1 -/

/-- What the drive engine knows of EMLT: its level, whether it holds rung 1, and the instant it fell (R52, R54). -/
def State.emltInput (s : State) : Bool × Bool × Option Nat := (s.drive.emlt, s.drive.emltHeld, s.drive.emltLow)

theorem emltInput_of_drive {s u : State} (h : u.drive = s.drive) : u.emltInput = s.emltInput := by
  unfold State.emltInput; rw [h]

@[simp] theorem withDrive_emltInput (s : State) (f : DriveState → DriveState) :
    (s.withDrive f).emltInput = ((f s.drive).emlt, (f s.drive).emltHeld, (f s.drive).emltLow) := by
  unfold State.emltInput; rw [withDrive_drive]

@[simp] theorem raiseWake_emltInput (s : State) (cause : Nat) : (s.raiseWake cause).emltInput = s.emltInput :=
  emltInput_of_drive (raiseWake_drive ..)

/-- Telling the host of an event leaves EMLT as it is (R249). -/
@[simp] theorem notice_emltInput (s : State) (k code a b : Nat) :
    ((s.hpEvent k).raise code a b).emltInput = s.emltInput :=
  emltInput_of_drive ((raise_drive ..).trans (setFlag_drive ..))

/-- EMLT in force holds every bank at rung 1. -/
theorem rung1_of_held {s : State} (h : s.drive.emltHeld = true) (b : Nat) : s.rung1 b = true := by
  simp [State.rung1, h]

/-- Once EMLT holds no longer, rung 1 stays on the banks whose period start it awaits. -/
theorem rung1_of_released {s : State} (h : s.drive.emltHeld = false) (b : Nat) : s.rung1 b = (s.bd b).emltEnds := by
  simp [State.rung1, h]

theorem rung1_of_drive {s u : State} (h : u.drive = s.drive) (b : Nat) : u.rung1 b = s.rung1 b := by
  unfold State.rung1 State.bd; rw [h]

/-! ### What a rise does -/

@[simp] theorem creditSent_drive (s : State) (l : Nat) : (s.creditSent l).drive = s.drive := by
  unfold State.creditSent State.add64
  split
  · rfl
  · simp [State.modLt, State.set64]

/-- A test that ends leaves the drive engine alone, whatever its link's class. -/
theorem endTest_drive (s : State) (l cause : Nat) : (s.endTest l cause).drive = s.drive := by
  unfold State.endTest
  split
  · rfl
  · simp [State.testCount, State.modLt, apply_ite State.drive]

@[simp] theorem endTests_emltInput (s : State) (ls : List Nat) (cause : Nat) :
    (s.endTests ls cause).emltInput = s.emltInput :=
  emltInput_of_drive (foldl_keeps State.drive (fun s l => endTest_drive s l cause) ls s)

theorem pauseWindow_drive (s : State) (ch : Nat) : (s.pauseWindow ch).drive = s.drive := by
  unfold State.pauseWindow
  split <;> rfl

theorem pauseWindows_drive (s : State) (b : Nat) : (s.pauseWindows b).drive = s.drive := by
  unfold State.pauseWindows
  exact foldl_keeps State.drive pauseWindow_drive _ s

theorem modBs_drive (s : State) (b : Nat) (f : BankSense → BankSense) : (s.modBs b f).drive = s.drive := rfl

/-- The banks' windows pause and their scans freeze. -/
@[simp] theorem freezeBanks_emltInput (l : List Nat) (s : State) :
    (l.foldl (fun s b => (s.pauseWindows b).modBs b (fun k => { k with frozenIn := true })) s).emltInput =
      s.emltInput :=
  emltInput_of_drive (foldl_keeps State.drive (fun s b => (modBs_drive ..).trans (pauseWindows_drive s b)) l s)

/-- Of the drive engine a pad that takes its emergency state changes its own channel alone. -/
theorem emergencyPad_emltInput (s : State) (ch : Nat) : (s.emergencyPad ch).emltInput = s.emltInput := by
  unfold State.emergencyPad
  dsimp only
  split <;> rfl

@[simp] theorem emergencyPads_emltInput (l : List Nat) (s : State) :
    (l.foldl (fun s c => s.emergencyPad c) s).emltInput = s.emltInput :=
  foldl_keeps State.emltInput emergencyPad_emltInput l s

/-! ### A change of every bank -/

theorem modBd_bd_same (s : State) (b : Nat) (f : BankDrive → BankDrive) : (s.modBd b f).bd b = f (s.bd b) :=
  Tab.get_modify_same s.drive.banks b f

theorem modBd_bd_other (s : State) {b c : Nat} (h : c ≠ b) (f : BankDrive → BankDrive) :
    (s.modBd b f).bd c = s.bd c :=
  Tab.get_modify_other s.drive.banks h f

/-- A change of the drive engine that keeps its banks. -/
theorem withDrive_bd (s : State) {f : DriveState → DriveState} (h : ∀ d, (f d).banks = d.banks) (b : Nat) :
    (s.withDrive f).bd b = s.bd b := by
  unfold State.bd; rw [withDrive_drive, h]

theorem foldl_modBd_bd_of_notMem (f : BankDrive → BankDrive) {c : Nat} {l : List Nat} (h : c ∉ l) (s : State) :
    (l.foldl (fun s b => s.modBd b f) s).bd c = s.bd c := by
  induction l generalizing s with
  | nil => rfl
  | cons b rest ih =>
    obtain ⟨hne, hrest⟩ := not_or.1 (List.mem_cons.not.1 h)
    rw [List.foldl_cons, ih hrest, modBd_bd_other s hne]

/-- A bank that a list names once is changed once. -/
theorem foldl_modBd_bd (f : BankDrive → BankDrive) {c : Nat} {l : List Nat} (hnd : l.Nodup) (h : c ∈ l) (s : State) :
    (l.foldl (fun s b => s.modBd b f) s).bd c = f (s.bd c) := by
  induction l generalizing s with
  | nil => cases h
  | cons b rest ih =>
    obtain ⟨hb, hrest⟩ := List.nodup_cons.1 hnd
    rw [List.foldl_cons]
    rcases List.mem_cons.1 h with rfl | hc
    · rw [foldl_modBd_bd_of_notMem f hb, modBd_bd_same]
    · rw [ih hrest hc, modBd_bd_other s (ne_of_mem_of_not_mem hc hb)]

/-! ### The end of rung 1 -/

theorem endHeld_drive (s : State) (ch x : Nat) : (s.endHeld ch x).drive = s.drive := by
  unfold State.endHeld
  dsimp only
  split <;> rfl

/-- Rung 1 ends on a bank (R54): where the bank runs, at its next period start. -/
def BankDrive.endRung1 (d : BankDrive) : BankDrive := { d with emltEnds := d.running }

/-- Rung 1 ends (R54): the emissions that it held on stopped banks, each bank's hold, and EMLT's own. -/
def State.endRung1 (s : State) : State :=
  ((List.range 16).foldl (fun s b => s.modBd b BankDrive.endRung1)
    ((List.range 512).foldl (fun s c => s.endHeld c s.now) s)).withDrive
    (fun d => { d with emltHeld := false, emltLow := none })

theorem endRung1_emltHeld (s : State) : s.endRung1.drive.emltHeld = false := by
  unfold State.endRung1; rw [withDrive_drive]

theorem endRung1_emltLow (s : State) : s.endRung1.drive.emltLow = none := by
  unfold State.endRung1; rw [withDrive_drive]

theorem endRung1_bd (s : State) {b : Nat} (h : b < 16) : s.endRung1.bd b = (s.bd b).endRung1 := by
  have hpads : ((List.range 512).foldl (fun s c => s.endHeld c s.now) s).drive = s.drive :=
    foldl_keeps State.drive (fun s c => endHeld_drive s c s.now) _ s
  unfold State.endRung1
  refine (withDrive_bd _ ?_ b).trans ?_
  · exact fun _ => rfl
  · rw [foldl_modBd_bd _ List.nodup_range (List.mem_range.2 h), State.bd, hpads, State.bd]

/-- Rung 1 stays on a running bank, until its period start, and on no other. -/
theorem endRung1_rung1 (s : State) {b : Nat} (h : b < 16) : s.endRung1.rung1 b = (s.bd b).running := by
  rw [rung1_of_released (endRung1_emltHeld s), endRung1_bd s h, BankDrive.endRung1]

/-! ### The effects of the commands -/

section Emlt

variable {t : Nat} {s : State}

/-- EMLT_RISE with D1 on: EMLT is high and in force, whether or not it held rung 1 before, and awaits no release. -/
theorem emltRise_input (hlow : s.drive.emlt = false) (hd1 : s.domainOn 1 = true) :
    Completes (.emltRise t) s (fun u => u.emltInput = (true, true, none)) := by
  have hon : (s.at_ t).domainOn 1 = true := hd1
  refine completes_of_run (Eq.refl (execEmltRise t s)) ?_
  rw [emltInput_of_drive (after_drive ..)]
  cases hwas : s.drive.emltHeld <;> simp [hlow, hon, hwas, apply_ite State.emltInput]

theorem emltRise_completes (hlow : s.drive.emlt = false) (hd1 : s.domainOn 1 = true) :
    Completes (.emltRise t) s (fun u =>
      u.drive.emlt = true ∧ u.drive.emltLow = none ∧ ∀ b : Nat, u.rung1 b = true) := by
  obtain ⟨u, hu, hinput⟩ := emltRise_input (t := t) hlow hd1
  simp only [State.emltInput, Prod.mk.injEq] at hinput
  obtain ⟨hlevel, hheld, hfell⟩ := hinput
  exact ⟨u, hu, hlevel, hfell, rung1_of_held hheld⟩

/-- EMLT_RISE with D1 off: the level alone is held. -/
theorem emltRise_unpowered (hlow : s.drive.emlt = false) (hd1 : s.domainOn 1 = false) :
    EffectIs (.emltRise t) t s ((s.at_ t).withDrive (fun d => { d with emlt := true })) := by
  have hoff : (s.at_ t).domainOn 1 = false := hd1
  refine effectIs_of_run (Eq.refl (execEmltRise t s)) ?_
  simp [hlow, hoff]

/-- EMLT_FALL with D1 on: the release count starts at this instant. -/
theorem emltFall_completes (hhigh : s.drive.emlt = true) (hd1 : s.domainOn 1 = true) :
    Completes (.emltFall t) s (fun u => u.drive.emlt = false ∧ u.drive.emltLow = some (max s.now t) ∧
      u.drive.emltHeld = s.drive.emltHeld) := by
  have hon : (s.at_ t).domainOn 1 = true := hd1
  refine completes_of_run rfl ?_
  simp [hhigh, hon]

/-- EMLT_RELEASE ends rung 1 once EMLT has stayed low for the release time. -/
theorem emltRelease_effect {a : Nat} (hfell : s.drive.emltLow = some a) (hheld : s.drive.emltHeld = true)
    (hdue : a + s.p Pid.drvEmltReleaseUs * us ≤ max s.now t) :
    EffectIs (.emltRelease t) t s (s.at_ t).endRung1 := by
  have hpassed : (s.at_ t).passed a ((s.at_ t).p Pid.drvEmltReleaseUs * us) = true := decide_eq_true hdue
  refine effectIs_of_run (Eq.refl (execEmltRelease t s)) ?_
  simp only [at_drive, hfell]
  exact if_pos ⟨hheld, hpassed⟩

theorem emltRelease_completes {a : Nat} (hfell : s.drive.emltLow = some a) (hheld : s.drive.emltHeld = true)
    (hdue : a + s.p Pid.drvEmltReleaseUs * us ≤ max s.now t) :
    Completes (.emltRelease t) s (fun u => u.drive.emltHeld = false ∧ u.drive.emltLow = none ∧
      ∀ b : Nat, b < 16 → u.rung1 b = (s.bd b).running) := by
  refine completes_of_drive (emltRelease_effect hfell hheld hdue) (fun u hu => ⟨?_, ?_, fun b hb => ?_⟩)
  · rw [hu, endRung1_emltHeld]
  · rw [hu, endRung1_emltLow]
  · rw [rung1_of_drive hu, endRung1_rung1 _ hb, State.bd, at_drive, State.bd]

end Emlt

/-- Settles O15, command by command. -/
theorem emltCommands : Obligations.EmltCommands :=
  ⟨fun _ _ => emltRise_completes, fun _ _ => emltRise_unpowered, fun _ _ => emltFall_completes,
    fun _ _ _ => emltRelease_completes⟩

end Sys2Proof.Machine

/-! PROOF.  The metering records (O37): MINUTE_CLOSE, METER_TOTALS_RECORD and SETTINGS_RECORD (R76, R79, R259). -/

namespace Sys2Proof.Machine

open Sys2Proof

/-- A command completes with whatever holds of the state that its effect brings about. -/
theorem completes_of_effect {c : Instr} {t : Nat} {s v : State} {P : State → Prop} (h : EffectIs c t s v)
    (hP : P (s.after_ t (fun _ => v))) : Completes c s P := ⟨_, h, hP⟩

/-! ### The state at an instant: what does not look at the clock -/

@[simp] theorem at_d4On (s : State) (t : Nat) : (s.at_ t).d4On = s.d4On := rfl
@[simp] theorem at_awake (s : State) (t : Nat) : (s.at_ t).awake = s.awake := rfl
@[simp] theorem at_settingsTake (s : State) (t : Nat) : (s.at_ t).settingsTake = s.settingsTake := rfl

/-- An instant whose delay has gone by has passed. -/
theorem at_passed {s : State} {t a d : Nat} (h : a + d ≤ max s.now t) : (s.at_ t).passed a d = true :=
  decide_eq_true h

theorem at_notPassed {s : State} {t a d : Nat} (h : max s.now t < a + d) : (s.at_ t).passed a d = false :=
  decide_eq_false (Nat.not_le.2 h)

/-! ### Recording settings leaves the clock -/

@[simp] theorem sbCount_now (s : State) (d k m c n : Nat) : (s.sbCount d k m c n).now = s.now := bump_now ..

@[simp] theorem sbOp_now (s : State) (d k c kib n : Nat) : (s.sbOp d k c kib n).now = s.now := by
  simp [State.sbOp, apply_ite State.now]

@[simp] theorem modifyCassette_now (s : State) (c : Nat) (f : Cassette → Cassette) :
    (s.modifyCassette c f).now = s.now := rfl

@[simp] theorem modifyBlock_now (s : State) (c b : Nat) (f : BlockInfo → BlockInfo) :
    (s.modifyBlock c b f).now = s.now := rfl

@[simp] theorem showWear_now (s : State) (c : Nat) : (s.showWear c).now = s.now := by
  unfold State.showWear
  dsimp only
  split
  · rfl
  · simp only [setP_now]

@[simp] theorem eraseBlock_now (s : State) (c b : Nat) : (s.eraseBlock c b).now = s.now := by
  simp only [State.eraseBlock, showWear_now, modifyCassette_now, modifyBlock_now, sbOp_now]

@[simp] theorem familyNow_now (s : State) (c die : Nat) (tlc : Bool) : (s.familyNow c die tlc).2.now = s.now := by
  unfold State.familyNow
  dsimp only
  split <;> rfl

@[simp] theorem occupyBlock_now (s : State) (c b region : Nat) : (s.occupyBlock c b region).now = s.now := by
  simp only [State.occupyBlock, modifyBlock_now, familyNow_now]

/-- Taking a block, whether one is erased or the oldest is taken back. -/
@[simp] theorem nandBlock_now (s : State) (c : Nat) (tlc : Bool) (region : Nat) :
    (s.nandBlock c tlc region).2.now = s.now := by
  unfold State.nandBlock
  split
  case h_1 => rfl
  case h_2 =>
    dsimp only
    split
    · rw [occupyBlock_now, modifyCassette_now]
    · split
      · rfl
      · split
        · rw [occupyBlock_now, eraseBlock_now, modifyCassette_now]
        · rfl

@[simp] theorem programPages_now (c region n : Nat) (s : State) (pages : Nat) :
    (s.programPages c region n pages).now = s.now := by
  induction n generalizing s pages with
  | zero => rfl
  | succ n ih =>
    unfold State.programPages
    extract_lets size open_ taken
    clear_value size open_
    have htaken : taken.2.now = s.now := by
      simp only [taken]
      split
      · split
        · rfl
        · exact nandBlock_now ..
      · exact nandBlock_now ..
    split
    · exact htaken
    · extract_lets used here v
      split
      · exact htaken
      · exact (ih ..).trans htaken

@[simp] theorem programUnit_now (s : State) (c : Nat) (u : StorageUnit) (kib : Nat) :
    (s.programUnit c u kib).now = s.now := by
  cases u with
  | pslc r i => exact programPages_now ..
  | archive i =>
    unfold State.programUnit
    refine (nandBlock_now ..).trans ?_
    split <;> simp

theorem dirtyUnit_now (s : State) (u : StorageUnit) : (s.dirtyUnit u).now = s.now := by
  simp [State.dirtyUnit, State.modifyCassette, apply_ite State.now]

@[simp] theorem storeWrite_now (s : State) (u : StorageUnit) (kib : Nat) (after : WriteEnd) :
    (s.storeWrite u kib after).now = s.now := by
  have hprogram : ((s.writeTargets u).foldl (fun s c => (s.sbOp 1 u.region c kib).programUnit c u kib) s).now = s.now :=
    foldl_keeps State.now (fun s c => (programUnit_now ..).trans (sbOp_now ..)) _ s
  unfold State.storeWrite
  refine (dirtyUnit_now ..).trans ?_
  split
  · exact (setFlag_now ..).trans hprogram
  · exact hprogram

@[simp] theorem writeGeneration_now (s : State) (g : SettingsGeneration) : (s.writeGeneration g).now = s.now := by
  simp [State.writeGeneration]

@[simp] theorem recordKeys_now (s : State) (keys : List Nat) : (s.recordKeys keys).now = s.now :=
  writeGeneration_now ..

@[simp] theorem recordMarks_now (s : State) : s.recordMarks.now = s.now := by
  unfold State.recordMarks
  split
  · rfl
  · exact recordKeys_now ..

@[simp] theorem settleHours_now (s : State) : s.settleHours.now = s.now := by
  unfold State.settleHours
  dsimp only
  split <;> simp

/-! ### The effects of the commands -/

section Records

variable {t a : Nat} {s : State}

/-- MINUTE_CLOSE at a due close (R76). -/
theorem minuteClose_due (hon : s.d4On = true) (hdue : (s.at_ t).minuteDue = true) (hnext : s.sense.nextClose = some a) :
    EffectIs (.minuteClose t) t s (((s.at_ t).closeMinute 0).scheduleClose a) := by
  refine effectIs_of_run (Eq.refl (execMinuteClose t s)) ((if_neg ?_).trans ?_)
  · simp [hon, hdue]
  · simp [hnext]

/-- METER_TOTALS_RECORD where the totals were last recorded an hour ago or more, or never (R79). -/
theorem meterTotalsRecord_due (htake : s.settingsTake = true) (hawake : s.awake = true)
    (hdue : ∀ a : Nat, s.sense.totalsAt = some a → a + 3600 * sec ≤ max s.now t) :
    EffectIs (.meterTotalsRecord t) t s (s.at_ t).recordTotals := by
  refine effectIs_of_run (Eq.refl (execMeterTotalsRecord t s)) ?_
  obtain hat | ⟨a, hat⟩ := Option.eq_none_or_eq_some s.sense.totalsAt
  · simp [hat, htake, hawake]
  · simp [hat, htake, hawake, at_passed (hdue a hat)]

/-- METER_TOTALS_RECORD within the hour: nothing happens (R79). -/
theorem meterTotalsRecord_early (hat : s.sense.totalsAt = some a) (hearly : max s.now t < a + 3600 * sec) :
    EffectIs (.meterTotalsRecord t) t s (s.at_ t) := by
  refine effectIs_of_run (Eq.refl (execMeterTotalsRecord t s)) ?_
  simp [hat, at_notPassed hearly]

theorem settingsRecord_goes (htake : s.settingsTake = true) (hawake : s.awake = true) :
    ¬ ((!(s.at_ t).settingsTake) = true ∨ (!((s.at_ t).awake || (s.at_ t).power.flushing)) = true) := by
  simp [htake, hawake]

/-- SETTINGS_RECORD within the hour: the marked elements alone (R259). -/
theorem settingsRecord_marks (htake : s.settingsTake = true) (hawake : s.awake = true)
    (hat : s.storage.countersAt = some a) (hearly : max s.now t < a + 3600 * sec) :
    EffectIs (.settingsRecord t) t s (s.at_ t).recordMarks := by
  refine effectIs_of_run (Eq.refl (execSettingsRecord t s)) ((if_neg (settingsRecord_goes htake hawake)).trans ?_)
  simp [hat, at_notPassed hearly]

/-- The marked elements and the counters that run with time, at the instant (R259). -/
def State.recordHourly (s : State) : State :=
  let v := s.recordMarks.settleHours.recordKeys (timeCounters.map (fun i => paramKey i 0))
  { v with storage := { v.storage with countersAt := some v.now } }

theorem recordHourly_countersAt (s : State) : s.recordHourly.storage.countersAt = some s.now := by
  simp only [State.recordHourly, recordKeys_now, settleHours_now, recordMarks_now]

/-- SETTINGS_RECORD where the counters were last recorded an hour ago or more, or never (R259). -/
theorem settingsRecord_hourly (htake : s.settingsTake = true) (hawake : s.awake = true)
    (hdue : ∀ a : Nat, s.storage.countersAt = some a → a + 3600 * sec ≤ max s.now t) :
    EffectIs (.settingsRecord t) t s (s.at_ t).recordHourly := by
  refine effectIs_of_run (Eq.refl (execSettingsRecord t s)) ((if_neg (settingsRecord_goes htake hawake)).trans ?_)
  obtain hat | ⟨a, hat⟩ := Option.eq_none_or_eq_some s.storage.countersAt
  · simp only [at_storage, hat, if_true]
    rfl
  · simp only [at_storage, hat, at_passed (hdue a hat), if_true]
    rfl

theorem settingsRecord_countersAt (htake : s.settingsTake = true) (hawake : s.awake = true)
    (hdue : ∀ a : Nat, s.storage.countersAt = some a → a + 3600 * sec ≤ max s.now t) :
    Completes (.settingsRecord t) s (fun u => u.storage.countersAt = some (max s.now t)) := by
  refine completes_of_effect (settingsRecord_hourly htake hawake hdue) ?_
  rw [after_storage, recordHourly_countersAt, at_now]

/-- SETTINGS_RECORD while the settings region takes no record (R358). -/
theorem settingsRecord_none (h : s.settingsTake = false) : EffectIs (.settingsRecord t) t s (s.at_ t) := by
  exact effectIs_of_run (Eq.refl (execSettingsRecord t s)) (if_pos (.inl (by simp [h])))

end Records

/-- Settles O37, command by command. -/
theorem meterRecords : Obligations.MeterRecords :=
  ⟨fun _ _ _ => minuteClose_due, fun _ _ => meterTotalsRecord_due, fun _ _ _ => meterTotalsRecord_early,
    fun _ _ _ => settingsRecord_marks,
    fun _ _ => settingsRecord_countersAt, fun _ _ => settingsRecord_none⟩

end Sys2Proof.Machine

/-! PROOF.  The commands of sensing, diagnosis and colour (O36): DECIMATOR_SAMPLE to TRIM_LIMITED_WARNING (R62 to R66,
R69, R83, R88, R100, R107, R116, R117). -/

namespace Sys2Proof.Machine

open Sys2Proof

/-! ### Reading the sense unit, the colour unit and the flags -/

@[simp] theorem at_cs (s : State) (t ch : Nat) : (s.at_ t).cs ch = s.cs ch := rfl
@[simp] theorem at_tc (s : State) (t team : Nat) : (s.at_ t).tc team = s.tc team := rfl
@[simp] theorem at_bs (s : State) (t b : Nat) : (s.at_ t).bs b = s.bs b := rfl
@[simp] theorem at_bh (s : State) (t b : Nat) : (s.at_ t).bh b = s.bh b := rfl
@[simp] theorem at_td (s : State) (t team : Nat) : (s.at_ t).td team = s.td team := rfl
@[simp] theorem at_teamAt (s : State) (t ch : Nat) : (s.at_ t).teamAt ch = s.teamAt ch := rfl
@[simp] theorem at_hasCard (s : State) (t ch : Nat) : (s.at_ t).hasCard ch = s.hasCard ch := rfl
@[simp] theorem at_streamInvalid (s : State) (t ch : Nat) : (s.at_ t).streamInvalid ch = s.streamInvalid ch := rfl
@[simp] theorem at_inCardFault (s : State) (t b : Nat) : (s.at_ t).inCardFault b = s.inCardFault b := rfl
@[simp] theorem after_cs (s : State) (t : Nat) (f : State → State) (ch : Nat) :
    (s.after_ t f).cs ch = (f (s.at_ t)).cs ch := rfl
@[simp] theorem after_tc (s : State) (t : Nat) (f : State → State) (team : Nat) :
    (s.after_ t f).tc team = (f (s.at_ t)).tc team := rfl
@[simp] theorem after_inCardFault (s : State) (t : Nat) (f : State → State) (b : Nat) :
    (s.after_ t f).inCardFault b = (f (s.at_ t)).inCardFault b := rfl

@[simp] theorem modCs_cs_same (s : State) (ch : Nat) (f : ChannelSense → ChannelSense) :
    (s.modCs ch f).cs ch = f (s.cs ch) := Tab.get_modify_same s.sense.channels ch f

@[simp] theorem modTc_tc_same (s : State) (team : Nat) (f : TeamColour → TeamColour) :
    (s.modTc team f).tc team = f (s.tc team) := Tab.get_modify_same s.colour.teams team f

/-- Elements of two parameters have different keys. -/
theorem paramKey_ne {id jd e d : Nat} (hid : jd ≠ id) (he : e < 65536) (hd : d < 65536) :
    paramKey jd d ≠ paramKey id e := by
  unfold paramKey; omega

theorem p_setI_other (s : State) {id e jd d : Nat} (h : paramKey jd d ≠ paramKey id e) (n : Int) :
    (s.setI id e n).p jd d = s.p jd d := by
  unfold State.p State.setI; rw [w_setW_other s h]

@[simp] theorem setFlag_tc (s : State) (id e k : Nat) (b : Bool) (team : Nat) :
    (s.setFlag id e k b).tc team = s.tc team := by
  unfold State.tc; rw [setFlag_colour]

@[simp] theorem raise_cs (s : State) (code x y ch : Nat) : (s.raise code x y).cs ch = s.cs ch := by
  unfold State.cs; rw [raise_sense]

@[simp] theorem raise_tc (s : State) (code x y team : Nat) : (s.raise code x y).tc team = s.tc team := by
  unfold State.tc; rw [raise_colour]

/-- A flag that is set reads as set. -/
theorem flagOf_setFlag_true (s : State) (id e : Nat) {k : Nat} (hk : k < 32) :
    (s.setFlag id e k true).flagOf id e k = true := by
  unfold State.flagOf State.setFlag
  rw [p_setP_same, Nat.testBit_mod_two_pow]
  simp [hk, putBit, setBit, Nat.testBit_shiftLeft]

/-! ### Samples of a settled stream (R63, R64) -/

/-- The settling span that ends now, attributed to the light under R61, lies inside one pulse (R64). -/
def State.sampleInPulse (s : State) (ch : Nat) : Bool :=
  let to_ := s.now - s.senseLag (ch / 32)
  highThrough (s.cs ch).pulses (to_ - bitTime (3 * (s.decimation (ch / 32) - 1) + 1)) to_

/-- A sample is published; one inside a pulse adds to the mean (R63, R64). -/
def State.takeSample (s : State) (ch : Nat) (i : Int) (inPulse : Bool) : State :=
  let v := s.setI Pid.snsIInst ch (satS32 i)
  if inPulse then v.modCs ch (fun k => { k with sampleSum := k.sampleSum + i, samples := k.samples + 1 }) else v

theorem takeSample_w (s : State) (ch : Nat) (i : Int) (inPulse : Bool) :
    (s.takeSample ch i inPulse).w Pid.snsIInst ch = wordI (satS32 i) := by
  cases inPulse <;> exact w_setW_same ..

theorem takeSample_cs (s : State) (ch : Nat) (i : Int) (inPulse : Bool) :
    (s.takeSample ch i inPulse).cs ch =
      if inPulse then { s.cs ch with sampleSum := (s.cs ch).sampleSum + i, samples := (s.cs ch).samples + 1 }
      else s.cs ch := by
  have hset : (s.setI Pid.snsIInst ch (satS32 i)).cs ch = s.cs ch := by unfold State.cs; rw [setI_sense]
  cases inPulse
  · exact hset
  · exact (modCs_cs_same ..).trans (by rw [hset]; rfl)

/-- Publishing a sample leaves the delay that R61 takes off. -/
theorem senseLag_setI_iInst (s : State) {ch b : Nat} (hch : ch < 65536) (hb : b < 65536) (n : Int) :
    (s.setI Pid.snsIInst ch n).senseLag b = s.senseLag b := by
  unfold State.senseLag
  rw [p_setI_other s (paramKey_ne (by decide) hch hb), p_setI_other s (paramKey_ne (by decide) hch hb)]

section Sense

variable {t ch a : Nat} {s : State}

section Settled

variable {r : LaneBits} (hch : ch < 512) (hon : s.d4On = true) (hvalid : s.streamInvalid ch = false)
  (hrestart : (s.bs (ch / 32)).restart = false) (hsettled : (s.bs (ch / 32)).settledFrom ≤ max s.now t)
  (hcount : bitCount r = 3 * (s.decimation (ch / 32) - 1) + 1)
include hch hon hvalid hrestart hsettled hcount

/-- DECIMATOR_SAMPLE of a valid, settled stream. -/
theorem decimatorSample_effect : EffectIs (.decimatorSample t ch r) t s ((s.at_ t).takeSample ch
    (s.sampleUa (ch / 32) (sincWord (s.decimation (ch / 32)) r)) ((s.at_ t).sampleInPulse ch)) := by
  have hready : ¬ (max s.now t < (s.bs (ch / 32)).settledFrom ∨
      bitCount r ≠ 3 * (s.decimation (ch / 32) - 1) + 1) :=
    not_or.2 ⟨Nat.not_lt.2 hsettled, not_not.2 hcount⟩
  refine effectIs_of_run (Eq.refl (execDecimatorSample t ch r s)) ((if_neg ?_).trans ?_)
  · simp [hon, hvalid, hch]
  · simp only [at_bs, hrestart, Bool.false_eq_true, if_false]
    refine (if_neg hready).trans ?_
    rw [senseLag_setI_iInst (s.at_ t) (by omega) (by omega)]
    unfold State.takeSample State.sampleInPulse State.cs
    simp only [setI_now, setI_sense]
    rfl

theorem decimatorSample_completes : Completes (.decimatorSample t ch r) s (fun u =>
    let i := s.sampleUa (ch / 32) (sincWord (s.decimation (ch / 32)) r)
    let to_ := max s.now t - s.senseLag (ch / 32)
    u.w Pid.snsIInst ch = wordI (satS32 i) ∧
    (if highThrough (s.cs ch).pulses (to_ - bitTime (3 * (s.decimation (ch / 32) - 1) + 1)) to_ then
      (u.cs ch).samples = (s.cs ch).samples + 1 ∧ (u.cs ch).sampleSum = (s.cs ch).sampleSum + i
    else (u.cs ch).samples = (s.cs ch).samples ∧ (u.cs ch).sampleSum = (s.cs ch).sampleSum)) := by
  refine completes_of_effect (decimatorSample_effect hch hon hvalid hrestart hsettled hcount) ⟨takeSample_w .., ?_⟩
  rw [after_cs, takeSample_cs]
  show if (s.at_ t).sampleInPulse ch = true then _ else _
  split <;> exact ⟨rfl, rfl⟩

end Settled

/-! ### Stuck and stale streams, and the loop's limit (R62, R66, R69) -/

/-- STREAM_STUCK and STREAM_VALID_AGAIN act on a lane with a card while D4 is on (R62). -/
theorem stream_goes (hch : ch < 512) (hon : s.d4On = true) (hcard : s.hasCard ch = true) :
    ¬ (512 ≤ ch ∨ (!(s.at_ t).d4On) = true ∨ (!(s.at_ t).hasCard ch) = true) := by
  simp [hon, hcard, hch]

theorem streamStuck_completes (hch : ch < 512) (hon : s.d4On = true) (hcard : s.hasCard ch = true) :
    Completes (.streamStuck t ch) s (fun u => (u.cs ch).invalid = true ∧ u.flagOf Pid.snsLoopStatus ch 6 = true) := by
  refine completes_of_effect (effectIs_of_run (Eq.refl (execStreamStuck t ch s)) (if_neg (stream_goes hch hon hcard)))
    ⟨?_, ?_⟩
  · rw [after_cs, modCs_cs_same]
  · exact flagOf_setFlag_true _ _ _ (by decide)

theorem streamValidAgain_completes (hch : ch < 512) (hon : s.d4On = true) (hcard : s.hasCard ch = true) :
    Completes (.streamValidAgain t ch) s (fun u =>
      (u.cs ch).invalid = false ∧ (u.cs ch).wasInvalid = (s.cs ch).wasInvalid ∧ u.params = s.params) := by
  refine completes_of_effect
    (effectIs_of_run (Eq.refl (execStreamValidAgain t ch s)) (if_neg (stream_goes hch hon hcard))) ⟨?_, ?_, rfl⟩
  all_goals rw [after_cs, modCs_cs_same]
  rfl

theorem zeroStale_completes (hch : ch < 512) (hdue : (s.cs ch).zeroAt + 600 * sec ≤ max s.now t) :
    Completes (.zeroStale t ch) s (fun u => u.flagOf Pid.snsLoopStatus ch 4 = true ∧ u.sense = s.sense) := by
  refine completes_of_effect (effectIs_of_run (Eq.refl (execZeroStale t ch s)) (if_pos ⟨hch, at_passed hdue⟩))
    ⟨?_, ?_⟩
  · exact flagOf_setFlag_true _ _ _ (by decide)
  · rw [after_sense, setFlag_sense, at_sense]

theorem loopLimitWarning_completes (hch : ch < 512) (hsince : (s.cs ch).limitSince = some a)
    (htold : (s.cs ch).limitTold = false) (hdue : a + 10 * sec ≤ max s.now t) :
    Completes (.loopLimitWarning t ch) s (fun u => (u.cs ch).limitTold = true) := by
  refine completes_of_run (Eq.refl (execLoopLimitWarning t ch s)) ?_
  simp [hsince, htold, hch, at_passed hdue]

end Sense

/-! ### Windows and card faults (R83, R88) -/

section Diagnosis

variable {t : Nat} {s : State}

theorem provingWindowExpiry_effect {ch team : Nat} (hch : ch < 512) (hteam : s.teamAt ch = some team) :
    EffectIs (.provingWindowExpiry t ch) t s ((s.at_ t).expireWindow ch team) := by
  refine effectIs_of_run (Eq.refl (execProvingWindowExpiry t ch s)) ?_
  simp only [at_teamAt, hteam, hch, if_true]

theorem inCardFault_of_diag {u v : State} (h : u.diag = v.diag) (b : Nat) : u.inCardFault b = v.inCardFault b := by
  unfold State.inCardFault; rw [h]

@[simp] theorem showCause_inCardFault (s : State) (ch team b : Nat) :
    (s.showCause ch team).inCardFault b = s.inCardFault b := inCardFault_of_diag (setP_diag ..) b

@[simp] theorem verdictRecord_inCardFault (s : State) (code x y b : Nat) :
    (s.verdictRecord code x y).inCardFault b = s.inCardFault b := by
  unfold State.verdictRecord
  split
  · rfl
  · exact inCardFault_of_diag (raise_diag ..) b

@[simp] theorem modCg_inCardFault (s : State) (ch : Nat) (f : ChannelDiag → ChannelDiag) (b : Nat) :
    (s.modCg ch f).inCardFault b = s.inCardFault b := rfl

@[simp] theorem setP_inCardFault (s : State) (id e n b : Nat) : (s.setP id e n).inCardFault b = s.inCardFault b :=
  inCardFault_of_diag (setP_diag ..) b

/-- A verdict leaves the card-fault states. -/
@[simp] theorem setVerdict_inCardFault (s : State) (ch team v b : Nat) :
    (s.setVerdict ch team v).inCardFault b = s.inCardFault b := by
  unfold State.setVerdict
  dsimp only
  split
  · rfl
  · split <;> simp [apply_ite (State.inCardFault · b)]

/-- CARD_FAULT_STATE of a running card whose fault line has been low for 10 ms, and whose lanes are not marked or
whose readback is missing. -/
theorem cardFaultState_completes {bank : Nat} (hbank : bank < 16) (hstate : s.p Pid.harnessState bank = 4)
    (hlow : (s.bh bank).fltHigh = false) (hdue : (s.bh bank).fltSince + 10 * ms ≤ max s.now t)
    (hnot : s.inCardFault bank = false)
    (hmarks : (s.p Pid.harnessLaneOpen bank = 0 ∧ s.p Pid.harnessLaneShort bank = 0 ∧
      s.p Pid.harnessLaneClimit bank = 0) ∨ (s.bh bank).missed ≠ 0) (hon : s.d4On = true) :
    Completes (.cardFaultState t bank) s (fun u => u.inCardFault bank = true) := by
  have hmarks' : ¬ (s.p Pid.harnessLaneOpen bank ||| s.p Pid.harnessLaneShort bank |||
      s.p Pid.harnessLaneClimit bank ≠ 0 ∧ (s.bh bank).missed = 0) := by
    obtain ⟨hopen, hshort, hclimit⟩ | hmissed := hmarks
    · simp [hopen, hshort, hclimit]
    · simp [hmissed]
  refine completes_of_effect (effectIs_of_run (Eq.refl (execCardFaultState t bank s)) (if_neg ?_)) ?_
  · simp only [at_p, at_bh, at_inCardFault, at_d4On, hstate, hlow, hnot, hon, hmarks', at_passed hdue,
      Nat.not_le.2 hbank]
    simp
  · rw [after_inCardFault, inCardFault_of_diag (raise_diag ..)]
    refine (foldl_keeps (State.inCardFault · bank) (fun s c => ?_) _ _).trans (Tab.get_set_same ..)
    split
    · simp
    · rfl

end Diagnosis

/-! ### Teams without a temperature (R100, R107) -/

section Teams

variable {t team : Nat} {s : State}

theorem derateBlind_effect (hteam : team < 512) (hsize : (s.td team).size ≠ 0)
    (hdue : (s.diag.teams.get team).tempAt.getD (max (s.diag.teams.get team).since s.coldAt) + 10 * sec ≤
      max s.now t) :
    EffectIs (.derateBlind t team) t s
      (((s.at_ t).setFlag Pid.diagDerateStatus team 2 true).derateTarget team
        (if (s.diag.teams.get team).tempAt.isSome then
          min (s.p Pid.diagDerateBlind team) (s.derateFormula team (s.pI Pid.diagTeamTemp team)).1
         else s.p Pid.diagDerateBlind team)) := by
  refine effectIs_of_run (Eq.refl (execDerateBlind t team s)) (if_neg ?_)
  simp [hteam, hsize, at_passed hdue]

theorem noTempTimeout_completes (hteam : team < 512) (hsize : (s.td team).size ≠ 0)
    (hdue : max (s.tc team).tempAt s.coldAt + 10 * sec ≤ max s.now t) :
    Completes (.noTempTimeout t team) s (fun u => u.flagOf Pid.colourStatus team 0 = true ∧ u.colour = s.colour) := by
  refine completes_of_effect (effectIs_of_run (Eq.refl (execNoTempTimeout t team s)) (if_neg ?_)) ⟨?_, ?_⟩
  · simp [hteam, hsize, at_passed hdue]
  · exact flagOf_setFlag_true _ _ _ (by decide)
  · rw [after_colour, setFlag_colour, at_colour]

/-! ### Trims (R116, R117) -/

/-- The team's trim opportunity is taken now (R117). -/
def State.takeTrim (s : State) (team : Nat) : State :=
  (s.modTc team (fun k => { k with trimAt := some s.now })).modTd team (fun d => { d with faded := s.fading team })

theorem takeTrim_tc (s : State) (team : Nat) :
    (s.takeTrim team).tc team = { s.tc team with trimAt := some s.now } := modTc_tc_same ..

theorem trimUpdate_goes (hteam : team < 512) (hsize : (s.td team).size ≠ 0) (hdue : (s.at_ t).trimDue team = true) :
    ¬ (512 ≤ team ∨ ((s.at_ t).td team).size = 0 ∨ (!(s.at_ t).trimDue team) = true) := by
  simp [hteam, hsize, hdue]

/-- TRIM_UPDATE without good conditions: the opportunity passes, with a sensor word or without one. -/
theorem trimUpdate_held (hteam : team < 512) (hsize : (s.td team).size ≠ 0) (hdue : (s.at_ t).trimDue team = true)
    (hbad : (s.at_ t).trimConditions team = false) :
    EffectIs (.trimUpdate t team) t s (((s.at_ t).takeTrim team).setFlag Pid.colourStatus team 1 true) := by
  refine effectIs_of_run (Eq.refl (execTrimUpdate t team s)) ((if_neg (trimUpdate_goes hteam hsize hdue)).trans ?_)
  dsimp only
  split
  · simp only [hbad, Bool.not_false, if_true]
    rfl
  · rfl

theorem trimUpdate_held_completes (hteam : team < 512) (hsize : (s.td team).size ≠ 0)
    (hdue : (s.at_ t).trimDue team = true) (hbad : (s.at_ t).trimConditions team = false) :
    Completes (.trimUpdate t team) s (fun u =>
      u.flagOf Pid.colourStatus team 1 = true ∧ (u.tc team).trimAt = some (max s.now t) ∧
      u.w Pid.colourTrim team = s.w Pid.colourTrim team) := by
  refine completes_of_effect (trimUpdate_held hteam hsize hdue hbad) ⟨?_, ?_, ?_⟩
  · exact flagOf_setFlag_true _ _ _ (by decide)
  · rw [after_tc, setFlag_tc, takeTrim_tc, at_now]
  · exact w_setP_other _ (paramKey_ne (by decide) (by omega) (by omega)) _

section Good

variable {x : SensorWord} (hteam : team < 512) (hsize : (s.td team).size ≠ 0) (hdue : (s.at_ t).trimDue team = true)
  (hgood : (s.at_ t).trimConditions team = true) (hsensor : (s.tc team).sensor = some x)
include hteam hsize hdue hgood hsensor

/-- TRIM_UPDATE in good conditions with a sensor word: an armed calibration, else a trim where the gains are known. -/
theorem trimUpdate_good : EffectIs (.trimUpdate t team) t s
    (if s.pB Pid.colourSensorCal team then
      (((s.at_ t).takeTrim team).calibrate team x).setFlag Pid.colourStatus team 1 false
    else if (List.range 3).any (fun i => s.p Pid.colourSensorGain (3 * team + i) == 0) then
      ((s.at_ t).takeTrim team).setFlag Pid.colourStatus team 1 true
    else (((s.at_ t).takeTrim team).trimUpdate team x).setFlag Pid.colourStatus team 1 false) := by
  have hword : (((s.at_ t).takeTrim team).tc team).sensor = some x := by rw [takeTrim_tc]; exact hsensor
  refine effectIs_of_run (Eq.refl (execTrimUpdate t team s)) ((if_neg (trimUpdate_goes hteam hsize hdue)).trans ?_)
  dsimp only
  split
  next y hy =>
    obtain rfl : y = x := Option.some.inj (hy.symm.trans hword)
    simp only [hgood, Bool.not_true, Bool.false_eq_true, if_false]
    rfl
  next hnone => exact absurd (hnone.symm.trans hword) (by simp)

theorem trimUpdate_calibrates (hcal : s.pB Pid.colourSensorCal team = true) : EffectIs (.trimUpdate t team) t s
    ((((s.at_ t).takeTrim team).calibrate team x).setFlag Pid.colourStatus team 1 false) := by
  have heffect := trimUpdate_good hteam hsize hdue hgood hsensor
  rwa [if_pos hcal] at heffect

theorem trimUpdate_trims (hcal : s.pB Pid.colourSensorCal team = false)
    (hgains : ∀ i : Nat, i < 3 → s.p Pid.colourSensorGain (3 * team + i) ≠ 0) : EffectIs (.trimUpdate t team) t s
    ((((s.at_ t).takeTrim team).trimUpdate team x).setFlag Pid.colourStatus team 1 false) := by
  have hknown : ¬ (List.range 3).any (fun i => s.p Pid.colourSensorGain (3 * team + i) == 0) = true := by
    simpa using hgains
  have heffect := trimUpdate_good hteam hsize hdue hgood hsensor
  rwa [if_neg (by simp [hcal]), if_neg hknown] at heffect

end Good

theorem trimLimitedWarning_completes {a : Nat} (hteam : team < 512) (hsince : (s.tc team).limitedSince = some a)
    (htold : (s.tc team).limitedTold = false) (hdue : a + 600 * sec ≤ max s.now t) :
    Completes (.trimLimitedWarning t team) s (fun u => (u.tc team).limitedTold = true) := by
  refine completes_of_run (Eq.refl (execTrimLimitedWarning t team s)) ?_
  simp [hsince, htold, hteam, at_passed hdue]

end Teams

/-- Settles O36, command by command. -/
theorem senseDiagnosisAndColour : Obligations.SenseDiagnosisAndColour := by
  refine ⟨fun _ _ _ _ => decimatorSample_completes, fun _ _ _ => streamStuck_completes,
    fun _ _ _ => streamValidAgain_completes, fun _ _ _ => zeroStale_completes,
    fun _ _ _ _ => loopLimitWarning_completes, fun _ _ _ _ => provingWindowExpiry_effect,
    fun _ _ _ => cardFaultState_completes, fun _ _ _ => derateBlind_effect, fun _ _ _ => noTempTimeout_completes,
    fun _ _ _ => trimUpdate_held_completes, ?_, fun _ _ _ _ => trimLimitedWarning_completes⟩
  rintro t team x s v hteam hsize hdue hgood hsensor rfl
  exact ⟨trimUpdate_calibrates hteam hsize hdue hgood hsensor, trimUpdate_trims hteam hsize hdue hgood hsensor⟩

end Sys2Proof.Machine

/-! PROOF.  The commands of the rein graph (O11): CELL_COMPLETE, CELL_PARITY_ERROR, CELL_OVERLONG and BACK_PRESSURE_WAIT
(R161, R164, R167). -/

namespace Sys2Proof.Machine

open Sys2Proof

/-- The clock's advance neither gives a core a cell nor lets it wait. -/
@[simp] theorem at_jobOf (s : State) (t core : Nat) : (s.at_ t).jobOf core = s.jobOf core := rfl

@[simp] theorem at_core (s : State) (t core : Nat) : (s.at_ t).core_ core = s.core_ core := rfl

section Graph

variable {t core i a : Nat} {s : State}

/-- CELL_COMPLETE executes the cell that the core runs (R161). -/
theorem cellComplete_effect (hjob : s.jobOf core = some i) : EffectIs (.cellComplete t core) t s
    (((((s.at_ t).execute i).completeOn core i).freeCore core).graphSettle) := by
  refine effectIs_of_run (Eq.refl (execCellComplete t core s)) ?_
  simp only [at_jobOf, hjob]

/-- CELL_PARITY_ERROR fails the cell that the core runs (R167). -/
theorem cellParityError_effect (hjob : s.jobOf core = some i) : EffectIs (.cellParityError t core) t s
    (((((s.at_ t).failCell i 0).completeOn core i).freeCore core).graphSettle) := by
  refine effectIs_of_run (Eq.refl (execCellParityError t core s)) ?_
  simp only [at_jobOf, hjob]

/-- CELL_OVERLONG fails a cell that has been on the core for more than 2 ms (R167). -/
theorem cellOverlong_effect (hjob : s.jobOf core = some i) (hover : (s.core_ core).since + 2 * ms < max s.now t) :
    EffectIs (.cellOverlong t core) t s
      (((((s.at_ t).failCell i 1).completeOn core i).freeCore core).graphSettle) := by
  refine effectIs_of_run (Eq.refl (execCellOverlong t core s)) ?_
  simp only [at_jobOf, hjob]
  exact if_pos hover

/-- BACK_PRESSURE_WAIT of source 0 is the token raiser's (R164). -/
theorem backPressureWait_raiser (hphase : s.prog.phase = .graph) (hwait : s.prog.tokenWait = some a) :
    EffectIs (.backPressureWait t 0) t s (((s.at_ t).resumeSource .raiser a s.prog.tokens).graphSettle) := by
  have hgo : ¬ (s.at_ t).prog.phase ≠ .graph := not_not.2 hphase
  refine effectIs_of_run (Eq.refl (execBackPressureWait t 0 s)) ((if_neg hgo).trans ((if_pos rfl).trans ?_))
  simp only [at_prog, hwait]

/-- BACK_PRESSURE_WAIT of source `core + 1` is that core's (R164). -/
theorem backPressureWait_core (hphase : s.prog.phase = .graph) (hwait : (s.core_ core).waitFrom = some a) :
    EffectIs (.backPressureWait t (core + 1)) t s
      (((s.at_ t).resumeSource (.core core) a (s.core_ core).raises).graphSettle) := by
  have hgo : ¬ (s.at_ t).prog.phase ≠ .graph := not_not.2 hphase
  refine effectIs_of_run (Eq.refl (execBackPressureWait t (core + 1) s))
    ((if_neg hgo).trans ((if_neg core.succ_ne_zero).trans ?_))
  simp only [Nat.add_sub_cancel, at_core, hwait]

end Graph

/-- Settles O11, command by command. -/
theorem graphCommands : Obligations.GraphCommands :=
  ⟨fun _ _ _ _ => cellComplete_effect, fun _ _ _ _ => cellParityError_effect, fun _ _ _ _ => cellOverlong_effect,
    fun _ _ _ => backPressureWait_raiser, fun _ _ _ _ hphase _ => backPressureWait_core hphase⟩

end Sys2Proof.Machine

/-! PROOF.  The program opcodes (O21): PROG_LOAD, PROG_REVERT, PROG_UPLOAD, PROG_READ and TEAM_READ (R158, R191, R247,
R509, R510). -/

namespace Sys2Proof.Machine

open Sys2Proof

/-- A payload of the length asked for is handed to the opcode. -/
theorem withLength_of_length {n : Nat} {q : Request} (h : q.payload.length = n) (f : Body) (a : State) :
    withLength n f q a = f q a := by
  simp only [withLength, Request.exactly, if_pos h]

section ProgLoad

variable {q : Request} {a : State} {held : List Word}

/-- A chunk that begins where the words held end is put behind them, whether or not it ends the load (R509). -/
theorem progLoadBody_nextChunk (hlen : 2 ≤ q.payload.length) (hspare : bits (nth q.payload 1) 30 0 = 0)
    (hup : a.storageUp = true) (hoff : 0 < (nth q.payload 0).toNat) (hheld : a.prog.partial_ = some held)
    (hnext : held.length = (nth q.payload 0).toNat) :
    progLoadBody q a =
      (let r := if bit (nth q.payload 1) 31 then (a.carryChunk q.payload).finishLoad (held ++ q.payload.drop 2)
        else (ok, (a.carryChunk q.payload).withProg (fun p => { p with partial_ := some (held ++ q.payload.drop 2) }))
      (.later, r.2.storeWrite (.pslc 4 1) (imageKib (q.payload.drop 2)) (.result q.ref r.1))) := by
  simp [progLoadBody, Nat.not_lt.2 hlen, hspare, hup, Nat.ne_of_gt hoff, hheld, hnext]

/-- A chunk that does not end the load leaves it open (R509). -/
theorem progLoadBody_more (hlen : 2 ≤ q.payload.length) (hmore : (nth q.payload 1).toNat = 0)
    (hup : a.storageUp = true) (hoff : 0 < (nth q.payload 0).toNat) (hheld : a.prog.partial_ = some held)
    (hnext : held.length = (nth q.payload 0).toNat) :
    progLoadBody q a = (.later, ((a.carryChunk q.payload).withProg
        (fun p => { p with partial_ := some (held ++ q.payload.drop 2) })).storeWrite (.pslc 4 1)
      (imageKib (q.payload.drop 2)) (.result q.ref (ok))) := by
  have hspare : bits (nth q.payload 1) 30 0 = 0 := by simp [bits, hmore]
  have hopen : ¬ bit (nth q.payload 1) 31 = true := by simp [bit, hmore]
  rw [progLoadBody_nextChunk hlen hspare hup hoff hheld hnext, if_neg hopen]

/-- The last chunk ends the load: the image is validated (R158). -/
theorem progLoadBody_last (hlen : 2 ≤ q.payload.length) (hlast : nth q.payload 1 = 0x80000000)
    (hup : a.storageUp = true) (hoff : 0 < (nth q.payload 0).toNat) (hheld : a.prog.partial_ = some held)
    (hnext : held.length = (nth q.payload 0).toNat) :
    progLoadBody q a =
      (let r := (a.carryChunk q.payload).finishLoad (held ++ q.payload.drop 2)
      (.later, r.2.storeWrite (.pslc 4 1) (imageKib (q.payload.drop 2)) (.result q.ref r.1))) := by
  have hspare : bits (nth q.payload 1) 30 0 = 0 := by rw [hlast]; decide
  have hends : bit (nth q.payload 1) 31 = true := by rw [hlast]; decide
  rw [progLoadBody_nextChunk hlen hspare hup hoff hheld hnext, if_pos hends]

end ProgLoad

section Answers

variable (t : Nat) (tr : Transport) (s : State)

theorem progRevert_stages : Answers (.progRevert t tr) t s tr (.opcode 0x32) (fun _ => .deferred)
    (fun q a => q.payload.length = 0 ∧ a.prog.previous ≠ [] ∧ a.storageUp = true)
    (fun q a => (.later, ((a.setStaged a.prog.previous).carryChunk (0 :: 0x80000000 :: a.prog.previous)).storeWrite
      (.pslc 4 1) (imageKib a.prog.previous) (.result q.ref (ok [imageCrc a.prog.previous])))) := by
  refine answers_of_body (Eq.refl (execProgRevert t tr s)) ?_
  rintro q a ⟨hlen, hprev, hup⟩
  rw [withLength_of_length hlen]
  exact if_neg (by simp [hprev, hup])

theorem progRevert_noPrevious : Answers (.progRevert t tr) t s tr (.opcode 0x32) (fun _ => .deferred)
    (fun q a => q.payload.length = 0 ∧ a.prog.previous = []) (gives (fun _ _ => fail stNotCommitted)) := by
  refine answers_of_body (Eq.refl (execProgRevert t tr s)) ?_
  rintro q a ⟨hlen, hprev⟩
  rw [withLength_of_length hlen]
  exact if_pos (.inl (by simp [hprev]))

/-- PROG_UPLOAD of image 0, the active one. -/
theorem progUpload_active : Answers (.progUpload t tr) t s tr (.opcode 0x37) (fun _ => .immediate)
    (fun q a => q.payload.length = 3 ∧ nth q.payload 0 = 0 ∧ (nth q.payload 1).toNat < a.prog.active.length ∧
      (nth q.payload 1).toNat + (nth q.payload 2).toNat ≤ a.prog.active.length)
    (gives (fun q a => ok ((a.prog.active.drop (nth q.payload 1).toNat).take (nth q.payload 2).toNat))) := by
  refine answers_of_body (Eq.refl (execProgUpload t tr s)) ?_
  rintro q a ⟨hlen, hactive, hoff, hend⟩
  have hsome : a.prog.active ≠ [] := List.ne_nil_of_length_pos (Nat.zero_lt_of_lt hoff)
  rw [withLength_of_length hlen]
  simp [hactive, hsome, Nat.not_le.2 hoff, Nat.not_lt.2 hend, gives]

theorem progRead_named (i : Nat) : Answers (.progRead t tr) t s tr (.opcode 0x35) (fun _ => .immediate)
    (fun q a => q.payload.length = 1 ∧ a.cellNamed (nth q.payload 0).toNat = some i)
    (fun _ a => (.done (ok (word ((a.desc i).type_ * 2 ^ 24 + (a.desc i).prio * 2 ^ 22 + i) ::
        (a.portsWords i (List.range (a.desc i).inits.length)).1 ++ stateWords (a.desc i) (a.cellRun i))),
      (a.portsWords i (List.range (a.desc i).inits.length)).2)) := by
  refine answers_of_body (Eq.refl (execProgRead t tr s)) ?_
  rintro q a ⟨hlen, hcell⟩
  rw [withLength_of_length hlen]
  simp only [hcell]

/-- TEAM_READ of up to 64 teams, none beyond the last (R247). -/
theorem teamRead_words : Answers (.teamRead t tr) t s tr (.opcode 0x24) (fun _ => .immediate)
    (fun q _ => q.payload.length = 1 ∧ 1 ≤ bits (nth q.payload 0) 15 0 ∧ bits (nth q.payload 0) 15 0 ≤ 64 ∧
      bits (nth q.payload 0) 31 16 + bits (nth q.payload 0) 15 0 ≤ 768)
    (fun q a =>
      let r := a.teamsWords ((List.range (bits (nth q.payload 0) 15 0)).map (fun k => bits (nth q.payload 0) 31 16 + k))
      (.done (ok r.1), r.2)) := by
  refine answers_of_body (Eq.refl (execTeamRead t tr s)) ?_
  rintro q a ⟨hlen, hsome, hmost, hend⟩
  rw [withLength_of_length hlen]
  exact if_neg (by omega)

theorem teamRead_beyond : Answers (.teamRead t tr) t s tr (.opcode 0x24) (fun _ => .immediate)
    (fun q _ => q.payload.length = 1 ∧ 768 < bits (nth q.payload 0) 31 16 + bits (nth q.payload 0) 15 0)
    (gives (fun _ _ => fail stRange 0)) := by
  refine answers_of_body (Eq.refl (execTeamRead t tr s)) ?_
  rintro q a ⟨hlen, hbeyond⟩
  rw [withLength_of_length hlen]
  exact if_pos (.inr (.inr hbeyond))

end Answers

/-- Settles O21, opcode by opcode. -/
theorem programOpcodes : Obligations.ProgramOpcodes := by
  intro t tr s
  refine ⟨fun held => ?more, fun held => ?last, progRevert_stages t tr s, progRevert_noPrevious t tr s,
    progUpload_active t tr s, progRead_named t tr s, teamRead_words t tr s, teamRead_beyond t tr s⟩
  case more =>
    exact answers_of_body (Eq.refl (execProgLoad t tr s))
      (fun _ _ ⟨hlen, hmore, hup, hoff, hheld, hnext⟩ => progLoadBody_more hlen hmore hup hoff hheld hnext)
  case last =>
    exact answers_of_body (Eq.refl (execProgLoad t tr s))
      (fun _ _ ⟨hlen, hlast, hup, hoff, hheld, hnext⟩ => progLoadBody_last hlen hlast hup hoff hheld hnext)

end Sys2Proof.Machine

/-! PROOF.  The commands of a restart (O13): WARM_RESTART_READY, COLD_RESTART_RESET, TCXO_RETURN and
ENUMERATION_WAIT_END (R15, R145, R202). -/

namespace Sys2Proof.Machine

open Sys2Proof

/-! ### The tick counter

A cold restart by an event lets the count go on until its reset (R15): no act of its beginning touches the counter. -/

/-- The instant that the tick counter counts from, and where it stands while TCXO is lost (R15). -/
def State.tickCounter (s : State) : Nat × Option Nat := (s.tickBase, s.tcxoStopped)

theorem tickCounter_of_eqs {s u : State} (hbase : u.tickBase = s.tickBase) (hstopped : u.tcxoStopped = s.tcxoStopped) :
    u.tickCounter = s.tickCounter := by
  unfold State.tickCounter; rw [hbase, hstopped]

@[simp] theorem setP_tickCounter (s : State) (id e n : Nat) : (s.setP id e n).tickCounter = s.tickCounter :=
  tickCounter_of_eqs (setP_tickBase ..) (setP_tcxoStopped ..)

@[simp] theorem bump_tickCounter (s : State) (id e n : Nat) : (s.bump id e n).tickCounter = s.tickCounter :=
  tickCounter_of_eqs (bump_tickBase ..) (bump_tcxoStopped ..)

@[simp] theorem mark_tickCounter (s : State) (id e : Nat) : (s.mark id e).tickCounter = s.tickCounter :=
  tickCounter_of_eqs (mark_tickBase ..) (mark_tcxoStopped ..)

@[simp] theorem setRun_tickCounter (s : State) (id e : Nat) (ns : List Nat) :
    (s.setRun id e ns).tickCounter = s.tickCounter :=
  tickCounter_of_eqs (setRun_tickBase ..) (setRun_tcxoStopped ..)

@[simp] theorem hpEvent_tickCounter (s : State) (k : Nat) : (s.hpEvent k).tickCounter = s.tickCounter :=
  tickCounter_of_eqs (setFlag_tickBase ..) (setFlag_tcxoStopped ..)

@[simp] theorem raise_tickCounter (s : State) (code a b : Nat) : (s.raise code a b).tickCounter = s.tickCounter :=
  tickCounter_of_eqs (raise_tickBase ..) (raise_tcxoStopped ..)

@[simp] theorem modCs_tickCounter (s : State) (ch : Nat) (f : ChannelSense → ChannelSense) :
    (s.modCs ch f).tickCounter = s.tickCounter := tickCounter_of_eqs rfl rfl

@[simp] theorem modBd_tickCounter (s : State) (b : Nat) (f : BankDrive → BankDrive) :
    (s.modBd b f).tickCounter = s.tickCounter := tickCounter_of_eqs rfl rfl

@[simp] theorem withSense_tickCounter (s : State) (x : SenseState) :
    ({ s with sense := x } : State).tickCounter = s.tickCounter := tickCounter_of_eqs rfl rfl

@[simp] theorem withUpdate_tickCounter (s : State) (x : UpdateState) :
    ({ s with update := x } : State).tickCounter = s.tickCounter := tickCounter_of_eqs rfl rfl

@[simp] theorem withBridle_tickCounter (s : State) (x : BridleState) :
    ({ s with bridle := x } : State).tickCounter = s.tickCounter := tickCounter_of_eqs rfl rfl

@[simp] theorem withWaybill_tickCounter (s : State) (x : WaybillState) :
    ({ s with waybill := x } : State).tickCounter = s.tickCounter := tickCounter_of_eqs rfl rfl

@[simp] theorem withPower_tickCounter (s : State) (f : PowerState → PowerState) :
    (s.withPower f).tickCounter = s.tickCounter := tickCounter_of_eqs rfl rfl

@[simp] theorem withProg_tickCounter (s : State) (f : ProgState → ProgState) :
    (s.withProg f).tickCounter = s.tickCounter := tickCounter_of_eqs rfl rfl

/-! ### The minute closes -/

theorem addMinute_tickCounter (s : State) (x : Nat × Metering) : (s.addMinute x).tickCounter = s.tickCounter :=
  modCs_tickCounter ..

theorem transferAll_tickCounter (s : State) : s.transferAll.tickCounter = s.tickCounter := by
  unfold State.transferAll State.takeMetering
  dsimp only
  refine (foldl_keeps State.tickCounter addMinute_tickCounter _ _).trans ?_
  refine (foldl_keeps State.tickCounter (fun s (x : Nat × Metering) => modCs_tickCounter s x.1 _) _ _).trans ?_
  exact tickCounter_of_eqs rfl rfl

theorem closeChannel_tickCounter (s : State) (ch extra : Nat) :
    (s.closeChannel ch extra).2.tickCounter = s.tickCounter := by
  simp only [State.closeChannel, modCs_tickCounter, withSense_tickCounter, setP_tickCounter]

@[simp] theorem takeoverClosed_tickCounter (s : State) : s.takeoverClosed.tickCounter = s.tickCounter := by
  have hdrawn : s.drawWord.2.tickCounter = s.tickCounter := tickCounter_of_eqs rfl rfl
  unfold State.takeoverClosed
  dsimp only
  split <;> simp [hdrawn]

@[simp] theorem bufferBlock_tickCounter (s : State) (b : MinuteBlock) :
    (s.bufferBlock b).tickCounter = s.tickCounter := by
  have hput : ∀ (v : State) (l : List MinuteBlock), (({ v with sense := { v.sense with buffer := l } }).setP
      Pid.meterBufferedMin 0 l.length).tickCounter = v.tickCounter := fun _ _ => setP_tickCounter ..
  unfold State.bufferBlock
  dsimp only
  split
  · exact hput ..
  · rw [hput, mark_tickCounter, bump_tickCounter]

@[simp] theorem closeMinute_tickCounter (s : State) (extra : Nat) :
    (s.closeMinute extra).tickCounter = s.tickCounter := by
  unfold State.closeMinute
  extract_lets v close dur quality flags seq r w b
  have hopen : v.tickCounter = s.tickCounter := transferAll_tickCounter s
  have hchannels : w.tickCounter = v.tickCounter :=
    List.foldlRecOn (motive := fun x : List (List Word) × State => x.2.tickCounter = v.tickCounter) _ _ rfl
      (fun x hx c _ => (closeChannel_tickCounter x.2 c flags).trans hx)
  clear_value w
  rw [bufferBlock_tickCounter, withSense_tickCounter, apply_ite State.tickCounter, takeoverClosed_tickCounter, ite_self,
    hchannels, hopen]

/-! ### What else ends -/

@[simp] theorem loseRecord_tickCounter (s : State) (r : EventRecord) : (s.loseRecord r).tickCounter = s.tickCounter := by
  unfold State.loseRecord State.wbCount
  split <;> simp

@[simp] theorem loseFreeze_tickCounter (s : State) : s.loseFreeze.tickCounter = s.tickCounter := by
  unfold State.loseFreeze
  dsimp only
  split
  · rfl
  · rw [withWaybill_tickCounter]
    exact foldl_keeps State.tickCounter loseRecord_tickCounter _ s

@[simp] theorem finish_tickCounter (s : State) (ref : TicketRef) (r : Result) :
    (s.finish ref r).tickCounter = s.tickCounter := by
  have hkept : ∀ (i : Nat) (f : Session → Session), (s.modifySession i f).tickCounter = s.tickCounter :=
    fun _ _ => rfl
  unfold State.finish
  split
  · rfl
  · split
    · rfl
    · split
      · rfl
      · dsimp only
        split
        · rw [hpEvent_tickCounter, hkept]
        · exact hkept ..

@[simp] theorem finishOpt_tickCounter (s : State) (ref : Option TicketRef) (r : Result) :
    (s.finishOpt ref r).tickCounter = s.tickCounter := by
  cases ref with
  | none => rfl
  | some x => exact finish_tickCounter s x r

@[simp] theorem endUpdate_tickCounter (s : State) : s.endUpdate.tickCounter = s.tickCounter := by
  unfold State.endUpdate
  split
  · rfl
  · simp only [State.updRecord, raise_tickCounter, withUpdate_tickCounter, setP_tickCounter, setRun_tickCounter,
      finishOpt_tickCounter]

@[simp] theorem closeSessionByEvent_tickCounter (s : State) : s.closeSessionByEvent.tickCounter = s.tickCounter := by
  unfold State.closeSessionByEvent
  split
  · exact (endUpdate_tickCounter _).trans (raise_tickCounter ..)
  · rfl

@[simp] theorem bridleCold_tickCounter (s : State) (keep : Option TicketRef) :
    (s.bridleCold keep).tickCounter = s.tickCounter := by
  simp only [State.bridleCold, withBridle_tickCounter, endUpdate_tickCounter]

@[simp] theorem stopGraph_tickCounter (s : State) : s.stopGraph.tickCounter = s.tickCounter := tickCounter_of_eqs rfl rfl

@[simp] theorem stopBanks_tickCounter (s : State) : s.stopBanks.tickCounter = s.tickCounter :=
  foldl_keeps State.tickCounter (fun s b => modBd_tickCounter s b _) _ s

/-- A cold restart by an event begins, and the count goes on (R15). -/
@[simp] theorem beginEventRestart_tickCounter (s : State) (cause : Nat) :
    (s.beginEventRestart cause).tickCounter = s.tickCounter := by
  simp only [State.beginEventRestart, withPower_tickCounter, withProg_tickCounter, stopBanks_tickCounter,
    stopGraph_tickCounter, bridleCold_tickCounter, closeSessionByEvent_tickCounter, loseFreeze_tickCounter,
    closeMinute_tickCounter]

/-! ### The effects of the commands -/

/-- TCXO is back: the counter goes on from where it stood (R15). -/
def State.resumeCount (s : State) (c : Nat) : State :=
  { s with tcxoStopped := none, tickBase := s.now - c * tcxoPeriod }

/-- A restart for the loss of TCXO stops the module (R15). -/
def State.stopForTcxo (s : State) : State :=
  (s.beginEventRestart 3).withPower (fun p => { p with phase := .stopping, phaseSince := s.now })

theorem stopForTcxo_tickCounter (s : State) : s.stopForTcxo.tickCounter = s.tickCounter :=
  (withPower_tickCounter ..).trans (beginEventRestart_tickCounter s 3)

theorem stopForTcxo_power (s : State) :
    s.stopForTcxo.power = { (s.beginEventRestart 3).power with phase := .stopping, phaseSince := s.now } :=
  withPower_power ..

section Restart

variable {t c vin : Nat} {failed : List Nat} {s : State}

/-- WARM_RESTART_READY of a reloading module (R202 steps 2 and 3). -/
theorem warmRestartReady_effect (hphase : s.power.phase = .reloading) :
    EffectIs (.warmRestartReady t) t s (s.at_ t).warmReady :=
  effectIs_of_run (Eq.refl (execWarmRestartReady t s)) (if_pos hphase)

/-- COLD_RESTART_RESET of a stopping module whose banks have waited (R202 step 4). -/
theorem coldRestartReset_effect (hphase : s.power.phase = .stopping) (hwaited : (s.at_ t).banksWaited = true) :
    EffectIs (.coldRestartReset t vin failed) t s ((s.at_ t).coldReset (s.at_ t).coldCause vin false failed none) :=
  effectIs_of_run (Eq.refl (execColdRestartReset t vin failed s)) (if_pos ⟨hphase, hwaited⟩)

/-- TCXO_RETURN in a phase that has a runtime or the farrier: a cold restart begins (R15). -/
theorem tcxoReturn_restarts (hlost : s.tcxoStopped = some c)
    (hphase : s.power.phase ∈ [.running, .enumerating, .reloading, .farrier, .stopping]) :
    EffectIs (.tcxoReturn t) t s ((s.at_ t).resumeCount c).stopForTcxo := by
  refine effectIs_of_run (Eq.refl (execTcxoReturn t s)) ?_
  simp only [List.mem_cons, List.not_mem_nil, or_false] at hphase
  rcases hphase with h | h | h | h | h <;> simp only [at_tcxoStopped, at_power, hlost, h] <;> rfl

/-- TCXO_RETURN in any other phase: the count alone goes on. -/
theorem tcxoReturn_counts (hlost : s.tcxoStopped = some c)
    (hphase : s.power.phase ∉ [.running, .enumerating, .reloading, .farrier, .stopping]) :
    EffectIs (.tcxoReturn t) t s ((s.at_ t).resumeCount c) := by
  refine effectIs_of_run (Eq.refl (execTcxoReturn t s)) ?_
  simp only [at_tcxoStopped, at_power, hlost]
  split
  case h_6 => rfl
  all_goals
    rename_i h
    simp [h] at hphase

theorem tcxoReturn_restarts_completes (hlost : s.tcxoStopped = some c)
    (hphase : s.power.phase ∈ [.running, .enumerating, .reloading, .farrier, .stopping]) :
    Completes (.tcxoReturn t) s (fun u => u.tcxoStopped = none ∧ u.tickBase = max s.now t - c * tcxoPeriod ∧
      u.power.phase = .stopping ∧ u.power.phaseSince = max s.now t) := by
  obtain ⟨hbase, hstopped⟩ := Prod.mk.inj (stopForTcxo_tickCounter ((s.at_ t).resumeCount c))
  refine completes_of_effect (tcxoReturn_restarts hlost hphase) ⟨?_, ?_, ?_, ?_⟩
  · exact (after_tcxoStopped ..).trans hstopped
  · exact (after_tickBase ..).trans hbase
  · rw [after_power, stopForTcxo_power]
  · rw [after_power, stopForTcxo_power]; rfl

theorem tcxoReturn_counts_completes (hlost : s.tcxoStopped = some c)
    (hphase : s.power.phase ∉ [.running, .enumerating, .reloading, .farrier, .stopping]) :
    Completes (.tcxoReturn t) s (fun u => u.tcxoStopped = none ∧ u.tickBase = max s.now t - c * tcxoPeriod ∧
      u.power = s.power) :=
  completes_of_effect (tcxoReturn_counts hlost hphase) ⟨rfl, rfl, rfl⟩

/-- ENUMERATION_WAIT_END once enumeration is over (R145, R202 step 6). -/
theorem enumerationWaitEnd_effect (hover : (s.at_ t).enumerationOver = true) : EffectIs (.enumerationWaitEnd t) t s
    (let v := (s.at_ t).withPower (fun p => { p with phase := .running, phaseSince := (s.at_ t).now })
     if s.wheeler then v else v.resumeCycles) := by
  refine effectIs_of_run (Eq.refl (execEnumerationWaitEnd t s)) (if_neg ?_)
  simp [hover]

end Restart

/-- Settles O13, command by command. -/
theorem restartCommands : Obligations.RestartCommands :=
  ⟨fun _ _ => warmRestartReady_effect, fun _ _ _ _ => coldRestartReset_effect,
    fun _ _ _ => tcxoReturn_restarts_completes, fun _ _ _ => tcxoReturn_counts_completes,
    fun _ _ => enumerationWaitEnd_effect⟩

end Sys2Proof.Machine

/-! PROOF.  HOLD_N (O5, O6) and the command table (O9): the frame of every meaning settles HOLD_N by its rule, and an
idle step changes nothing (R232, R485). -/

namespace Sys2Proof.Machine

open Sys2Proof

/-- Settles O5: an empty queue idles, and every command's meaning is a `State.run`, which settles HOLD_N last. -/
theorem stepKeepsHoldRule : Obligations.StepKeepsHoldRule := by
  intro s u hrule hstep
  cases hq : s.pending with
  | nil =>
    cases (step_idle hq).symm.trans hstep
    exact hrule
  | cons c rest =>
    obtain ⟨t, f, hrun⟩ := exec_runs c { s with pending := rest }
    have hfront : step s = exec c { s with pending := rest } := by unfold step; rw [hq]
    obtain ⟨-, -, hsettled⟩ := run_spec _ u t f (hrun.symm.trans (hfront.symm.trans hstep))
    exact hsettled

/-- After reset HOLD_N is high and not forced, and the empty queue is below the upper watermark. -/
theorem reset_hold : State.reset.holdForced = false ∧
    State.reset.bridle.hostIn.length < State.reset.p Pid.cmdHpHiWm ∧ State.reset.bridle.holdLow = false := by
  decide +kernel

/-- Settles O6. -/
theorem resetHoldRule : Obligations.ResetHoldRule := by
  obtain ⟨hfree, hbelow, hhigh⟩ := reset_hold
  unfold Obligations.ResetHoldRule State.HoldRule
  rw [hfree]
  exact ⟨fun hfull => absurd hbelow (Nat.not_lt.2 hfull), fun _ _ => hhigh⟩

/-- Settles O9: no row of the table has bits, so a word puts nothing before the queue (assumption 35). -/
theorem noWordSpellsACommand : Obligations.NoWordSpellsACommand := by
  intro nbits w s
  have hnone : decodeTableWord nbits w = none := rfl
  refine ⟨hnone, ?_⟩
  unfold State.withFetchWord
  rw [hnone]

end Sys2Proof.Machine

/-! PROOF.  Tickets (O59): RESULT reads its ticket, and an immediate command's first reply counts as its first read
(R244). -/

namespace Sys2Proof.Machine

open Sys2Proof

/-! ### Tickets of a session -/

theorem ticket_putTicket_same (k : Session) (t : Ticket) : (k.putTicket t).ticket t.number = some t := by
  have hnone : (k.tickets.filter (fun x => x.number != t.number)).find? (fun x => x.number == t.number) = none := by
    simp [List.find?_eq_none]
  simp [Session.ticket, Session.putTicket, List.find?_append, hnone]

theorem ticket_putTicket_other (k : Session) (t : Ticket) {n : Nat} (h : n ≠ t.number) :
    (k.putTicket t).ticket n = k.ticket n := by
  have hkept : (k.tickets.filter (fun x => x.number != t.number)).find? (fun x => x.number == n) =
      k.tickets.find? (fun x => x.number == n) := by
    rw [List.find?_filter]
    congr 1
    funext x
    by_cases hx : x.number = n <;> simp [hx, h]
  simp [Session.ticket, Session.putTicket, List.find?_append, hkept, Ne.symm h]

/-- Putting a ticket keeps every ticket open, and changes none of another number. -/
theorem ticket_putTicket_open (k : Session) (t x : Ticket) (n : Nat) (hx : k.ticket n = some x) :
    ∃ y, (k.putTicket t).ticket n = some y ∧ (n ≠ t.number → y = x) := by
  by_cases h : n = t.number
  · exact ⟨t, h ▸ ticket_putTicket_same k t, fun hne => absurd h hne⟩
  · exact ⟨x, (ticket_putTicket_other k t h).trans hx, fun _ => rfl⟩

/-! ### What RESULT answers -/

section Result

variable (t : Nat) (tr : Transport) (s : State)

theorem result_pending (tk : Ticket) : Answers (.result t tr) t s tr (.opcode 0x03) (fun _ => .immediate)
    (fun q a => q.payload.length = 0 ∧ (a.session q.session).bind (fun k => k.ticket q.ticket) = some tk ∧
      tk.result = none) (gives (fun _ _ => fail stPending)) := by
  refine answers_of_body (Eq.refl (execResult t tr s)) ?_
  rintro q a ⟨hlen, htk, hnone⟩
  rw [resultBody, withLength_of_length hlen]
  simp only [htk, hnone]
  rfl

theorem result_firstRead (tk : Ticket) (n : Nat) (r : Result) :
    Answers (.result t tr) t s tr (.opcode 0x03) (fun _ => .immediate)
    (fun q a => q.payload.length = 0 ∧ (a.session q.session).bind (fun k => k.ticket q.ticket) = some tk ∧
      tk.result = some (n, r) ∧ tk.readOnce = false)
    (fun q a => (.done r, a.modifySession q.session (fun k => k.putTicket ⟨tk.number, some (n, r), true⟩))) := by
  refine answers_of_body (Eq.refl (execResult t tr s)) ?_
  rintro q a ⟨hlen, htk, hres, hunread⟩
  rw [resultBody, withLength_of_length hlen]
  simp [htk, hres, hunread]

theorem result_readAgain (tk : Ticket) (n : Nat) (r : Result) :
    Answers (.result t tr) t s tr (.opcode 0x03) (fun _ => .immediate)
    (fun q a => q.payload.length = 0 ∧ (a.session q.session).bind (fun k => k.ticket q.ticket) = some tk ∧
      tk.result = some (n, r) ∧ tk.readOnce = true)
    (gives (fun _ _ => ⟨stRepeat, r.detail, r.words, r.status⟩)) := by
  refine answers_of_body (Eq.refl (execResult t tr s)) ?_
  rintro q a ⟨hlen, htk, hres, hread⟩
  rw [resultBody, withLength_of_length hlen]
  simp [htk, hres, hread, gives]

theorem result_gone : Answers (.result t tr) t s tr (.opcode 0x03) (fun _ => .immediate)
    (fun q a => q.payload.length = 0 ∧ (a.session q.session).bind (fun k => k.ticket q.ticket) = none)
    (gives (fun _ _ => fail stTicketGone)) := by
  refine answers_of_body (Eq.refl (execResult t tr s)) ?_
  rintro q a ⟨hlen, hnone⟩
  rw [resultBody, withLength_of_length hlen]
  simp only [hnone]
  rfl

end Result

/-- RESULT uses no ticket: it reads one (R243). -/
theorem usesTicket_result (p : Packet) (h : (headerOf p.data).opcode = 0x03) : p.usesTicket = false := by
  simp [Packet.usesTicket, h]

/-! ### A reply keeps its session's tickets -/

theorem session_modifySession_some {s : State} {i : Nat} {x : Session} {g : Session → Session}
    (hg : ∀ k, (g k).id = k.id) (hx : s.session i = some x) : (s.modifySession i g).session i = some (g x) := by
  rw [session_modifySession s i g hg, hx]; rfl

theorem keyUse_session (s : State) (o : KeyOp) (m i j : Nat) : (s.keyUse o m i).session j = s.session j :=
  session_of_bridle (congrArg BridleState.sessions (keyUse_bridle s o m i)) j

/-- Recording a reply leaves the session's tickets as they are. -/
theorem reply_session_tickets {u : State} {q : Request} {x : Session} (key : Option Nat) (crc : Word) (r : Result)
    (hx : u.session q.session = some x) :
    ∃ y, (u.reply q key crc r).session q.session = some y ∧ y.tickets = x.tickets := by
  refine ⟨x.record ⟨q.seq, q.opcode, q.ticket, crc, (fitReply q.limit r).payload, key.isSome⟩, ?_, rfl⟩
  exact (session_of_bridle (sendReply_sessions _ _ _) _).trans (session_modifySession_some (fun _ => rfl) hx)

/-- An immediate command's answer under a ticket leaves the ticket with that result and already read (R244). -/
theorem conclude_ticket (a : State) (r : Result) (tr : Transport) (p : Packet) (k x : Session)
    (huses : p.usesTicket = true) (hx : a.session (headerOf p.data).session = some x) :
    ∃ y, (a.conclude (.done r) tr p k).session (headerOf p.data).session = some y ∧
      y.ticket (headerOf p.data).ticket = some ⟨(headerOf p.data).ticket, some (a.now, r), true⟩ := by
  let tk : Ticket := ⟨(headerOf p.data).ticket, some (a.now, r), true⟩
  have hput : (a.modifySession (p.request k).session (fun k => k.putTicket tk)).session (p.request k).session =
      some (x.putTicket tk) := session_modifySession_some (fun _ => rfl) hx
  have hkeyed : ∀ b : Bool, ((if b then
      (a.modifySession (p.request k).session (fun k => k.putTicket tk)).keyUse .tagMake tr.master k.slot
      else a.modifySession (p.request k).session (fun k => k.putTicket tk)).session (p.request k).session) =
      some (x.putTicket tk) := by
    intro b
    cases b
    · exact hput
    · exact (keyUse_session ..).trans hput
  unfold State.conclude
  simp only [huses, if_true]
  obtain ⟨y, hy, htickets⟩ := reply_session_tickets (q := p.request k) _ _ r (hkeyed _)
  refine ⟨y, hy, ?_⟩
  rw [show y.ticket = (x.putTicket tk).ticket by unfold Session.ticket; rw [htickets]]
  exact ticket_putTicket_same x tk

/-- Settles O59. -/
theorem resultReadsItsTicket : Obligations.ResultReadsItsTicket :=
  ⟨result_pending, result_firstRead, result_readAgain, result_gone, ticket_putTicket_open, usesTicket_result,
    conclude_ticket⟩

end Sys2Proof.Machine

/-! PROOF.  The session opcodes (O19): SESSION_PROVE, SESSION_CLOSE, PING and SESSION_LIST (R237, R243, R247); RESULT
as for O59. -/

namespace Sys2Proof.Machine

open Sys2Proof

section SessionProve

variable (t : Nat) (tr : Transport) (s : State) (k : Session)

/-- SESSION_PROVE of a keyless session not yet proved: its proof decides, with no check of the vault (R237, R391). -/
theorem proveBody_keyless {q : Request} {a : State} (hlen : q.payload.length = 8)
    (hk : a.session q.session = some k) (hunproved : k.proved = false) (hslot : k.slot = 0xFF) :
    proveBody q a = if q.payload = k.proof (a.sessionSlotKey k.slot k.role) then
        (.done (ok), a.modifySession k.id (fun k => { k with proved := true }))
      else (.done (fail stAuth), (a.keyCount .prove 1 q.source.transport.master).proofFailed q.source.transport) := by
  rw [proveBody, withLength_of_length hlen]
  simp [hk, hunproved, hslot]

theorem sessionProve_proves : Answers (.sessionProve t tr) t s tr (.opcode 0x01) (fun _ => .immediate)
    (fun q a => a.session q.session = some k ∧ k.proved = false ∧ k.slot = 0xFF ∧ q.payload.length = 8 ∧
      q.payload = k.proof (a.sessionSlotKey k.slot k.role))
    (fun _ a => (.done (ok), a.modifySession k.id (fun k => { k with proved := true }))) := by
  refine answers_of_body (Eq.refl (execSessionProve t tr s)) ?_
  rintro q a ⟨hk, hunproved, hslot, hlen, hproof⟩
  exact (proveBody_keyless k hlen hk hunproved hslot).trans (if_pos hproof)

theorem sessionProve_fails : Answers (.sessionProve t tr) t s tr (.opcode 0x01) (fun _ => .immediate)
    (fun q a => a.session q.session = some k ∧ k.proved = false ∧ k.slot = 0xFF ∧ q.payload.length = 8 ∧
      q.payload ≠ k.proof (a.sessionSlotKey k.slot k.role))
    (fun q a => (.done (fail stAuth), (a.keyCount .prove 1 q.source.transport.master).proofFailed
      q.source.transport)) := by
  refine answers_of_body (Eq.refl (execSessionProve t tr s)) ?_
  rintro q a ⟨hk, hunproved, hslot, hlen, hproof⟩
  exact (proveBody_keyless k hlen hk hunproved hslot).trans (if_neg hproof)

theorem sessionProve_again : Answers (.sessionProve t tr) t s tr (.opcode 0x01) (fun _ => .immediate)
    (fun q a => a.session q.session = some k ∧ k.proved = true ∧ q.payload.length = 8)
    (gives (fun _ _ => fail stRefusedState 3)) := by
  refine answers_of_body (Eq.refl (execSessionProve t tr s)) ?_
  rintro q a ⟨hk, hproved, hlen⟩
  rw [proveBody, withLength_of_length hlen]
  simp only [hk]
  exact if_pos hproved

end SessionProve

section Ping

variable {t : Nat} {tr : Transport} {s : State} {hyp : Request → State → Prop}
  {ans : Request → State → Answer × State}

/-- A PING that was not sent to a broadcast address is answered as any opcode is (R247, R271). -/
theorem answers_unicastPing (hcast : ∀ q a, hyp q a → q.broadcast = false)
    (hbody : ∀ q a, hyp q a → pingBody q a = ans q a) :
    Answers (.ping t tr) t s tr (.opcode 0x04) (fun _ => .immediate) hyp ans := by
  intro p k gaps hacc hhyp
  have hunicast : ¬ (p.broadcast = true ∧ p.row = .opcode 0x04 ∧ (s.at_ t).awake = true ∧
      (s.at_ t).onTurn tr = true) := fun h => Bool.false_ne_true ((hcast _ _ hhyp).symm.trans h.1)
  refine effectIs_of_run (Eq.refl (execPing t tr s)) ?_
  simp only [hacc.front, if_neg hunicast]
  rw [State.onOpcode, onPacket_accepted hacc, hbody _ _ hhyp]

end Ping

/-- Settles O19, opcode by opcode. -/
theorem sessionOpcodes : Obligations.SessionOpcodes := by
  intro t tr s
  refine ⟨sessionProve_proves t tr s, sessionProve_fails t tr s, sessionProve_again t tr s, ?close,
    result_firstRead t tr s, result_readAgain t tr s, result_pending t tr s, result_gone t tr s, ?echo, ?tooLong,
    ?list⟩
  case close =>
    exact answers_of_body (Eq.refl (execSessionClose t tr s)) (fun _ _ hlen => withLength_of_length hlen _ _)
  case echo => exact answers_unicastPing (fun _ _ h => h.1) (fun _ _ h => if_neg (Nat.not_lt.2 h.2))
  case tooLong => exact answers_unicastPing (fun _ _ h => h.1) (fun _ _ h => if_pos h.2)
  case list => exact answers_of_body (Eq.refl (execSessionList t tr s)) (fun _ _ hlen => withLength_of_length hlen _ _)

end Sys2Proof.Machine

/-! PROOF.  The clock opcodes (O22): TIME_READ, TIME_SET, SCHED_READ and WAKE_SET (R247, R293, R300, R303). -/

namespace Sys2Proof.Machine

open Sys2Proof

/-! ### Fields of a word -/

/-- A word below `2 ^ lo` has no bit from `lo` up. -/
theorem bits_eq_zero_of_lt {w : Word} {hi lo : Nat} (h : w.toNat < 2 ^ lo) : bits w hi lo = 0 := by
  rw [bits, Nat.shiftRight_eq_div_pow, Nat.div_eq_of_lt h, Nat.zero_mod]

/-- A word below `2 ^ (hi + 1)` is its own lowest field. -/
theorem bits_low_of_lt {w : Word} {hi : Nat} (h : w.toNat < 2 ^ (hi + 1)) : bits w hi 0 = w.toNat := by
  rw [bits, Nat.shiftRight_zero, Nat.sub_zero, Nat.mod_eq_of_lt h]

section Clock

variable (t : Nat) (tr : Transport) (s : State)

/-- TIME_SET without a slew waits with its acceptance stamp (R293). -/
theorem timeSet_waits : Answers (.timeSet t tr) t s tr (.opcode 0x41) (fun _ => .deferred)
    (fun q a => q.payload.length = 4 ∧ 2 ≤ a.p Pid.timeQuality ∧ bits (nth q.payload 0) 31 16 = 0 ∧
      (nth q.payload 2).toNat < 1000000000 ∧ (nth q.payload 3).toNat = 0)
    (fun q a => (.later, a.withTime (fun k => { k with pendingSet := k.pendingSet ++
      [⟨a.count, bits (nth q.payload 0) 15 0 * 2 ^ 32 + (nth q.payload 1).toNat, (nth q.payload 2).toNat, false,
        q.ref⟩] }))) := by
  refine answers_of_body (Eq.refl (execTimeSet t tr s)) ?_
  rintro q a ⟨hlen, hquality, hspare, hns, hjump⟩
  have hspare3 : bits (nth q.payload 3) 31 1 = 0 := by simp [bits, hjump]
  have hstep : bit (nth q.payload 3) 0 = false := by simp [bit, hjump]
  rw [timeSetBody, withLength_of_length hlen]
  simp [Nat.not_le.2 hquality, hspare, Nat.not_le.2 hns, hspare3, hstep]

theorem timeSet_refused : Answers (.timeSet t tr) t s tr (.opcode 0x41) (fun _ => .deferred)
    (fun q a => q.payload.length = 4 ∧ a.p Pid.timeQuality ≤ 1) (gives (fun _ _ => fail stRefusedState)) := by
  refine answers_of_body (Eq.refl (execTimeSet t tr s)) ?_
  rintro q a ⟨hlen, hquality⟩
  rw [timeSetBody, withLength_of_length hlen]
  exact if_pos hquality

theorem schedRead_table : Answers (.schedRead t tr) t s tr (.opcode 0x43) (fun _ => .immediate)
    (fun q _ => q.payload.length = 1 ∧ (nth q.payload 0).toNat < 256)
    (gives (fun q a => ok (a.time.tables.get (nth q.payload 0).toNat))) := by
  refine answers_of_body (Eq.refl (execSchedRead t tr s)) ?_
  rintro q a ⟨hlen, htable⟩
  rw [schedReadBody, withLength_of_length hlen, if_neg (not_not.2 (bits_eq_zero_of_lt htable)), bits_low_of_lt htable]
  rfl

theorem wakeSet_starts : Answers (.wakeSet t tr) t s tr (.opcode 0x44) (fun _ => .immediate)
    (fun q _ => q.payload.length = 1 ∧ (nth q.payload 0).toNat ≤ 22118400)
    (fun q a => (.done (ok), (a.setP Pid.timeWakePeriod 0 (nth q.payload 0).toNat).startWakeTimer)) := by
  refine answers_of_body (Eq.refl (execWakeSet t tr s)) ?_
  rintro q a ⟨hlen, hrange⟩
  rw [wakeSetBody, withLength_of_length hlen]
  exact if_neg (Nat.not_lt.2 hrange)

theorem wakeSet_beyond : Answers (.wakeSet t tr) t s tr (.opcode 0x44) (fun _ => .immediate)
    (fun q _ => q.payload.length = 1 ∧ 22118400 < (nth q.payload 0).toNat) (gives (fun _ _ => fail stRange 0)) := by
  refine answers_of_body (Eq.refl (execWakeSet t tr s)) ?_
  rintro q a ⟨hlen, hrange⟩
  rw [wakeSetBody, withLength_of_length hlen]
  exact if_pos hrange

end Clock

/-- Settles O22, opcode by opcode. -/
theorem clockOpcodes : Obligations.ClockOpcodes := by
  intro t tr s
  refine ⟨?read, timeSet_waits t tr s, timeSet_refused t tr s, schedRead_table t tr s, wakeSet_starts t tr s,
    wakeSet_beyond t tr s⟩
  case read => exact answers_of_body (Eq.refl (execTimeRead t tr s)) (fun _ _ hlen => withLength_of_length hlen _ _)

end Sys2Proof.Machine

/-! PROOF.  The waybill opcodes (O23): WB_READ, WB_FREEZE, WB_CLEAR and WB_SNAPSET (R365, R369, R371, R372). -/

namespace Sys2Proof.Machine

open Sys2Proof

section Waybill

variable (t : Nat) (tr : Transport) (s : State)

theorem wbRead_records : Answers (.wbRead t tr) t s tr (.opcode 0x50) (fun _ => .immediate)
    (fun q _ => q.payload.length = 2 ∧ 0 < (nth q.payload 1).toNat ∧ (nth q.payload 1).toNat ≤ (q.limit - 1) / 40)
    (gives (fun q a => ok (((a.recordsFrom (nth q.payload 0).toNat).take (nth q.payload 1).toNat).flatMap
      (fun r => r.words)))) := by
  refine answers_of_body (Eq.refl (execWbRead t tr s)) ?_
  rintro q a ⟨hlen, hsome, hfits⟩
  rw [wbReadBody, withLength_of_length hlen]
  exact if_neg (by omega)

theorem wbFreeze_freezes : Answers (.wbFreeze t tr) t s tr (.opcode 0x51) (fun _ => .immediate)
    (fun q _ => q.payload.length = 1 ∧ nth q.payload 0 = 1)
    (fun _ a => (.done (ok [word a.waybill.staged.length]),
      { a with waybill := { a.waybill with frozenSince := some a.now } })) := by
  refine answers_of_body (Eq.refl (execWbFreeze t tr s)) ?_
  rintro q a ⟨hlen, hword⟩
  have hspare : bits (nth q.payload 0) 31 1 = 0 := by rw [hword]; decide
  have hfreeze : bit (nth q.payload 0) 0 = true := by rw [hword]; decide
  rw [wbFreezeBody, withLength_of_length hlen, if_neg (not_not.2 hspare)]
  exact if_pos hfreeze

/-- WB_FREEZE with 0 releases a freeze, and does nothing where there is none (R369). -/
theorem wbFreezeBody_zero {q : Request} {a : State} (hlen : q.payload.length = 1) (hword : nth q.payload 0 = 0) :
    wbFreezeBody q a = if a.waybill.frozenSince.isSome then
        (.done (ok [word a.waybill.staged.length]), a.releaseFreeze)
      else (.done (ok [0]), a) := by
  have hspare : bits (nth q.payload 0) 31 1 = 0 := by rw [hword]; decide
  have hrelease : ¬ bit (nth q.payload 0) 0 = true := by rw [hword]; decide
  rw [wbFreezeBody, withLength_of_length hlen, if_neg (not_not.2 hspare)]
  exact if_neg hrelease

theorem wbFreeze_releases : Answers (.wbFreeze t tr) t s tr (.opcode 0x51) (fun _ => .immediate)
    (fun q a => q.payload.length = 1 ∧ nth q.payload 0 = 0 ∧ a.waybill.frozenSince.isSome = true)
    (fun _ a => (.done (ok [word a.waybill.staged.length]), a.releaseFreeze)) :=
  answers_of_body (Eq.refl (execWbFreeze t tr s))
    (fun _ _ ⟨hlen, hword, hfrozen⟩ => (wbFreezeBody_zero hlen hword).trans (if_pos hfrozen))

theorem wbFreeze_notFrozen : Answers (.wbFreeze t tr) t s tr (.opcode 0x51) (fun _ => .immediate)
    (fun q a => q.payload.length = 1 ∧ nth q.payload 0 = 0 ∧ a.waybill.frozenSince = none)
    (gives (fun _ _ => ok [0])) :=
  answers_of_body (Eq.refl (execWbFreeze t tr s))
    (fun _ _ ⟨hlen, hword, hnone⟩ => (wbFreezeBody_zero hlen hword).trans (if_neg (by simp [hnone])))

theorem wbClear_clears : Answers (.wbClear t tr) t s tr (.opcode 0x52) (fun _ => .deferred)
    (fun q a => q.payload.length = 0 ∧ a.waybill.frozenSince = none ∧ a.storageUp = true)
    (fun q a =>
      let v := ({ a with waybill := { a.waybill with general := [], critical := [], hold := [] } } : State).bump
        Pid.wbClears
      let v := if v.d8On then v else (v.withPower (fun p => { p with flushing := true })).settleDomains
      (.later, (v.storeCleared (a.waybill.general.length + a.waybill.critical.length) q.session).storeWrite
        (.pslc 6 0) 1 (.result q.ref (ok [word (v.p Pid.wbNextIndex)])))) := by
  refine answers_of_body (Eq.refl (execWbClear t tr s)) ?_
  rintro q a ⟨hlen, hnone, hup⟩
  rw [wbClearBody, withLength_of_length hlen]
  exact if_neg (by simp [hnone, hup])

theorem wbClear_refused : Answers (.wbClear t tr) t s tr (.opcode 0x52) (fun _ => .deferred)
    (fun q a => q.payload.length = 0 ∧ (a.waybill.frozenSince.isSome = true ∨ a.storageUp = false))
    (gives (fun _ _ => fail stRefusedState)) := by
  refine answers_of_body (Eq.refl (execWbClear t tr s)) ?_
  rintro q a ⟨hlen, hrefuse⟩
  rw [wbClearBody, withLength_of_length hlen]
  exact if_pos (hrefuse.imp_right (fun hdown => by simp [hdown]))

theorem wbSnapset_written : Answers (.wbSnapset t tr) t s tr (.opcode 0x53) (fun _ => .immediate)
    (fun q _ => 1 ≤ q.payload.length ∧ q.payload.length ≤ 17 ∧ 1 ≤ (nth q.payload 0).toNat ∧
      (nth q.payload 0).toNat ≤ 63 ∧ ∀ w ∈ q.payload.drop 1, snapEntryOk w = true)
    (fun q a => (.done (ok), a.setElements Pid.wbSnapset ((nth q.payload 0).toNat * 16)
      (q.payload.drop 1 ++ List.replicate (17 - q.payload.length) 0xFFFFFFFF))) := by
  refine answers_of_body (Eq.refl (execWbSnapset t tr s)) ?_
  rintro q a ⟨hsome, hmost, hfirst, hlast, hgood⟩
  have hnone : (q.payload.drop 1).findIdx? (fun w => !snapEntryOk w) = none := by
    simpa [List.findIdx?_eq_none_iff] using hgood
  have hfill : 16 - (q.payload.drop 1).length = 17 - q.payload.length := by rw [List.length_drop]; omega
  unfold wbSnapsetBody
  dsimp only
  rw [if_neg (by simpa using List.ne_nil_of_length_pos hsome), if_neg (Nat.not_lt.2 hmost), if_neg (by omega), hnone,
    hfill]

theorem wbSnapset_beyond : Answers (.wbSnapset t tr) t s tr (.opcode 0x53) (fun _ => .immediate)
    (fun q _ => 1 ≤ q.payload.length ∧ q.payload.length ≤ 17 ∧ 63 < (nth q.payload 0).toNat)
    (gives (fun _ _ => fail stRange 0)) := by
  refine answers_of_body (Eq.refl (execWbSnapset t tr s)) ?_
  rintro q a ⟨hsome, hmost, hbeyond⟩
  unfold wbSnapsetBody
  dsimp only
  rw [if_neg (by simpa using List.ne_nil_of_length_pos hsome), if_neg (Nat.not_lt.2 hmost), if_pos (.inr hbeyond)]
  rfl

end Waybill

/-- Settles O23, opcode by opcode. -/
theorem waybillOpcodes : Obligations.WaybillOpcodes := fun t tr s =>
  ⟨wbRead_records t tr s, wbFreeze_freezes t tr s, wbFreeze_releases t tr s, wbFreeze_notFrozen t tr s,
    wbClear_clears t tr s, wbClear_refused t tr s, wbSnapset_written t tr s, wbSnapset_beyond t tr s⟩

end Sys2Proof.Machine

/-! PROOF.  The archive and the totals (O24): ARCHIVE_INFO, ARCHIVE_READ and METER_TOTALS (R77, R247, R352). -/

namespace Sys2Proof.Machine

open Sys2Proof

section Archive

variable (t : Nat) (tr : Transport) (s : State)

theorem archiveRead_block (b : MinuteBlock) : Answers (.archiveRead t tr) t s tr (.opcode 0x61) (fun _ => .deferred)
    (fun q a => q.payload.length = 3 ∧ bits (nth q.payload 0) 31 16 = 0 ∧ 0 < bits (nth q.payload 2) 15 0 ∧
      bits (nth q.payload 2) 31 16 + bits (nth q.payload 2) 15 0 ≤ 512 ∧ a.storageUp = true ∧
      chooseBlock (bits (nth q.payload 0) 15 0 * 2 ^ 32 + (nth q.payload 1).toNat) a.archivedBlocks = some b)
    (fun q a => (.later, a.finish q.ref (ok (b.header ++
      ((b.channels.drop (bits (nth q.payload 2) 31 16)).take (bits (nth q.payload 2) 15 0)).flatten)))) := by
  refine answers_of_body (Eq.refl (execArchiveRead t tr s)) ?_
  rintro q a ⟨hlen, hspare, hsome, hend, hup, hblock⟩
  rw [archiveReadBody, withLength_of_length hlen]
  dsimp only
  rw [if_neg (not_not.2 hspare), if_neg (by omega), if_neg (by simp [hup]), hblock]

theorem meterTotals_words : Answers (.meterTotals t tr) t s tr (.opcode 0x62) (fun _ => .immediate)
    (fun q _ => q.payload.length = 1 ∧ 0 < bits (nth q.payload 0) 15 0 ∧
      bits (nth q.payload 0) 31 16 + bits (nth q.payload 0) 15 0 ≤ 512)
    (gives (fun q a => ok ((List.range (bits (nth q.payload 0) 15 0)).flatMap (fun k =>
      [a.w Pid.meterTotalMwhHi (bits (nth q.payload 0) 31 16 + k),
       a.w Pid.meterTotalMwhLo (bits (nth q.payload 0) 31 16 + k)])))) := by
  refine answers_of_body (Eq.refl (execMeterTotals t tr s)) ?_
  rintro q a ⟨hlen, hsome, hend⟩
  rw [meterTotalsBody, withLength_of_length hlen]
  exact if_neg (by omega)

theorem meterTotals_beyond : Answers (.meterTotals t tr) t s tr (.opcode 0x62) (fun _ => .immediate)
    (fun q _ => q.payload.length = 1 ∧ 512 < bits (nth q.payload 0) 31 16 + bits (nth q.payload 0) 15 0)
    (gives (fun _ _ => fail stRange 0)) := by
  refine answers_of_body (Eq.refl (execMeterTotals t tr s)) ?_
  rintro q a ⟨hlen, hbeyond⟩
  rw [meterTotalsBody, withLength_of_length hlen]
  exact if_pos (.inr hbeyond)

end Archive

/-- Settles O24, opcode by opcode. -/
theorem archiveAndMeterOpcodes : Obligations.ArchiveAndMeterOpcodes := by
  intro t tr s
  refine ⟨?info, fun b => archiveRead_block t tr s b, meterTotals_words t tr s, meterTotals_beyond t tr s⟩
  case info => exact answers_of_body (Eq.refl (execArchiveInfo t tr s)) (fun _ _ hlen => withLength_of_length hlen _ _)

end Sys2Proof.Machine

/-! PROOF.  The relay opcodes (O25): RELAY_NODES, RELAY_PERMIT and RELAY_EVICT (R247, R325, R326; when the result of
RELAY_EVICT comes, assumption 105). -/

namespace Sys2Proof.Machine

open Sys2Proof

section Relay

variable (t : Nat) (tr : Transport) (s : State)

theorem relayNodes_words : Answers (.relayNodes t tr) t s tr (.opcode 0x70) (fun _ => .immediate)
    (fun q _ => q.payload.length = 1 ∧ 0 < bits (nth q.payload 0) 15 0 ∧
      bits (nth q.payload 0) 31 16 + bits (nth q.payload 0) 15 0 ≤ 1024)
    (gives (fun q a => ok ((List.range (bits (nth q.payload 0) 15 0)).flatMap (fun k =>
      [word ((0x100 + (bits (nth q.payload 0) 31 16 + k)) * 65536 +
         a.p Pid.relayNodeKind (bits (nth q.payload 0) 31 16 + k) * 256 +
         a.p Pid.relayNodeState (bits (nth q.payload 0) 31 16 + k)),
       word (a.nodeAgeMs (bits (nth q.payload 0) 31 16 + k))])))) := by
  refine answers_of_body (Eq.refl (execRelayNodes t tr s)) ?_
  rintro q a ⟨hlen, hsome, hend⟩
  rw [relayNodesBody, withLength_of_length hlen]
  exact if_neg (by omega)

/-- RELAY_PERMIT of up to an hour sets the end of the joining window (R325). -/
theorem relayPermitBody_inRange {q : Request} {a : State} (hlen : q.payload.length = 1)
    (hrange : (nth q.payload 0).toNat ≤ 3600) :
    relayPermitBody q a = (.done (ok), a.withRelay (fun r => { r with
      permitUntil :=
        if (nth q.payload 0).toNat = 0 then none else some (a.now + (nth q.payload 0).toNat * sec) })) := by
  rw [relayPermitBody, withLength_of_length hlen]
  exact if_neg (Nat.not_lt.2 hrange)

theorem relayPermit_opens : Answers (.relayPermit t tr) t s tr (.opcode 0x71) (fun _ => .immediate)
    (fun q _ => q.payload.length = 1 ∧ 0 < (nth q.payload 0).toNat ∧ (nth q.payload 0).toNat ≤ 3600)
    (fun q a => (.done (ok), a.withRelay (fun r => { r with
      permitUntil := some (a.now + (nth q.payload 0).toNat * sec) }))) := by
  refine answers_of_body (Eq.refl (execRelayPermit t tr s)) ?_
  rintro q a ⟨hlen, hsome, hrange⟩
  simp only [relayPermitBody_inRange hlen hrange, if_neg (Nat.ne_of_gt hsome)]

theorem relayPermit_closes : Answers (.relayPermit t tr) t s tr (.opcode 0x71) (fun _ => .immediate)
    (fun q _ => q.payload.length = 1 ∧ nth q.payload 0 = 0)
    (fun _ a => (.done (ok), a.withRelay (fun r => { r with permitUntil := none }))) := by
  refine answers_of_body (Eq.refl (execRelayPermit t tr s)) ?_
  rintro q a ⟨hlen, hnone⟩
  have hzero : (nth q.payload 0).toNat = 0 := by rw [hnone]; rfl
  simp only [relayPermitBody_inRange hlen (hzero.trans_le (Nat.zero_le _)), if_pos hzero]

theorem relayPermit_beyond : Answers (.relayPermit t tr) t s tr (.opcode 0x71) (fun _ => .immediate)
    (fun q _ => q.payload.length = 1 ∧ 3600 < (nth q.payload 0).toNat) (gives (fun _ _ => fail stRange 0)) := by
  refine answers_of_body (Eq.refl (execRelayPermit t tr s)) ?_
  rintro q a ⟨hlen, hbeyond⟩
  rw [relayPermitBody, withLength_of_length hlen]
  exact if_pos hbeyond

/-- RELAY_EVICT names a held node: it is not out of range (R326). -/
theorem evict_inRange {a : State} {n : Nat} (hnode : n < 1024) (hheld : a.contextHeld n = true) :
    ¬ (1023 < n ∨ (!a.contextHeld n) = true) := by
  rw [hheld]
  rintro (h | h)
  · omega
  · cases h

theorem relayEvict_silent : Answers (.relayEvict t tr) t s tr (.opcode 0x72) (fun _ => .deferred)
    (fun q a => q.payload.length = 1 ∧ (nth q.payload 0).toNat < 1024 ∧
      a.contextHeld (nth q.payload 0).toNat = true ∧ a.relaySends = false)
    (fun q a => (.later, (a.withRelay (fun r => { r with
      evicting := r.evicting ++ [((nth q.payload 0).toNat, q.ref)] })).evicted (nth q.payload 0).toNat)) := by
  refine answers_of_body (Eq.refl (execRelayEvict t tr s)) ?_
  rintro q a ⟨hlen, hnode, hheld, hsilent⟩
  rw [relayEvictBody, withLength_of_length hlen]
  exact (if_neg (evict_inRange hnode hheld)).trans (if_pos (by simp [hsilent]))

/-- The notice goes with one already asked for, or by the node's downlink cell. -/
theorem relayEvict_byCell : Answers (.relayEvict t tr) t s tr (.opcode 0x72) (fun _ => .deferred)
    (fun q a => q.payload.length = 1 ∧ (nth q.payload 0).toNat < 1024 ∧
      a.contextHeld (nth q.payload 0).toNat = true ∧ a.relaySends = true ∧
      (a.relay.evicting.any (fun x => x.1 == (nth q.payload 0).toNat) = true ∨
        ((a.cellOf (nth q.payload 0).toNat).flood = false ∧ (a.cellOf (nth q.payload 0).toNat).down ≠ 0)))
    (fun q a => (.later, a.withRelay (fun r => { r with
      evicting := r.evicting ++ [((nth q.payload 0).toNat, q.ref)] }))) := by
  refine answers_of_body (Eq.refl (execRelayEvict t tr s)) ?_
  rintro q a ⟨hlen, hnode, hheld, hsends, hcell⟩
  rw [relayEvictBody, withLength_of_length hlen]
  refine (if_neg (evict_inRange hnode hheld)).trans ((if_neg (by simp [hsends])).trans (if_pos ?_))
  exact hcell.imp_right (fun ⟨hflood, hdown⟩ => by simp [hflood, hdown])

/-- A node without a downlink cell is told in a shared slot. -/
theorem relayEvict_shared : Answers (.relayEvict t tr) t s tr (.opcode 0x72) (fun _ => .deferred)
    (fun q a => q.payload.length = 1 ∧ (nth q.payload 0).toNat < 1024 ∧
      a.contextHeld (nth q.payload 0).toNat = true ∧ a.relaySends = true ∧
      a.relay.evicting.any (fun x => x.1 == (nth q.payload 0).toNat) = false ∧
      ((a.cellOf (nth q.payload 0).toNat).flood = true ∨ (a.cellOf (nth q.payload 0).toNat).down = 0))
    (fun q a => (.later, (a.withRelay (fun r => { r with
      evicting := r.evicting ++ [((nth q.payload 0).toNat, q.ref)] })).queueShared (0x100 + (nth q.payload 0).toNat) 7
      [0] true none)) := by
  refine answers_of_body (Eq.refl (execRelayEvict t tr s)) ?_
  rintro q a ⟨hlen, hnode, hheld, hsends, hfirst, hshared⟩
  rw [relayEvictBody, withLength_of_length hlen]
  refine (if_neg (evict_inRange hnode hheld)).trans ((if_neg (by simp [hsends])).trans (if_neg ?_))
  rw [hfirst]
  rcases hshared with h | h <;> simp [h]

theorem relayEvict_notHeld : Answers (.relayEvict t tr) t s tr (.opcode 0x72) (fun _ => .deferred)
    (fun q a => q.payload.length = 1 ∧ a.contextHeld (nth q.payload 0).toNat = false)
    (gives (fun _ _ => fail stRange 0)) := by
  refine answers_of_body (Eq.refl (execRelayEvict t tr s)) ?_
  rintro q a ⟨hlen, hfree⟩
  rw [relayEvictBody, withLength_of_length hlen]
  exact if_pos (.inr (by simp [hfree]))

end Relay

/-- Settles O25, opcode by opcode. -/
theorem relayOpcodes : Obligations.RelayOpcodes := fun t tr s =>
  ⟨relayNodes_words t tr s, relayPermit_opens t tr s, relayPermit_closes t tr s, relayPermit_beyond t tr s,
    relayEvict_silent t tr s, relayEvict_byCell t tr s, relayEvict_shared t tr s, relayEvict_notHeld t tr s⟩

end Sys2Proof.Machine

/-! PROOF.  The update opcodes (O27): UPD_OPEN, UPD_DATA, UPD_COMMIT, UPD_ABORT and UPD_STATUS (R402 to R408; while the
staging is erased, assumption 68). -/

namespace Sys2Proof.Machine

open Sys2Proof

/-- A command of the session that holds the update is heard (R404). -/
theorem ofHolder_holder {q : Request} {a : State} (f : Body) (hholder : a.p Pid.updHolder = q.session)
    (hheld : a.p Pid.updHolder ≠ 0) : ofHolder f q a = f q a :=
  if_neg (by rintro (h | h); exacts [hheld h, h hholder])

section Update

variable (t : Nat) (tr : Transport) (s : State)

/-- UPD_OPEN where no condition of R403 stands against it: the session holds the update and the erase begins. -/
theorem updOpen_opens : Answers (.updOpen t tr) t s tr (.opcode 0x90) (fun _ => .deferred)
    (fun q a => q.payload.length = 9 ∧ a.p Pid.updHolder = 0 ∧ a.p Pid.updState = 0 ∧ a.farrier = false ∧
      a.wheeler = false ∧ (∀ b : Nat, b < 16 → a.rung1 b = false) ∧ a.shed < 2 ∧ a.switchingOver = false ∧
      a.pB Pid.sysOwnerLock = false ∧ a.slotState 3 = 1 ∧ a.storageUp = true ∧ 82 ≤ (nth q.payload 8).toNat ∧
      (nth q.payload 8).toNat ≤ 16777216)
    (fun q a =>
      let v := (a.setP Pid.updHolder 0 q.session).setP Pid.updSource 0 q.source.transport.index
      let v := v.setRun Pid.updDigest 0 ((q.payload.take 8).map BitVec.toNat)
      let v := (v.setP Pid.updSizeWords 0 (nth q.payload 8).toNat).setP Pid.updWordsRx 0 0
      let v := v.updCount 0 (v.updPath q.source.transport)
      (.later, { v with update :=
        { v.update with
          staging := [], opening := some (q.ref, v.now), committing := none, holderGone := false
          untagged := v.untaggedSession q, lastData := v.now } })) := by
  refine answers_of_body (Eq.refl (execUpdOpen t tr s)) ?_
  rintro q a ⟨hlen, hholder, hstate, hrom, hlead, hrung1, hshed, hover, hlock, hkey, hup, hmin, hmax⟩
  have hlit : (List.range 16).any a.rung1 = false := by simpa using hrung1
  rw [updOpenBody, withLength_of_length hlen]
  dsimp only
  rw [if_neg (by simp [hholder, hstate]), if_neg (by simp [hlead]), if_neg (by simp [hlit]),
    if_neg (by omega), if_neg (by simp [hover]), if_neg (by simp [hlock]), if_neg (by simp [hkey]),
    if_neg (by simp [hup]), if_neg (by omega)]

theorem updOpen_busy : Answers (.updOpen t tr) t s tr (.opcode 0x90) (fun _ => .deferred)
    (fun q a => q.payload.length = 9 ∧ (a.p Pid.updHolder ≠ 0 ∨ a.p Pid.updState ≠ 0))
    (fun q a => a.refuseOpen q (some 1) stBusy (a.p Pid.updSource * 4096 + a.p Pid.updDigest 0 / 2 ^ 20)) := by
  refine answers_of_body (Eq.refl (execUpdOpen t tr s)) ?_
  rintro q a ⟨hlen, hbusy⟩
  rw [updOpenBody, withLength_of_length hlen]
  exact if_pos hbusy

theorem updData_adds : Answers (.updData t tr) t s tr (.opcode 0x91) (fun _ => .immediate)
    (fun q a => a.p Pid.updHolder = q.session ∧ a.p Pid.updHolder ≠ 0 ∧ a.p Pid.updState = 1 ∧
      1 ≤ q.payload.length ∧ (nth q.payload 0).toNat = a.p Pid.updWordsRx ∧
      a.p Pid.updWordsRx + (q.payload.length - 1) ≤ a.p Pid.updSizeWords)
    (fun q a =>
      let v := (a.setP Pid.updWordsRx 0 ((nth q.payload 0).toNat + (q.payload.length - 1))).updCount 8
        (a.updPath q.source.transport)
      let v := { v with update := { v.update with staging := v.update.staging ++ q.payload.drop 1, lastData := v.now } }
      (.done (ok), v.storeWrite (.pslc 2 ((nth q.payload 0).toNat / 1048576)) (divUp (q.payload.length - 1) 256)
        .nothing)) := by
  refine answers_of_body (Eq.refl (execUpdData t tr s)) ?_
  rintro q a ⟨hholder, hheld, hstate, hsome, hnext, hfits⟩
  have hgood : ¬ (q.payload.isEmpty = true ∨ (nth q.payload 0).toNat ≠ a.p Pid.updWordsRx ∨
      a.p Pid.updSizeWords < (nth q.payload 0).toNat + (q.payload.length - 1)) := by
    have hne := List.ne_nil_of_length_pos hsome
    rw [hnext, List.isEmpty_iff]
    rintro (h | h | h)
    · exact hne h
    · exact h rfl
    · omega
  rw [updDataBody, ofHolder_holder _ hholder hheld]
  dsimp only
  rw [if_neg (not_not.2 hstate), List.length_drop, if_neg hgood]

theorem updData_notOpen : Answers (.updData t tr) t s tr (.opcode 0x91) (fun _ => .immediate)
    (fun q a => a.p Pid.updHolder = q.session ∧ a.p Pid.updHolder ≠ 0 ∧ a.p Pid.updState ≠ 1)
    (gives (fun _ _ => fail stRefusedState 10)) := by
  refine answers_of_body (Eq.refl (execUpdData t tr s)) ?_
  rintro q a ⟨hholder, hheld, hstate⟩
  rw [updDataBody, ofHolder_holder _ hholder hheld]
  exact if_pos hstate

theorem updCommit_checks : Answers (.updCommit t tr) t s tr (.opcode 0x92) (fun _ => .deferred)
    (fun q a => q.payload.length = 8 ∧ a.p Pid.updHolder = q.session ∧ a.p Pid.updHolder ≠ 0 ∧
      a.p Pid.updState = 1)
    (fun q a =>
      let v := (a.setP Pid.updState 0 2).updCount 10 (a.updPath q.source.transport)
      (.later, { v with update := { v.update with committing := some (q.ref, q.payload) } })) := by
  refine answers_of_body (Eq.refl (execUpdCommit t tr s)) ?_
  rintro q a ⟨hlen, hholder, hheld, hstate⟩
  rw [updCommitBody, withLength_of_length hlen, ofHolder_holder _ hholder hheld]
  exact if_neg (not_not.2 hstate)

theorem updAbort_aborts : Answers (.updAbort t tr) t s tr (.opcode 0x93) (fun _ => .immediate)
    (fun q a => q.payload.length = 0 ∧ a.p Pid.updHolder = q.session ∧ a.p Pid.updHolder ≠ 0 ∧
      a.p Pid.updState ≠ 2 ∧ a.update.opening = none)
    (fun _ a => (.done (ok), a.abortUpdate)) := by
  refine answers_of_body (Eq.refl (execUpdAbort t tr s)) ?_
  rintro q a ⟨hlen, hholder, hheld, hstate, hopen⟩
  rw [updAbortBody, withLength_of_length hlen, ofHolder_holder _ hholder hheld]
  exact if_neg (by simp [hstate, hopen])

theorem updAbort_committing : Answers (.updAbort t tr) t s tr (.opcode 0x93) (fun _ => .immediate)
    (fun q a => q.payload.length = 0 ∧ a.p Pid.updHolder = q.session ∧ a.p Pid.updHolder ≠ 0 ∧
      a.p Pid.updState = 2)
    (gives (fun _ _ => fail stRefusedState 11)) := by
  refine answers_of_body (Eq.refl (execUpdAbort t tr s)) ?_
  rintro q a ⟨hlen, hholder, hheld, hstate⟩
  rw [updAbortBody, withLength_of_length hlen, ofHolder_holder _ hholder hheld]
  exact if_pos (.inl hstate)

end Update

/-- Settles O27, opcode by opcode. -/
theorem updateOpcodes : Obligations.UpdateOpcodes := by
  intro t tr s
  refine ⟨updOpen_opens t tr s, updOpen_busy t tr s, updData_adds t tr s, updData_notOpen t tr s,
    updCommit_checks t tr s, updAbort_aborts t tr s, updAbort_committing t tr s, ?status⟩
  case status => exact answers_of_body (Eq.refl (execUpdStatus t tr s)) (fun _ _ hlen => withLength_of_length hlen _ _)

end Sys2Proof.Machine

/-! PROOF.  The power, tandem and test reading opcodes (O28): POWER_TOLERANCE, POWER_STATUS, TANDEM_STATUS and TEST_READ
(R247, R439, R454, R475). -/

namespace Sys2Proof.Machine

open Sys2Proof

section TestRead

variable (t : Nat) (tr : Transport) (s : State)

theorem testRead_counts (l : Nat) : Answers (.testRead t tr) t s tr (.opcode 0xC1) (fun _ => .immediate)
    (fun q _ => q.payload.length = 1 ∧ linkOf (nth q.payload 0) = some l)
    (fun _ a => (.done (ok ((a.creditSent l).linkCounts l)), a.creditSent l)) := by
  refine answers_of_body (Eq.refl (execTestRead t tr s)) ?_
  rintro q a ⟨hlen, hlink⟩
  rw [testReadBody, withLength_of_length hlen]
  simp only [hlink]

theorem testRead_noLink : Answers (.testRead t tr) t s tr (.opcode 0xC1) (fun _ => .immediate)
    (fun q _ => q.payload.length = 1 ∧ linkOf (nth q.payload 0) = none) (gives (fun _ _ => fail stRange 0)) := by
  refine answers_of_body (Eq.refl (execTestRead t tr s)) ?_
  rintro q a ⟨hlen, hlink⟩
  rw [testReadBody, withLength_of_length hlen]
  simp only [hlink]
  rfl

end TestRead

/-- Settles O28: each of the first three hands a payload of its length to its effect. -/
theorem powerTandemAndTestOpcodes : Obligations.PowerTandemAndTestOpcodes := by
  intro t tr s
  refine ⟨?tolerance, ?status, ?tandem, testRead_counts t tr s, testRead_noLink t tr s⟩
  case tolerance =>
    exact answers_of_body (Eq.refl (execPowerTolerance t tr s)) (fun _ _ hlen => withLength_of_length hlen _ _)
  case status =>
    exact answers_of_body (Eq.refl (execPowerStatus t tr s)) (fun _ _ hlen => withLength_of_length hlen _ _)
  case tandem =>
    exact answers_of_body (Eq.refl (execTandemStatus t tr s)) (fun _ _ hlen => withLength_of_length hlen _ _)

end Sys2Proof.Machine

/-! PROOF.  Transactions of the host port (O40): SPI_NOP, SPI_WRITE and SPI_READ (R228 to R230). -/

namespace Sys2Proof.Machine

open Sys2Proof

/-! ### Counters and the ports of D1 -/

/-- Elements are read from the parameter store alone. -/
theorem w_of_params {u v : State} (h : u.params = v.params) (id e : Nat) : u.w id e = v.w id e := by
  unfold State.w; rw [h]

/-- A counter that wraps, as a number. -/
theorem p_bump_same (s : State) (id e n : Nat) : (s.bump id e n).p id e = (s.p id e + n) % 2 ^ 32 := by
  unfold State.p
  rw [w_bump_same, BitVec.toNat_add, word, BitVec.toNat_ofNat, Nat.add_mod_mod]

theorem p_bump_other (s : State) {id e jd d : Nat} (h : paramKey jd d ≠ paramKey id e) (n : Nat) :
    (s.bump id e n).p jd d = s.p jd d := congrArg BitVec.toNat (w_bump_other s h n)

section Port

variable {c : Instr} {t : Nat} {s v : State} {f : State → State}

/-- A port of D1 answers while D1 is powered (R448). -/
theorem effectIs_of_runPort (hc : exec c s = s.runPort t f) (hon : s.domainOn 1 = true) (hv : f (s.at_ t) = v) :
    EffectIs c t s v := effectIs_of_run hc ((if_pos hon).trans hv)

/-- With D1 off no transaction does anything (R448). -/
theorem effectIs_of_runPort_off (hc : exec c s = s.runPort t f) (hoff : s.domainOn 1 = false) :
    EffectIs c t s (s.at_ t) := effectIs_of_run hc (if_neg (ne_true_of_eq_false hoff))

end Port

/-- A wake request is no part of the command interface. -/
@[simp] theorem wakeOnPacket_bridle (s : State) (n : Nat) : (s.wakeOnPacket n).bridle = s.bridle := by
  unfold State.wakeOnPacket; split <;> rfl

@[simp] theorem wakeOnPacket_params (s : State) (n : Nat) : (s.wakeOnPacket n).params = s.params := by
  unfold State.wakeOnPacket; split <;> rfl

/-- Settling HOLD_N after a command changes nothing else of the command interface. -/
theorem after_bridle (s : State) (t : Nat) (v : State) : (s.after_ t (fun _ => v)).bridle =
    { v.bridle with holdLow := (s.after_ t (fun _ => v)).bridle.holdLow } := rfl

theorem w_withBridle (s : State) (b : BridleState) (id e : Nat) :
    ({ s with bridle := b } : State).w id e = s.w id e := rfl

/-- A host-port transaction shifts out a status word, whatever its value (R228). -/
def State.shifting (s : State) (status : Word) : State :=
  { s with bridle := { s.bridle with spiStatus := status, spiRead := [] } }

theorem spiBegin_eq (s : State) : s.spiBegin = s.shifting s.hostStatus := rfl

@[simp] theorem shifting_w (s : State) (status : Word) (id e : Nat) : (s.shifting status).w id e = s.w id e := rfl

@[simp] theorem shifting_p (s : State) (status : Word) (id e : Nat) : (s.shifting status).p id e = s.p id e := rfl

theorem word_one : word 1 = 1 := rfl

/-! ### SPI_NOP -/

/-- SPI_NOP counts an octet that is no command, and does nothing else but shift the status word out (R228). -/
theorem spiNop_effect (t octet : Nat) (s : State) : EffectIs (.spiNop t octet) t s
    (if s.domainOn 1 then
      (if octet ∈ [0x00, 0x01, 0x02, 0x04, 0x05] then (s.at_ t).spiBegin else (s.at_ t).spiBegin.bump Pid.cmdHpBadCmd)
     else s.at_ t) := effectIs_of_run (Eq.refl (execSpiNop t octet s)) rfl

section Shifting

variable {c : Instr} {t : Nat} {s : State} {status : Word}

/-- A transaction without words shifts the status word out and changes nothing else. -/
theorem shifting_completes (heffect : EffectIs c t s ((s.at_ t).shifting status)) :
    Completes c s (fun u => u.bridle.spiStatus = status ∧ u.params = s.params ∧
      u.bridle.hostIn = s.bridle.hostIn ∧ u.bridle.hostOut = s.bridle.hostOut) := by
  refine completes_of_effect heffect ?_
  rw [after_bridle, after_params]
  exact ⟨rfl, rfl, rfl, rfl⟩

/-- An octet that is no command is counted (R228). -/
theorem shifting_badOctet (heffect : EffectIs c t s (((s.at_ t).shifting status).bump Pid.cmdHpBadCmd)) :
    Completes c s (fun u => u.w Pid.cmdHpBadCmd 0 = s.w Pid.cmdHpBadCmd 0 + 1) := by
  refine completes_of_effect heffect ?_
  rw [after_w, w_bump_same, shifting_w, at_w, word_one]

end Shifting

/-! ### SPI_WRITE -/

/-- The words with the first one poisoned, if told (R228). -/
def poisonFirst (told : Bool) (ws : List QueuedWord) : List QueuedWord :=
  match ws with
  | w :: rest => if told then { w with poison := true } :: rest else ws
  | [] => []

@[simp] theorem poisonFirst_false (ws : List QueuedWord) : poisonFirst false ws = ws := by cases ws <;> rfl

/-- The poison tag does not hold a word from a draining queue's discard. -/
theorem foldl_push_poisonFirst {q : PortQueue} (hdrain : q.drain = true) (told : Bool) (ws : List QueuedWord) :
    (poisonFirst told ws).foldl PortQueue.push q = ws.foldl PortQueue.push q := by
  cases ws with
  | nil => rfl
  | cons w rest => cases told <;> simp [poisonFirst, PortQueue.push, hdrain]

/-- The words that a write brings to the input stage (R228, R229). -/
def State.arriving (s : State) (count : Nat) (words : List (BitVec 40)) : List QueuedWord :=
  poisonFirst s.bridle.hostPoisonNext ((words.take count).map hostWord)

/-- The inbound queue after the input stage has taken a write (R233 to R235). -/
def State.writtenQueue (s : State) (count : Nat) (words : List (BitVec 40)) : PortQueue :=
  (s.arriving count words).foldl PortQueue.push s.hostQueue

/-- HP_CS_N rose inside a word of the count (R228). -/
def writeCut (count : Nat) (words : List (BitVec 40)) (cut : Bool) : Bool := cut && decide (words.length < count)

/-- What SPI_WRITE brings about, once the status word is shifted out. -/
def State.spiWritten (s : State) (count : Nat) (words : List (BitVec 40)) (cut : Bool) : State :=
  let v := s.putHostQueue (s.writtenQueue count words)
  let v := if writeCut count words cut then v.bump Pid.cmdHpPartial else v
  ({ v with bridle := { v.bridle with
      hostPoisonNext := (s.bridle.hostPoisonNext && (s.arriving count words).isEmpty) || writeCut count words cut } }
    ).wakeOnPacket (packetCount s.bridle.hostIn + packetCount s.bridle.serviceIn)

section SpiWrite

variable (t count : Nat) (words : List (BitVec 40)) (cut : Bool) (s : State)

theorem spiWrite_effect (hon : s.domainOn 1 = true) :
    EffectIs (.spiWrite t count words cut) t s
      (((s.at_ t).shifting (s.at_ t).hostStatus).spiWritten count words cut) := by
  refine effectIs_of_runPort (Eq.refl (execSpiWrite t count words cut s)) hon ?_
  rw [spiBegin_eq]
  rfl

/-- Of the command interface, a write changes the host port's inbound side alone. -/
theorem spiWritten_bridle : (s.spiWritten count words cut).bridle = { s.bridle with
    hostIn := (s.writtenQueue count words).words
    hostInDrain := (s.writtenQueue count words).drain
    hostPoisonNext := (s.bridle.hostPoisonNext && (s.arriving count words).isEmpty) || writeCut count words cut } := by
  unfold State.spiWritten State.putHostQueue
  simp only [wakeOnPacket_bridle]
  split <;> simp

/-- The input stage counts the words drained and lost (R233, R234). -/
theorem putHostQueue_w (s : State) (q : PortQueue) (id e : Nat) : (s.putHostQueue q).w id e =
    ((s.bump Pid.cmdHpDrainedIn 0 q.drained).bump Pid.cmdHpOverflow 0 q.overflow).w id e := rfl

/-- Besides, a write cut short inside a word is counted (R228). -/
theorem spiWritten_w (id e : Nat) : (s.spiWritten count words cut).w id e =
    (let v := s.putHostQueue (s.writtenQueue count words)
     if writeCut count words cut then v.bump Pid.cmdHpPartial else v).w id e := by
  apply w_of_params
  unfold State.spiWritten
  rw [wakeOnPacket_params]

theorem spiWritten_partial : (s.spiWritten count words cut).w Pid.cmdHpPartial 0 =
    s.w Pid.cmdHpPartial 0 + (if writeCut count words cut then 1 else 0) := by
  have hput : (s.putHostQueue (s.writtenQueue count words)).w Pid.cmdHpPartial 0 = s.w Pid.cmdHpPartial 0 := by
    rw [putHostQueue_w, w_bump_other _ (by decide), w_bump_other _ (by decide)]
  rw [spiWritten_w]
  dsimp only
  split
  · rw [w_bump_same, hput, word_one]
  · rw [hput]; simp

theorem spiWritten_drained : (s.spiWritten count words cut).p Pid.cmdHpDrainedIn =
    (s.p Pid.cmdHpDrainedIn + (s.writtenQueue count words).drained) % 2 ^ 32 := by
  have hput : (s.putHostQueue (s.writtenQueue count words)).w Pid.cmdHpDrainedIn 0 =
      (s.bump Pid.cmdHpDrainedIn 0 (s.writtenQueue count words).drained).w Pid.cmdHpDrainedIn 0 := by
    rw [putHostQueue_w, w_bump_other _ (by decide)]
  have hcount : (s.spiWritten count words cut).w Pid.cmdHpDrainedIn 0 =
      (s.bump Pid.cmdHpDrainedIn 0 (s.writtenQueue count words).drained).w Pid.cmdHpDrainedIn 0 := by
    rw [spiWritten_w]
    dsimp only
    split
    · rw [w_bump_other _ (by decide), hput]
    · exact hput
  rw [State.p, hcount, ← State.p, p_bump_same]

/-- With no word to be poisoned the words arrive as they were written. -/
theorem arriving_clean {s : State} (hclean : s.bridle.hostPoisonNext = false) :
    s.arriving count words = (words.take count).map hostWord := by
  rw [State.arriving, hclean, poisonFirst_false]

theorem arriving_isEmpty : (s.arriving count words).isEmpty = (words.take count).isEmpty := by
  unfold State.arriving
  cases words.take count with
  | nil => rfl
  | cons w rest => cases s.bridle.hostPoisonNext <;> rfl

end SpiWrite

section Shifting

variable {t : Nat} {s : State} {status : Word}

/-- A write cut short counts and poisons the next word (R228). -/
theorem spiWritten_cut {c : Instr} (count : Nat) (words : List (BitVec 40))
    (heffect : EffectIs c t s (((s.at_ t).shifting status).spiWritten count words true)) :
    Completes c s (fun u => u.bridle.spiStatus = status ∧
      u.bridle.hostPoisonNext =
        (decide (words.length < count) || (s.bridle.hostPoisonNext && ((words.take count).isEmpty))) ∧
      u.w Pid.cmdHpPartial 0 = s.w Pid.cmdHpPartial 0 + (if words.length < count then 1 else 0)) := by
  refine completes_of_effect heffect ?_
  rw [after_bridle, spiWritten_bridle, after_w, spiWritten_partial, arriving_isEmpty]
  refine ⟨rfl, Bool.or_comm .., ?_⟩
  simp [writeCut]

/-- A whole write puts its words, at most its count, into the inbound queue (R228, R233 to R235). -/
theorem spiWritten_whole {c : Instr} (count : Nat) (words : List (BitVec 40))
    (hclean : s.bridle.hostPoisonNext = false)
    (heffect : EffectIs c t s (((s.at_ t).shifting status).spiWritten count words false)) :
    Completes c s (fun u => u.bridle.spiStatus = status ∧ u.bridle.hostPoisonNext = false ∧
      u.bridle.hostIn = (((words.take count).map hostWord).foldl PortQueue.push s.hostQueue).words ∧
      u.bridle.hostInDrain = (((words.take count).map hostWord).foldl PortQueue.push s.hostQueue).drain ∧
      u.bridle.hostOut = s.bridle.hostOut) := by
  have hclean' : ((s.at_ t).shifting status).bridle.hostPoisonNext = false := hclean
  refine completes_of_effect heffect ?_
  rw [after_bridle, spiWritten_bridle, State.writtenQueue, arriving_clean _ _ hclean', hclean']
  exact ⟨rfl, rfl, rfl, rfl, rfl⟩

end Shifting

/-! ### SPI_READ -/

/-- The 40-bit words of `n` words read from a queue: its own, then the empty word (R229). -/
def wordsRead (q : List QueuedWord) (n : Nat) : List (BitVec 40) :=
  (q.take n).map readWord ++ List.replicate (n - (q.take n).length) emptyReadWord

@[simp] theorem length_wordsRead (q : List QueuedWord) (n : Nat) : (wordsRead q n).length = n := by
  simp [wordsRead]

theorem getElem?_wordsRead (q : List QueuedWord) {n i : Nat} (h : i < n) :
    (wordsRead q n)[i]? = some ((q[i]?.map readWord).getD emptyReadWord) := by
  unfold wordsRead
  by_cases hi : i < q.length
  · rw [List.getElem?_append_left (by simp; omega)]
    simp [h, hi]
  · rw [List.getElem?_append_right (by simp; omega), List.getElem?_eq_none (Nat.not_lt.1 hi),
      List.getElem?_replicate, if_pos (by simp; omega)]
    rfl

/-- What SPI_READ brings about, once the status word is shifted out. -/
def State.spiReadOut (s : State) (count clocked : Nat) (cut : Bool) : State :=
  let v := { s with bridle := { s.bridle with
    hostOut := s.bridle.hostOut.drop (min count clocked), spiRead := wordsRead s.bridle.hostOut (min count clocked) } }
  if cut && decide (clocked < count) then v.bump Pid.cmdHpPartial else v

section SpiRead

variable (s : State) (count clocked : Nat) (cut : Bool)

theorem spiRead_effect (t : Nat) (hon : s.domainOn 1 = true) : EffectIs (.spiRead t count clocked cut) t s
    (((s.at_ t).shifting (s.at_ t).hostStatus).spiReadOut count clocked cut) := by
  refine effectIs_of_runPort (Eq.refl (execSpiRead t count clocked cut s)) hon ?_
  rw [spiBegin_eq]
  rfl

/-- Of the command interface, a read takes words of the outbound queue and shifts them out. -/
theorem spiReadOut_bridle : (s.spiReadOut count clocked cut).bridle = { s.bridle with
    hostOut := s.bridle.hostOut.drop (min count clocked)
    spiRead := wordsRead s.bridle.hostOut (min count clocked) } := by
  unfold State.spiReadOut
  dsimp only
  split
  · rw [bump_bridle]
  · rfl

/-- A read cut short inside a word is counted (R228). -/
theorem spiReadOut_partial : (s.spiReadOut count clocked cut).w Pid.cmdHpPartial 0 =
    s.w Pid.cmdHpPartial 0 + (if cut = true ∧ clocked < count then 1 else 0) := by
  unfold State.spiReadOut
  simp only [Bool.and_eq_true, decide_eq_true_eq]
  split
  · rw [w_bump_same, w_withBridle, word_one]
  · rw [w_withBridle]; simp

/-- SPI_READ shifts out and takes the words of the outbound queue; a word cut short stays (R228, R229). -/
theorem spiReadOut_takes {s : State} {c : Instr} {t : Nat} {status : Word}
    (heffect : EffectIs c t s (((s.at_ t).shifting status).spiReadOut count clocked cut)) :
    Completes c s (fun u =>
      u.bridle.hostOut = s.bridle.hostOut.drop (min count clocked) ∧
      u.bridle.spiRead.length = min count clocked ∧
      (∀ i : Nat, i < min count clocked → u.bridle.spiRead[i]? =
        some ((s.bridle.hostOut[i]?.map readWord).getD emptyReadWord)) ∧
      u.w Pid.cmdHpPartial 0 = s.w Pid.cmdHpPartial 0 + (if cut = true ∧ clocked < count then 1 else 0)) := by
  refine completes_of_effect heffect ?_
  rw [after_bridle, spiReadOut_bridle, after_w, spiReadOut_partial, shifting_w, at_w]
  exact ⟨rfl, length_wordsRead .., fun _ hi => getElem?_wordsRead _ hi, rfl⟩

end SpiRead

/-- Settles O40. -/
theorem hostPortCommands : Obligations.HostPortCommands := by
  refine ⟨spiNop_effect, ?readOff, ?writeOff, ?cut, ?nop, ?badOctet, ?whole, ?read⟩
  case readOff =>
    exact fun t count clocked cut s => effectIs_of_runPort_off (Eq.refl (execSpiRead t count clocked cut s))
  case writeOff =>
    exact fun t count words cut s => effectIs_of_runPort_off (Eq.refl (execSpiWrite t count words cut s))
  case cut => exact fun t count words s hon => spiWritten_cut count words (spiWrite_effect t count words true s hon)
  case whole =>
    exact fun t count words s hon hclean =>
      spiWritten_whole count words hclean (spiWrite_effect t count words false s hon)
  case read =>
    exact fun t count clocked cut s hon => spiReadOut_takes count clocked cut (spiRead_effect s count clocked cut t hon)
  case nop =>
    intro t octet s hon hknown
    have heffect := spiNop_effect t octet s
    rw [if_pos hon, if_pos hknown] at heffect
    exact shifting_completes heffect
  case badOctet =>
    intro t octet s hon hbad
    have heffect := spiNop_effect t octet s
    rw [if_pos hon, if_neg hbad] at heffect
    exact shifting_badOctet heffect

end Sys2Proof.Machine

/-! PROOF.  Flushes and drains (O41): a flush empties its queue and counts the whole packets, and a draining queue
discards up to and including the next end mark (R234). -/

namespace Sys2Proof.Machine

open Sys2Proof

/-! ### Flushes -/

/-- A flush goes on draining, or drains from a last word without an end mark (R234). -/
theorem flushDrains_last {q : List QueuedWord} {w : QueuedWord} (h : q.getLast? = some w) (drain : Bool) :
    flushDrains q drain = (drain || !w.endMark) := by
  rw [flushDrains, h]

theorem flushDrains_nil (drain : Bool) : flushDrains [] drain = drain := Bool.or_false drain

/-- What FLUSH_IN brings about, once the status word is shifted out. -/
def State.flushedIn (s : State) : State :=
  let v := s.bump Pid.cmdHpFlushed 0 (packetCount s.bridle.hostIn)
  { v with bridle := { v.bridle with
      hostIn := [], hostInDrain := flushDrains s.bridle.hostIn s.bridle.hostInDrain } }

/-- What FLUSH_OUT brings about, once the status word is shifted out. -/
def State.flushedOut (s : State) : State :=
  let v := s.bump Pid.cmdHpFlushed 0 (packetCount s.bridle.hostOut)
  { v with bridle := { v.bridle with
      hostOut := [], hostOutDrain := flushDrains s.bridle.hostOut s.bridle.hostOutDrain } }

theorem flushedIn_bridle (s : State) : s.flushedIn.bridle = { s.bridle with
    hostIn := [], hostInDrain := flushDrains s.bridle.hostIn s.bridle.hostInDrain } := by
  unfold State.flushedIn; simp

theorem flushedOut_bridle (s : State) : s.flushedOut.bridle = { s.bridle with
    hostOut := [], hostOutDrain := flushDrains s.bridle.hostOut s.bridle.hostOutDrain } := by
  unfold State.flushedOut; simp

theorem flushedIn_counts (s : State) : s.flushedIn.p Pid.cmdHpFlushed =
    (s.p Pid.cmdHpFlushed + packetCount s.bridle.hostIn) % 2 ^ 32 := by
  rw [← p_bump_same, State.p, State.p, State.flushedIn, w_withBridle]

theorem flushedOut_counts (s : State) : s.flushedOut.p Pid.cmdHpFlushed =
    (s.p Pid.cmdHpFlushed + packetCount s.bridle.hostOut) % 2 ^ 32 := by
  rw [← p_bump_same, State.p, State.p, State.flushedOut, w_withBridle]

section Flush

variable {c : Instr} {t : Nat} {s : State} {status : Word}

theorem flushedIn_completes (heffect : EffectIs c t s ((s.at_ t).shifting status).flushedIn) : Completes c s (fun u =>
    u.bridle.hostIn = [] ∧ packetCount u.bridle.hostIn = 0 ∧
    u.p Pid.cmdHpFlushed = (s.p Pid.cmdHpFlushed + packetCount s.bridle.hostIn) % 2 ^ 32 ∧
    (∀ w : QueuedWord, s.bridle.hostIn.getLast? = some w →
      u.bridle.hostInDrain = (s.bridle.hostInDrain || !w.endMark)) ∧
    (s.bridle.hostIn = [] → u.bridle.hostInDrain = s.bridle.hostInDrain) ∧
    u.bridle.sessions = s.bridle.sessions ∧ u.bridle.hostOut = s.bridle.hostOut) := by
  refine completes_of_effect heffect ?_
  rw [after_bridle, flushedIn_bridle, after_p, flushedIn_counts, shifting_p, at_p]
  refine ⟨rfl, rfl, rfl, fun w hlast => flushDrains_last hlast _, fun hempty => ?_, rfl, rfl⟩
  exact (congrArg (flushDrains · s.bridle.hostInDrain) hempty).trans (flushDrains_nil _)

theorem flushedOut_completes (heffect : EffectIs c t s ((s.at_ t).shifting status).flushedOut) :
    Completes c s (fun u =>
    u.bridle.hostOut = [] ∧ packetCount u.bridle.hostOut = 0 ∧
    u.p Pid.cmdHpFlushed = (s.p Pid.cmdHpFlushed + packetCount s.bridle.hostOut) % 2 ^ 32 ∧
    (∀ w : QueuedWord, s.bridle.hostOut.getLast? = some w →
      u.bridle.hostOutDrain = (s.bridle.hostOutDrain || !w.endMark)) ∧
    (s.bridle.hostOut = [] → u.bridle.hostOutDrain = s.bridle.hostOutDrain) ∧
    u.bridle.sessions = s.bridle.sessions ∧ u.bridle.hostIn = s.bridle.hostIn) := by
  refine completes_of_effect heffect ?_
  rw [after_bridle, flushedOut_bridle, after_p, flushedOut_counts, shifting_p, at_p]
  refine ⟨rfl, rfl, rfl, fun w hlast => flushDrains_last hlast _, fun hempty => ?_, rfl, rfl⟩
  exact (congrArg (flushDrains · s.bridle.hostOutDrain) hempty).trans (flushDrains_nil _)

end Flush

theorem flushIn_effect (t : Nat) (s : State) (hon : s.domainOn 1 = true) :
    EffectIs (.flushIn t) t s ((s.at_ t).shifting (s.at_ t).hostStatus).flushedIn := by
  refine effectIs_of_runPort (Eq.refl (execFlushIn t s)) hon ?_
  rw [spiBegin_eq]
  rfl

theorem flushOut_effect (t : Nat) (s : State) (hon : s.domainOn 1 = true) :
    EffectIs (.flushOut t) t s ((s.at_ t).shifting (s.at_ t).hostStatus).flushedOut := by
  refine effectIs_of_runPort (Eq.refl (execFlushOut t s)) hon ?_
  rw [spiBegin_eq]
  rfl

/-! ### The inbound drain -/

/-- A draining queue discards a word, and drains on unless the word has an end mark (R234). -/
theorem push_draining {q : PortQueue} (hdrain : q.drain = true) (w : QueuedWord) :
    q.push w = { q with drained := q.drained + 1, drain := !w.endMark } := if_pos hdrain

/-- Words without an end mark are all discarded, and the queue drains on. -/
theorem foldl_push_draining (ws : List QueuedWord) {q : PortQueue} (hdrain : q.drain = true)
    (hopen : ∀ w ∈ ws, w.endMark = false) :
    ws.foldl PortQueue.push q = { q with drained := q.drained + ws.length } := by
  induction ws generalizing q with
  | nil => rfl
  | cons w rest ih =>
    have hw : w.endMark = false := hopen w List.mem_cons_self
    rw [List.foldl_cons, push_draining hdrain, ih (by rw [hw]; rfl) (fun x hx => hopen x (List.mem_cons_of_mem _ hx))]
    simp [hw, hdrain, Nat.add_comm, Nat.add_left_comm]

/-- The words of which only the last has an end mark are discarded with it, and the drain ends. -/
theorem foldl_push_draining_ended (ws : List QueuedWord) (last : QueuedWord) {q : PortQueue} (hdrain : q.drain = true)
    (hopen : ∀ w ∈ ws, w.endMark = false) (hlast : last.endMark = true) :
    (ws ++ [last]).foldl PortQueue.push q = { q with drained := q.drained + ws.length + 1, drain := false } := by
  rw [List.foldl_append, foldl_push_draining ws hdrain hopen, List.foldl_cons, List.foldl_nil,
    push_draining (q := { q with drained := q.drained + ws.length }) hdrain, hlast]
  rfl

/-- A draining inbound queue discards what a write brings, poisoned or not. -/
theorem writtenQueue_draining {s : State} (hdrain : s.bridle.hostInDrain = true) (words : List (BitVec 40)) :
    s.writtenQueue words.length words = (words.map hostWord).foldl PortQueue.push s.hostQueue := by
  rw [State.writtenQueue, State.arriving, foldl_push_poisonFirst hdrain, List.take_length]

theorem endMark_false_of_mem_map {words : List (BitVec 40)} (hopen : ∀ w ∈ words, (hostWord w).endMark = false) :
    ∀ x ∈ words.map hostWord, x.endMark = false := List.forall_mem_map.2 hopen

section Draining

variable {c : Instr} {t : Nat} {s : State} {status : Word}

/-- A whole write that the inbound queue discards: no word is queued, and all are counted. -/
theorem spiWritten_discarded (words : List (BitVec 40)) (drain : Bool)
    (heffect : EffectIs c t s (((s.at_ t).shifting status).spiWritten words.length words false))
    (hqueue : ((s.at_ t).shifting status).writtenQueue words.length words =
      { s.hostQueue with drained := words.length, drain := drain }) :
    Completes c s (fun u => u.bridle.hostIn = s.bridle.hostIn ∧ u.bridle.hostInDrain = drain ∧
      u.p Pid.cmdHpDrainedIn = (s.p Pid.cmdHpDrainedIn + words.length) % 2 ^ 32) := by
  refine completes_of_effect heffect ?_
  rw [after_bridle, spiWritten_bridle, after_p, spiWritten_drained, hqueue, shifting_p, at_p]
  exact ⟨rfl, rfl, rfl⟩

/-- Words without an end mark leave the queue draining. -/
theorem spiWritten_drainsOn (words : List (BitVec 40)) (hdrain : s.bridle.hostInDrain = true)
    (hopen : ∀ w ∈ words, (hostWord w).endMark = false)
    (heffect : EffectIs c t s (((s.at_ t).shifting status).spiWritten words.length words false)) :
    Completes c s (fun u => u.bridle.hostIn = s.bridle.hostIn ∧ u.bridle.hostInDrain = true ∧
      u.p Pid.cmdHpDrainedIn = (s.p Pid.cmdHpDrainedIn + words.length) % 2 ^ 32) := by
  have hdrain' : ((s.at_ t).shifting status).bridle.hostInDrain = true := hdrain
  refine spiWritten_discarded words true heffect ?_
  rw [writtenQueue_draining hdrain', foldl_push_draining _ hdrain' (endMark_false_of_mem_map hopen), List.length_map,
    ← hdrain, State.hostQueue, Nat.zero_add]
  rfl

/-- An end mark on the last word ends the drain. -/
theorem spiWritten_endsDrain (words : List (BitVec 40)) (last : BitVec 40) (hdrain : s.bridle.hostInDrain = true)
    (hopen : ∀ w ∈ words, (hostWord w).endMark = false) (hlast : (hostWord last).endMark = true)
    (heffect : EffectIs c t s
      (((s.at_ t).shifting status).spiWritten (words.length + 1) (words ++ [last]) false)) :
    Completes c s (fun u => u.bridle.hostIn = s.bridle.hostIn ∧ u.bridle.hostInDrain = false ∧
      u.p Pid.cmdHpDrainedIn = (s.p Pid.cmdHpDrainedIn + words.length + 1) % 2 ^ 32) := by
  have hdrain' : ((s.at_ t).shifting status).bridle.hostInDrain = true := hdrain
  have hlength : (words ++ [last]).length = words.length + 1 := by simp
  rw [← hlength] at heffect
  rw [Nat.add_assoc, ← hlength]
  refine spiWritten_discarded (words ++ [last]) false heffect ?_
  rw [writtenQueue_draining hdrain', List.map_append, List.map_cons, List.map_nil,
    foldl_push_draining_ended _ _ hdrain' (endMark_false_of_mem_map hopen) hlast, List.length_map, hlength,
    State.hostQueue, Nat.zero_add]
  rfl

end Draining

/-! ### The outbound drain -/

/-- While the outbound queue drains, the next reply is discarded whole and the drain ends (R234). -/
theorem sendReply_draining (s : State) (ws : List Word) (hdrain : s.bridle.hostOutDrain = true) :
    s.sendReply .host ws =
      { (s.bump Pid.cmdHpDrainedOut 0 ws.length) with bridle := { s.bridle with hostOutDrain := false } } :=
  if_pos hdrain

/-- Settles O41. -/
theorem flushesDiscardAndDrain : Obligations.FlushesDiscardAndDrain := by
  refine ⟨?flushIn, ?flushOut, ?endsDrain, ?drainsOn, ?outDrain⟩
  case flushIn => exact fun t s hon => flushedIn_completes (flushIn_effect t s hon)
  case flushOut => exact fun t s hon => flushedOut_completes (flushOut_effect t s hon)
  case endsDrain =>
    exact fun t words last s hon hdrain hopen hlast =>
      spiWritten_endsDrain words last hdrain hopen hlast (spiWrite_effect t _ _ _ s hon)
  case drainsOn =>
    exact fun t words s hon hdrain hopen => spiWritten_drainsOn words hdrain hopen (spiWrite_effect t _ _ _ s hon)
  case outDrain =>
    intro s ws hdrain
    rw [sendReply_draining s ws hdrain, ← p_bump_same]
    exact ⟨rfl, rfl, rfl, congrArg BitVec.toNat (w_withBridle ..)⟩

end Sys2Proof.Machine

/-! PROOF.  The service port, and replies that wait for room (O42): SERVICE_PORT_RECEIVE, SERVICE_PORT_TRANSMIT,
REPLY_ENQUEUE and REPLY_DROP (R227, R236, R245). -/

namespace Sys2Proof.Machine

open Sys2Proof

/-! ### The service port -/

theorem servicePortReceive_effect (t : Nat) (octets : List LineOctet) (s : State) (hon : s.domainOn 1 = true) :
    EffectIs (.servicePortReceive t octets) t s ((octets.foldl State.serviceReceive (s.at_ t)).wakeOnPacket
      (packetCount s.bridle.hostIn + packetCount s.bridle.serviceIn)) :=
  effectIs_of_runPort (Eq.refl (execServicePortReceive t octets s)) hon rfl

/-- A word's octets SLIP-encoded, with END after an end mark (R227). -/
def slipWord (w : QueuedWord) : List Byte :=
  (octetsOf w.data).flatMap slipOctet ++ (if w.endMark then [(0xC0 : Byte)] else [])

theorem servicePortTransmit_effect (t count : Nat) (s : State) (hon : s.domainOn 1 = true) :
    EffectIs (.servicePortTransmit t count) t s { (s.at_ t) with bridle := { (s.at_ t).bridle with
      serviceOut := s.bridle.serviceOut.drop count
      serviceSent := (s.bridle.serviceOut.take count).flatMap slipWord } } :=
  effectIs_of_runPort (Eq.refl (execServicePortTransmit t count s)) hon rfl

theorem servicePortTransmit_sends (t count : Nat) (s : State) (hon : s.domainOn 1 = true) :
    Completes (.servicePortTransmit t count) s (fun u =>
      u.bridle.serviceOut = s.bridle.serviceOut.drop count ∧
      u.bridle.serviceSent = (s.bridle.serviceOut.take count).flatMap (fun w =>
        (octetsOf w.data).flatMap slipOctet ++ (if w.endMark then [(0xC0 : Byte)] else []))) := by
  refine completes_of_effect (servicePortTransmit_effect t count s hon) ?_
  rw [after_bridle]
  exact ⟨rfl, rfl⟩

/-! ### Replies that wait -/

@[simp] theorem at_firstWaiting (s : State) (t : Nat) (service : Bool) :
    (s.at_ t).firstWaiting service = s.firstWaiting service := rfl

/-- A reply that fits goes into the host port's queue, which does not drain (R236). -/
theorem sendReply_host_fits {s : State} {ws : List Word} (hopen : s.bridle.hostOutDrain = false)
    (hfits : s.bridle.hostOut.length + ws.length ≤ 8192) :
    s.sendReply .host ws = { s with bridle := { s.bridle with hostOut := s.bridle.hostOut ++ asQueued ws } } :=
  (if_neg (ne_true_of_eq_false hopen)).trans (if_pos hfits)

/-- A reply that fits goes into the service port's queue (R236). -/
theorem sendReply_service_fits {s : State} {ws : List Word}
    (hfits : s.bridle.serviceOut.length + ws.length ≤ 8192) :
    s.sendReply .service ws =
      { s with bridle := { s.bridle with serviceOut := s.bridle.serviceOut ++ asQueued ws } } := if_pos hfits

section Waiting

variable {t : Nat} {w : WaitingReply} {s : State}

theorem replyEnqueue_host_effect (hfirst : s.firstWaiting false = some w)
    (hfits : s.bridle.hostOut.length + w.words.length ≤ 8192) :
    EffectIs (.replyEnqueue t .host) t s (((s.at_ t).dropWaiting false).sendReply .host w.words) := by
  refine effectIs_of_run (Eq.refl (execReplyEnqueue t .host s)) ?_
  simp only [at_firstWaiting, hfirst]
  exact if_pos hfits

theorem replyEnqueue_host_waits (hfirst : s.firstWaiting false = some w)
    (hfull : 8192 < s.bridle.hostOut.length + w.words.length) :
    EffectIs (.replyEnqueue t .host) t s (s.at_ t) := by
  refine effectIs_of_run (Eq.refl (execReplyEnqueue t .host s)) ?_
  simp only [at_firstWaiting, hfirst]
  exact if_neg (Nat.not_le.2 hfull)

theorem replyEnqueue_service_effect (hfirst : s.firstWaiting true = some w)
    (hfits : s.bridle.serviceOut.length + w.words.length ≤ 8192) :
    EffectIs (.replyEnqueue t .service) t s (((s.at_ t).dropWaiting true).sendReply .service w.words) := by
  refine effectIs_of_run (Eq.refl (execReplyEnqueue t .service s)) ?_
  simp only [at_firstWaiting, hfirst]
  exact if_pos hfits

theorem replyEnqueue_host_completes (hfirst : s.firstWaiting false = some w)
    (hfits : s.bridle.hostOut.length + w.words.length ≤ 8192) (hopen : s.bridle.hostOutDrain = false) :
    Completes (.replyEnqueue t .host) s (fun u => u.bridle.hostOut = s.bridle.hostOut ++ asQueued w.words ∧
      u.bridle.waiting = (s.dropWaiting false).bridle.waiting) := by
  have heffect := replyEnqueue_host_effect (t := t) hfirst hfits
  rw [sendReply_host_fits (s := (s.at_ t).dropWaiting false) hopen hfits] at heffect
  refine completes_of_effect heffect ?_
  rw [after_bridle]
  exact ⟨rfl, rfl⟩

theorem replyEnqueue_service_completes (hfirst : s.firstWaiting true = some w)
    (hfits : s.bridle.serviceOut.length + w.words.length ≤ 8192) :
    Completes (.replyEnqueue t .service) s (fun u => u.bridle.serviceOut = s.bridle.serviceOut ++ asQueued w.words ∧
      u.bridle.waiting = (s.dropWaiting true).bridle.waiting) := by
  have heffect := replyEnqueue_service_effect (t := t) hfirst hfits
  rw [sendReply_service_fits (s := (s.at_ t).dropWaiting true) hfits] at heffect
  refine completes_of_effect heffect ?_
  rw [after_bridle]
  exact ⟨rfl, rfl⟩

/-- REPLY_DROP of a reply that has waited 60 s (R236). -/
theorem replyDrop_effect {tr : Transport} (hport : tr = .host ∨ tr = .service)
    (hfirst : s.firstWaiting (tr == .service) = some w) (hdue : w.since + 60 * sec ≤ max s.now t) :
    EffectIs (.replyDrop t tr) t s
      (((s.at_ t).dropWaiting (tr == .service)).bump Pid.cmdRepliesDropped) := by
  refine effectIs_of_run (Eq.refl (execReplyDrop t tr s)) ?_
  simp only [at_firstWaiting, hfirst]
  exact if_pos ⟨hport, at_passed hdue⟩

theorem replyDrop_completes {tr : Transport} (hport : tr = .host ∨ tr = .service)
    (hfirst : s.firstWaiting (tr == .service) = some w) (hdue : w.since + 60 * sec ≤ max s.now t) :
    Completes (.replyDrop t tr) s (fun u => u.bridle.waiting = (s.dropWaiting (tr == .service)).bridle.waiting ∧
      u.w Pid.cmdRepliesDropped 0 = s.w Pid.cmdRepliesDropped 0 + 1) := by
  refine completes_of_effect (replyDrop_effect hport hfirst hdue) ?_
  rw [after_bridle, bump_bridle, after_w, w_bump_same, word_one, State.dropWaiting, w_withBridle, at_w]
  exact ⟨rfl, rfl⟩

end Waiting

/-- Settles O42. -/
theorem servicePortAndReplies : Obligations.ServicePortAndReplies :=
  ⟨servicePortReceive_effect, servicePortTransmit_sends, fun _ _ _ => replyEnqueue_host_completes,
    fun _ _ _ => replyEnqueue_service_completes, fun _ _ _ => replyEnqueue_host_waits,
    fun _ _ _ _ => replyDrop_completes⟩

end Sys2Proof.Machine

/-! PROOF.  Closing a session (O43 fails): a session that holds the update aborts it when it closes, and the result
still awaited of UPD_OPEN goes under the ticket that the update names (R238, R408).  UPD_OPEN names a ticket of its own
session, but the statement speaks of every state: where the update names a ticket of another session, closing the holder
changes that one. -/

namespace Sys2Proof.Machine

open Sys2Proof

/-- A keyless session of the host port with one ticket whose result is awaited. -/
def awaitingSession (id : Nat) : Session := { updaterSession with id := id, tickets := [⟨1, none, false⟩] }

/-- Session 1 holds the update, and the result of UPD_OPEN is awaited under a ticket of session 2. -/
def foreignOpeningState : State :=
  let s := State.reset.setP Pid.updHolder 0 1
  { s with
    bridle := { s.bridle with sessions := [awaitingSession 1, awaitingSession 2] }
    update := { s.update with opening := some (⟨2, 1⟩, 0) } }

/-- Closing session 1 aborts the update, and session 2 is left with a result under its ticket. -/
theorem closeSession_changesOther :
    awaitingSession 2 ∉ (foreignOpeningState.closeSession 1).bridle.sessions := by decide +kernel

/-- Refutes O43: closing a session is said to keep every other session as it is, but it may put a result under a ticket
of another. -/
theorem not_sessionDeadlines : ¬ Obligations.SessionDeadlines := by
  rintro ⟨-, -, -, -, hclose, -, -⟩
  obtain ⟨-, hothers⟩ := hclose foreignOpeningState 1
  have hopen : awaitingSession 2 ∈ foreignOpeningState.bridle.sessions := List.mem_cons_of_mem _ List.mem_cons_self
  exact closeSession_changesOther (hothers _ hopen (by decide))

end Sys2Proof.Machine

/-! PROOF.  Packets outside sessions (O44): PACKET_DISCARD, UNASSIGNED_OPCODE and SESSION_OPEN (R226, R237, R239, R247,
R391; the identifier and the module nonce are drawn, assumption 2). -/

namespace Sys2Proof.Machine

open Sys2Proof

/-! ### The row of a packet -/

/-- Which row a packet can belong to, and why. -/
theorem row_cases (p : Packet) : (p.row = .discard ∧ p.headed = false) ∨
    (p.row = .unassigned ∧ opcodeInfo (headerOf p.data).opcode = none) ∨ (∃ r, p.row = .set r) ∨
    p.row = .opcode (headerOf p.data).opcode := by
  unfold Packet.row
  dsimp only
  split
  case isTrue hheaded => exact .inl ⟨rfl, by simpa using hheaded⟩
  case isFalse =>
    split
    case isTrue hnone => exact .inr (.inl ⟨rfl, by simpa using hnone⟩)
    case isFalse =>
      split
      case isTrue => exact .inr (.inr (.inl ⟨_, rfl⟩))
      case isFalse => exact .inr (.inr (.inr rfl))

theorem not_headed_of_discard {p : Packet} (h : p.row = .discard) : p.headed = false := by
  rcases row_cases p with ⟨-, hheaded⟩ | ⟨hrow, -⟩ | ⟨r, hrow⟩ | hrow
  · exact hheaded
  all_goals cases hrow.symm.trans h

theorem opcodeInfo_of_unassigned {p : Packet} (h : p.row = .unassigned) :
    opcodeInfo (headerOf p.data).opcode = none := by
  rcases row_cases p with ⟨hrow, -⟩ | ⟨-, hnone⟩ | ⟨r, hrow⟩ | hrow
  case inr.inl => exact hnone
  all_goals cases hrow.symm.trans h

theorem opcode_of_row {p : Packet} {op : Nat} (h : p.row = .opcode op) : (headerOf p.data).opcode = op := by
  rcases row_cases p with ⟨hrow, -⟩ | ⟨hrow, -⟩ | ⟨r, hrow⟩ | hrow
  case inr.inr.inr => exact PacketRow.opcode.inj (hrow.symm.trans h)
  all_goals cases hrow.symm.trans h

/-! ### Interpreting a packet -/

section Interpret

variable {s : State} {tr : Transport} {p : Packet} {row : PacketRow} {kindOf : Request → OpKind} {body : Body}

/-- The front packet is interpreted by its row when the service core is awake, its transport has room for the reply and
it is that transport's turn (R17, R226, R236). -/
theorem onPacket_front (hawake : s.awake = true) (hroom : s.replyWaits tr = false) (hturn : s.onTurn tr = true)
    (hfront : s.frontPacket tr = some p) (hrow : p.row = row) :
    s.onPacket tr row kindOf body = s.interpret p kindOf body := by
  unfold State.onPacket
  rw [if_neg (by simp [hawake, hroom, hturn]), hfront]
  exact if_pos hrow

/-- A packet without a whole header is taken, counted and not answered (R226). -/
theorem interpret_discard (hheaded : p.headed = false) : s.interpret p kindOf body =
    (s.taken p.source.transport).bump Pid.cmdDiscards p.source.transport.index := by
  have hverdict : (s.taken p.source.transport).verdict p = .discard := if_pos (by simp [hheaded])
  unfold State.taken at hverdict
  unfold State.interpret
  dsimp only
  rw [hverdict]
  rfl

end Interpret

/-- An unassigned opcode changes nothing (R246). -/
theorem dispatch_unassigned {s : State} {q : Request} (body : Body) (kindOf : Request → OpKind)
    (sess : Option Session) (hnone : opcodeInfo q.opcode = none) : s.dispatch body kindOf q sess = (fail stUnknownOp, s) := by
  unfold State.dispatch
  rw [hnone]

/-- A packet of an unassigned opcode in a keyless session is accepted and answered ST_UNKNOWN_OP (R246). -/
theorem interpret_unassigned {s : State} {p : Packet} {k : Session} {gaps : Nat} (kindOf : Request → OpKind)
    (body : Body) (hnone : opcodeInfo (headerOf p.data).opcode = none)
    (hpass : (s.taken p.source.transport).verdict p = .accept (some k) gaps) (hslot : k.slot = 0xFF) :
    s.interpret p kindOf body = (s.note p.source.transport p k gaps).reply (p.request k) none (p.data.getLastD 0)
      (fail stUnknownOp) := by
  unfold State.taken at hpass
  unfold State.interpret
  dsimp only
  rw [hpass]
  dsimp only
  rw [dispatch_unassigned _ _ _ hnone]
  simp [hslot, State.note, State.taken, Packet.request]

/-- The request of a packet of session identifier 0 (R223, R247). -/
def Packet.openRequest (p : Packet) : Request :=
  ⟨p.source, 0, (headerOf p.data).seq, 0xFF, 0x00, 0, (p.data.drop 3).take (headerOf p.data).length, p.broadcast⟩

/-- The result that a packet's first reply carries (R224). -/
def Answer.first : Answer → Result
  | .later => fail stPending
  | .done r => r

/-- What an opcode leaves is followed by its reply, ST_PENDING where its result comes later. -/
def answered (x : Answer × State) (q : Request) (crc : Word) : State :=
  match x with
  | (.later, v) => v.reply q none crc (fail stPending)
  | (.done r, v) => v.reply q none crc r

/-- SESSION_OPEN with session identifier 0 and no ticket takes no checks but its own (R226, R237). -/
theorem dispatch_open {s : State} {q : Request} (body : Body) (kindOf : Request → OpKind) (hmode : s.farrier = false)
    (hrole : q.role = 0xFF) (hop : q.opcode = 0x00) (hticket : q.ticket = 0) :
    s.dispatch body kindOf q none = ((body q s).1.first, (body q s).2) := by
  have hinfo : opcodeInfo q.opcode = some (0, .immediate) := by rw [hop]; rfl
  have hrom : ¬ (s.farrier = true ∧ (!farrierOpcode q.opcode) = true) :=
    fun h => Bool.false_ne_true (hmode.symm.trans h.1)
  have huses : (decide (q.ticket ≠ 0) && decide (q.opcode ≠ 0x03)) = false := by rw [hticket]; rfl
  unfold State.dispatch
  rw [hinfo]
  dsimp only
  rw [if_neg hrom, if_neg (fun h => h.1 hrole)]
  simp only [huses, Option.bind_none, Bool.false_eq_true, if_false]
  rcases body q s with ⟨_ | _, v⟩ <;> rfl

theorem interpret_open {s : State} {p : Packet} (kindOf : Request → OpKind) (body : Body)
    (hop : (headerOf p.data).opcode = 0x00) (hmode : s.farrier = false) (hticket : (headerOf p.data).ticket = 0)
    (hsession : (headerOf p.data).session = 0) (hpass : (s.taken p.source.transport).verdict p = .accept none 0) :
    s.interpret p kindOf body = answered (body p.openRequest
      ((s.taken p.source.transport).bump Pid.cmdSeqGaps p.source.transport.index 0)) p.openRequest
      (p.data.getLastD 0) := by
  have hmode' : ((s.taken p.source.transport).bump Pid.cmdSeqGaps p.source.transport.index 0).farrier = false :=
    (farrier_of_power (by simp [State.taken])).trans hmode
  unfold State.taken at hpass hmode' ⊢
  unfold State.interpret
  dsimp only
  rw [hpass]
  dsimp only
  rw [hsession, hop, hticket]
  have hd := dispatch_open (q := p.openRequest) body kindOf hmode' rfl rfl rfl
  unfold Packet.openRequest at hd
  dsimp only [Option.map_none, Option.getD_none]
  rw [hd]
  unfold answered Packet.openRequest
  rcases body _ _ with ⟨_ | _, v⟩ <;> rfl

/-! ### The identifier of a new session (R237, R238) -/

/-- The `i`-th identifier from `c` on, cyclically within 1 to 0xFFFE. -/
def identifierFrom (c i : Nat) : Nat := (c - 1 + i) % 0xFFFE + 1

theorem identifierFrom_zero {c : Nat} (hlow : 1 ≤ c) (hhigh : c ≤ 0xFFFE) : identifierFrom c 0 = c := by
  unfold identifierFrom; omega

theorem identifierFrom_next {c : Nat} (hlow : 1 ≤ c) (hhigh : c ≤ 0xFFFE) (i : Nat) :
    identifierFrom (c % 0xFFFE + 1) i = identifierFrom c (i + 1) := by
  unfold identifierFrom; omega

theorem identifierFrom_inj {c i j : Nat} (hi : i < 0xFFFE) (hj : j < 0xFFFE)
    (h : identifierFrom c i = identifierFrom c j) : i = j := by
  unfold identifierFrom at h; omega

theorem freeIdentifier_inRange (used : List Nat) (n : Nat) {c : Nat} (hlow : 1 ≤ c) (hhigh : c ≤ 0xFFFE) :
    1 ≤ freeIdentifier used n c ∧ freeIdentifier used n c ≤ 0xFFFE := by
  induction n generalizing c with
  | zero => exact ⟨hlow, hhigh⟩
  | succ n ih =>
    unfold freeIdentifier
    split
    · exact ih (Nat.le_add_left ..) (Nat.mod_lt c (by decide))
    · exact ⟨hlow, hhigh⟩

/-- Where the search ends in a used identifier, every identifier that it tried is used. -/
theorem tried_of_freeIdentifier_used {used : List Nat} {n c : Nat} (hlow : 1 ≤ c) (hhigh : c ≤ 0xFFFE)
    (h : freeIdentifier used n c ∈ used) : ∀ i ≤ n, identifierFrom c i ∈ used := by
  induction n generalizing c with
  | zero =>
    intro i hi
    rw [Nat.le_zero.1 hi, identifierFrom_zero hlow hhigh]
    exact h
  | succ n ih =>
    unfold freeIdentifier at h
    split at h
    case isFalse hfree => exact absurd (List.contains_iff_mem.2 h) hfree
    case isTrue hused =>
      intro i hi
      cases i with
      | zero => rw [identifierFrom_zero hlow hhigh]; exact List.contains_iff_mem.1 hused
      | succ i =>
        rw [← identifierFrom_next hlow hhigh]
        exact ih (Nat.le_add_left ..) (Nat.mod_lt c (by decide)) h i (Nat.le_of_succ_le_succ hi)

/-- One try more than there are used identifiers finds a free one, as long as fewer than 0xFFFE are used. -/
theorem freeIdentifier_free {used : List Nat} {c : Nat} (hlow : 1 ≤ c) (hhigh : c ≤ 0xFFFE)
    (hfew : used.length < 0xFFFE) : freeIdentifier used (used.length + 1) c ∉ used := by
  intro h
  have htried := tried_of_freeIdentifier_used hlow hhigh h
  have hsub : (List.range (used.length + 1)).map (identifierFrom c) ⊆ used := by
    intro x hx
    obtain ⟨i, hi, rfl⟩ := List.mem_map.1 hx
    exact htried i (List.mem_range.1 hi).le
  have hnodup : ((List.range (used.length + 1)).map (identifierFrom c)).Nodup := by
    refine List.Nodup.map_on (fun i hi j hj hij => ?_) List.nodup_range
    exact identifierFrom_inj ((List.mem_range.1 hi).trans_le hfew) ((List.mem_range.1 hj).trans_le hfew) hij
  have hlen := (hnodup.subperm hsub).length_le
  simp at hlen

/-! ### SESSION_OPEN in the keyless slot -/

section Open

variable {nonce : List Word} {q : Request} {a : State}

/-- The words of a SESSION_OPEN in slot 0xFF are in range. -/
theorem open_inRange (hrole : bits (nth q.payload 0) 31 24 ≤ 4) (hspare : bits (nth q.payload 0) 23 8 = 0)
    (hslot : bits (nth q.payload 0) 7 0 = 0xFF) :
    ¬ (4 < bits (nth q.payload 0) 31 24 ∨ bits (nth q.payload 0) 23 8 ≠ 0 ∨
      (64 ≤ bits (nth q.payload 0) 7 0 ∧ bits (nth q.payload 0) 7 0 ≠ 0xFF)) := by omega

theorem openBody_lockedOut (hlen : q.payload.length = 5) (hrole : bits (nth q.payload 0) 31 24 ≤ 4)
    (hspare : bits (nth q.payload 0) 23 8 = 0) (hslot : bits (nth q.payload 0) 7 0 = 0xFF)
    (hlocked : a.lockedOut q.source.transport = true) : openBody nonce q a = (.done (fail stAuth 5), a) := by
  rw [openBody, withLength_of_length hlen]
  exact (if_neg (open_inRange hrole hspare hslot)).trans (if_pos hlocked)

theorem openBody_noGenerator (hlen : q.payload.length = 5) (hrole : bits (nth q.payload 0) 31 24 ≤ 4)
    (hspare : bits (nth q.payload 0) 23 8 = 0) (hslot : bits (nth q.payload 0) 7 0 = 0xFF)
    (hunlocked : a.lockedOut q.source.transport = false) (hfailed : a.p Pid.keyRngStatus = 1) :
    openBody nonce q a = (.done (fail stAuth 6), a) := by
  rw [openBody, withLength_of_length hlen]
  exact (if_neg (open_inRange hrole hspare hslot)).trans
    ((if_neg (ne_true_of_eq_false hunlocked)).trans (if_pos hfailed))

/-- The session that SESSION_OPEN opens in the keyless slot (R237, R391). -/
def State.keylessSession (a : State) (nonce : List Word) (q : Request) : Session :=
  ⟨freeIdentifier a.usedIdentifiers (a.usedIdentifiers.length + 1) ((a.drawBelow 0xFFFE).1 + 1), q.source,
    bits (nth q.payload 0) 31 24, 0xFF, false, a.now, a.now, (q.payload.drop 1).take 4,
    (List.range 4).map (nth nonce), 0, none, [], [], []⟩

theorem slotOpens_keyless_state (a : State) (tr : Transport) (role : Nat) : (a.slotOpens tr 0xFF role).2 = a := rfl

theorem openBody_sessions (hlen : q.payload.length = 5) (hrole : bits (nth q.payload 0) 31 24 ≤ 3)
    (hspare : bits (nth q.payload 0) 23 8 = 0) (hslot : bits (nth q.payload 0) 7 0 = 0xFF)
    (hunlocked : a.lockedOut q.source.transport = false) (hrng : a.p Pid.keyRngStatus ≠ 1)
    (hmax : bits (nth q.payload 0) 31 24 ≤ a.p Pid.cmdMaxRole q.source.transport.index) (hmode : a.farrier = false)
    (hroom : a.bridle.sessions.length < 32)
    (hopens : (a.slotOpens q.source.transport 0xFF (bits (nth q.payload 0) 31 24)).1 = true) :
    (openBody nonce q a).2.bridle.sessions = a.bridle.sessions ++ [a.keylessSession nonce q] := by
  have hallowed : ¬ ((bits (nth q.payload 0) 31 24 = 4 ∧ (!a.farrier) = true) ∨
      (bits (nth q.payload 0) 31 24 < 4 ∧
        a.p Pid.cmdMaxRole q.source.transport.index < bits (nth q.payload 0) 31 24) ∨
      (a.farrier = true ∧ (q.source.transport = .host ∨ q.source.transport = .relay))) := by
    rw [hmode]
    rintro (⟨h, -⟩ | ⟨-, h⟩ | ⟨h, -⟩)
    · omega
    · omega
    · cases h
  rw [openBody, withLength_of_length hlen]
  dsimp only
  rw [if_neg (open_inRange (Nat.le_succ_of_le hrole) hspare hslot), if_neg (ne_true_of_eq_false hunlocked),
    if_neg hrng, if_neg hallowed, if_neg (Nat.not_le.2 hroom), hslot, if_neg (by simp [hopens])]
  rfl

/-- A keyless session that opens has an identifier of its own (R237, R238). -/
theorem keylessSession_id (hfew : a.usedIdentifiers.length < 0xFFFE) :
    (a.keylessSession nonce q).id ∉ a.usedIdentifiers ∧ 1 ≤ (a.keylessSession nonce q).id ∧
      (a.keylessSession nonce q).id ≤ 0xFFFE := by
  have hlow : 1 ≤ (a.drawBelow 0xFFFE).1 + 1 := Nat.le_add_left ..
  have hhigh : (a.drawBelow 0xFFFE).1 + 1 ≤ 0xFFFE := Nat.mod_lt _ (by decide)
  exact ⟨freeIdentifier_free hlow hhigh hfew, freeIdentifier_inRange _ _ hlow hhigh⟩

end Open

/-- Settles O44. -/
theorem packetsOutsideSessions : Obligations.PacketsOutsideSessions := by
  refine ⟨?discard, ?unassigned, ?opening, ?opened, fun _ _ _ => openBody_lockedOut,
    fun _ _ _ => openBody_noGenerator⟩
  case discard =>
    intro t tr p s hawake hroom hturn hfront htr hrow
    subst htr
    refine effectIs_of_run (Eq.refl (execPacketDiscard t p.source.transport s)) ?_
    exact (onPacket_front (s := s.at_ t) hawake hroom hturn hfront hrow).trans
      (interpret_discard (not_headed_of_discard hrow))
  case unassigned =>
    intro t gaps tr p k s hawake hroom hturn hfront htr hrow _ hpass hslot
    subst htr
    refine effectIs_of_run (Eq.refl (execUnassignedOpcode t p.source.transport s)) ?_
    exact (onPacket_front (s := s.at_ t) hawake hroom hturn hfront hrow).trans
      (interpret_unassigned _ _ (opcodeInfo_of_unassigned hrow) hpass hslot)
  case opening =>
    intro t tr p nonce s hawake hroom hturn hfront htr hrow hmode hticket hsession hpass
    subst htr
    refine effectIs_of_run (Eq.refl (execSessionOpen t p.source.transport nonce s)) ?_
    exact (onPacket_front (s := s.at_ t) hawake hroom hturn hfront hrow).trans
      (interpret_open _ _ (opcode_of_row hrow) hmode hticket hsession hpass)
  case opened =>
    intro nonce q a hlen hrole hspare hslot hunlocked hrng hmax hmode hroom hfew hopens
    obtain ⟨hfree, hlow, hhigh⟩ := keylessSession_id (nonce := nonce) (q := q) hfew
    exact ⟨a.keylessSession nonce q,
      openBody_sessions hlen hrole hspare hslot hunlocked hrng hmax hmode hroom hopens, rfl, rfl, rfl, rfl, rfl,
      hfree, hlow, hhigh⟩

end Sys2Proof.Machine

/-! PROOF.  The parameter store (O7, O8, O33) and the SETs that command something (O31): what a write of one element, of
a run of elements and of an acting parameter leaves (R249, R252, R255, R256). -/

namespace Sys2Proof.Machine

open Sys2Proof

/-! ### One element -/

/-- Two elements, each below 65,536 in its parameter, have different keys unless they are the same element (R252). -/
theorem paramKey_ne_of_pair_ne {id jd e d : Nat} (he : e < 65536) (hd : d < 65536) (hne : (jd, d) ≠ (id, e)) :
    paramKey jd d ≠ paramKey id e := by
  intro hkey
  have hid : jd = id := not_not.1 fun hid => paramKey_ne hid he hd hkey
  subst hid
  exact hne (congrArg (jd, ·) (Nat.add_left_cancel hkey))

/-- Settles O7, by the rules of the store: the written element, its frame and the canonical form. -/
theorem storeReadsBack : Obligations.StoreReadsBack := by
  intro s id e v he
  exact ⟨w_setW_same s id e v, fun _ _ hd hne => w_setW_other s (paramKey_ne_of_pair_ne he hd hne) v,
    setW_keeps_canonical s id e v he⟩

/-! ### The state after reset -/

/-- A store that lists nothing reads as its rows' cold values (R250). -/
theorem w_of_params_nil {s : State} (h : s.params = []) (id e : Nat) : s.w id e = defaultWord id e := by
  unfold State.w
  rw [h]
  rfl

theorem paramsCanonical_nil : paramsCanonical [] := ⟨List.Pairwise.nil, fun _ hc => absurd hc List.not_mem_nil⟩

/-- The cold values that O8 names, in the parameter table (R250). -/
theorem defaultWord_named :
    defaultWord Pid.pwrCoreMv 0 = 900 ∧ defaultWord Pid.pwrStateFloor 0 = 4 ∧
    defaultWord Pid.cmdHpEventMask 0 = 0x0F ∧ defaultWord Pid.pwrResetMv 0 = 12000 ∧
    defaultWord Pid.tdmHbLinkUs 0 = 500 := by
  decide +kernel

/-- Settles O8: the store after reset lists nothing. -/
theorem resetReadsCold : Obligations.ResetReadsCold := by
  have hcold : ∀ id e, State.reset.w id e = defaultWord id e := w_of_params_nil rfl
  have hread {id n : Nat} {v : Word} (h : defaultWord id 0 = v) (hv : v.toNat = n) : State.reset.p id = n :=
    (congrArg BitVec.toNat ((hcold id 0).trans h)).trans hv
  obtain ⟨hcore, hfloor, hmask, hreset, hlink⟩ := defaultWord_named
  exact ⟨hcold, paramsCanonical_nil, hread hcore rfl, hread hfloor rfl, hread hmask rfl, hread hreset rfl,
    hread hlink rfl, rfl, rfl, rfl, rfl, rfl⟩

/-! ### A run of elements -/

/-- One step of a SET's run: the element is written, and marked where that changed it (R259). -/
def State.setMarked (s : State) (id e : Nat) (v : Word) : State :=
  if (s.setElement id e v).w id e = s.w id e then s.setElement id e v else (s.setElement id e v).mark id e

theorem setElements_cons (s : State) (id e : Nat) (v : Word) (rest : List Word) :
    s.setElements id e (v :: rest) = (s.setMarked id e v).setElements id (e + 1) rest := rfl

/-- A mark changes no element. -/
theorem setMarked_w (s : State) (id e : Nat) (v : Word) (jd d : Nat) :
    (s.setMarked id e v).w jd d = (s.setElement id e v).w jd d := by
  unfold State.setMarked
  split
  · rfl
  · exact w_of_params (mark_params _ id e) jd d

/-- A write sees the parameter store alone. -/
theorem setW_params_congr {u v : State} (h : u.params = v.params) (id e : Nat) (x : Word) :
    (u.setW id e x).params = (v.setW id e x).params := by
  unfold State.setW
  split <;> simp [h]

/-- A SET of a plain parameter writes the value as it stands: no bit clears, nothing is clamped and nothing restarts
from the present value. -/
theorem setElement_plain_w {id : Nat} (hclears : clearsOnOne id = false)
    (hplain : id ∉ [Pid.snsGainEst, Pid.colourTrim, Pid.sysTempDieMax, Pid.pwrVinMinMv]) (s : State) (e : Nat)
    (v : Word) (jd d : Nat) : (s.setElement id e v).w jd d = (s.setW id e v).w jd d := by
  simp only [List.mem_cons, List.not_mem_nil, or_false, not_or] at hplain
  obtain ⟨hgain, htrim, hdie, hvin⟩ := hplain
  unfold State.setElement
  rw [if_neg (ne_true_of_eq_false hclears), if_neg hgain, if_neg htrim]
  by_cases hrate : id = Pid.wbRateBurst ∨ id = Pid.wbRatePerH
  · rw [if_pos hrate]
    refine w_of_params (setW_params_congr ?_ id e v) jd d
    rfl
  · rw [if_neg hrate, if_neg hdie, if_neg hvin]

section Plain

variable {id : Nat} (hclears : clearsOnOne id = false)
  (hplain : id ∉ [Pid.snsGainEst, Pid.colourTrim, Pid.sysTempDieMax, Pid.pwrVinMinMv])

include hclears hplain

/-- Elements outside the run stay (R252). -/
theorem setElements_w_other (vals : List Word) (s : State) (first : Nat) (hend : first + vals.length ≤ 65536)
    {jd d : Nat} (hd : d < 65536) (hout : jd ≠ id ∨ d < first ∨ first + vals.length ≤ d) :
    (s.setElements id first vals).w jd d = s.w jd d := by
  induction vals generalizing s first with
  | nil => rfl
  | cons v rest ih =>
    rw [List.length_cons] at hend hout
    have hne : (jd, d) ≠ (id, first) := by
      rintro ⟨⟩
      omega
    rw [setElements_cons, ih _ _ (by omega) (by omega), setMarked_w, setElement_plain_w hclears hplain,
      w_setW_other s (paramKey_ne_of_pair_ne (by omega) hd hne)]

/-- The k-th element of the run reads the k-th value: its own step writes it, and the later steps leave it (R252). -/
theorem setElements_w_nth (vals : List Word) (s : State) (first : Nat) (hend : first + vals.length ≤ 65536) (k : Nat)
    (hk : k < vals.length) : (s.setElements id first vals).w id (first + k) = nth vals k := by
  induction vals generalizing s first k with
  | nil => exact absurd hk (Nat.not_lt_zero k)
  | cons v rest ih =>
    rw [List.length_cons] at hend hk
    rw [setElements_cons]
    cases k with
    | zero =>
      rw [Nat.add_zero, setElements_w_other hclears hplain rest _ _ (by omega) (by omega) (by omega), setMarked_w,
        setElement_plain_w hclears hplain]
      exact w_setW_same s id first v
    | succ k =>
      rw [show first + (k + 1) = first + 1 + k by omega]
      exact ih _ (first + 1) (by omega) k (by omega)

end Plain

/-- Taking from a word the bits it has in common with another clears those bits. -/
theorem sub_and_eq_and_not {n : Nat} (a b : BitVec n) : a - (a &&& b) = a &&& ~~~b := by
  have hdisjoint : (a &&& ~~~b) &&& (a &&& b) = 0#n := by
    ext i hi
    cases hb : b[i] <;> simp [hb]
  have hunion : a &&& ~~~b ||| a &&& b = a := by
    ext i hi
    cases hb : b[i] <;> simp [hb]
  rw [sub_eq_iff_eq_add, BitVec.add_eq_or_of_and_eq_zero _ _ hdisjoint, hunion]

/-- The same, as the model computes it on numbers. -/
theorem word_sub_and (a b : Word) : word (a.toNat - (a.toNat &&& b.toNat)) = a &&& ~~~b := by
  have hle : a &&& b ≤ a := Nat.and_le_left
  rw [← sub_and_eq_and_not, ← BitVec.toNat_and, ← BitVec.toNat_sub_of_le hle]
  exact (BitVec.ofNat_toNat _ _).trans (BitVec.setWidth_eq _)

/-- A SET of a parameter whose 1 bits clear leaves the bits that the value has 0 (R249). -/
theorem setElement_clears_w {id : Nat} (hclears : clearsOnOne id = true) (s : State) (e : Nat) (v : Word) :
    (s.setElement id e v).w id e = s.w id e &&& ~~~v := by
  unfold State.setElement
  rw [if_pos hclears, w_setP_same]
  exact word_sub_and (s.w id e) v

/-- Settles O33: by induction on the run for a plain parameter; cmd.hp_event clears the bits written 1. -/
theorem setElementsReadBack : Obligations.SetElementsReadBack := by
  refine ⟨fun s id first vals hclears hplain hend => ⟨?same, ?other⟩, fun s v => ?clears⟩
  case same => exact setElements_w_nth hclears hplain vals s first hend
  case other => exact fun _ _ hd => setElements_w_other hclears hplain vals s first hend hd
  case clears => exact (setMarked_w s _ 0 v _ 0).trans (setElement_clears_w (by decide) s 0 v)

/-! ### SETs that command something -/

theorem setAtOnce_fallbackTargets : ∀ id ∈ [Pid.relayRtFallback, Pid.relayRtFallbackFadeMs], setAtOnce id = true := by
  decide

/-- A meaning acts on the state at the command's instant alone. -/
theorem run_congr {s : State} {t : Nat} {f g : State → State} (h : f (s.at_ t) = g (s.at_ t)) :
    s.run t f = s.run t g := by
  unfold State.run
  rw [h]

/-- TOLERANCE_WRITE runs a SET whose hook knows the power state in force before it (R454). -/
theorem exec_toleranceWrite (t : Nat) (tr : Transport) (s : State) : exec (.toleranceWrite t tr) s =
    s.run t (fun u => u.onPacket tr (.set .tolerance) setKind
      (setBody (fun _ _ _ a => a.toleranceWritten (s.at_ t).chooseState))) :=
  (Eq.refl (execToleranceWrite t tr s)).trans (run_congr rfl)

/-- Settles O31: each row runs a SET with its own hook, and none of its parameters waits for the boundary. -/
theorem actingSetsAct : Obligations.ActingSetsAct := by
  intro t tr s
  refine ⟨fun id hid => ?fallback, ?tolerance, ?eject, ?adopt, ?tamperCfg, ?confirm, ?updFallback, ?switchNow,
    ?farrier⟩
  case fallback =>
    exact answers_immediateSet (fun _ first vals a => eachElement State.queueFallback first vals.length a) rfl
      (setAtOnce_fallbackTargets id hid)
  case tolerance =>
    exact answers_immediateSet (fun _ _ _ a => a.toleranceWritten (s.at_ t).chooseState)
      (exec_toleranceWrite t tr s) (by decide)
  case eject =>
    exact answers_immediateSet (fun _ first vals a => eachElement State.ejectWritten first vals.length a) rfl
      (by decide)
  case adopt =>
    exact answers_immediateSet (fun _ first vals a => eachElement State.adoptWritten first vals.length a) rfl
      (by decide)
  case tamperCfg => exact answers_immediateSet (fun _ _ _ a => a.tamperConfigured) rfl (by decide)
  case confirm => exact answers_immediateSet (fun _ _ _ a => a.confirmWritten) rfl (by decide)
  case updFallback => exact answers_immediateSet (fun _ _ _ a => a.fallbackWritten) rfl (by decide)
  case switchNow => exact answers_immediateSet (fun _ _ _ a => a) rfl (by decide)
  case farrier => exact answers_immediateSet (fun _ _ _ a => a.farrierWritten) rfl (by decide)

end Sys2Proof.Machine

/-! PROOF.  Records and the rest of the parameter store: raising an event writes the waybill's parameters and the event
bits of the host port alone (R249, R364 to R370, R376). -/

namespace Sys2Proof.Machine

open Sys2Proof

/-- No record writes the element: it lies below the waybill's parameters and is not cmd.hp_event. -/
def Unrecorded (jd d : Nat) : Prop :=
  paramKey jd d < paramKey Pid.wbRecords 0 ∧ paramKey jd d ≠ paramKey Pid.cmdHpEvent 0

theorem w_withWaybill (s : State) (x : WaybillState) (id e : Nat) :
    ({ s with waybill := x } : State).w id e = s.w id e := rfl

section Unrecorded

variable {jd d : Nat}

theorem Unrecorded.key_ne (h : Unrecorded jd d) {id : Nat} (hid : Pid.wbRecords ≤ id) (e : Nat) :
    paramKey jd d ≠ paramKey id e := by
  have hlow := h.1
  unfold paramKey at hlow ⊢
  omega

/-- The statistics matrix of the waybill lies above its parameters, whatever the code. -/
theorem wbCount_w (h : Unrecorded jd d) (s : State) (code : Nat) (m : WbMeasure) :
    (s.wbCount code m).w jd d = s.w jd d := by
  unfold State.wbCount
  split
  · exact w_bump_other s (h.key_ne (by decide) _) _
  · exact w_bump_other s (h.key_ne (by unfold Pid.wbRecords; omega) _) _

theorem hpEvent_w (h : Unrecorded jd d) (s : State) (k : Nat) : (s.hpEvent k).w jd d = s.w jd d :=
  w_setP_other s h.2 _

theorem loseRecord_w (h : Unrecorded jd d) (s : State) (r : EventRecord) : (s.loseRecord r).w jd d = s.w jd d :=
  (w_setP_other _ (h.key_ne (by decide) _) _).trans (wbCount_w h ..)

theorem appendRecord_w (h : Unrecorded jd d) (s : State) (r : EventRecord) : (s.appendRecord r).w jd d = s.w jd d := by
  have hcount : ((s.bump Pid.wbNextIndex).wbCount r.code .stored).w jd d = s.w jd d :=
    (wbCount_w h ..).trans (w_bump_other s (h.key_ne (by decide) _) _)
  have hevent := (hpEvent_w h ((s.bump Pid.wbNextIndex).wbCount r.code .stored) 1).trans hcount
  unfold State.appendRecord
  dsimp only
  split <;> split <;> assumption

theorem storeRecord_w (h : Unrecorded jd d) (s : State) (r : EventRecord) : (s.storeRecord r).w jd d = s.w jd d := by
  unfold State.storeRecord
  split
  · split
    · exact appendRecord_w h ..
    · exact (w_bump_other _ (h.key_ne (by decide) _) _).trans (loseRecord_w h ..)
  · split
    · exact appendRecord_w h ..
    · split
      · exact (appendRecord_w h ..).trans ((w_withWaybill ..).trans (wbCount_w h ..))
      · exact (w_bump_other _ (h.key_ne (by decide) _) _).trans (loseRecord_w h ..)

theorem holdRecord_w (h : Unrecorded jd d) (s : State) (r : EventRecord) : (s.holdRecord r).w jd d = s.w jd d := by
  unfold State.holdRecord
  dsimp only
  split
  · rfl
  · split
    · exact (w_withWaybill ..).trans (loseRecord_w h ..)
    · exact loseRecord_w h ..

theorem releaseHeld_w (h : Unrecorded jd d) (s : State) : s.releaseHeld.w jd d = s.w jd d := by
  unfold State.releaseHeld
  split
  · rfl
  · exact (foldl_keeps (State.w · jd d) (storeRecord_w h) _ _).trans (w_withWaybill ..)

theorem placeRecord_w (h : Unrecorded jd d) (s : State) (r : EventRecord) : (s.placeRecord r).w jd d = s.w jd d := by
  unfold State.placeRecord
  split
  · exact (storeRecord_w h ..).trans (releaseHeld_w h s)
  · exact holdRecord_w h ..

theorem loseStaged_w (h : Unrecorded jd d) (s : State) (r : EventRecord) : (s.loseStaged r).w jd d = s.w jd d :=
  (w_withWaybill ..).trans ((w_bump_other _ (h.key_ne (by decide) _) _).trans (loseRecord_w h ..))

theorem stageRecord_w (h : Unrecorded jd d) (s : State) (r : EventRecord) : (s.stageRecord r).w jd d = s.w jd d := by
  unfold State.stageRecord
  dsimp only
  split
  · rfl
  · split
    · split
      · exact (w_withWaybill ..).trans (loseStaged_w h ..)
      · exact loseStaged_w h ..
    · exact loseStaged_w h ..

theorem keepRecord_w (h : Unrecorded jd d) (s : State) (r : EventRecord) : (s.keepRecord r).w jd d = s.w jd d := by
  unfold State.keepRecord
  split
  · exact stageRecord_w h ..
  · exact placeRecord_w h ..

theorem raiseNow_w (h : Unrecorded jd d) (s : State) (code severity set : Nat) (a b : Word) :
    (s.raiseNow code severity set a b).w jd d = s.w jd d := by
  have hkept : ∀ v : State, ((v.setP Pid.wbSuppressed code 0).keepRecord (v.formRecord code severity set a b)).w jd d =
      v.w jd d := fun v => (keepRecord_w h ..).trans (w_setP_other v (h.key_ne (by decide) _) _)
  unfold State.raiseNow
  dsimp only
  split
  · exact (hkept _).trans (wbCount_w h ..)
  · split
    · exact (hkept _).trans ((w_withWaybill ..).trans (wbCount_w h ..))
    · exact (w_setP_other _ (h.key_ne (by decide) _) _).trans ((wbCount_w h ..).trans (wbCount_w h ..))

theorem tellLost_w (h : Unrecorded jd d) (s : State) : s.tellLost.w jd d = s.w jd d := by
  unfold State.tellLost
  split
  · exact (raiseNow_w h ..).trans (w_withWaybill ..)
  · rfl

/-- Raising an event leaves every element that no record writes. -/
theorem raise_w (h : Unrecorded jd d) (s : State) (code a b : Nat) : (s.raise code a b).w jd d = s.w jd d :=
  (raiseNow_w h ..).trans (tellLost_w h s)

theorem raise_p (h : Unrecorded jd d) (s : State) (code a b : Nat) : (s.raise code a b).p jd d = s.p jd d :=
  congrArg BitVec.toNat (raise_w h ..)

end Unrecorded

end Sys2Proof.Machine

/-! PROOF.  The uplink's links (O45): LINK_UP, LINK_DOWN, HALF_DUPLEX_RETRY, LPI_ENTRY, LLDP, supervision, what is
forgotten, LINK_LOCAL_PROBE and REDUCED_UPLINK_STEP (R266 to R268, R270, R273 to R275, R280, R283). -/

namespace Sys2Proof.Machine

open Sys2Proof

/-! ### Ports and flags -/

theorem port_of_net {u v : State} (h : u.net = v.net) (p : Nat) : u.port p = v.port p := by
  unfold State.port; rw [h]

@[simp] theorem at_port (s : State) (t p : Nat) : (s.at_ t).port p = s.port p := rfl

@[simp] theorem after_port (s : State) (t : Nat) (f : State → State) (p : Nat) :
    (s.after_ t f).port p = (f (s.at_ t)).port p := rfl

@[simp] theorem at_flagOf (s : State) (t id e k : Nat) : (s.at_ t).flagOf id e k = s.flagOf id e k := rfl

@[simp] theorem after_flagOf (s : State) (t : Nat) (f : State → State) (id e k : Nat) :
    (s.after_ t f).flagOf id e k = (f (s.at_ t)).flagOf id e k := rfl

@[simp] theorem modifyPort_port_same (s : State) (p : Nat) (f : NetPort → NetPort) :
    (s.modifyPort p f).port p = f (s.port p) := Tab.get_modify_same ..

@[simp] theorem modifyPort_w (s : State) (p : Nat) (f : NetPort → NetPort) (id e : Nat) :
    (s.modifyPort p f).w id e = s.w id e := rfl

@[simp] theorem modifyPort_p (s : State) (p : Nat) (f : NetPort → NetPort) (id e : Nat) :
    (s.modifyPort p f).p id e = s.p id e := rfl

@[simp] theorem modifyPort_flagOf (s : State) (p : Nat) (f : NetPort → NetPort) (id e k : Nat) :
    (s.modifyPort p f).flagOf id e k = s.flagOf id e k := rfl

/-- Setting a flag leaves the other flags of its element. -/
theorem flagOf_setFlag_true_other (s : State) (id e : Nat) {j k : Nat} (hj : j < 32) (hne : k ≠ j) :
    (s.setFlag id e k true).flagOf id e j = s.flagOf id e j := by
  unfold State.flagOf State.setFlag
  rw [p_setP_same, Nat.testBit_mod_two_pow]
  simp [hj, putBit, setBit, Nat.one_shiftLeft, hne]

/-- Only elements of net.eee_tw and net.lldp_partner_tw show a port's wake times (R268). -/
@[simp] theorem showTw_net (s : State) (p : Nat) : (s.showTw p).net = s.net := by simp [State.showTw]

theorem showTw_p_link (s : State) {p : Nat} (hp : p < 65536) : (s.showTw p).p Pid.netLink p = s.p Pid.netLink p :=
  (p_setP_other _ (paramKey_ne (by decide) hp hp) _).trans (p_setP_other s (paramKey_ne (by decide) hp hp) _)

/-- No record writes net.link of a port. -/
theorem unrecorded_netLink {p : Nat} (hp : p < 2) : Unrecorded Pid.netLink p := by
  unfold Unrecorded paramKey Pid.netLink Pid.wbRecords Pid.cmdHpEvent
  omega

/-! ### LINK_UP -/

theorem speed_le_of_allowed {s : State} {p speed : Nat} (h : s.speedAllowed p speed = true) : speed ≤ 3 := by
  unfold State.speedAllowed at h
  split at h
  · simp at h; omega
  · split at h <;> simp at h <;> omega

/-- The port whose link has come up. -/
def NetPort.linked (now : Nat) (partnerEee : Bool) (k : NetPort) : NetPort :=
  { k with refusedAt := none, idleSince := now, lpiSince := none, wakeUntil := none, partnerEee := partnerEee }

/-- A full-duplex link has come up with a word of net.link, and no address is claimed yet (R266, R283). -/
def State.linkShown (s : State) (port link : Nat) (partnerEee : Bool) : State :=
  let shown := s.setP Pid.netLink port link
  let v := shown.modifyPort port (NetPort.linked shown.now partnerEee)
  (v.showTw port).raise 0x21 port (v.p Pid.netLink port)

/-- A link-local address is claimed where none is in force (R270). -/
def State.claimIfNone (s : State) : State :=
  if s.p Pid.netIpAddr = 0 ∧ s.p Pid.netIpInUse = 0 ∧ s.net.probing.isNone then s.beginClaim else s

/-- The word of net.link of a link that is up (R283). -/
def linkWord (speed : Nat) (eee : Bool) : Nat := 1 + 2 * speed + 8 * flag eee

theorem linkWord_lt {speed : Nat} (h : speed ≤ 3) (eee : Bool) : linkWord speed eee < 2 ^ 32 := by
  cases eee <;> simp [linkWord, flag] <;> omega

@[simp] theorem claimIfNone_p (s : State) (id e : Nat) : s.claimIfNone.p id e = s.p id e := by
  unfold State.claimIfNone; split <;> rfl

@[simp] theorem claimIfNone_port (s : State) (p : Nat) : s.claimIfNone.port p = s.port p := by
  unfold State.claimIfNone; split <;> rfl

@[simp] theorem claimIfNone_mode (s : State) : s.claimIfNone.net.mode = s.net.mode := by
  unfold State.claimIfNone; split <;> rfl

@[simp] theorem claimIfNone_rings (s : State) : s.claimIfNone.net.rings = s.net.rings := by
  unfold State.claimIfNone; split <;> rfl

theorem linkShown_net (s : State) (port link : Nat) (partnerEee : Bool) : (s.linkShown port link partnerEee).net =
    (s.modifyPort port (NetPort.linked s.now partnerEee)).net := by
  unfold State.linkShown State.modifyPort
  simp

theorem linkShown_p_link (s : State) {port : Nat} (hport : port < 2) (link : Nat) (partnerEee : Bool) :
    (s.linkShown port link partnerEee).p Pid.netLink port = link % 2 ^ 32 := by
  unfold State.linkShown
  dsimp only
  rw [raise_p (unrecorded_netLink hport), showTw_p_link _ (by omega), modifyPort_p, p_setP_same]

/-- Negotiation on a port that runs with its link down may end at an allowed speed (R266). -/
structure State.Negotiates (s : State) (port speed : Nat) : Prop where
  port_lt : port < 2
  runs : s.phyRuns port = true
  down : s.linkUp port = false
  allowed : s.speedAllowed port speed = true

section LinkUp

variable {t port speed : Nat} {s : State}

theorem State.Negotiates.ends (h : s.Negotiates port speed) :
    ¬ (2 ≤ port ∨ !s.phyRuns port ∨ s.linkUp port ∨ !s.speedAllowed port speed) := by
  simp [h.port_lt, h.runs, h.down, h.allowed]

theorem State.Negotiates.at_ (h : s.Negotiates port speed) (t : Nat) : (s.at_ t).Negotiates port speed :=
  ⟨h.port_lt, h.runs, h.down, h.allowed⟩

theorem linkUp_effect (eee : Bool) (h : s.Negotiates port speed) :
    EffectIs (.linkUp t port speed false eee) t s ((s.at_ t).linkShown port
      (linkWord speed ((s.at_ t).eeeWanted port && eee && decide (2 ≤ speed))) eee).claimIfNone := by
  refine effectIs_of_run (Eq.refl (execLinkUp t port speed false eee s))
    ((if_neg (h.at_ t).ends).trans ((if_neg Bool.false_ne_true).trans ?_))
  unfold State.claimIfNone State.linkShown linkWord NetPort.linked
  dsimp only

theorem linkUp_completes (eee : Bool) (h : s.Negotiates port speed) :
    Completes (.linkUp t port speed false eee) s (fun u =>
      u.p Pid.netLink port = 1 + 2 * speed + 8 * flag (s.eeeWanted port && eee && decide (2 ≤ speed)) ∧
      (u.port port).refusedAt = none ∧ (u.port port).lpiSince = none ∧ (u.port port).partnerEee = eee ∧
      u.net.mode = s.net.mode ∧ u.net.rings = s.net.rings) := by
  refine completes_of_effect (linkUp_effect eee h) ?_
  rw [after_p, claimIfNone_p, linkShown_p_link _ h.port_lt,
    Nat.mod_eq_of_lt (linkWord_lt (speed_le_of_allowed h.allowed) _), after_port, claimIfNone_port,
    port_of_net (linkShown_net ..), modifyPort_port_same, after_net, claimIfNone_mode, claimIfNone_rings, linkShown_net]
  exact ⟨rfl, rfl, rfl, rfl, rfl, rfl⟩

theorem linkUp_halfDuplex_effect (eee : Bool) (h : s.Negotiates port speed) :
    EffectIs (.linkUp t port speed true eee) t s (((s.at_ t).setFlag Pid.netLink port 5 true).modifyPort port
      (fun k => { k with refusedAt := some (max s.now t) })) :=
  effectIs_of_run (Eq.refl (execLinkUp t port speed true eee s))
    ((if_neg (h.at_ t).ends).trans (if_pos rfl))

theorem linkUp_halfDuplex_completes (eee : Bool) (h : s.Negotiates port speed) :
    Completes (.linkUp t port speed true eee) s (fun u =>
      u.linkUp port = false ∧ u.flagOf Pid.netLink port 5 = true ∧ (u.port port).refusedAt = some (max s.now t)) := by
  refine completes_of_effect (linkUp_halfDuplex_effect eee h) ?_
  rw [State.linkUp, after_flagOf, after_flagOf, after_port, modifyPort_flagOf, modifyPort_flagOf, modifyPort_port_same,
    flagOf_setFlag_true_other _ _ _ (by decide) (by decide), flagOf_setFlag_true _ _ _ (by decide)]
  exact ⟨h.down, rfl, rfl⟩

end LinkUp

/-! ### LINK_DOWN -/

@[simp] theorem creditSent_net (s : State) (l : Nat) : (s.creditSent l).net = s.net := by
  unfold State.creditSent State.add64
  split
  · rfl
  · simp [State.modLt, State.set64]

/-- A test that ends leaves the uplink's state alone. -/
theorem endTest_net (s : State) (l cause : Nat) : (s.endTest l cause).net = s.net := by
  unfold State.endTest
  split
  · rfl
  · simp [State.testCount, State.modLt, apply_ite State.net]

@[simp] theorem endTests_net (s : State) (ls : List Nat) (cause : Nat) : (s.endTests ls cause).net = s.net :=
  foldl_keeps State.net (fun s l => endTest_net s l cause) ls s

/-- A dropped frame is counted only (R284, R308). -/
@[simp] theorem countDrop_net (s : State) (d k p : Nat) (f : Frame) : (s.countDrop d k p f).net = s.net := by
  unfold State.countDrop State.netCount State.ptpCount
  dsimp only
  split
  · split <;> simp
  · simp

/-- The port whose link has been lost (R278). -/
def NetPort.unlinked (now : Nat) (k : NetPort) : NetPort :=
  { k with high := [], normal := [], idleSince := now, wakeUntil := none, partnerEee := false }

/-- A link that is up and lost ends low-power idle and empties its port's queues; the rest of the uplink stays. -/
theorem linkLost_net {s : State} {p : Nat} (hup : s.linkUp p = true) :
    ∃ now, (s.linkLost p).net = ((s.leaveLpi p).modifyPort p (NetPort.unlinked now)).net := by
  have hdrops : ∀ (v : State) (l : List QueuedFrame), (l.foldl (fun v q =>
      (v.bump Pid.netTxDrops p).countDrop (if q.own then 1 else 2) (v.sentKind q.frame) p q.frame) v).net = v.net :=
    fun v l => foldl_keeps State.net (fun v q => (countDrop_net ..).trans (bump_net ..)) l v
  unfold State.linkLost
  rw [if_neg (by simp [hup])]
  dsimp only
  rw [raise_net, showTw_net, bump_net, setP_net]
  generalize hv : List.foldl _ _ _ = v
  have hnet : v.net = (s.leaveLpi p).net := by rw [← hv, hdrops, endTests_net]
  refine ⟨v.now, ?_⟩
  unfold State.modifyPort
  rw [withNet_net, withNet_net, hnet]
  rfl

@[simp] theorem leaveLpi_modeWaits (s : State) (p : Nat) : (s.leaveLpi p).net.modeWaits = s.net.modeWaits := by
  unfold State.leaveLpi
  split
  · rfl
  · simp [State.modifyPort]

@[simp] theorem leaveLpi_ipWaits (s : State) (p : Nat) : (s.leaveLpi p).net.ipWaits = s.net.ipWaits := by
  unfold State.leaveLpi
  split
  · rfl
  · simp [State.modifyPort]

/-- Where neither a mode nor an address waits for a reply, nothing follows one (R270, R279). -/
theorem afterReply_idle {s : State} (hmode : s.net.modeWaits = false) (hip : s.net.ipWaits = false) :
    s.afterReply = s := by
  simp [State.afterReply, State.applyWaiting, hmode, hip]

theorem linkDown_effect {port : Nat} (t : Nat) (s : State) (hport : port < 2) :
    EffectIs (.linkDown t port) t s ((s.at_ t).linkLost port).afterReply :=
  effectIs_of_run (Eq.refl (execLinkDown t port s)) (if_neg (Nat.not_le.2 hport))

theorem linkDown_completes {t port : Nat} {s : State} (hport : port < 2) (hup : s.linkUp port = true)
    (hmode : s.net.modeWaits = false) (hip : s.net.ipWaits = false) : Completes (.linkDown t port) s (fun u =>
      (u.port port).high = [] ∧ (u.port port).normal = [] ∧ (u.port port).partnerEee = false) := by
  obtain ⟨now, hnet⟩ := linkLost_net (s := s.at_ t) hup
  have hidle : ((s.at_ t).linkLost port).afterReply = (s.at_ t).linkLost port :=
    afterReply_idle (by rw [hnet]; exact (leaveLpi_modeWaits ..).trans hmode)
      (by rw [hnet]; exact (leaveLpi_ipWaits ..).trans hip)
  refine completes_of_effect (linkDown_effect t s hport) ?_
  rw [hidle, after_port, port_of_net hnet, modifyPort_port_same]
  exact ⟨rfl, rfl, rfl⟩

/-! ### The deadlines of a port -/

section Deadlines

variable {t port : Nat} {s : State}

theorem halfDuplexRetry_effect {a : Nat} (hport : port < 2) (hrefused : (s.port port).refusedAt = some a)
    (hdue : a + 2 * sec ≤ max s.now t) : EffectIs (.halfDuplexRetry t port) t s
      ((s.at_ t).modifyPort port (fun k => { k with refusedAt := some (max s.now t) })) := by
  refine effectIs_of_run (Eq.refl (execHalfDuplexRetry t port s)) ?_
  simp only [at_port, hrefused]
  exact if_pos ⟨hport, at_passed hdue⟩

theorem halfDuplexRetry_completes {a : Nat} (hport : port < 2) (hrefused : (s.port port).refusedAt = some a)
    (hdue : a + 2 * sec ≤ max s.now t) : Completes (.halfDuplexRetry t port) s (fun u =>
      (u.port port).refusedAt = some (max s.now t) ∧ u.params = s.params) := by
  refine completes_of_effect (halfDuplexRetry_effect hport hrefused hdue) ?_
  rw [after_port, modifyPort_port_same, after_params]
  exact ⟨rfl, rfl⟩

theorem lpiEntry_effect (hport : port < 2) (hup : s.linkUp port = true) (heee : s.flagOf Pid.netLink port 3 = true)
    (hawake : (s.port port).lpiSince = none) (hhigh : (s.port port).high = []) (hnormal : (s.port port).normal = [])
    (hdue : (s.port port).idleSince + s.p Pid.netEeeIdleUs * us ≤ max s.now t) :
    EffectIs (.lpiEntry t port) t s (((s.at_ t).setFlag Pid.netLink port 4 true).modifyPort port
      (fun k => { k with lpiSince := some (max s.now t), wakeUntil := none })) := by
  refine effectIs_of_run (Eq.refl (execLpiEntry t port s)) ?_
  have hup' : (s.at_ t).linkUp port = true := hup
  simp only [hport, hup', at_flagOf, heee, at_port, hawake, hhigh, hnormal, at_p, at_passed hdue, Option.isNone_none,
    List.isEmpty_nil, and_self, if_true, at_now]

theorem lpiEntry_completes (hport : port < 2) (hup : s.linkUp port = true) (heee : s.flagOf Pid.netLink port 3 = true)
    (hawake : (s.port port).lpiSince = none) (hhigh : (s.port port).high = []) (hnormal : (s.port port).normal = [])
    (hdue : (s.port port).idleSince + s.p Pid.netEeeIdleUs * us ≤ max s.now t) :
    Completes (.lpiEntry t port) s (fun u =>
      u.flagOf Pid.netLink port 4 = true ∧ (u.port port).lpiSince = some (max s.now t)) := by
  refine completes_of_effect (lpiEntry_effect hport hup heee hawake hhigh hnormal hdue) ?_
  rw [after_flagOf, modifyPort_flagOf, flagOf_setFlag_true _ _ _ (by decide), after_port, modifyPort_port_same]
  exact ⟨rfl, rfl⟩

/-- The LLDPDU of a port (R268). -/
def State.lldpFrame (s : State) (port : Nat) : Frame :=
  let name := s.pRun Pid.sysName 0 8
  ⟨nearestBridge, s.mac port, lldpLength name, true, none, none, none,
    .lldp (4 * s.p Pid.netLldpIntervalS) (s.mac 0) (s.mac port) (name.map word) (some (s.eeeTlv port))⟩

theorem lldpSend_effect {a : Nat} (hport : port < 2) (hphy : s.phyRuns port = true)
    (hsent : (s.port port).lldpSent = some a) (hdue : a + s.p Pid.netLldpIntervalS * sec ≤ max s.now t) :
    EffectIs (.lldpSend t port) t s (((s.at_ t).modifyPort port
      (fun k => { k with lldpSent := some (max s.now t) })).originate [port] ((s.at_ t).lldpFrame port)) := by
  have hphy' : (s.at_ t).phyRuns port = true := hphy
  refine effectIs_of_run (Eq.refl (execLldpSend t port s)) ?_
  simp only [at_port, hsent, at_p, at_passed hdue, hphy', Nat.not_le.2 hport, Bool.not_true, Bool.false_eq_true,
    or_self, if_false]
  rfl

theorem lldpSend_completes {a : Nat} (hport : port < 2) (hphy : s.phyRuns port = true)
    (hsent : (s.port port).lldpSent = some a) (hdue : a + s.p Pid.netLldpIntervalS * sec ≤ max s.now t) :
    Completes (.lldpSend t port) s (fun u => (u.port port).lldpSent = some (max s.now t) ∧
      ∃ f : Frame, f.dest = nearestBridge ∧ f.source = s.mac port ∧
        u.net.originated = s.net.originated ++ [([port], ⟨f, true, none, none⟩)]) := by
  refine completes_of_effect (lldpSend_effect hport hphy hsent hdue) ⟨?_, (s.at_ t).lldpFrame port, rfl, rfl, rfl⟩
  exact congrArg NetPort.lldpSent (modifyPort_port_same ..)

theorem lldpNeighbourExpiry_effect {n : LldpNeighbour} (hknown : (s.port port).neighbour = some n)
    (hover : n.expires ≤ max s.now t) : EffectIs (.lldpNeighbourExpiry t port) t s
      (((s.at_ t).modifyPort port (fun k => { k with neighbour := none })).showTw port) := by
  refine effectIs_of_run (Eq.refl (execLldpNeighbourExpiry t port s)) ?_
  simp only [at_port, hknown]
  exact if_pos hover

end Deadlines

/-! ### Supervision, and what is forgotten -/

/-- The supervision frame of the module (R274). -/
def State.supervisionFrame (s : State) : Frame :=
  ⟨0x01154E000100 + s.p Pid.netSupAddrLsb, s.mac 0, 64, true, none, none, none, .supervision (s.mac 0)⟩

section Uplink

variable {t : Nat} {s : State}

theorem supervisionSend_effect (hmode : s.net.mode < 2) (hon : s.domainOn 6 = true) (hfirst : s.net.lifeSent = none) :
    EffectIs (.supervisionSend t) t s (((s.at_ t).withNet (fun n => { n with
      lifeSent := some (max s.now t) })).originate [0, 1] s.supervisionFrame) := by
  have hon' : (s.at_ t).domainOn 6 = true := hon
  refine effectIs_of_run (Eq.refl (execSupervisionSend t s)) ?_
  simp only [at_net, hfirst, hon', Nat.not_le.2 hmode, Bool.not_true, Bool.false_eq_true, or_self, if_false]
  rfl

theorem supervisionSend_completes (hmode : s.net.mode < 2) (hon : s.domainOn 6 = true)
    (hfirst : s.net.lifeSent = none) : Completes (.supervisionSend t) s (fun u =>
      u.net.lifeSent = some (max s.now t) ∧
      u.net.originated = s.net.originated ++ [([0, 1], ⟨s.supervisionFrame, true, none, none⟩)]) :=
  completes_of_effect (supervisionSend_effect hmode hon hfirst) ⟨rfl, rfl⟩

/-- NODE_FORGET forgets the named source where its time has passed, and no other (R274). -/
theorem nodeForget_completes (t source : Nat) (s : State) : Completes (.nodeForget t source) s (fun u =>
    ∀ x, x ∈ u.net.nodes ↔
      x ∈ s.net.nodes ∧ ¬ (x.1 = source ∧ x.2 + s.p Pid.netNodeForgetS * sec ≤ max s.now t)) := by
  refine completes_of_run (Eq.refl (execNodeForget t source s)) (fun x => ?_)
  simp [State.passed, List.mem_filter]
  exact fun _ => imp_iff_not_or.symm

/-- An entry of the duplicate table that is forgotten; a frame seen on one path only counts there (R275). -/
theorem duplicateEntryForget_effect {source seq : Nat} {e : DupEntry}
    (hfound : s.net.dups.find? (fun e => e.source == source && e.seq == seq &&
      decide (e.at_ + s.p Pid.netEntryForgetMs * ms ≤ max s.now t)) = some e) :
    EffectIs (.duplicateEntryForget t source seq) t s
      (let v := (s.at_ t).withNet (fun n => { n with dups := n.dups.erase e })
       if e.both then v else v.bump Pid.netSinglePath e.port) := by
  have hfound' : (s.at_ t).net.dups.find? (fun e => e.source == source && e.seq == seq &&
      (s.at_ t).passed e.at_ ((s.at_ t).p Pid.netEntryForgetMs * ms)) = some e := hfound
  refine effectIs_of_run (Eq.refl (execDuplicateEntryForget t source seq s)) ?_
  simp only [hfound']

theorem duplicateEntryForget_completes {source seq : Nat} {e : DupEntry}
    (hfound : s.net.dups.find? (fun e => e.source == source && e.seq == seq &&
      decide (e.at_ + s.p Pid.netEntryForgetMs * ms ≤ max s.now t)) = some e) :
    Completes (.duplicateEntryForget t source seq) s (fun u => u.net.dups = s.net.dups.erase e ∧
      u.w Pid.netSinglePath e.port = s.w Pid.netSinglePath e.port + (if e.both then 0 else 1)) := by
  refine completes_of_effect (duplicateEntryForget_effect hfound) ?_
  rw [after_net, after_w]
  cases e.both with
  | true => exact ⟨rfl, (BitVec.add_zero _).symm⟩
  | false => exact ⟨by simp, w_bump_same ..⟩

/-! ### LINK_LOCAL_PROBE -/

/-- The claim's step has come: its instant is over, and no address is set (R270). -/
theorem claimStep_due {due : Nat} (hdue : due ≤ max s.now t) (hfree : s.p Pid.netIpAddr = 0) :
    ¬ ((s.at_ t).now < due ∨ (s.at_ t).p Pid.netIpAddr ≠ 0) :=
  not_or.2 ⟨Nat.not_lt.2 hdue, not_not.2 hfree⟩

theorem linkLocalProbe_third_effect {cand due : Nat} (hprobing : s.net.probing = some (cand, 2, due))
    (hdue : due ≤ max s.now t) (hfree : s.p Pid.netIpAddr = 0) : EffectIs (.linkLocalProbe t) t s
      ((((s.at_ t).drawBelow sec).2.withNet (fun n => { n with
        probing := some (cand, 3, max s.now t + 2 * sec) })).originate [0, 1]
        ((s.at_ t).arpFrame 1 0 cand broadcastMac)) := by
  refine effectIs_of_run (Eq.refl (execLinkLocalProbe t s)) ?_
  simp only [at_net, hprobing]
  rw [if_neg (claimStep_due hdue hfree), if_pos (by decide), if_pos trivial, at_now]

/-- After the third probe the address is taken into use and announced (R270). -/
theorem linkLocalProbe_claim_effect {cand due : Nat} (hprobing : s.net.probing = some (cand, 3, due))
    (hdue : due ≤ max s.now t) (hfree : s.p Pid.netIpAddr = 0) : EffectIs (.linkLocalProbe t) t s
      ((((s.at_ t).setP Pid.netIpInUse 0 cand).withNet (fun n => { n with
        probing := some (cand, 4, max s.now t + 2 * sec) })).originate [0, 1]
        (((s.at_ t).setP Pid.netIpInUse 0 cand).arpFrame 1 cand cand broadcastMac)) := by
  refine effectIs_of_run (Eq.refl (execLinkLocalProbe t s)) ?_
  simp only [at_net, hprobing]
  rw [if_neg (claimStep_due hdue hfree), if_neg (by decide), if_pos trivial, setP_now, at_now]

theorem linkLocalProbe_third_completes {cand due : Nat} (hprobing : s.net.probing = some (cand, 2, due))
    (hdue : due ≤ max s.now t) (hfree : s.p Pid.netIpAddr = 0) : Completes (.linkLocalProbe t) s (fun u =>
      u.net.probing = some (cand, 3, max s.now t + 2 * sec) ∧
      u.net.originated.length = s.net.originated.length + 1) :=
  completes_of_effect (linkLocalProbe_third_effect hprobing hdue hfree) ⟨rfl, List.length_append⟩

theorem linkLocalProbe_claim_completes {cand due : Nat} (hprobing : s.net.probing = some (cand, 3, due))
    (hdue : due ≤ max s.now t) (hfree : s.p Pid.netIpAddr = 0) : Completes (.linkLocalProbe t) s (fun u =>
      u.p Pid.netIpInUse = cand % 2 ^ 32 ∧ u.net.probing = some (cand, 4, max s.now t + 2 * sec)) := by
  refine completes_of_effect (linkLocalProbe_claim_effect hprobing hdue hfree) ⟨?_, rfl⟩
  rw [after_p, originate_p, withNet_p, p_setP_same]

/-! ### REDUCED_UPLINK_STEP -/

/-- The other port is powered off once the kept link is up (R280). -/
theorem reducedUplinkStep_effect {a : Nat} (hstep : s.net.reduceStep = some (1, a))
    (hup : s.linkUp s.net.keptPort = true) : EffectIs (.reducedUplinkStep t) t s
      ((((s.at_ t).linkLost (1 - s.net.keptPort)).modifyPort (1 - s.net.keptPort)
        (fun k => { k with phyOn := false })).withNet (fun n => { n with reduceStep := none })) := by
  refine effectIs_of_run (Eq.refl (execReducedUplinkStep t s)) ?_
  simp only [at_net, hstep]
  exact if_pos (.inl hup)

theorem reducedUplinkStep_completes {a : Nat} (hstep : s.net.reduceStep = some (1, a))
    (hup : s.linkUp s.net.keptPort = true) : Completes (.reducedUplinkStep t) s (fun u =>
      (u.port (1 - s.net.keptPort)).phyOn = false ∧ u.net.reduceStep = none) :=
  completes_of_effect (reducedUplinkStep_effect hstep hup)
    ⟨congrArg NetPort.phyOn (modifyPort_port_same ((s.at_ t).linkLost (1 - s.net.keptPort)) _ _), rfl⟩

end Uplink

/-- Settles O45, command by command. -/
theorem linkCommands : Obligations.LinkCommands :=
  ⟨fun _ _ _ eee _ hport hphy hdown hspeed => linkUp_completes eee ⟨hport, hphy, hdown, hspeed⟩,
    fun _ _ _ eee _ hport hphy hdown hspeed => linkUp_halfDuplex_completes eee ⟨hport, hphy, hdown, hspeed⟩,
    fun _ _ _ => linkDown_completes, fun t _ s => linkDown_effect t s, fun _ _ _ _ => halfDuplexRetry_completes,
    fun _ _ _ => lpiEntry_completes, fun _ _ _ _ => lldpSend_completes, fun _ _ _ _ => lldpNeighbourExpiry_effect,
    fun _ _ => supervisionSend_completes, nodeForget_completes, fun _ _ _ _ _ => duplicateEntryForget_completes,
    fun _ _ _ _ => linkLocalProbe_claim_completes, fun _ _ _ _ => linkLocalProbe_third_completes,
    fun _ _ _ hstep hup _ => reducedUplinkStep_completes hstep hup⟩

end Sys2Proof.Machine

/-! PROOF.  The uplink's frames (O46): FRAME_RECEIVE, FRAME_TRANSMIT, ORIGINATED_FRAME_QUEUE and DISCOVERY_REPLY (R269,
R271, R274, R276 to R278). -/

namespace Sys2Proof.Machine

open Sys2Proof

/-! ### FRAME_RECEIVE -/

/-- A port without its link takes no frame. -/
theorem receiveFrame_unlinked {s : State} {port : Nat} (h : 2 ≤ port ∨ s.linkUp port = false) (sfd : Nat) (f : Frame)
    (overflow : Bool) : s.receiveFrame port sfd f overflow = s := by
  have hdeaf : 2 ≤ port ∨ (!s.phyRuns port) = true ∨ (!s.linkUp port) = true :=
    h.imp_right fun hdown => .inr (by rw [hdown]; rfl)
  unfold State.receiveFrame
  dsimp only
  rw [if_pos hdeaf, ite_self]

/-- A port receives: no test runs on it, and its PHY runs with the link up (R276, R474). -/
structure State.Receives (s : State) (port : Nat) : Prop where
  port_lt : port < 2
  untested : s.portTested port = false
  phy : s.phyRuns port = true
  up : s.linkUp port = true

section Receive

variable {s : State} {port sfd : Nat} {f : Frame} {overflow : Bool}

theorem State.Receives.hears (h : s.Receives port) :
    ¬ (2 ≤ port ∨ (!s.phyRuns port) = true ∨ (!s.linkUp port) = true) := by
  simp [h.phy, h.up, h.port_lt]

/-- A frame shorter than 64 octets is a runt (R276). -/
theorem receiveFrame_runt (h : s.Receives port) (hmode : s.net.mode ≠ 1) (hshort : f.length < 64) :
    s.receiveFrame port sfd f overflow = s.bump Pid.netRxRunts port := by
  unfold State.receiveFrame
  simp only [h.untested, h.hears, hmode, hshort, false_and, Bool.false_eq_true, ↓reduceIte]

/-- A frame longer than 1,536 octets is oversize (R276). -/
theorem receiveFrame_oversize (h : s.Receives port) (hmode : s.net.mode ≠ 1) (hlong : 1536 < f.length) :
    s.receiveFrame port sfd f overflow = s.bump Pid.netRxOversize port := by
  have hmin : ¬ f.length < 64 := by omega
  unfold State.receiveFrame
  simp only [h.untested, h.hears, hmode, hmin, hlong, false_and, Bool.false_eq_true, ↓reduceIte]

/-- A frame of good length with a bad FCS (R276). -/
theorem receiveFrame_badFcs (h : s.Receives port) (hmode : s.net.mode ≠ 1) (hmin : 64 ≤ f.length)
    (hmax : f.length ≤ 1536) (hfcs : f.fcsGood = false) :
    s.receiveFrame port sfd f overflow = s.bump Pid.netRxFcs port := by
  unfold State.receiveFrame
  simp only [h.untested, h.hears, hmode, Nat.not_lt.2 hmin, Nat.not_lt.2 hmax, hfcs, false_and, Bool.false_eq_true,
    Bool.not_false, ↓reduceIte]

/-- A received frame goes into a ring, in the first `need` of its free descriptors (R277). -/
def State.store (s : State) (i need sfd : Nat) (f : Frame) : State :=
  let ring := s.net.rings.getD i (.full 0)
  s.withNet (fun n => { n with rings := n.rings.set i (RxRing.mk (ring.free.drop need)
    (ring.held ++ [HeldFrame.mk f sfd (ring.free.take need)])) })

/-- Only in the HSR mode frames go on to the other port (R274). -/
theorem forward_of_mode {s : State} (h : s.net.mode ≠ 0) (port sfd : Nat) (f : Frame) : s.forward port sfd f = s :=
  if_neg (fun hforward => h hforward.1)

@[simp] theorem countFrame_power (s : State) (d k p : Nat) (f : Frame) : (s.countFrame d k p f).power = s.power := by
  unfold State.countFrame State.netCount
  dsimp only
  split <;> simp

/-- A good unicast frame for the module itself, in a single-port mode, is counted and stored while its ring has room
(R276, R277). -/
theorem receiveFrame_stored {need : Nat} (h : s.Receives port) (hmode : s.net.mode = 2) (hmin : 64 ≤ f.length)
    (hmax : f.length ≤ 1536) (hfcs : f.fcsGood = true) (hown : s.ownMac f.dest = true) (hvlan : f.vlan = none)
    (hpause : f.body ≠ .pause) (hcopy : s.copySeq f = none) (hawake : s.power.asleep = false)
    (hneed : need = divUp (f.length - 4) 256)
    (hroom : need ≤ (s.net.rings.getD (2 * port + (if highQueue f then 0 else 1)) (.full 0)).free.length) :
    s.receiveFrame port sfd f false =
      (((s.forward port sfd f).countFrame 0 (s.frameKind f) port f).store
        (2 * port + (if highQueue f then 0 else 1)) need sfd f) := by
  subst hneed
  have hprp : s.net.mode ≠ 1 := by omega
  have hhsr : s.net.mode ≠ 0 := by omega
  have hring : ¬ s.net.mode ≤ 1 := by omega
  have hfits := Nat.not_lt.2 hroom
  unfold State.receiveFrame State.store
  simp only [h.untested, h.hears, hprp, hring, Nat.not_lt.2 hmin, Nat.not_lt.2 hmax, hfcs, hfits, hcopy, hown,
    hvlan, hpause, forward_of_mode hhsr, withNet_power, countFrame_power, hawake, beq_false_of_ne hhsr,
    Option.bind_none, Bool.true_or, Bool.not_true, Bool.false_and, false_and, and_false, Bool.false_eq_true, ↓reduceIte]

/-- FRAME_RECEIVE: unless the service core is busy, it then takes what the rings hold (R277). -/
theorem frameReceive_effect {t : Nat} {v : State} (busy : Bool) (hv : (s.at_ t).receiveFrame port sfd f overflow = v) :
    EffectIs (.frameReceive t port sfd f overflow busy) t s (if busy then v else v.takeFrames) :=
  effectIs_of_run (Eq.refl (execFrameReceive t port sfd f overflow busy s)) (by rw [hv])

end Receive

/-! ### FRAME_TRANSMIT -/

/-- The frame that a port sends next, and the queues that remain: the high queue first (R278). -/
def NetPort.next (k : NetPort) : Option (QueuedFrame × List QueuedFrame × List QueuedFrame) :=
  match k.high with
  | q :: rest => some (q, rest, k.normal)
  | [] => match k.normal with
    | q :: rest => some (q, [], rest)
    | [] => none

theorem next_of_high {k : NetPort} {q : QueuedFrame} {rest : List QueuedFrame} (h : k.high = q :: rest) :
    k.next = some (q, rest, k.normal) := by
  unfold NetPort.next; rw [h]

theorem next_of_normal {k : NetPort} {q : QueuedFrame} {rest : List QueuedFrame} (hhigh : k.high = [])
    (h : k.normal = q :: rest) : k.next = some (q, [], rest) := by
  unfold NetPort.next; rw [hhigh, h]

theorem next_cases {k : NetPort} {q : QueuedFrame} {high normal : List QueuedFrame}
    (h : k.next = some (q, high, normal)) :
    (k.high = q :: high ∧ k.normal = normal) ∨ (k.high = [] ∧ high = [] ∧ k.normal = q :: normal) := by
  unfold NetPort.next at h
  split at h
  case h_1 hhigh => cases h; exact .inl ⟨hhigh, rfl⟩
  case h_2 hhigh =>
    split at h
    case h_1 hnormal => cases h; exact .inr ⟨hhigh, rfl, hnormal⟩
    case h_2 => cases h

/-- A frame that needs neither a residence nor a stamp leaves a port: it is counted, and the queues remain (R278). -/
def State.frameLeaves (s : State) (port : Nat) (q : QueuedFrame) (high normal : List QueuedFrame) : State :=
  let d := if q.own then 1 else 2
  let v := (s.countFrame d (s.sentKind q.frame) port q.frame).ptpSent d port q.frame false
  (v.modifyPort port (fun k => { k with
    high := high, normal := normal, wakeUntil := none, idleSince := v.now })).withNet
      (fun n => { n with sent := [(port, q.frame)] })

theorem raiseTo_zero (s : State) (id e : Nat) : s.raiseTo id e 0 = s := if_neg (Nat.not_lt_zero _)

@[simp] theorem countFrame_net (s : State) (d k p : Nat) (f : Frame) : (s.countFrame d k p f).net = s.net := by
  unfold State.countFrame State.netCount
  dsimp only
  split <;> simp

@[simp] theorem ptpSent_net (s : State) (d port : Nat) (f : Frame) (corrected : Bool) :
    (s.ptpSent d port f corrected).net = s.net := by
  unfold State.ptpSent State.ptpCount
  split
  · split
    · dsimp only
      split <;> simp
    · rfl
  · rfl

section Transmit

variable {t port : Nat} {q : QueuedFrame} {high normal : List QueuedFrame} {s : State}

theorem frameLeaves_net : ∃ now, (s.frameLeaves port q high normal).net = ((s.modifyPort port
    (fun k => { k with high := high, normal := normal, wakeUntil := none, idleSince := now })).withNet
      (fun n => { n with sent := [(port, q.frame)] })).net := by
  unfold State.frameLeaves State.modifyPort
  simp only [withNet_net, ptpSent_net, countFrame_net]
  exact ⟨_, rfl⟩

variable (hport : port < 2) (htest : s.portTested port = false) (hup : s.linkUp port = true)
  (hwake : (s.port port).wakeUntil = none) (hnext : (s.port port).next = some (q, high, normal))
  (hingress : q.ingress = none) (hstamp : q.stampSlot = none)

include hport htest hup hwake hnext hingress hstamp

theorem frameTransmit_effect :
    EffectIs (.frameTransmit t port) t s ((s.at_ t).frameLeaves port q high normal).afterReply := by
  have htest' : (s.at_ t).portTested port = false := htest
  have hup' : (s.at_ t).linkUp port = true := hup
  refine effectIs_of_run (Eq.refl (execFrameTransmit t port s)) ?_
  rcases next_cases hnext with ⟨hhigh, hnormal⟩ | ⟨hhigh, rfl, hnormal⟩
  all_goals
    simp only [htest', hup', at_port, hhigh, hnormal, hwake, hingress, hstamp, Nat.not_le.2 hport, Bool.false_eq_true,
      Bool.not_true, or_self, ↓reduceIte]
    split
    case h_1 hsome => cases hsome
    case h_2 => simp only [bne_self_eq_false, satU32, Nat.min_zero, raiseTo_zero]; rfl

theorem frameTransmit_completes (hmode : s.net.modeWaits = false) (hip : s.net.ipWaits = false) :
    Completes (.frameTransmit t port) s (fun u =>
      u.net.sent = [(port, q.frame)] ∧ (u.port port).high = high ∧ (u.port port).normal = normal) := by
  obtain ⟨now, hnet⟩ := frameLeaves_net (s := s.at_ t) (port := port) (q := q) (high := high) (normal := normal)
  have hidle := afterReply_idle (s := (s.at_ t).frameLeaves port q high normal) (by rw [hnet]; exact hmode)
    (by rw [hnet]; exact hip)
  refine completes_of_effect (frameTransmit_effect hport htest hup hwake hnext hingress hstamp) ?_
  rw [hidle, after_net, after_port, port_of_net hnet, hnet]
  refine ⟨rfl, ?_⟩
  have hqueues := modifyPort_port_same (s.at_ t) port
    (fun k => { k with high := high, normal := normal, wakeUntil := none, idleSince := now })
  exact ⟨congrArg NetPort.high hqueues, congrArg NetPort.normal hqueues⟩

end Transmit

/-! ### ORIGINATED_FRAME_QUEUE and DISCOVERY_REPLY -/

section Originated

variable {t : Nat} {ports : List Nat} {q : QueuedFrame} {rest : List (List Nat × QueuedFrame)} {s : State}

/-- The oldest frame of the module's own is queued once there is room for it (R278). -/
theorem originatedFrameQueue_effect {v : State} (hon : s.domainOn 6 = true)
    (hfirst : s.net.originated = (ports, q) :: rest) (hroom : (s.at_ t).placeOwn ports q = some v) :
    EffectIs (.originatedFrameQueue t) t s (v.withNet (fun n => { n with originated := rest })).afterReply := by
  have hon' : (s.at_ t).domainOn 6 = true := hon
  refine effectIs_of_run (Eq.refl (execOriginatedFrameQueue t s)) (congrArg State.afterReply ?_)
  unfold State.queueOriginated
  simp only [hon', at_net, hfirst, hroom, Bool.not_true, Bool.false_eq_true, if_false]

theorem originatedFrameQueue_waits (hfirst : s.net.originated = (ports, q) :: rest)
    (hfull : (s.at_ t).placeOwn ports q = none) : EffectIs (.originatedFrameQueue t) t s (s.at_ t).afterReply := by
  refine effectIs_of_run (Eq.refl (execOriginatedFrameQueue t s)) (congrArg State.afterReply ?_)
  unfold State.queueOriginated
  simp only [at_net, hfirst, hfull, ite_self]

end Originated

/-- A broadcast PING whose delay is over is answered on the uplink (R271). -/
theorem discoveryReply_effect {t : Nat} {d : Nat × Source × List Word} {s : State}
    (hdue : s.bridle.discovery.find? (fun d => decide (d.1 ≤ max s.now t)) = some d) :
    EffectIs (.discoveryReply t) t s { s.at_ t with bridle := { s.bridle with
      discovery := s.bridle.discovery.erase d, uplinkOut := s.bridle.uplinkOut ++ [(d.2.1, d.2.2)] } } := by
  have hdue' : (s.at_ t).bridle.discovery.find? (fun d => decide (d.1 ≤ (s.at_ t).now)) = some d := hdue
  refine effectIs_of_run (Eq.refl (execDiscoveryReply t s)) ?_
  simp only [hdue']
  rfl

theorem discoveryReply_completes {t : Nat} {d : Nat × Source × List Word} {s : State}
    (hdue : s.bridle.discovery.find? (fun d => decide (d.1 ≤ max s.now t)) = some d) :
    Completes (.discoveryReply t) s (fun u => u.bridle.discovery = s.bridle.discovery.erase d ∧
      u.bridle.uplinkOut = s.bridle.uplinkOut ++ [(d.2.1, d.2.2)]) := by
  refine completes_of_effect (discoveryReply_effect hdue) ?_
  rw [after_bridle]
  exact ⟨rfl, rfl⟩

/-- Settles O46, command by command. -/
theorem frameCommands : Obligations.FrameCommands := by
  refine ⟨?runt, ?oversize, ?badFcs, ?unlinked, ?stored, ?high, ?normal, ?queued, ?waits, ?discovery⟩
  case runt =>
    exact fun t port sfd f o b s hport htest hphy hup hmode hshort =>
      frameReceive_effect b (receiveFrame_runt (s := s.at_ t) ⟨hport, htest, hphy, hup⟩ hmode hshort)
  case oversize =>
    exact fun t port sfd f o b s hport htest hphy hup hmode hlong =>
      frameReceive_effect b (receiveFrame_oversize (s := s.at_ t) ⟨hport, htest, hphy, hup⟩ hmode hlong)
  case badFcs =>
    exact fun t port sfd f o b s hport htest hphy hup hmode hmin hmax hfcs =>
      frameReceive_effect b (receiveFrame_badFcs (s := s.at_ t) ⟨hport, htest, hphy, hup⟩ hmode hmin hmax hfcs)
  case unlinked =>
    exact fun t port sfd f o b s hdeaf => frameReceive_effect b (receiveFrame_unlinked (s := s.at_ t) hdeaf sfd f o)
  case stored =>
    intro t port sfd need f s hport htest hphy hup hmode hmin hmax hfcs hown hvlan hpause hcopy hawake hneed hroom
    exact frameReceive_effect true (receiveFrame_stored (s := s.at_ t) ⟨hport, htest, hphy, hup⟩ hmode hmin hmax hfcs
      hown hvlan hpause hcopy hawake hneed hroom)
  case high =>
    exact fun t port q rest s hport htest hup hwake hhigh hingress hstamp hmode hip =>
      frameTransmit_completes hport htest hup hwake (next_of_high hhigh) hingress hstamp hmode hip
  case normal =>
    intro t port q rest s hport htest hup hwake hhigh hnormal hingress hstamp hmode hip
    obtain ⟨u, hu, hsent, -, hrest⟩ := frameTransmit_completes (t := t) hport htest hup hwake
      (next_of_normal hhigh hnormal) hingress hstamp hmode hip
    exact ⟨u, hu, hsent, hrest⟩
  case queued => exact fun t ports q rest v s => originatedFrameQueue_effect
  case waits => exact fun t ports q rest s => originatedFrameQueue_waits
  case discovery => exact fun t d s => discoveryReply_completes

end Sys2Proof.Machine

/-! PROOF.  The calendar and the timers of D0 (O48): CALENDAR_SECOND, RTC_TRIM_WINDOW, RETENTION_LOSS,
D0_SUPPLY_CHANGEOVER, WAKE_TIMER_EXPIRY and ALARM_FIRE (R296, R298 to R302). -/

namespace Sys2Proof.Machine

open Sys2Proof

/-! ### Flags -/

/-- Taking 2^k away from a number whose bit k is 1 makes that bit 0. -/
theorem testBit_clearBit (n k : Nat) : (clearBit n k).testBit k = false := by
  unfold clearBit
  split
  case isTrue hset =>
    have hquot : (n - 2 ^ k) / 2 ^ k = n / 2 ^ k - 1 := by simpa using Nat.sub_mul_div n (2 ^ k) 1
    rw [Nat.testBit_eq_decide_div_mod_eq] at hset ⊢
    have hodd := of_decide_eq_true hset
    rw [hquot]
    exact decide_eq_false (by omega)
  case isFalse hclear => exact Bool.eq_false_iff.2 hclear

theorem flagOf_setFlag_false (s : State) (id e k : Nat) : (s.setFlag id e k false).flagOf id e k = false := by
  unfold State.flagOf State.setFlag
  rw [p_setP_same, Nat.testBit_mod_two_pow]
  exact (congrArg _ (testBit_clearBit ..)).trans (Bool.and_false _)

theorem flagOf_setP_other (s : State) {id e jd d : Nat} (h : paramKey jd d ≠ paramKey id e) (n k : Nat) :
    (s.setP id e n).flagOf jd d k = s.flagOf jd d k := congrArg (Nat.testBit · k) (p_setP_other s h n)

/-! ### CALENDAR_SECOND -/

/-- The announced leap second is taken: the offset from TAI grows by one, and the announcement ends (R296). -/
def State.takeLeap (s : State) : State :=
  (((s.setI Pid.timeUtcOffsetS 0 (s.pI Pid.timeUtcOffsetS + 1)).mark Pid.timeUtcOffsetS 0).setFlag
    Pid.timeCalStatus 0 2 false).withTime (fun k => { k with leapAt := none })

/-- What a second of the local clock does to the calendar once its leap is settled (R296, R297). -/
def State.followClock (s : State) : State :=
  let s := if s.flagOf Pid.timeCalStatus 0 3 ∧ s.calNow.1.real then s.setFlag Pid.timeCalStatus 0 3 false else s
  if s.calSynced ∧ s.p Pid.timeQuality ≤ 3 ∧ 2 < (s.calMs - s.civilMs).natAbs then s.rewriteCalendar else s

/-- A regular date stays regular: the calendar is rewritten where it is synced and too far off, and else stays. -/
theorem followClock_regular {s : State} (h : s.flagOf Pid.timeCalStatus 0 3 = false) : s.followClock =
    if s.calSynced ∧ s.p Pid.timeQuality ≤ 3 ∧ 2 < (s.calMs - s.civilMs).natAbs then s.rewriteCalendar else s := by
  simp only [State.followClock, h, Bool.false_eq_true, false_and, if_false]

theorem followClock_unsynced {s : State} (hregular : s.flagOf Pid.timeCalStatus 0 3 = false)
    (hsynced : s.calSynced = false) : s.followClock = s :=
  (followClock_regular hregular).trans (if_neg fun h => Bool.false_ne_true (hsynced.symm.trans h.1))

theorem followClock_far {s : State} (hregular : s.flagOf Pid.timeCalStatus 0 3 = false) (hsynced : s.calSynced = true)
    (hquality : s.p Pid.timeQuality ≤ 3) (hfar : 2 < (s.calMs - s.civilMs).natAbs) :
    s.followClock = s.rewriteCalendar :=
  (followClock_regular hregular).trans (if_pos ⟨hsynced, hquality, hfar⟩)

section Calendar

variable {t : Nat} {s v : State}

theorem calendarSecond_noLeap_effect (hleap : s.time.leapAt = none) (hv : (s.at_ t).followClock = v) :
    EffectIs (.calendarSecond t) t s v := by
  refine effectIs_of_run (Eq.refl (execCalendarSecond t s)) (Eq.trans ?_ hv)
  simp only [at_time, hleap]
  rfl

theorem calendarSecond_leap_effect {m : Int} (hleap : s.time.leapAt = some m) (hdue : m ≤ (s.at_ t).clockSec)
    (hv : (s.at_ t).takeLeap.followClock = v) : EffectIs (.calendarSecond t) t s v := by
  refine effectIs_of_run (Eq.refl (execCalendarSecond t s)) (Eq.trans ?_ hv)
  simp only [at_time, hleap, hdue, if_true]
  rfl

/-! ### RTC_TRIM_WINDOW -/

theorem rtcTrimWindow_start_effect (ticks : Nat) (hquality : s.p Pid.timeQuality ≤ 1)
    (hnone : s.time.trimWindow = none) : EffectIs (.rtcTrimWindow t ticks) t s
      ((s.at_ t).withTime (fun k => { k with trimWindow := some ((s.at_ t).clockNs, k.rtcTicks) })) := by
  refine effectIs_of_run (Eq.refl (execRtcTrimWindow t ticks s)) ((if_neg (Nat.not_lt.2 hquality)).trans ?_)
  simp only [at_time, hnone]

theorem rtcTrimWindow_drop_effect (ticks : Nat) (hquality : 2 ≤ s.p Pid.timeQuality) :
    EffectIs (.rtcTrimWindow t ticks) t s ((s.at_ t).withTime (fun k => { k with trimWindow := none })) :=
  effectIs_of_run (Eq.refl (execRtcTrimWindow t ticks s)) (if_pos hquality)

theorem rtcTrimWindow_open_effect (ticks : Nat) {rtc : Nat} {from_ : Int} (hquality : s.p Pid.timeQuality ≤ 1)
    (hopen : s.time.trimWindow = some (from_, rtc)) (hearly : (s.at_ t).clockNs - from_ < 1024000000000) :
    EffectIs (.rtcTrimWindow t ticks) t s (s.at_ t) := by
  refine effectIs_of_run (Eq.refl (execRtcTrimWindow t ticks s)) ((if_neg (Nat.not_lt.2 hquality)).trans ?_)
  simp only [at_time, hopen]
  exact if_pos (.inl hearly)

/-! ### What D0 holds -/

/-- D0 has fallen below its retention level: what it held is lost (R299). -/
def State.loseRetention (s : State) : State :=
  ((s.setP Pid.timeContinuity 0 0).withPower (fun x =>
    { x with standDownFlag := false, resetCause := none, sleepDeadline := none })).withTime
      (fun k => { k with retained := false, wakeAt := none })

theorem loseRetention_continuity (s : State) : s.loseRetention.p Pid.timeContinuity = 0 := by
  unfold State.loseRetention
  rw [withTime_p, withPower_p, p_setP_same, Nat.zero_mod]

theorem retentionLoss_effect (hvin : s.power.d0OnVin = false) :
    EffectIs (.retentionLoss t) t s (s.at_ t).loseRetention :=
  effectIs_of_run (Eq.refl (execRetentionLoss t s)) (if_neg fun h => Bool.false_ne_true (hvin.symm.trans h))

theorem retentionLoss_completes (hvin : s.power.d0OnVin = false) : Completes (.retentionLoss t) s (fun u =>
    u.p Pid.timeContinuity = 0 ∧ u.power.standDownFlag = false ∧ u.power.resetCause = none ∧
    u.power.sleepDeadline = none ∧ u.time.retained = false ∧ u.time.wakeAt = none) :=
  completes_of_effect (retentionLoss_effect hvin)
    ⟨(after_p ..).trans (loseRetention_continuity _), rfl, rfl, rfl, rfl, rfl⟩

theorem retentionLoss_onVin_effect (hvin : s.power.d0OnVin = true) : EffectIs (.retentionLoss t) t s (s.at_ t) :=
  effectIs_of_run (Eq.refl (execRetentionLoss t s)) (if_pos hvin)

theorem d0SupplyChangeover_completes (t : Nat) (on : Bool) (s : State) : Completes (.d0SupplyChangeover t on) s
    (fun u => u.power.d0OnVin = on ∧ u.time.retained = (on || s.time.retained)) := by
  refine completes_of_run (Eq.refl (execD0SupplyChangeover t on s)) ?_
  cases on with
  | true => exact ⟨rfl, rfl⟩
  | false => exact ⟨rfl, rfl⟩

/-! ### WAKE_TIMER_EXPIRY -/

/-- The expiry is counted, the module is woken, and the timer runs on from the instant of its expiry (R300). -/
theorem wakeTimerExpiry_effect {a : Nat} (hruns : s.time.wakeAt = some a) (hdue : a ≤ max s.now t) :
    EffectIs (.wakeTimerExpiry t) t s ((((s.at_ t).bump Pid.timeWakeCount).raiseWake 3).withTime (fun k =>
      { k with wakeAt := some (a + s.p Pid.timeWakePeriod * sec / 256) })) := by
  have hperiod : ((s.at_ t).bump Pid.timeWakeCount).p Pid.timeWakePeriod = s.p Pid.timeWakePeriod :=
    p_bump_other _ (by decide) _
  refine effectIs_of_run (Eq.refl (execWakeTimerExpiry t s)) ?_
  simp only [at_time, hruns, at_now, hdue, if_true, raiseWake_p, hperiod]

theorem wakeTimerExpiry_completes {a : Nat} (hruns : s.time.wakeAt = some a) (hdue : a ≤ max s.now t) :
    Completes (.wakeTimerExpiry t) s (fun u => u.w Pid.timeWakeCount 0 = s.w Pid.timeWakeCount 0 + 1 ∧
      u.power.wakes = s.power.wakes ++ [3] ∧ u.time.wakeAt = some (a + s.p Pid.timeWakePeriod * sec / 256)) := by
  refine completes_of_effect (wakeTimerExpiry_effect hruns hdue) ⟨?count, ?wakes, rfl⟩
  case count =>
    rw [after_w, withTime_w, raiseWake_w, w_bump_same, at_w]
    rfl
  case wakes =>
    rw [after_power, withTime_power, State.raiseWake, bump_power, at_power]

end Calendar

/-! ### ALARM_FIRE -/

/-- An alarm rings at its crossing: its fired bit is set, and its wake bit raises the wake request (R302). -/
def State.ringAlarm (s : State) (i : Nat) : State :=
  let v := s.setFlag Pid.timeAlarmStatus i 0 true
  if v.flagOf Pid.timeAlarmCtrl i 1 then v.raiseWake 3 else v

theorem ringAlarm_p (s : State) (i id e : Nat) :
    (s.ringAlarm i).p id e = (s.setFlag Pid.timeAlarmStatus i 0 true).p id e := by
  unfold State.ringAlarm
  dsimp only
  split
  · exact raiseWake_p ..
  · rfl

theorem ringAlarm_fired (s : State) (i : Nat) : (s.ringAlarm i).flagOf Pid.timeAlarmStatus i 0 = true :=
  (congrArg (Nat.testBit · 0) (ringAlarm_p ..)).trans (flagOf_setFlag_true s _ _ (by decide))

section Alarm

variable {s : State} {i : Nat}

theorem ringAlarm_period (hi : i < 8) : (s.ringAlarm i).p Pid.timeAlarmPeriodMs i = s.p Pid.timeAlarmPeriodMs i :=
  (ringAlarm_p ..).trans (p_setP_other s (paramKey_ne (by decide) (by omega) (by omega)) _)

/-- A one-shot alarm is disarmed when it has rung. -/
theorem fireAlarm_oneShot (hi : i < 8) (h : s.p Pid.timeAlarmPeriodMs i = 0) :
    s.fireAlarm i false = (s.ringAlarm i).setFlag Pid.timeAlarmCtrl i 0 false := by
  have hperiod : (s.ringAlarm i).p Pid.timeAlarmPeriodMs i = 0 := (ringAlarm_period hi).trans h
  exact if_pos hperiod

/-- A repeating alarm takes another target when it has rung. -/
theorem fireAlarm_repeating (hi : i < 8) (h : s.p Pid.timeAlarmPeriodMs i ≠ 0) : ∃ secs nf, s.fireAlarm i false =
    ((s.ringAlarm i).set64 Pid.timeAlarmS i secs).setP Pid.timeAlarmNf i nf := by
  have hperiod : (s.ringAlarm i).p Pid.timeAlarmPeriodMs i ≠ 0 := fun h0 => h ((ringAlarm_period hi).symm.trans h0)
  exact ⟨_, _, if_neg hperiod⟩

/-- Disarming an alarm, or giving it another target, leaves its fired bit. -/
theorem fireAlarm_fired (hi : i < 8) : (s.fireAlarm i false).flagOf Pid.timeAlarmStatus i 0 = true := by
  have hkey : ∀ {id e : Nat}, id ≠ Pid.timeAlarmStatus → e < 65536 → paramKey Pid.timeAlarmStatus i ≠ paramKey id e :=
    fun hid he => paramKey_ne (Ne.symm hid) he (by omega)
  by_cases h : s.p Pid.timeAlarmPeriodMs i = 0
  · rw [fireAlarm_oneShot hi h, State.setFlag, flagOf_setP_other _ (hkey (by decide) (by omega)), ringAlarm_fired]
  · obtain ⟨secs, nf, hfire⟩ := fireAlarm_repeating hi h
    rw [hfire, State.set64, flagOf_setP_other _ (hkey (by decide) (by omega)),
      flagOf_setP_other _ (hkey (by decide) (by omega)), flagOf_setP_other _ (hkey (by decide) (by omega)),
      ringAlarm_fired]

theorem fireAlarm_disarms (hi : i < 8) (h : s.p Pid.timeAlarmPeriodMs i = 0) :
    (s.fireAlarm i false).flagOf Pid.timeAlarmCtrl i 0 = false := by
  rw [fireAlarm_oneShot hi h, flagOf_setFlag_false]

theorem alarmFire_effect {t : Nat} (hi : i < 8) (harmed : s.alarmArmed i = true)
    (hreached : s.alarmTarget i ≤ (s.at_ t).clockNs) : EffectIs (.alarmFire t i) t s ((s.at_ t).fireAlarm i false) :=
  effectIs_of_run (Eq.refl (execAlarmFire t i s)) (if_pos ⟨hi, harmed, hreached⟩)

theorem alarmFire_completes {t : Nat} (hi : i < 8) (harmed : s.alarmArmed i = true)
    (hreached : s.alarmTarget i ≤ (s.at_ t).clockNs) : Completes (.alarmFire t i) s (fun u =>
      u.flagOf Pid.timeAlarmStatus i 0 = true ∧
      (s.p Pid.timeAlarmPeriodMs i = 0 → u.flagOf Pid.timeAlarmCtrl i 0 = false)) :=
  completes_of_effect (alarmFire_effect hi harmed hreached)
    ⟨fireAlarm_fired (s := s.at_ t) hi, fireAlarm_disarms (s := s.at_ t) hi⟩

end Alarm

/-- Settles O48, command by command. -/
theorem calendarCommands : Obligations.CalendarCommands := by
  refine ⟨?unsynced, ?far, ?leap, ?trimStart, ?trimDrop, ?trimOpen, ?lost, ?onVin, ?changeover, ?wake, ?alarm⟩
  case unsynced =>
    exact fun t s hleap hregular hsynced =>
      calendarSecond_noLeap_effect hleap (followClock_unsynced (s := s.at_ t) hregular hsynced)
  case far =>
    exact fun t s hleap hregular hsynced hquality hfar =>
      calendarSecond_noLeap_effect hleap (followClock_far (s := s.at_ t) hregular hsynced hquality hfar)
  case leap =>
    rintro t m s v hleap hdue rfl hregular hsynced
    exact calendarSecond_leap_effect hleap hdue (followClock_unsynced (s := (s.at_ t).takeLeap) hregular hsynced)
  case trimStart =>
    exact fun t ticks s hquality hnone =>
      completes_of_effect (rtcTrimWindow_start_effect ticks hquality hnone) ⟨rfl, rfl⟩
  case trimDrop =>
    exact fun t ticks s hquality => completes_of_effect (rtcTrimWindow_drop_effect ticks hquality) ⟨rfl, rfl⟩
  case trimOpen => exact fun t ticks rtc from_ s => rtcTrimWindow_open_effect ticks
  case lost => exact fun t s => retentionLoss_completes
  case onVin => exact fun t s => retentionLoss_onVin_effect
  case changeover => exact d0SupplyChangeover_completes
  case wake => exact fun t a s => wakeTimerExpiry_completes
  case alarm => exact fun t alarm s => alarmFire_completes

end Sys2Proof.Machine

/-! PROOF.  The relay mesh (O49): RELAY_SLOT, relay.asn, UPLINK_FRAME, FLOOD_RECEIVE, HITCH_REQUEST, FRAGMENT_TIMEOUT,
JOIN_WINDOW_CLOSE, CONTEXT_FORGET, NODE_SILENT, PARENT_BEACON, PARENT_BEACONS_MISSED, KEY_GENERATION_CHANGE and
RELAY_CONFIG_APPLY (R314 to R335; which radio hears a hitch request, assumption 105). -/

namespace Sys2Proof.Machine

open Sys2Proof

/-! ### What the relay's counters leave -/

theorem relayTally_relay (s : State) (d : Nat) (ks : List Nat) (m radio n : Nat) :
    (s.relayTally d ks m radio n).relay = s.relay :=
  List.foldlRecOn ks _ (motive := fun u : State => u.relay = s.relay) rfl fun _ ih _ _ => (bump_relay ..).trans ih

@[simp] theorem modifyNode_node_same (s : State) (n : Nat) (f : RelayNode → RelayNode) :
    (s.modifyNode n f).relay.nodes.get n = f (s.relay.nodes.get n) := Tab.get_modify_same s.relay.nodes n f

/-! ### Clamping -/

theorem clampI_between {lo hi : Int} (h : lo ≤ hi) (n : Int) : lo ≤ clampI lo hi n ∧ clampI lo hi n ≤ hi :=
  ⟨le_max_left .., max_le h (min_le_left ..)⟩

theorem clampI_inside {lo hi n : Int} (hlo : lo ≤ n) (hhi : n ≤ hi) : clampI lo hi n = n := by
  rw [clampI, min_eq_right hhi, max_eq_right hlo]

/-! ### RELAY_SLOT -/

section Serve

variable {s v : State} (hv : v = s.takeReplies)
include hv

theorem serveSlot_beacon (hslot : v.asn % v.relay.config.slotframe = 0)
    (hframe : v.slotframeNow % v.p Pid.relayBeaconEvery = 0) : s.serveSlot = v.sendBeacon := by
  subst hv
  exact if_pos ⟨hslot, hframe⟩

theorem serveSlot_shared
    (hplain : ¬ (v.asn % v.relay.config.slotframe = 0 ∧ v.slotframeNow % v.p Pid.relayBeaconEvery = 0))
    (hshared : v.asn % v.relay.config.slotframe ≤ v.relay.config.shared) : s.serveSlot = v.sharedSlot := by
  subst hv
  exact (if_neg hplain).trans (if_pos hshared)

theorem serveSlot_downlink {n : Nat} (hslot : 1 ≤ v.asn % v.relay.config.slotframe)
    (hbeyond : v.relay.config.shared < v.asn % v.relay.config.slotframe)
    (hdue : v.contexts.find? (fun n => (v.cellOf n).down == v.asn % v.relay.config.slotframe &&
      v.slotframeNow % 2 ^ (v.cellOf n).log2P == (v.cellOf n).phase) = some n) :
    s.serveSlot = v.downlinkCell n := by
  subst hv
  refine (if_neg fun h => ?_).trans ((if_neg (Nat.not_le.2 hbeyond)).trans ?_)
  · exact Nat.ne_of_gt hslot h.1
  · simp only [hdue]

end Serve

section Slot

variable {t : Nat} {s : State}

theorem relaySlot_served_effect (h : s.relay.served = some (s.at_ t).asn) :
    EffectIs (.relaySlot t) t s (s.at_ t) :=
  effectIs_of_run (Eq.refl (execRelaySlot t s)) (if_pos h)

variable (hnew : s.relay.served ≠ some (s.at_ t).asn)
include hnew

theorem relaySlot_silent_effect (hsilent : (s.at_ t).relaySends = false) : EffectIs (.relaySlot t) t s
    ((s.relay.evicting.map (fun x => x.1)).eraseDups.foldl State.evicted (s.at_ t)) :=
  effectIs_of_run (Eq.refl (execRelaySlot t s)) ((if_neg hnew).trans (if_pos (.inr (by simp [hsilent]))))

variable (hsends : (s.at_ t).relaySends = true)
include hsends

/-- A relay that sends has D7 on, so it serves a new slot. -/
theorem relaySlot_sending_effect {v : State} (hv : (((s.at_ t).withRelay (fun r =>
      { r with served := some (s.at_ t).asn, sent := [] })).trimAir).serveSlot = v) :
    EffectIs (.relaySlot t) t s v := by
  have hon : (s.at_ t).domainOn 7 = true := by
    simp only [State.relaySends, Bool.and_eq_true] at hsends
    exact hsends.1.1.1.1
  exact effectIs_of_run (Eq.refl (execRelaySlot t s))
    ((if_neg hnew).trans ((if_neg (by simp [hon, hsends])).trans hv))

end Slot

/-! ### UPLINK_FRAME -/

/-- A running radio hears a direct frame of the held node `n` in the node's position (R315, R320). -/
structure State.HearsUplink (s : State) (n : Nat) (f : RadioFrame) : Prop where
  source : nodeOfShort f.source = some n
  on : s.domainOn 7 = true
  held : s.contextHeld n = true
  radio : s.radios.contains f.radio = true
  direct : (relayHeader f.source f.payload).ttl = 0
  position : s.positionHeard n f.radio = true

/-- The kinds under which a received frame is counted. -/
def heardKinds (f : RadioFrame) (shared : Bool) : List Nat :=
  frameKinds (relayHeader f.source f.payload).type_
    ((relayHeader f.source f.payload).more || (relayHeader f.source f.payload).index != 0) shared

/-- A node's direct frame that passed its checks is counted and accepted, its drift is learned and its message taken
(R321, R330). -/
def State.takeUplink (s : State) (n : Nat) (f : RadioFrame) (drift : Int) : State :=
  let v := (s.relayTally 0 (heardKinds f false) 0 f.radio).relayTally 0 (heardKinds f false) 1 f.radio f.payload.length
  let v := (v.acceptFrame n f).setI Pid.relayNodeDriftPpb n drift
  let v := v.modifyNode n (fun k => { k with
    frames := (v.slotframeNow :: k.frames.filter (fun a => a != v.slotframeNow)).take 2 })
  v.takeFrame n f

/-- The checks of a node's direct frame and what follows each: its window, then its MIC and counter (R321, R330). -/
def State.checkUplink (s : State) (n : Nat) (f : RadioFrame) : State :=
  if !(s.windowOf n f.arrivalUs).1 then (s.bump Pid.relayWindowMisses).relayTally 0 (heardKinds f false) 5 f.radio
  else if !(s.checkFrame n (heardKinds f false) f).1 then (s.checkFrame n (heardKinds f false) f).2
  else (s.checkFrame n (heardKinds f false) f).2.takeUplink n f (s.windowOf n f.arrivalUs).2

section Uplink

variable {t n : Nat} {f : RadioFrame} {s : State}

theorem checkUplink_late (hlate : (s.windowOf n f.arrivalUs).1 = false) :
    s.checkUplink n f = (s.bump Pid.relayWindowMisses).relayTally 0 (heardKinds f false) 5 f.radio :=
  if_pos (by simp [hlate])

theorem checkUplink_refused (hinside : (s.windowOf n f.arrivalUs).1 = true)
    (hbad : (s.checkFrame n (heardKinds f false) f).1 = false) :
    s.checkUplink n f = (s.checkFrame n (heardKinds f false) f).2 :=
  (if_neg (by simp [hinside])).trans (if_pos (by simp [hbad]))

theorem checkUplink_accepted (hinside : (s.windowOf n f.arrivalUs).1 = true)
    (hgood : (s.checkFrame n (heardKinds f false) f).1 = true) :
    s.checkUplink n f = (s.checkFrame n (heardKinds f false) f).2.takeUplink n f (s.windowOf n f.arrivalUs).2 :=
  (if_neg (by simp [hinside])).trans (if_neg (by simp [hgood]))

theorem uplinkFrame_notHeld_effect (hsource : nodeOfShort f.source = some n) (hfree : s.contextHeld n = false) :
    EffectIs (.uplinkFrame t f) t s (s.at_ t) := by
  refine effectIs_of_run (Eq.refl (execUplinkFrame t f s)) ?_
  simp only [hsource]
  have hfree_at : (!(s.at_ t).contextHeld n) = true := congrArg not hfree
  exact if_pos (.inr (.inl hfree_at))

theorem uplinkFrame_heard_effect {v : State} (h : (s.at_ t).HearsUplink n f) (hv : (s.at_ t).checkUplink n f = v) :
    EffectIs (.uplinkFrame t f) t s v := by
  refine effectIs_of_run (Eq.refl (execUplinkFrame t f s)) ?_
  simp only [h.source]
  exact (if_neg (by simp only [h.on, h.held, h.radio, h.direct, h.position]; decide)).trans hv

end Uplink

/-! ### FLOOD_RECEIVE -/

/-- A running radio hears a flooded frame that the held node `n` has secured (R332). -/
structure State.HearsFlood (s : State) (n : Nat) (f : RadioFrame) : Prop where
  source : nodeOfShort f.source = some n
  on : s.domainOn 7 = true
  held : s.contextHeld n = true
  radio : s.radios.contains f.radio = true
  flooded : (relayHeader f.source f.payload).ttl ≠ 0

/-- A flooded frame that passed its checks is counted, accepted and handled (R332). -/
def State.takeFlood (s : State) (n : Nat) (f : RadioFrame) : State :=
  let v := (s.relayTally 0 (heardKinds f true) 0 f.radio).relayTally 0 (heardKinds f true) 1 f.radio f.payload.length
  ((v.relayTally 0 (heardKinds f true) 9 f.radio).acceptFrame n f).onFlood (relayHeader f.source f.payload) f

section Flood

variable {t n : Nat} {f : RadioFrame} {s : State}

theorem floodReceive_heard_effect {v : State} (h : (s.at_ t).HearsFlood n f)
    (hv : (if !((s.at_ t).checkFrame n (heardKinds f true) f).1 then ((s.at_ t).checkFrame n (heardKinds f true) f).2
      else ((s.at_ t).checkFrame n (heardKinds f true) f).2.takeFlood n f) = v) :
    EffectIs (.floodReceive t f) t s v := by
  refine effectIs_of_run (Eq.refl (execFloodReceive t f s)) ?_
  simp only [h.source]
  exact (if_neg (by simp only [h.on, h.held, h.radio, h.flooded]; decide)).trans hv

theorem floodReceive_refused_effect (h : (s.at_ t).HearsFlood n f)
    (hbad : ((s.at_ t).checkFrame n (heardKinds f true) f).1 = false) :
    EffectIs (.floodReceive t f) t s ((s.at_ t).checkFrame n (heardKinds f true) f).2 :=
  floodReceive_heard_effect h (if_pos (by simp [hbad]))

theorem floodReceive_accepted_effect (h : (s.at_ t).HearsFlood n f)
    (hgood : ((s.at_ t).checkFrame n (heardKinds f true) f).1 = true) :
    EffectIs (.floodReceive t f) t s (((s.at_ t).checkFrame n (heardKinds f true) f).2.takeFlood n f) :=
  floodReceive_heard_effect h (if_neg (by simp [hgood]))

/-- With D7 off no frame is heard, whether its source is a node's address or not. -/
theorem floodReceive_off_effect (hoff : s.domainOn 7 = false) : EffectIs (.floodReceive t f) t s (s.at_ t) := by
  refine effectIs_of_run (Eq.refl (execFloodReceive t f s)) ?_
  have hoff_at : (!(s.at_ t).domainOn 7) = true := congrArg not hoff
  cases hsource : nodeOfShort f.source with
  | none => rfl
  | some n => exact if_pos (.inl hoff_at)

theorem onFlood_again {h : RelayHeader} (hseen : s.relay.seen.contains (h.origin, h.seq) = true) :
    s.onFlood h f = s.bump Pid.relaySeenDrops := if_pos hseen

/-- A new message for a node alone, at its last hop, is only remembered (R332). -/
theorem onFlood_lastHop {h : RelayHeader} (hnew : s.relay.seen.contains (h.origin, h.seq) = false)
    (hroom : s.relay.seen.length < 256) (hdest : h.dest ≠ 0) (hall : h.dest ≠ 0xFFFF) (hlast : h.ttl ≤ 1) :
    s.onFlood h f = s.withRelay (fun r => { r with seen := r.seen ++ [(h.origin, h.seq)] }) := by
  simp only [State.onFlood, hnew]
  simp [Nat.not_le.2 hroom, hdest, hall, Nat.not_lt.2 hlast, State.withRelay]

end Flood

/-! ### HITCH_REQUEST -/

/-- A hitch request that was not flooded is counted as heard by a radio that is drawn (assumption 105). -/
def State.hitchHeard (s : State) : State :=
  ((s.drawBelow 2).2.relayTally 0 (frameKinds 4 false true) 0 (s.drawBelow 2).1).relayTally 0
    (frameKinds 4 false true) 8 (s.drawBelow 2).1

theorem hitchHeard_relay (s : State) : s.hitchHeard.relay = s.relay :=
  (relayTally_relay ..).trans (relayTally_relay ..)

section Hitch

variable {t : Nat} {h : HitchRequest} {s : State}

theorem onHitch_wrongKey {join : Nat} (hjoin : s.joinKey h.eui = some join) (hkey : join ≠ h.key) :
    s.onHitch h =
      ((s.drawBelow 2).2.relayTally 0 (frameKinds 4 false true) 2 (s.drawBelow 2).1).keyCount .hitch 1 3 := by
  have hdrawn : (s.drawBelow 2).2.joinKey h.eui = some join := hjoin
  simp only [State.onHitch, hdrawn]
  exact if_pos hkey

theorem onHitch_direct {v : State} (hv : v = s.hitchHeard) (hjoin : s.joinKey h.eui = some h.key)
    (hflood : h.flooded = false) : s.onHitch h = v.takeHitch h.key h := by
  have hdrawn : (s.drawBelow 2).2.joinKey h.eui = some h.key := hjoin
  simp only [hv, State.hitchHeard, State.onHitch, hdrawn, hflood, ne_eq, not_true_eq_false, if_false,
    Bool.false_eq_true]

/-- A known node with a cell of its own keeps it. -/
theorem takeHitch_known {n : Nat} (join : Nat) (hflood : h.flooded = false) (hknown : s.contextOf h.eui = some n)
    (hdirect : (s.cellOf n).flood = false) (hcell : (s.cellOf n).up ≠ 0) :
    s.takeHitch join h = s.placeNode n join h (s.cellOf n) true := by
  simp [State.takeHitch, hknown, hflood, hdirect, hcell]

theorem takeHitch_closed (join : Nat) (hunknown : s.contextOf h.eui = none) (hclosed : s.relay.permitUntil = none) :
    s.takeHitch join h = s.hitchReply h join stRefusedState 0 0xFFFF 0 (0xFFFF, 0) := by
  simp [State.takeHitch, hunknown, hclosed]

/-- A lead that is up takes hitch requests: D7 is on, and neither farrier mode nor a warm restart is in progress. -/
theorem hitchRequest_effect {v : State} (hon : s.domainOn 7 = true) (hfarrier : s.farrier = false)
    (hrole : s.wheeler = false) (hup : s.power.phase ≠ .reloading) (hv : (s.at_ t).onHitch h = v) :
    EffectIs (.hitchRequest t h) t s v := by
  have htakes : ¬ ((!s.domainOn 7) = true ∨ s.farrier = true ∨ s.wheeler = true) := by simp [hon, hfarrier, hrole]
  exact effectIs_of_run (Eq.refl (execHitchRequest t h s)) ((if_neg htakes).trans ((if_neg hup).trans hv))

end Hitch

/-! ### The deadlines of nodes and of joining -/

section Deadlines

variable {t n a : Nat} {s : State}

theorem fragmentTimeout_effect {p : Reassembly} (hpartial : (s.relay.nodes.get n).partial_ = some p)
    (hdue : p.since + s.p Pid.relayFragTimeoutMs * ms ≤ max s.now t) :
    EffectIs (.fragmentTimeout t n) t s ((s.at_ t).dropPartial n) := by
  refine effectIs_of_run (Eq.refl (execFragmentTimeout t n s)) ?_
  simp only [at_relay, hpartial]
  exact if_pos (at_passed hdue)

theorem fragmentTimeout_completes {p : Reassembly} (hpartial : (s.relay.nodes.get n).partial_ = some p)
    (hdue : p.since + s.p Pid.relayFragTimeoutMs * ms ≤ max s.now t) : Completes (.fragmentTimeout t n) s (fun u =>
      (u.relay.nodes.get n).partial_ = none ∧ u.w Pid.relayFragDrops 0 = s.w Pid.relayFragDrops 0 + 1) := by
  refine completes_of_effect (fragmentTimeout_effect hpartial hdue) ⟨?dropped, ?counted⟩
  case dropped => rw [after_relay, State.dropPartial, bump_relay, modifyNode_node_same]
  case counted =>
    rw [after_w, State.dropPartial, w_bump_same]
    rfl

theorem joinWindowClose_effect (hopen : s.relay.permitUntil = some a) (hdue : a ≤ max s.now t) :
    EffectIs (.joinWindowClose t) t s ((s.at_ t).withRelay (fun r => { r with permitUntil := none })) := by
  refine effectIs_of_run (Eq.refl (execJoinWindowClose t s)) ?_
  simp only [at_relay, hopen, at_now, hdue, if_true]

theorem contextForget_effect (hdays : s.p Pid.relayForgetDays ≠ 0) (hheld : s.contextHeld n = true)
    (hheard : (s.relay.nodes.get n).heard = some a)
    (hdue : a + s.p Pid.relayForgetDays * 86400 * sec ≤ max s.now t) :
    EffectIs (.contextForget t n) t s ((s.at_ t).evicted n) := by
  have hkept : ¬ (s.p Pid.relayForgetDays = 0 ∨ (!s.contextHeld n) = true) := by simp [hdays, hheld]
  refine effectIs_of_run (Eq.refl (execContextForget t n s)) ((if_neg hkept).trans ?_)
  simp only [at_relay, hheard, at_p, at_passed hdue, if_true]

theorem nodeSilent_effect (hheld : s.contextHeld n = true) (hstate : s.p Pid.relayNodeState n ≠ 0)
    (hheard : (s.relay.nodes.get n).heard = some a)
    (hdue : a + 8 * (2 ^ (s.cellOf n).log2P * s.relay.config.slotframe * 10 * ms) ≤ max s.now t) :
    EffectIs (.nodeSilent t n) t s (((s.at_ t).setP Pid.relayNodeState n 4).voidPod (512 + n)) := by
  refine effectIs_of_run (Eq.refl (execNodeSilent t n s)) ?_
  rw [at_relay, hheard]
  exact if_pos ⟨hheld, hstate, at_passed hdue⟩

theorem nodeSilent_completes (hheld : s.contextHeld n = true) (hstate : s.p Pid.relayNodeState n ≠ 0)
    (hheard : (s.relay.nodes.get n).heard = some a)
    (hdue : a + 8 * (2 ^ (s.cellOf n).log2P * s.relay.config.slotframe * 10 * ms) ≤ max s.now t) :
    Completes (.nodeSilent t n) s (fun u => u.p Pid.relayNodeState n = 4 ∧ u.relay = s.relay) :=
  completes_of_effect (nodeSilent_effect hheld hstate hheard hdue) ⟨p_setP_same .., setP_relay ..⟩

end Deadlines

/-! ### The time parent -/

/-- A beacon of a followed parent ends the count of missed ones, and corrects the slots by at most 50 µs (R331). -/
def RelayState.corrected (r : RelayState) (offsetUs : Int) : RelayState :=
  { r with missed := 0, received := r.received + 1, following := true,
           phaseNs := r.phaseNs + clampI (-50) 50 offsetUs * 1000 }

theorem corrected_near (r : RelayState) (offsetUs : Int) :
    r.phaseNs - 50000 ≤ (r.corrected offsetUs).phaseNs ∧ (r.corrected offsetUs).phaseNs ≤ r.phaseNs + 50000 := by
  obtain ⟨hlow, hhigh⟩ := clampI_between (show (-50 : Int) ≤ 50 by decide) offsetUs
  dsimp only [RelayState.corrected]
  constructor <;> omega

theorem corrected_inside (r : RelayState) {offsetUs : Int} (hlo : -50 ≤ offsetUs) (hhi : offsetUs ≤ 50) :
    (r.corrected offsetUs).phaseNs = r.phaseNs + offsetUs * 1000 := by
  dsimp only [RelayState.corrected]
  rw [clampI_inside hlo hhi]

/-- An expected beacon of the parent did not come: after eight the module is its own root (R331). -/
def State.missBeacon (s : State) : State :=
  let v := (s.bump Pid.relayMissedBeacons).withRelay (fun r => { r with missed := s.relay.missed + 1, received := 0 })
  if s.relay.missed + 1 = 8 ∧ v.relay.following then
    (v.bump Pid.relayDesyncs).withRelay (fun r => { r with following := false })
  else v

theorem missBeacon_counts (s : State) : s.missBeacon.relay.missed = s.relay.missed + 1 ∧
    s.missBeacon.relay.received = 0 ∧
    s.missBeacon.w Pid.relayMissedBeacons 0 = s.w Pid.relayMissedBeacons 0 + 1 := by
  have hcount : ∀ f, ((s.bump Pid.relayMissedBeacons).withRelay f).w Pid.relayMissedBeacons 0 =
      s.w Pid.relayMissedBeacons 0 + 1 := fun _ => w_bump_same ..
  unfold State.missBeacon
  dsimp only
  split
  · refine ⟨by simp, by simp, ?_⟩
    rw [withRelay_w, w_bump_other _ (by decide), hcount]
  · exact ⟨rfl, rfl, hcount _⟩

theorem missBeacon_eighth {s : State} (h : s.relay.missed = 7) : s.missBeacon.relay.following = false := by
  unfold State.missBeacon
  dsimp only
  split
  · rfl
  · next hkeeps => exact Bool.eq_false_iff.2 fun hfollows => hkeeps ⟨by rw [h], hfollows⟩

theorem missBeacon_earlier {s : State} (h : s.relay.missed ≠ 7) :
    s.missBeacon.relay.following = s.relay.following := by
  have hless : ¬ s.relay.missed + 1 = 8 := by omega
  simp [State.missBeacon, hless]

section Parent

variable {t : Nat} {s : State}

/-- The counter of beacons heard lies apart from the parameters that name a parent. -/
theorem relayCount_beacon_p (s : State) {radio jd d : Nat} (hradio : radio < 2) (hd : d < 65536) (hjd : jd ≠ 0x5900) :
    (s.relayCount 0 0 0 radio).p jd d = s.p jd d :=
  p_bump_other s (paramKey_ne hjd (by omega) hd) 1

theorem relayCount_beacon_hasParent (s : State) {radio : Nat} (hradio : radio < 2) :
    (s.relayCount 0 0 0 radio).hasParent = s.hasParent := by
  unfold State.hasParent State.wheeler
  rw [relayCount_beacon_p s hradio (by decide) (by decide), relayCount_beacon_p s hradio (by decide) (by decide)]

variable (hon : s.domainOn 7 = true) (hparent : s.hasParent = true)
include hon hparent

theorem parentBeacon_effect (free : Nat) (off : Int) (hfollows : s.relay.following = true) :
    EffectIs (.parentBeacon t (s.p Pid.relayTimeParent 0) s.relay.config.pan free off) t s
      ((((s.at_ t).drawBelow 2).2.relayCount 0 0 0 ((s.at_ t).drawBelow 2).1).withRelay
        (fun r => r.corrected off)) := by
  have hradio : ((s.at_ t).drawBelow 2).1 < 2 := Nat.mod_lt _ (by decide)
  generalize hv : ((s.at_ t).drawBelow 2).2.relayCount 0 0 0 ((s.at_ t).drawBelow 2).1 = v
  have hrelay : v.relay = s.relay := by rw [← hv]; exact bump_relay ..
  have hprimary : v.p Pid.relayTimeParent 0 = s.p Pid.relayTimeParent 0 := by
    rw [← hv]; exact relayCount_beacon_p _ hradio (by decide) (by decide)
  have hparent_v : v.hasParent = true := by
    rw [← hv]; exact (relayCount_beacon_hasParent _ hradio).trans hparent
  have hon_at : ¬ (!(s.at_ t).domainOn 7) = true := by rw [show (s.at_ t).domainOn 7 = true from hon]; decide
  refine effectIs_of_run (Eq.refl (execParentBeacon t _ _ free off s)) ((if_neg hon_at).trans ?_)
  simp [hv, hrelay, hprimary, hparent_v, hfollows, State.withRelay, RelayState.corrected]

theorem parentBeacon_completes (free : Nat) (off : Int) (hfollows : s.relay.following = true) :
    Completes (.parentBeacon t (s.p Pid.relayTimeParent 0) s.relay.config.pan free off) s (fun u =>
      u.relay.missed = 0 ∧ u.relay.received = s.relay.received + 1 ∧ u.relay.following = true ∧
      s.relay.phaseNs - 50000 ≤ u.relay.phaseNs ∧ u.relay.phaseNs ≤ s.relay.phaseNs + 50000 ∧
      (-50 ≤ off → off ≤ 50 → u.relay.phaseNs = s.relay.phaseNs + off * 1000)) := by
  refine completes_of_effect (parentBeacon_effect hon hparent free off hfollows) ?_
  rw [after_relay, withRelay_relay, State.relayCount, bump_relay]
  obtain ⟨hlow, hhigh⟩ := corrected_near s.relay off
  exact ⟨rfl, rfl, rfl, hlow, hhigh, corrected_inside s.relay⟩

theorem parentBeaconsMissed_effect : EffectIs (.parentBeaconsMissed t) t s (s.at_ t).missBeacon := by
  have hexpects : ¬ ((!s.hasParent) = true ∨ (!s.domainOn 7) = true) := by simp [hon, hparent]
  exact effectIs_of_run (Eq.refl (execParentBeaconsMissed t s)) (if_neg hexpects)

theorem parentBeaconsMissed_completes : Completes (.parentBeaconsMissed t) s (fun u =>
    u.relay.missed = s.relay.missed + 1 ∧ u.relay.received = 0 ∧
    u.w Pid.relayMissedBeacons 0 = s.w Pid.relayMissedBeacons 0 + 1 ∧
    (s.relay.missed = 7 → u.relay.following = false) ∧
    (s.relay.missed ≠ 7 → u.relay.following = s.relay.following)) := by
  obtain ⟨hmissed, hreceived, hcount⟩ := missBeacon_counts (s.at_ t)
  exact completes_of_effect (parentBeaconsMissed_effect hon hparent)
    ⟨hmissed, hreceived, hcount, missBeacon_eighth (s := s.at_ t), missBeacon_earlier (s := s.at_ t)⟩

end Parent

/-! ### Generations and settings -/

section Generations

variable {t : Nat} {s : State}

theorem keyGenerationChange_none_effect (h : s.relay.keyMove ≠ some 0) :
    EffectIs (.keyGenerationChange t) t s (s.at_ t) :=
  effectIs_of_run (Eq.refl (execKeyGenerationChange t s)) (if_pos h)

/-- The present network key, if there is one, is kept in slot 5 for 16 beacon intervals (R322, R382). -/
def State.keepPrevious (s : State) : State :=
  match s.slotKey 4 with
  | some k =>
    let v := s.placeDerived 5 (derivedAttr 5 0 2 3 false) k
    { v with vault := { v.vault with previousLeft := 16 } }
  | none => s

theorem keepPrevious_none (h : s.slotKey 4 = none) : s.keepPrevious = s := by simp only [State.keepPrevious, h]

theorem keepPrevious_some {k : Nat} (h : s.slotKey 4 = some k) : s.keepPrevious =
    { s.placeDerived 5 (derivedAttr 5 0 2 3 false) k with
      vault := { (s.placeDerived 5 (derivedAttr 5 0 2 3 false) k).vault with previousLeft := 16 } } := by
  simp only [State.keepPrevious, h]

/-- Once 16 beacons have announced it, the next generation comes into use where the segment key can make its key. -/
theorem keyGenerationChange_effect {key : Nat} {v : State} (hnow : s.relay.keyMove = some 0)
    (hkey : s.networkKey ((s.p Pid.relayKeyGen + 1) % 256) = some key)
    (hv : ((s.at_ t).withRelay (fun r => { r with keyMove := none })).keepPrevious.nextGeneration = v) :
    EffectIs (.keyGenerationChange t) t s v := by
  have hkey_at : ((s.at_ t).withRelay (fun r => { r with keyMove := none })).networkKey
      ((((s.at_ t).withRelay (fun r => { r with keyMove := none })).p Pid.relayKeyGen + 1) % 256) = some key := hkey
  refine effectIs_of_run (Eq.refl (execKeyGenerationChange t s)) ((if_neg (not_not.2 hnow)).trans ?_)
  simp only [hkey_at]
  exact hv

theorem relayConfigApply_effect {a b : Nat} (hannounced : s.relay.announced = some (a, b))
    (hdue : a ≤ (s.at_ t).asn) : EffectIs (.relayConfigApply t) t s (s.at_ t).applyRelayConfig := by
  refine effectIs_of_run (Eq.refl (execRelayConfigApply t s)) ?_
  simp only [at_relay, hannounced, hdue, if_true]

end Generations

/-- Settles O49, command by command. -/
theorem relayCommands : Obligations.RelayCommands := by
  refine ⟨?served, ?silent, ?serves, ?asn, ?uplink, ?flood, ?again, ?lastHop, ?known, ?notHeld, ?late, ?floodOff,
    ?wrongKey, ?closed, ?fragment, ?join, ?forget, ?nodeSilent, ?beacon, ?missed, ?firstKey, ?nextKey, ?noMove,
    ?apply⟩
  case served => exact fun t s => relaySlot_served_effect
  case silent => exact fun t s => relaySlot_silent_effect
  case serves =>
    exact fun t s v hnew hsends hv =>
      ⟨fun hslot hframe => relaySlot_sending_effect hnew hsends (serveSlot_beacon hv hslot hframe),
        fun hplain hshared => relaySlot_sending_effect hnew hsends (serveSlot_shared hv hplain hshared),
        fun n hslot hbeyond hdue => relaySlot_sending_effect hnew hsends (serveSlot_downlink hv hslot hbeyond hdue)⟩
  case asn => exact fun s e => rfl
  case uplink =>
    rintro t n f h kinds c s hsource hon hheld hradio rfl hdirect hposition hinside rfl rfl
    have hears : (s.at_ t).HearsUplink n f := ⟨hsource, hon, hheld, hradio, hdirect, hposition⟩
    exact ⟨fun hbad => uplinkFrame_heard_effect hears (checkUplink_refused hinside hbad),
      fun hgood => uplinkFrame_heard_effect hears (checkUplink_accepted hinside hgood)⟩
  case flood =>
    rintro t n f h kinds c s hsource hon hheld hradio rfl hflooded rfl rfl
    have hears : (s.at_ t).HearsFlood n f := ⟨hsource, hon, hheld, hradio, hflooded⟩
    exact ⟨floodReceive_refused_effect hears, floodReceive_accepted_effect hears⟩
  case again => exact fun s h f => onFlood_again
  case lastHop => exact fun s h f => onFlood_lastHop
  case known =>
    exact fun t n h s v hon hfarrier hrole hup hjoin hflood hv hknown hdirect hcell =>
      hitchRequest_effect hon hfarrier hrole hup ((onHitch_direct (s := s.at_ t) hv hjoin hflood).trans
        (takeHitch_known h.key hflood hknown hdirect hcell))
  case notHeld => exact fun t n f s => uplinkFrame_notHeld_effect
  case late =>
    rintro t n f h s hsource hon hheld hradio rfl hdirect hposition hlate
    exact uplinkFrame_heard_effect ⟨hsource, hon, hheld, hradio, hdirect, hposition⟩ (checkUplink_late hlate)
  case floodOff => exact fun t f s => floodReceive_off_effect
  case wrongKey =>
    exact fun t join h s hon hfarrier hrole hup hjoin hkey =>
      hitchRequest_effect hon hfarrier hrole hup (onHitch_wrongKey (s := s.at_ t) hjoin hkey)
  case closed =>
    intro t h s v hon hfarrier hrole hup hjoin hflood hv hunknown hclosed
    have hrelay : v.relay = s.relay := (congrArg State.relay hv).trans (hitchHeard_relay (s.at_ t))
    have hclosed_heard : v.relay.permitUntil = none := by rw [hrelay, hclosed]
    exact hitchRequest_effect hon hfarrier hrole hup ((onHitch_direct (s := s.at_ t) hv hjoin hflood).trans
      (takeHitch_closed h.key hunknown hclosed_heard))
  case fragment => exact fun t n p s => fragmentTimeout_completes
  case join =>
    exact fun t e s hopen hdue => completes_of_effect (joinWindowClose_effect hopen hdue) ⟨rfl, rfl⟩
  case forget => exact fun t n a s => contextForget_effect
  case nodeSilent => exact fun t n a s => nodeSilent_completes
  case beacon =>
    rintro t n free off s hon hparent - rfl hfollows
    exact parentBeacon_completes hon hparent free off hfollows
  case missed => exact fun t s => parentBeaconsMissed_completes
  case firstKey =>
    exact fun t key s hnow hnone hkey => keyGenerationChange_effect hnow hkey
      (congrArg State.nextGeneration (keepPrevious_none (s := (s.at_ t).withRelay _) hnone))
  case nextKey =>
    rintro t k key s v hnow hsome hkey rfl
    exact keyGenerationChange_effect hnow hkey
      (congrArg State.nextGeneration (keepPrevious_some (s := (s.at_ t).withRelay _) hsome))
  case noMove => exact fun t s => keyGenerationChange_none_effect
  case apply => exact fun t a b s => relayConfigApply_effect

end Sys2Proof.Machine

/-! PROOF.  The upkeep of the storage and the waybill (O51): MAP_CHECKPOINT, PATROL_SCRUB, RETENTION_AGE_UPDATE,
WEAR_MOVE, FOLD, HELD_WRITES_RELEASE and FREEZE_AUTO_RELEASE (R346 to R352, R358, R369; that a moved block's age begins
anew is the model's choice, assumption 106). -/

namespace Sys2Proof

variable {α : Type}

/-- Reading a table after every listed entry is changed alike. -/
theorem Tab.look_map (f : α → α) (k : Nat) (l : List (Nat × α)) :
    Tab.look k (l.map (fun x => (x.1, f x.2))) = (Tab.look k l).map f := by
  induction l with
  | nil => rfl
  | cons c rest ih =>
    obtain ⟨j, a⟩ := c
    by_cases h : j = k <;> simp [Tab.look, h, ih]

end Sys2Proof

namespace Sys2Proof.Machine

open Sys2Proof

/-! ### Cassettes after the operations of the storage -/

theorem cassette_of_storage {u v : State} (h : u.storage = v.storage) (c : Nat) : u.cassette c = v.cassette c := by
  unfold State.cassette
  rw [h]

@[simp] theorem after_cassette (s : State) (t : Nat) (f : State → State) (c : Nat) :
    (s.after_ t f).cassette c = (f (s.at_ t)).cassette c := rfl

theorem after_block (s : State) (t : Nat) (f : State → State) (c b : Nat) :
    (s.after_ t f).block c b = (f (s.at_ t)).block c b := rfl

@[simp] theorem modifyCassette_cassette_same (s : State) (c : Nat) (f : Cassette → Cassette) :
    (s.modifyCassette c f).cassette c = f (s.cassette c) := Tab.get_modify_same ..

/-- Operations are counted in the parameter store alone (R362). -/
theorem sbOp_storage (s : State) (d k c kib n : Nat) : (s.sbOp d k c kib n).storage = s.storage := by
  simp [State.sbOp, State.sbCount, apply_ite State.storage]

@[simp] theorem sbOp_cassette (s : State) (d k c kib n j : Nat) : (s.sbOp d k c kib n).cassette j = s.cassette j :=
  cassette_of_storage (sbOp_storage ..) j

/-- Wear is shown in the parameter store alone (R349). -/
theorem showWear_storage (s : State) (c : Nat) : (s.showWear c).storage = s.storage := by
  unfold State.showWear
  dsimp only
  split
  · rfl
  · simp only [setP_storage]

@[simp] theorem showWear_cassette (s : State) (c j : Nat) : (s.showWear c).cassette j = s.cassette j :=
  cassette_of_storage (showWear_storage ..) j

/-! ### Erasing a block (R349) -/

section Erase

variable (s : State) (c b : Nat)

/-- A block once it is erased. -/
def BlockInfo.erased (x : BlockInfo) : BlockInfo :=
  { x with erases := x.erases + 1, occupied := false, age := 0, due := false }

theorem eraseBlock_blocks : ((s.eraseBlock c b).cassette c).blocks =
    (s.cassette c).blocks.modify b BlockInfo.erased := by
  unfold State.eraseBlock State.modifyBlock
  simp only [showWear_cassette, modifyCassette_cassette_same, sbOp_cassette]
  rfl

theorem eraseBlock_lastMove : ((s.eraseBlock c b).cassette c).lastMove = (s.cassette c).lastMove := by
  unfold State.eraseBlock State.modifyBlock
  simp only [showWear_cassette, modifyCassette_cassette_same, sbOp_cassette]

theorem eraseBlock_block_same : (s.eraseBlock c b).block c b = (s.block c b).erased := by
  unfold State.block
  rw [eraseBlock_blocks, Tab.get_modify_same]

variable {s c b} in
theorem eraseBlock_block_other {a : Nat} (hne : a ≠ b) : (s.eraseBlock c b).block c a = s.block c a := by
  unfold State.block
  rw [eraseBlock_blocks, Tab.get_modify_other _ hne]

end Erase

/-! ### Taking a block (R347, R349) -/

/-- A block of family `m` goes over to family `n`. -/
def BlockInfo.refamily (m n : Nat) (x : BlockInfo) : BlockInfo := if x.family = m then { x with family := n } else x

/-- Merging two families changes of a block its family alone. -/
theorem mergeFamilies_block (k : Cassette) (b : Nat) :
    ∃ n, k.mergeFamilies.blocks.get b = { k.blocks.get b with family := n } := by
  have hsame : ∃ n, k.blocks.get b = { k.blocks.get b with family := n } := ⟨_, rfl⟩
  have hmoved : ∀ m n, ∃ j, (Tab.look b (k.blocks.cells.map (fun x => (x.1, x.2.refamily m n)))).getD k.blocks.dflt =
      { k.blocks.get b with family := j } := by
    intro m n
    rw [Tab.look_map]
    unfold Tab.get
    cases Tab.look b k.blocks.cells with
    | none => exact ⟨_, rfl⟩
    | some x =>
      unfold BlockInfo.refamily
      dsimp only [Option.map_some, Option.getD_some]
      split
      · exact ⟨n, rfl⟩
      · exact ⟨_, rfl⟩
  unfold Cassette.mergeFamilies
  dsimp only
  split
  · exact hsame
  · split
    · exact hsame
    · split
      · exact hsame
      · exact hmoved _ _

theorem mergeFamilies_lastMove (k : Cassette) : k.mergeFamilies.lastMove = k.lastMove := by
  unfold Cassette.mergeFamilies
  dsimp only
  split
  · rfl
  · split
    · rfl
    · split <;> rfl

section Occupy

variable (s : State) (c b region : Nat)

/-- Finding the family of new data changes of a block its family alone. -/
theorem familyNow_block (die : Nat) (tlc : Bool) :
    ∃ n, (s.familyNow c die tlc).2.block c b = { s.block c b with family := n } := by
  unfold State.familyNow
  dsimp only
  split
  · exact ⟨_, rfl⟩
  · unfold State.block
    rw [modifyCassette_cassette_same]
    exact mergeFamilies_block (s.cassette c) b

theorem familyNow_lastMove (die : Nat) (tlc : Bool) :
    ((s.familyNow c die tlc).2.cassette c).lastMove = (s.cassette c).lastMove := by
  unfold State.familyNow
  dsimp only
  split
  · rfl
  · rw [modifyCassette_cassette_same]
    exact mergeFamilies_lastMove (s.cassette c)

@[simp] theorem modifyBlock_block_same (f : BlockInfo → BlockInfo) :
    (s.modifyBlock c b f).block c b = f (s.block c b) := by
  unfold State.block State.modifyBlock
  rw [modifyCassette_cassette_same, Tab.get_modify_same]

theorem modifyBlock_lastMove (f : BlockInfo → BlockInfo) :
    ((s.modifyBlock c b f).cassette c).lastMove = (s.cassette c).lastMove := by
  unfold State.modifyBlock
  rw [modifyCassette_cassette_same]

theorem occupyBlock_block_same : ((s.occupyBlock c b region).block c b).occupied = true ∧
    ((s.occupyBlock c b region).block c b).age = 0 ∧ ((s.occupyBlock c b region).block c b).region = region := by
  unfold State.occupyBlock
  rw [modifyBlock_block_same]
  exact ⟨rfl, rfl, rfl⟩

variable {s c b region} in
/-- Of another block, its family alone changes: two families may have been merged. -/
theorem occupyBlock_block_other {a : Nat} (hne : a ≠ b) :
    ∃ n, (s.occupyBlock c b region).block c a = { s.block c a with family := n } := by
  obtain ⟨n, hfamily⟩ := familyNow_block s c a (b / 65536) (blockTlc b)
  refine ⟨n, Eq.trans ?_ hfamily⟩
  unfold State.occupyBlock State.modifyBlock State.block
  rw [modifyCassette_cassette_same, Tab.get_modify_other _ hne]

theorem occupyBlock_lastMove : ((s.occupyBlock c b region).cassette c).lastMove = (s.cassette c).lastMove :=
  (modifyBlock_lastMove ..).trans (familyNow_lastMove ..)

end Occupy

/-! ### WEAR_MOVE (R349) -/

/-- A wear move is noted, and what lay in `source` is looked for in `target`. -/
def Cassette.noteMove (k : Cassette) (now source target : Nat) : Cassette :=
  { k with
    lastMove := some now
    archiveAt := { k.archiveAt with cells := k.archiveAt.cells.map (fun x =>
      (x.1, if x.2 = some source then some target else x.2)) }
    filling := { k.filling with cells := k.filling.cells.map (fun x => (x.1, x.2.map (fun y =>
      (if y.1 = source then target else y.1, y.2)))) } }

/-- The data of `source` moves to `target`. -/
def State.moveWear (s : State) (c source target : Nat) : State :=
  ((s.modifyCassette c (fun k => k.noteMove s.now source target)).occupyBlock c target
    (s.block c source).region).eraseBlock c source

theorem noteMove_block (s : State) (c now source target b : Nat) :
    (s.modifyCassette c (fun k => k.noteMove now source target)).block c b = s.block c b := by
  unfold State.block
  rw [modifyCassette_cassette_same]
  rfl

theorem moveWear_lastMove (s : State) (c source target : Nat) :
    ((s.moveWear c source target).cassette c).lastMove = some s.now := by
  unfold State.moveWear
  rw [eraseBlock_lastMove, occupyBlock_lastMove, modifyCassette_cassette_same]
  rfl

theorem moveWear_source {s : State} {c source target : Nat} (hne : source ≠ target) :
    ((s.moveWear c source target).block c source).occupied = false ∧
    ((s.moveWear c source target).block c source).erases = (s.block c source).erases + 1 := by
  obtain ⟨n, hkept⟩ := occupyBlock_block_other
    (s := s.modifyCassette c (fun k => k.noteMove s.now source target)) (c := c) (region := (s.block c source).region) hne
  unfold State.moveWear
  rw [eraseBlock_block_same, hkept, noteMove_block]
  exact ⟨rfl, rfl⟩

theorem moveWear_target {s : State} {c source target : Nat} (hne : source ≠ target) :
    ((s.moveWear c source target).block c target).occupied = true ∧
    ((s.moveWear c source target).block c target).age = 0 ∧
    ((s.moveWear c source target).block c target).region = (s.block c source).region := by
  unfold State.moveWear
  rw [eraseBlock_block_other hne.symm]
  exact occupyBlock_block_same ..

section WearMove

variable {t c source target : Nat} {s : State}

/-- The listed blocks of a kind that are not bad. -/
theorem mem_kin {k : Cassette} {tlc : Bool} {x : Nat × BlockInfo} (h : x ∈ (k.kin tlc).filter (fun x => !x.2.bad)) :
    x ∈ k.blocks.cells ∧ x.2.bad = false ∧ blockTlc x.1 = tlc := by
  simpa [Cassette.kin, and_assoc] using h

theorem wearMove_effect (hin : s.inService c = true) (hshed : s.shed = 0) (hd8 : s.d8On = true)
    (hlast : ∀ m : Nat, (s.cassette c).lastMove = some m → m + 600 * sec ≤ max s.now t)
    (hsource : (s.block c source).occupied = true) (htarget : (s.block c target).occupied = false)
    (hgood : (s.block c target).bad = false) (hkind : blockTlc source = blockTlc target)
    (huneven : (s.cassette c).uneven (blockTlc source) = true)
    (hleast : ∀ x ∈ (s.cassette c).blocks.cells, blockTlc x.1 = blockTlc source → x.2.bad = false →
      x.2.occupied = true → (s.block c source).erases ≤ x.2.erases)
    (hmost : ∀ x ∈ (s.cassette c).blocks.cells, blockTlc x.1 = blockTlc source → x.2.bad = false →
      x.2.occupied = false → x.2.erases ≤ (s.block c target).erases) :
    EffectIs (.wearMove t c source target) t s ((s.at_ t).moveWear c source target) := by
  have hleast_kin : (((s.cassette c).kin (blockTlc source)).filter (fun x => !x.2.bad)).all
      (fun x => !x.2.occupied || decide ((s.block c source).erases ≤ x.2.erases)) = true := by
    refine List.all_eq_true.2 fun x hx => ?_
    obtain ⟨hmem, hbad, htlc⟩ := mem_kin hx
    cases hocc : x.2.occupied with
    | false => rfl
    | true => simpa using hleast x hmem htlc hbad hocc
  have hmost_kin : (((s.cassette c).kin (blockTlc source)).filter (fun x => !x.2.bad)).all
      (fun x => x.2.occupied || decide (x.2.erases ≤ (s.block c target).erases)) = true := by
    refine List.all_eq_true.2 fun x hx => ?_
    obtain ⟨hmem, hbad, htlc⟩ := mem_kin hx
    cases hocc : x.2.occupied with
    | true => rfl
    | false => simpa using hmost x hmem htlc hbad hocc
  refine effectIs_of_run (Eq.refl (execWearMove t c source target s))
    (if_pos ⟨hin, hshed, hd8, ?_, hsource, ?_, ?_, hkind, hleast_kin, hmost_kin, huneven⟩)
  · show (match (s.cassette c).lastMove with
      | some m => (s.at_ t).passed m (600 * sec)
      | none => true) = true
    split
    case h_1 m hm => exact at_passed (hlast m hm)
    case h_2 => rfl
  · exact (congrArg (!·) htarget : (!(s.block c target).occupied) = !false)
  · exact (congrArg (!·) hgood : (!(s.block c target).bad) = !false)

end WearMove

/-! ### PATROL_SCRUB (R347, R350) -/

/-- A pass of the scrub begins. -/
def Cassette.nextPass (k : Cassette) (now : Nat) : Cassette := { k with scrubPass := k.scrubPass + 1, scrubFrom := now }

/-- A family is tracked once in pass `pass`, within the identity block's largest offset. -/
def BlockFamily.track (f : BlockFamily) (pass : Nat) (bound : Int) (bs : List (Nat × Nat × Nat)) : BlockFamily :=
  if f.trackedPass = pass + 1 then f
  else { f with offsets := trackOffsets bound f.offsets bs, trackedPass := pass + 1 }

/-- The family's three reads for each level are made and counted, and its thresholds tracked. -/
def State.patrol (s : State) (c family : Nat) (bs : List (Nat × Nat × Nat)) (bound : Int) : State :=
  (s.modifyCassette c (fun k => { k with
    families := modifyFamily (fun f => f.track (s.cassette c).scrubPass bound bs) family k.families })).sbOp 0
    ((((s.cassette c).blocks.cells.find? (fun x => x.2.occupied && x.2.family == family)).map
      (fun x => x.2.region)).getD 8) c (48 * bs.length) (3 * bs.length)

/-- The largest magnitude of an offset that the cassette's maker names (R347). -/
def Cassette.offsetBound (k : Cassette) : Int := ((k.maker.map (fun m => m.largestOffset)).getD 0 : Nat)

section Patrol

variable {t c family : Nat} {bs : List (Nat × Nat × Nat)} {s : State} (hin : s.inService c = true) (hd8 : s.d8On = true)
include hin hd8

theorem patrolScrub_effect : EffectIs (.patrolScrub t c family bs) t s
    ((if (s.at_ t).passed (s.cassette c).scrubFrom (s.p Pid.sbScrubDays * 86400 * sec) then
      (s.at_ t).modifyCassette c (fun k => k.nextPass (s.at_ t).now) else s.at_ t).patrol c family bs
      (s.cassette c).offsetBound) := by
  have hup : ¬ ((!s.inService c) = true ∨ (!s.d8On) = true) := by simp [hin, hd8]
  exact effectIs_of_run (Eq.refl (execPatrolScrub t c family bs s)) (if_neg hup)

theorem patrolScrub_due_completes (hdue : (s.cassette c).scrubFrom + s.p Pid.sbScrubDays * 86400 * sec ≤ max s.now t) :
    Completes (.patrolScrub t c family bs) s (fun u => (u.cassette c).scrubPass = (s.cassette c).scrubPass + 1 ∧
      (u.cassette c).scrubFrom = max s.now t ∧ (u.cassette c).blocks = (s.cassette c).blocks) := by
  have h := patrolScrub_effect (t := t) (family := family) (bs := bs) hin hd8
  rw [if_pos (at_passed hdue)] at h
  refine completes_of_effect h ?_
  rw [after_cassette, State.patrol, sbOp_cassette, modifyCassette_cassette_same, modifyCassette_cassette_same]
  exact ⟨rfl, rfl, rfl⟩

theorem patrolScrub_tracks_effect
    (hdue : max s.now t < (s.cassette c).scrubFrom + s.p Pid.sbScrubDays * 86400 * sec) :
    EffectIs (.patrolScrub t c family bs) t s ((s.at_ t).patrol c family bs (s.cassette c).offsetBound) := by
  have h := patrolScrub_effect (t := t) (family := family) (bs := bs) hin hd8
  rwa [if_neg (ne_true_of_eq_false (at_notPassed hdue))] at h

end Patrol

/-! ### RETENTION_AGE_UPDATE (R350) -/

@[simp] theorem moveData_now (s : State) (c b : Nat) : (s.moveData c b).now = s.now := nandBlock_now ..

theorem refreshBlock_now (s : State) (c b : Nat) : (s.refreshBlock c b).now = s.now := by
  unfold State.refreshBlock
  split
  · rfl
  · simp only [eraseBlock_now, moveData_now, sbOp_now]

@[simp] theorem refreshDue_now (s : State) (c : Nat) : (s.refreshDue c).now = s.now := by
  unfold State.refreshDue
  dsimp only
  split
  · exact foldl_keeps State.now (fun s b => refreshBlock_now s c b) _ s
  · rfl

/-- An hour's ageing of the occupied blocks of a powered cassette at its temperature, and the refreshes then due. -/
def State.ageCassette (temps : List Int) (s : State) (c : Nat) : State :=
  if !(s.cassette c).powered then s
  else
    let s := s.setI Pid.sbTemp c (temps.getD c (s.pI Pid.sbTemp c))
    let add := Config.arrhenius (((s.cassette c).maker.map (fun m => m.activationMeV)).getD 0) (s.cassetteTemp c)
    (s.modifyCassette c (fun k => { k with blocks := { k.blocks with cells := k.blocks.cells.map (fun b =>
      (b.1, if b.2.occupied then { b.2 with age := b.2.age + add } else b.2)) } })).refreshDue c

theorem ageCassette_now (temps : List Int) (s : State) (c : Nat) : (s.ageCassette temps c).now = s.now := by
  unfold State.ageCassette
  dsimp only
  split
  · rfl
  · simp only [refreshDue_now, modifyCassette_now, setI_now]

/-- The hour's ageing is done. -/
def State.noteAgeing (s : State) : State := { s with storage := { s.storage with ageAt := s.now } }

section Age

variable {t : Nat} {temps : List Int} {s : State}

theorem retentionAgeUpdate_early_effect (hearly : max s.now t < s.storage.ageAt + 3600 * sec) :
    EffectIs (.retentionAgeUpdate t temps) t s (s.at_ t) := by
  have hnot : (!(s.at_ t).passed s.storage.ageAt (3600 * sec)) = true := by rw [at_notPassed hearly]; rfl
  exact effectIs_of_run (Eq.refl (execRetentionAgeUpdate t temps s)) (if_pos hnot)

theorem retentionAgeUpdate_effect (hdue : s.storage.ageAt + 3600 * sec ≤ max s.now t) :
    EffectIs (.retentionAgeUpdate t temps) t s
      (((s.at_ t).ageCassette temps 0).ageCassette temps 1).noteAgeing := by
  have hpassed : ¬ (!(s.at_ t).passed s.storage.ageAt (3600 * sec)) = true := by rw [at_passed hdue]; decide
  exact effectIs_of_run (Eq.refl (execRetentionAgeUpdate t temps s)) (if_neg hpassed)

theorem retentionAgeUpdate_completes (hdue : s.storage.ageAt + 3600 * sec ≤ max s.now t) :
    Completes (.retentionAgeUpdate t temps) s (fun u => u.storage.ageAt = max s.now t) := by
  refine completes_of_effect (retentionAgeUpdate_effect hdue) ?_
  exact (ageCassette_now ..).trans (ageCassette_now ..)

end Age

/-! ### FOLD (R348, R352) -/

section Fold

variable {t : Nat} {s : State}

/-- A fold's part on one cassette: a block written outside the window starts aged, and the landing's blocks are
freed. -/
def State.endFold (slot : Nat) (s : State) (c : Nat) : State :=
  if s.inService c then (if s.foldsCold c then s.coldFold c slot else s).releaseLanding c else s

theorem fold_notFull_effect (hroom : s.storage.landing.length < 1533) : EffectIs (.fold t) t s (s.at_ t) :=
  effectIs_of_run (Eq.refl (execFold t s)) (if_pos (.inl hroom))

/-- The landing's oldest blocks become the next archive block. -/
def State.foldLanding (s : State) : State :=
  { s with storage := { s.storage with
    archive := s.storage.archive ++ [s.storage.landing.take 1533], landing := s.storage.landing.drop 1533
    folds := s.storage.folds + 1 } }

theorem fold_full_effect (hfull : 1533 ≤ s.storage.landing.length) (hshed : s.shed = 0) (hd8 : s.d8On = true)
    (hup : s.storageUp = true) (hfirst : s.foldAllowed 0 = true) (hsecond : s.foldAllowed 1 = true)
    (hroom : s.storage.archive.length < 3755) : EffectIs (.fold t) t s
      ([0, 1].foldl (State.endFold (s.storage.folds % 3755))
        ((s.at_ t).foldLanding.storeWrite (.archive (s.storage.folds % 3755)) 12288 .nothing)) := by
  have hfolds : ¬ (s.storage.landing.length < 1533 ∨ s.shed ≠ 0 ∨ (!s.d8On) = true ∨ (!s.storageUp) = true ∨
      (!s.foldAllowed 0) = true ∨ (!s.foldAllowed 1) = true) := by
    simp [Nat.not_lt.2 hfull, hshed, hd8, hup, hfirst, hsecond]
  have hend : ∀ (slot : Nat) (v : State) (c : Nat), v.endFold slot c =
      if (!v.inService c) = true then v else (if v.foldsCold c then v.coldFold c slot else v).releaseLanding c := by
    intro slot v c
    unfold State.endFold
    cases v.inService c <;> rfl
  refine effectIs_of_run (Eq.refl (execFold t s)) ((if_neg hfolds).trans ?_)
  simp only [at_storage, hroom, if_true, List.foldl_cons, List.foldl_nil, hend, State.foldLanding]

end Fold

/-! ### Checkpoints, held writes and the freeze (R343, R358, R369) -/

section Upkeep

variable {t a c : Nat} {s : State}

theorem mapCheckpoint_effect (hpowered : (s.cassette c).powered = true) (hd8 : s.d8On = true)
    (hdue : (s.cassette c).checkpointAt + 600 * sec ≤ max s.now t) : EffectIs (.mapCheckpoint t c) t s
      ((s.at_ t).modifyCassette c (fun k => { k with checkpointAt := max s.now t })) :=
  effectIs_of_run (Eq.refl (execMapCheckpoint t c s)) (if_pos ⟨hpowered, hd8, at_passed hdue⟩)

theorem mapCheckpoint_completes (hpowered : (s.cassette c).powered = true) (hd8 : s.d8On = true)
    (hdue : (s.cassette c).checkpointAt + 600 * sec ≤ max s.now t) : Completes (.mapCheckpoint t c) s (fun u =>
      (u.cassette c).checkpointAt = max s.now t ∧ u.params = s.params) := by
  refine completes_of_effect (mapCheckpoint_effect hpowered hd8 hdue) ⟨?_, rfl⟩
  rw [after_cassette, modifyCassette_cassette_same]

theorem heldWritesRelease_awake_effect (hawake : s.awake = true) :
    EffectIs (.heldWritesRelease t) t s (s.at_ t).writeHeld :=
  effectIs_of_run (Eq.refl (execHeldWritesRelease t s)) (if_pos hawake)

theorem heldWritesRelease_asleep_effect (hasleep : s.awake = false) :
    EffectIs (.heldWritesRelease t) t s (s.at_ t) :=
  effectIs_of_run (Eq.refl (execHeldWritesRelease t s)) (if_neg (ne_true_of_eq_false hasleep))

theorem freezeAutoRelease_due_effect (hfrozen : s.waybill.frozenSince = some a)
    (hdue : a + s.p Pid.wbFreezeMaxS * sec ≤ max s.now t) :
    EffectIs (.freezeAutoRelease t) t s (s.at_ t).releaseFreeze := by
  refine effectIs_of_run (Eq.refl (execFreezeAutoRelease t s)) ?_
  simp only [at_waybill, hfrozen]
  exact if_pos (at_passed hdue)

theorem freezeAutoRelease_early_effect (hfrozen : s.waybill.frozenSince = some a)
    (hearly : max s.now t < a + s.p Pid.wbFreezeMaxS * sec) : EffectIs (.freezeAutoRelease t) t s (s.at_ t) := by
  refine effectIs_of_run (Eq.refl (execFreezeAutoRelease t s)) ?_
  simp only [at_waybill, hfrozen]
  exact if_neg (ne_true_of_eq_false (at_notPassed hearly))

end Upkeep

/-- Settles O51, command by command. -/
theorem storageUpkeep : Obligations.StorageUpkeep := by
  refine ⟨?checkpoint, ?tracks, ?nextPass, ?early, ?ages, ?moves, ?notFull, ?full, ?awake, ?asleep, ?released, ?frozen⟩
  case checkpoint => exact fun t c s hpowered hd8 _ => mapCheckpoint_completes hpowered hd8
  case tracks => exact fun t c family bs s _ => patrolScrub_tracks_effect
  case nextPass => exact fun t c family bs s _ => patrolScrub_due_completes
  case early => exact fun t temps s => retentionAgeUpdate_early_effect
  case ages => exact fun t temps s => retentionAgeUpdate_completes
  case moves =>
    intro t c source target s _ hin hshed hd8 hlast hsource htarget hgood hkind huneven hleast hmost
    have hne : source ≠ target := by
      rintro rfl
      exact Bool.false_ne_true (htarget.symm.trans hsource)
    obtain ⟨hfree, herases⟩ := moveWear_source (s := s.at_ t) (c := c) hne
    have hmoved := moveWear_target (s := s.at_ t) (c := c) hne
    refine completes_of_effect
      (wearMove_effect hin hshed hd8 hlast hsource htarget hgood hkind huneven hleast hmost) ?_
    rw [after_cassette, after_block, after_block, moveWear_lastMove]
    exact ⟨rfl, hfree, herases, hmoved⟩
  case notFull => exact fun t s => fold_notFull_effect
  case full => exact fun t s => fold_full_effect
  case awake => exact fun t s => heldWritesRelease_awake_effect
  case asleep => exact fun t s => heldWritesRelease_asleep_effect
  case released => exact fun t a s => freezeAutoRelease_due_effect
  case frozen => exact fun t a s => freezeAutoRelease_early_effect

end Sys2Proof.Machine

/-! PROOF.  The commands of the tack room (O52): KEY_COMMIT, INVALIDATION_COMMIT, KEY_TRANSFER_RECEIVE,
KEY_TRANSFER_TIMEOUT, TAMPER_DETECT and RNG_HEALTH_FAILURE (R387 to R396, R420). -/

namespace Sys2Proof.Machine

open Sys2Proof

/-! ### The jobs of the vault -/

section Jobs

variable {t k a : Nat} {ref : Option TicketRef} {rest : List (VaultJob × Option TicketRef × Nat × Bool)} {s : State}

/-- The vault write at the head of the jobs leaves them. -/
def State.withJobs (s : State) (rest : List (VaultJob × Option TicketRef × Nat × Bool)) : State :=
  { s with vault := { s.vault with jobs := rest } }

theorem keyCommit_load_effect {attr check : Word} {key : Nat}
    (hjobs : s.vault.jobs = (.load k attr key check, ref, a, false) :: rest) :
    EffectIs (.keyCommit t) t s (((s.at_ t).withJobs rest).commitJob (.load k attr key check) ref) := by
  refine effectIs_of_run (Eq.refl (execKeyCommit t s)) ?_
  simp only [at_vault, hjobs]
  rfl

theorem keyCommit_lifecycle_effect {target : Nat} {w : Bool}
    (hjobs : s.vault.jobs = (.lifecycle target, ref, a, w) :: rest) :
    EffectIs (.keyCommit t) t s (((s.at_ t).withJobs rest).commitJob (.lifecycle target) ref) := by
  refine effectIs_of_run (Eq.refl (execKeyCommit t s)) ?_
  simp only [at_vault, hjobs]
  rfl

theorem keyCommit_waits_effect {attr check : Word} {key : Nat}
    (hjobs : s.vault.jobs = (.load k attr key check, ref, a, true) :: rest) :
    EffectIs (.keyCommit t) t s (s.at_ t) := by
  refine effectIs_of_run (Eq.refl (execKeyCommit t s)) ?_
  simp only [at_vault, hjobs]

theorem invalidationCommit_effect (hjobs : s.vault.jobs = (.invalidate k, ref, a, false) :: rest) :
    EffectIs (.invalidationCommit t) t s (((s.at_ t).withJobs rest).commitJob (.invalidate k) ref) := by
  refine effectIs_of_run (Eq.refl (execInvalidationCommit t s)) ?_
  simp only [at_vault, hjobs]
  rfl

theorem keyTransferTimeout_effect {j : VaultJob}
    (hwaits : s.vault.jobs.find? (fun j => j.2.2.2) = some (j, ref, a, true)) (hdue : a + 100 * ms ≤ max s.now t) :
    EffectIs (.keyTransferTimeout t) t s
      (({ (s.at_ t) with vault := { s.vault with jobs := releaseJob s.vault.jobs } } : State).keyEvent j.slot 0) := by
  refine effectIs_of_run (Eq.refl (execKeyTransferTimeout t s)) ?_
  simp only [at_vault, hwaits]
  exact if_pos (at_passed hdue)

end Jobs

section Transfer

variable {t : Nat} {h : LinkHead} {s : State} (htaken : ((s.at_ t).linkTakes 7 h).1 = true)
include htaken

theorem keyTransferReceive_load_effect {slot key : Nat} {attr check : Word}
    (hwheeler : ((s.at_ t).linkTakes 7 h).2.wheeler = true) :
    EffectIs (.keyTransferReceive t h (.load slot attr key check)) t s
      ((((s.at_ t).linkTakes 7 h).2.commitLoad slot attr key check).tandemPost 7 [1]) := by
  refine effectIs_of_run (Eq.refl (execKeyTransferReceive t h (.load slot attr key check) s)) ?_
  simp only [htaken, hwheeler, Bool.not_true, Bool.false_eq_true, if_false, if_true]

theorem keyTransferReceive_confirm_completes (hlead : ((s.at_ t).linkTakes 7 h).2.lead = true) :
    Completes (.keyTransferReceive t h .confirm) s (fun u =>
      u.vault.jobs = releaseJob ((s.at_ t).linkTakes 7 h).2.vault.jobs) := by
  refine completes_of_run (Eq.refl (execKeyTransferReceive t h .confirm s)) ?_
  simp only [after_vault, htaken, hlead, Bool.not_true, Bool.false_eq_true, if_false, if_true]

end Transfer

/-! ### What zeroising leaves (R393, R395) -/

theorem setRun_w_other {id e jd d : Nat} (ns : List Nat) (s : State) (hjd : jd ≠ id) (hd : d < 65536)
    (hend : e + ns.length ≤ 65536) : (s.setRun id e ns).w jd d = s.w jd d := by
  induction ns generalizing s e with
  | nil => rfl
  | cons n rest ih =>
    rw [List.length_cons] at hend
    exact (ih _ (by omega)).trans (w_setP_other s (paramKey_ne hjd (by omega) hd) n)

/-- What KEY_INFO and the slots' parameters show of every slot once it is zeroised. -/
def State.zeroiseShown (s : State) : State :=
  (List.range 64).foldl (fun s k =>
    (((s.setW Pid.keySlotAttr k 0).setW Pid.keySlotCheck k 0).setP Pid.keySlotGen k 0).setP Pid.keySlotHalf k 0)
    (s.setRun Pid.keySlotState 0 (List.replicate 64 4))

/-- It writes the parameters of the slots alone. -/
theorem zeroiseShown_w (s : State) {jd d : Nat} (hjd : Pid.keySlotHalf < jd) (hd : d < 65536) :
    s.zeroiseShown.w jd d = s.w jd d := by
  have hkey : ∀ id ≤ Pid.keySlotHalf, ∀ k < 64, paramKey jd d ≠ paramKey id k := fun id hid k hk =>
    paramKey_ne (by omega) (by omega) hd
  refine List.foldlRecOn _ _ (motive := fun u : State => u.w jd d = s.w jd d) ?_ ?_
  · exact setRun_w_other _ s (by simp only [Pid.keySlotState, Pid.keySlotHalf] at *; omega) hd (by simp)
  · intro u hu k hmem
    have hk : k < 64 := List.mem_range.1 hmem
    rw [w_setP_other _ (hkey _ le_rfl k hk), w_setP_other _ (hkey _ (by decide) k hk),
      w_setW_other _ (hkey _ (by decide) k hk), w_setW_other _ (hkey _ (by decide) k hk), hu]

theorem zeroiseShown_vault (s : State) : s.zeroiseShown.vault = s.vault :=
  (foldl_keeps State.vault (by simp) _ _).trans (setRun_vault ..)

theorem zeroiseShown_power (s : State) : s.zeroiseShown.power = s.power :=
  (foldl_keeps State.power (by simp) _ _).trans (setRun_power ..)

/-- The keys, the seed, the jobs and the marks of the vault go, and the keys of the sessions. -/
def State.eraseKeys (s : State) : State :=
  { s with
    vault := { s.vault with
      slots := { s.vault.slots with
        cells := s.vault.slots.cells.map (fun c => (c.1, { KeySlot.empty with commits := c.2.commits })) }
      seed := none, jobs := [], invalidMarks := 0, orphanMarks := 0, previousLeft := 0 }
    bridle := { s.bridle with sessions := s.bridle.sessions.map (fun (k : Session) => { k with key := 0 }) } }

theorem eraseKeys_power (s : State) : s.eraseKeys.power = s.power := rfl

theorem eraseKeys_w (s : State) (id e : Nat) : s.eraseKeys.w id e = s.w id e := rfl

theorem eraseKeys_vault_congr {u v : State} (h : u.vault = v.vault) : u.eraseKeys.vault = v.eraseKeys.vault := by
  unfold State.eraseKeys
  rw [h]

theorem zeroise_eq (s : State) : s.zeroise = s.zeroiseShown.eraseKeys.bump Pid.keyZeroisations := by
  simp only [State.zeroise, State.zeroiseShown, State.eraseKeys]

theorem zeroise_w (s : State) {jd d : Nat} (hjd : Pid.keySlotHalf < jd) (hd : d < 65536)
    (hne : jd ≠ Pid.keyZeroisations) : s.zeroise.w jd d = s.w jd d := by
  rw [zeroise_eq, w_bump_other _ (paramKey_ne hne (by decide) hd), eraseKeys_w, zeroiseShown_w s hjd hd]

theorem zeroise_power (s : State) : s.zeroise.power = s.power := by
  rw [zeroise_eq, bump_power, eraseKeys_power, zeroiseShown_power]

theorem zeroise_vault (s : State) : s.zeroise.vault = s.eraseKeys.vault := by
  rw [zeroise_eq, bump_vault, eraseKeys_vault_congr (zeroiseShown_vault s)]

/-! ### TAMPER_DETECT (R394, R395) -/

/-- The level at a tamper input is kept. -/
def State.keepLevel (s : State) (input : Nat) (level : Bool) : State :=
  { s with vault := { s.vault with tamperLevel := s.vault.tamperLevel.set input level } }

/-- The part of a detection that needs no firmware (R395): its bit is latched with the calendar, the vault is erased,
and the module is Blank unless it is Scrapped. -/
def State.latchTamper (s : State) (input : Nat) : State :=
  let s := s.setFlag Pid.keyTamperStatus 0 input true
  let s := { s with vault := { s.vault with
      tamperTime := s.vault.tamperTime.set input s.rtcStamp, tamperDone := s.vault.tamperDone.set input true } }
  let s := (s.bump Pid.keyTamperEvents).zeroise
  if s.lifecycle = 4 then s else s.setP Pid.idLifecycle 0 0

theorem latchTamper_power (s : State) (input : Nat) : (s.latchTamper input).power = s.power := by
  unfold State.latchTamper
  simp [apply_ite State.power, zeroise_power]

theorem latchTamper_flag (s : State) {input : Nat} (hinput : input < 32) :
    (s.latchTamper input).flagOf Pid.keyTamperStatus 0 input = true := by
  have hlife : paramKey Pid.keyTamperStatus 0 ≠ paramKey Pid.idLifecycle 0 := by decide
  have hevents : paramKey Pid.keyTamperStatus 0 ≠ paramKey Pid.keyTamperEvents 0 := by decide
  have hset := flagOf_setFlag_true s Pid.keyTamperStatus 0 hinput
  have herased : ∀ v : State, ((v.bump Pid.keyTamperEvents).zeroise).w Pid.keyTamperStatus 0 =
      v.w Pid.keyTamperStatus 0 := fun v =>
    (zeroise_w _ (by decide) (by decide) (by decide)).trans (w_bump_other v hevents 1)
  unfold State.flagOf State.p at hset ⊢
  unfold State.latchTamper
  dsimp only
  split
  · rw [herased]; exact hset
  · rw [w_setP_other _ hlife, herased]; exact hset

theorem latchTamper_vault (s : State) (input : Nat) :
    (s.latchTamper input).vault.slots.cells =
      s.vault.slots.cells.map (fun x => (x.1, { KeySlot.empty with commits := x.2.commits })) ∧
    (s.latchTamper input).vault.seed = none ∧ (s.latchTamper input).vault.jobs = [] := by
  unfold State.latchTamper
  simp only [apply_ite State.vault, setP_vault, ite_self, zeroise_vault]
  simp [State.eraseKeys]

/-- A detection waits for the firmware's part of R395. -/
def State.awaitFirmware (s : State) (input : Nat) : State :=
  { s with vault := { s.vault with tamperPending := some input } }

theorem awaitFirmware_flagOf (s : State) (input id e k : Nat) :
    (s.awaitFirmware input).flagOf id e k = s.flagOf id e k := rfl

theorem awaitFirmware_vault (s : State) (input : Nat) :
    (s.awaitFirmware input).vault = { s.vault with tamperPending := some input } := rfl

/-- The active level at a tamper input: its time begins, or it has lasted and is detected, once for each activation. -/
def State.heldTamper (s : State) (input : Nat) : State :=
  match s.vault.tamperSince.get input with
  | none => { s with vault := { s.vault with tamperSince := s.vault.tamperSince.set input (some s.now) } }
  | some a =>
    if s.vault.tamperDone.get input ∨ !s.passed a tamperTime then s
    else
      let v := s.latchTamper input
      if v.domainOn 9 then v.tamperActions input else v.awaitFirmware input

/-- The inactive level at a tamper input ends its activation. -/
def State.endTamper (s : State) (input : Nat) : State :=
  { s with vault := { s.vault with
    tamperSince := s.vault.tamperSince.set input none, tamperDone := s.vault.tamperDone.set input false } }

theorem heldTamper_begins {s : State} {input : Nat} (hsince : s.vault.tamperSince.get input = none) :
    s.heldTamper input =
      { s with vault := { s.vault with tamperSince := s.vault.tamperSince.set input (some s.now) } } := by
  unfold State.heldTamper
  rw [hsince]

theorem heldTamper_again {s : State} {input : Nat} (hsince : s.vault.tamperSince.get input ≠ none)
    (hdone : s.vault.tamperDone.get input = true) : s.heldTamper input = s := by
  obtain ⟨a, ha⟩ := Option.ne_none_iff_exists'.1 hsince
  unfold State.heldTamper
  rw [ha]
  exact if_pos (.inl hdone)

/-- With D9 off the firmware's part of R395 waits. -/
theorem heldTamper_lasted {s : State} {input a : Nat} (hsince : s.vault.tamperSince.get input = some a)
    (hlasted : s.passed a tamperTime = true) (hdone : s.vault.tamperDone.get input = false)
    (hoff : s.domainOn 9 = false) :
    s.heldTamper input = (s.latchTamper input).awaitFirmware input := by
  have hdetects : ¬ (s.vault.tamperDone.get input = true ∨ (!s.passed a tamperTime) = true) := by simp [hdone, hlasted]
  have hpower : ¬ (s.latchTamper input).domainOn 9 = true := by
    rw [State.domainOn, latchTamper_power]
    exact ne_true_of_eq_false hoff
  unfold State.heldTamper
  rw [hsince]
  exact (if_neg hdetects).trans (if_neg hpower)

section Tamper

variable {t input : Nat} {level : Bool} {s : State} (hinput : input < 2) (hretained : s.time.retained = true)
include hinput hretained

theorem tamperDetect_effect : EffectIs (.tamperDetect t input level) t s
    (if (s.p Pid.keyTamperCfg).testBit input && (level == (s.p Pid.keyTamperCfg).testBit (2 + input)) then
      ((s.at_ t).keepLevel input level).heldTamper input
    else ((s.at_ t).keepLevel input level).endTamper input) := by
  have hlow : ¬ 1 < input := by omega
  generalize hkept : (s.at_ t).keepLevel input level = v
  have hcounts : ¬ (1 < input ∨ (!v.time.retained) = true) := by
    rw [← hkept]
    simp [hlow, hretained, State.keepLevel]
  refine effectIs_of_run (Eq.refl (execTamperDetect t input level s)) ?_
  unfold State.keepLevel at hkept
  simp only [if_neg hlow, hkept, if_neg hcounts, at_p]
  clear hkept hcounts
  cases (s.p Pid.keyTamperCfg).testBit input && (level == (s.p Pid.keyTamperCfg).testBit (2 + input)) with
  | true =>
    unfold State.heldTamper
    cases v.vault.tamperSince.get input with
    | none => rfl
    | some a => simp only [State.latchTamper, State.awaitFirmware, if_true, Bool.not_true, Bool.false_eq_true, if_false]
  | false => rfl

theorem tamperDetect_inactive_completes (hlevel : level ≠ (s.p Pid.keyTamperCfg).testBit (2 + input)) :
    Completes (.tamperDetect t input level) s (fun u => u.vault.tamperSince.get input = none ∧
      u.vault.tamperLevel.get input = level ∧ u.params = s.params) := by
  have h := tamperDetect_effect (t := t) (level := level) hinput hretained
  rw [if_neg (by simp [hlevel])] at h
  exact completes_of_effect h ⟨Tab.get_set_same .., Tab.get_set_same .., rfl⟩

variable (hactive : (s.p Pid.keyTamperCfg).testBit input = true)
include hactive

/-- The input holds its active level. -/
theorem tamperDetect_held_effect :
    EffectIs (.tamperDetect t input ((s.p Pid.keyTamperCfg).testBit (2 + input))) t s
      (((s.at_ t).keepLevel input ((s.p Pid.keyTamperCfg).testBit (2 + input))).heldTamper input) := by
  have h := tamperDetect_effect (t := t) (level := (s.p Pid.keyTamperCfg).testBit (2 + input)) hinput hretained
  rwa [if_pos (by simp [hactive])] at h

theorem tamperDetect_begins_completes (hsince : s.vault.tamperSince.get input = none) :
    Completes (.tamperDetect t input ((s.p Pid.keyTamperCfg).testBit (2 + input))) s (fun u =>
      u.vault.tamperSince.get input = some (max s.now t) ∧ u.params = s.params) := by
  have h := tamperDetect_held_effect (t := t) hinput hretained hactive
  rw [heldTamper_begins (s := (s.at_ t).keepLevel input _) hsince] at h
  exact completes_of_effect h ⟨Tab.get_set_same .., rfl⟩

theorem tamperDetect_again_completes (hsince : s.vault.tamperSince.get input ≠ none)
    (hdone : s.vault.tamperDone.get input = true) :
    Completes (.tamperDetect t input ((s.p Pid.keyTamperCfg).testBit (2 + input))) s (fun u =>
      u.vault.seed = s.vault.seed ∧ u.vault.slots = s.vault.slots ∧ u.params = s.params) := by
  have h := tamperDetect_held_effect (t := t) hinput hretained hactive
  rw [heldTamper_again (s := (s.at_ t).keepLevel input _) hsince hdone] at h
  exact completes_of_effect h ⟨rfl, rfl, rfl⟩

theorem tamperDetect_lasted_completes {a : Nat} (hsince : s.vault.tamperSince.get input = some a)
    (hlasted : a + tamperTime ≤ max s.now t) (hdone : s.vault.tamperDone.get input = false)
    (hoff : s.domainOn 9 = false) :
    Completes (.tamperDetect t input ((s.p Pid.keyTamperCfg).testBit (2 + input))) s (fun u =>
      u.flagOf Pid.keyTamperStatus 0 input = true ∧ u.vault.tamperPending = some input ∧
      u.vault.slots.cells = s.vault.slots.cells.map (fun x => (x.1, { KeySlot.empty with commits := x.2.commits })) ∧
      u.vault.seed = none ∧ u.vault.jobs = []) := by
  have h := tamperDetect_held_effect (t := t) hinput hretained hactive
  generalize hkept : (s.at_ t).keepLevel input ((s.p Pid.keyTamperCfg).testBit (2 + input)) = v at h
  have hslots : v.vault.slots = s.vault.slots := by rw [← hkept]; rfl
  have hheld : v.heldTamper input = (v.latchTamper input).awaitFirmware input := by
    subst hkept
    exact heldTamper_lasted hsince (at_passed (s := s) hlasted) hdone hoff
  rw [hheld] at h
  obtain ⟨herased, hseed, hjobs⟩ := latchTamper_vault v input
  rw [hslots] at herased
  refine completes_of_effect h ?_
  rw [after_flagOf, after_vault, awaitFirmware_flagOf, awaitFirmware_vault]
  dsimp only
  exact ⟨latchTamper_flag v (by omega), rfl, herased, hseed, hjobs⟩

end Tamper

/-- Settles O52, command by command. -/
theorem keyCommits : Obligations.KeyCommits := by
  refine ⟨?load, ?lifecycle, ?invalidate, ?waits, ?carried, ?confirmed, ?timeout, ?inactive, ?begins, ?lasted, ?again,
    ?random⟩
  case load => exact fun t k a attr check key ref rest s => keyCommit_load_effect
  case lifecycle => exact fun t target a w ref rest s => keyCommit_lifecycle_effect
  case invalidate => exact fun t k a ref rest s => invalidationCommit_effect
  case waits => exact fun t k a attr check key ref rest s => keyCommit_waits_effect
  case carried => exact fun t slot h attr check key s htaken => keyTransferReceive_load_effect htaken
  case confirmed => exact fun t h s htaken => keyTransferReceive_confirm_completes htaken
  case timeout => exact fun t a j ref s => keyTransferTimeout_effect
  case inactive =>
    exact fun t input level s hinput hretained _ => tamperDetect_inactive_completes hinput hretained
  case begins => exact fun t input s hinput hretained hactive => tamperDetect_begins_completes hinput hretained hactive
  case lasted =>
    exact fun t input a s hinput hretained hactive => tamperDetect_lasted_completes hinput hretained hactive
  case again => exact fun t input s hinput hretained hactive => tamperDetect_again_completes hinput hretained hactive
  case random =>
    exact fun t s => completes_of_run (Eq.refl (execRngHealthFailure t s)) ⟨p_setP_same _ _ _ 1, setP_vault ..⟩

end Sys2Proof.Machine

/-! PROOF.  The commands of the firmware update (O53): STAGING_ERASE_DONE, COMMIT_VERIFY_DONE, IMAGE_SWITCH,
WHEELER_IMAGE_VALID, PROBATION_END, FIRST_COMMIT_TIMEOUT, WATCHDOG_RESET and UPDATE_IDLE_ABORT (R403 to R412; the cause
of a watchdog's warm restart is drawn, assumption 33). -/

namespace Sys2Proof.Machine

open Sys2Proof

section Commit

variable {t : Nat} {ref : TicketRef} {digest : List Word} {s : State}

theorem stagingEraseDone_effect {a : Nat} (hopening : s.update.opening = some (ref, a)) :
    EffectIs (.stagingEraseDone t) t s
      ((((({ (s.at_ t) with update := { s.update with opening := none, lastData := (s.at_ t).now } } : State).setP
        Pid.updState 0 1).finish ref (ok)).shallower)) := by
  refine effectIs_of_run (Eq.refl (execStagingEraseDone t s)) ?_
  simp only [at_update, hopening]

/-- The digest that UPD_OPEN declared (R403). -/
def State.declaredDigest (s : State) : List Word := (s.pRun Pid.updDigest 0 8).map (fun n => word n)

/-- The detail of the first check of R406 that fails, the declared digest and the count of words before the image. -/
def State.commitFailure (s : State) (digest : List Word) : Option Nat :=
  if digest ≠ s.declaredDigest then some 1
  else if s.p Pid.updWordsRx ≠ s.p Pid.updSizeWords then some 2
  else s.imageFailure digest s.update.untagged

/-- A commit ends as the checks say: it fails with a detail, or passes. -/
def State.endCommitChecks (s : State) (ref : TicketRef) (digest : List Word) : Option Nat → State
  | some k => s.commitFails ref k
  | none => s.commitPasses ref digest

variable (hcommitting : s.update.committing = some (ref, digest)) (hstate : s.p Pid.updState = 2)
  (hholder : s.update.holderGone = false)
include hcommitting hstate hholder

theorem commitVerifyDone_effect : EffectIs (.commitVerifyDone t) t s
    ((if s.update.untagged then s.at_ t else (s.at_ t).keyUse .image 0 3).endCommitChecks ref digest
      ((s.at_ t).commitFailure digest)) := by
  have hchecking : ¬ (s.at_ t).p Pid.updState ≠ 2 := not_not.2 hstate
  have hpresent : (s.at_ t).update.holderGone = false := hholder
  refine effectIs_of_run (Eq.refl (execCommitVerifyDone t s)) ?_
  have hcommitting_at : (s.at_ t).update.committing = some (ref, digest) := hcommitting
  simp only [hcommitting_at, if_neg hchecking, hpresent]
  rfl

theorem commitVerifyDone_undeclared (hdigest : digest ≠ s.declaredDigest) (huntagged : s.update.untagged = true) :
    EffectIs (.commitVerifyDone t) t s ((s.at_ t).commitFails ref 1) := by
  have hfailure : (s.at_ t).commitFailure digest = some 1 := if_pos hdigest
  have h := commitVerifyDone_effect (t := t) hcommitting hstate hholder
  rwa [if_pos huntagged, hfailure] at h

/-- Of a complete image under the declared digest the checks of the image decide. -/
theorem commitVerifyDone_declared (hdigest : digest = s.declaredDigest)
    (hcomplete : s.p Pid.updWordsRx = s.p Pid.updSizeWords) : EffectIs (.commitVerifyDone t) t s
      ((if s.update.untagged then s.at_ t else (s.at_ t).keyUse .image 0 3).endCommitChecks ref digest
        ((s.at_ t).imageFailure digest s.update.untagged)) := by
  have hfailure : (s.at_ t).commitFailure digest = (s.at_ t).imageFailure digest s.update.untagged :=
    (if_neg (not_not.2 hdigest)).trans (if_neg (not_not.2 hcomplete))
  have h := commitVerifyDone_effect (t := t) hcommitting hstate hholder
  rwa [hfailure] at h

end Commit

/-- Both modules hold the image: the result of UPD_COMMIT is ready (R412). -/
def State.answerCommit (s : State) : State :=
  let v := s.finishOpt (s.update.committing.map (fun c => c.1)) (ok)
  ({ v with update := { v.update with committing := none } }).setP Pid.updPairState 0 2

section Deadlines

variable {t a : Nat} {s : State}

theorem imageSwitch_effect (hdue : (s.at_ t).switchDue = true) : EffectIs (.imageSwitch t) t s (s.at_ t).switchImage :=
  effectIs_of_run (Eq.refl (execImageSwitch t s)) (if_pos hdue)

theorem imageSwitch_none_effect (hdue : (s.at_ t).switchDue = false) : EffectIs (.imageSwitch t) t s (s.at_ t) :=
  effectIs_of_run (Eq.refl (execImageSwitch t s)) (if_neg (ne_true_of_eq_false hdue))

theorem wheelerImageValid_effect {h : LinkHead} {v : State} (hv : ((s.at_ t).linkTakes 9 h).2 = v)
    (htaken : ((s.at_ t).linkTakes 9 h).1 = true) (hpair : v.p Pid.updPairState = 1) (hstate : v.p Pid.updState = 3) :
    EffectIs (.wheelerImageValid t h) t s v.answerCommit := by
  have hcarried : ¬ ((!((s.at_ t).linkTakes 9 h).1) = true ∨ v.p Pid.updPairState ≠ 1 ∨ v.p Pid.updState ≠ 3) := by
    simp [htaken, hpair, hstate]
  subst hv
  exact effectIs_of_run (Eq.refl (execWheelerImageValid t h s)) (if_neg hcarried)

theorem wheelerImageValid_completes {h : LinkHead} (htaken : ((s.at_ t).linkTakes 9 h).1 = true)
    (hpair : ((s.at_ t).linkTakes 9 h).2.p Pid.updPairState = 1)
    (hstate : ((s.at_ t).linkTakes 9 h).2.p Pid.updState = 3) :
    Completes (.wheelerImageValid t h) s (fun u => u.p Pid.updPairState = 2 ∧ u.update.committing = none) := by
  refine completes_of_effect (wheelerImageValid_effect rfl htaken hpair hstate) ⟨?_, ?_⟩
  · exact p_setP_same _ _ _ 2
  · rw [after_update, State.answerCommit, setP_update]

theorem probationEnd_effect (hprobation : s.update.probationEnd = some a) (hawake : s.awake = true)
    (hdue : a ≤ max s.now t) : EffectIs (.probationEnd t) t s (s.at_ t).confirmImage := by
  refine effectIs_of_run (Eq.refl (execProbationEnd t s)) ?_
  simp only [at_update, hprobation]
  exact if_pos ⟨hawake, hdue⟩

theorem firstCommitTimeout_effect (hfrom : s.update.firstCommitFrom = some a) (hdue : a + 2 * sec ≤ max s.now t)
    (hrunning : s.power.phase = .running) : EffectIs (.firstCommitTimeout t) t s ((s.at_ t).fallbackNow true) := by
  refine effectIs_of_run (Eq.refl (execFirstCommitTimeout t s)) ?_
  simp only [at_update, hfrom, at_power, hrunning]
  exact if_pos ⟨at_passed hdue, Or.inl trivial⟩

theorem updateIdleAbort_effect (hopen : s.p Pid.updState = 1)
    (hidle : s.update.lastData + s.p Pid.updIdleS * sec ≤ max s.now t) :
    EffectIs (.updateIdleAbort t) t s (s.at_ t).abortUpdate :=
  effectIs_of_run (Eq.refl (execUpdateIdleAbort t s)) (if_pos ⟨hopen, at_passed hidle⟩)

section Watchdog

variable (hrunning : s.power.phase = .running) (hup : s.power.asleep = false)
include hrunning hup

theorem watchdogReset_up : ¬ ((s.at_ t).power.phase ≠ .running ∨ (s.at_ t).power.asleep = true) := by
  simp [hrunning, hup]

theorem watchdogReset_probation_effect (hprobation : s.update.probationEnd.isSome = true) :
    EffectIs (.watchdogReset t) t s ((s.at_ t).fallbackNow false) :=
  effectIs_of_run (Eq.refl (execWatchdogReset t s))
    ((if_neg (watchdogReset_up hrunning hup)).trans (if_pos hprobation))

theorem watchdogReset_confirmed_effect (hprobation : s.update.probationEnd = none) : EffectIs (.watchdogReset t) t s
    (((s.at_ t).closeSessionByEvent.drawBelow 256).2.beginWarm
      ((s.at_ t).closeSessionByEvent.drawBelow 256).1 none) := by
  have hconfirmed : ¬ (s.at_ t).update.probationEnd.isSome = true := by simp [hprobation]
  exact effectIs_of_run (Eq.refl (execWatchdogReset t s))
    ((if_neg (watchdogReset_up hrunning hup)).trans (if_neg hconfirmed))

end Watchdog

end Deadlines

/-- Settles O53, command by command. -/
theorem updateCommands : Obligations.UpdateCommands := by
  refine ⟨?erased, ?undeclared, ?untagged, ?tagged, ?switch, ?waits, ?valid, ?confirmed, ?fallback, ?onProbation,
    ?warm, ?idle⟩
  case erased => exact fun t a ref s => stagingEraseDone_effect
  case undeclared =>
    exact fun t ref digest s hcommitting hstate hdigest huntagged hholder =>
      commitVerifyDone_undeclared hcommitting hstate hholder hdigest huntagged
  case untagged =>
    intro t ref digest s hcommitting hstate hdigest hcomplete huntagged hholder
    have h := commitVerifyDone_declared (t := t) hcommitting hstate hholder hdigest hcomplete
    rwa [huntagged, if_pos rfl] at h
  case tagged =>
    intro t ref digest s hcommitting hstate hdigest hcomplete huntagged hholder
    have h := commitVerifyDone_declared (t := t) hcommitting hstate hholder hdigest hcomplete
    rwa [huntagged, if_neg Bool.false_ne_true] at h
  case switch => exact fun t s => imageSwitch_effect
  case waits => exact fun t s => imageSwitch_none_effect
  case valid => exact fun t h s => wheelerImageValid_completes
  case confirmed => exact fun t a s => probationEnd_effect
  case fallback => exact fun t a s => firstCommitTimeout_effect
  case onProbation => exact fun t s => watchdogReset_probation_effect
  case warm => exact fun t s => watchdogReset_confirmed_effect
  case idle => exact fun t s => updateIdleAbort_effect

end Sys2Proof.Machine

/-! PROOF.  The TANDEM_STATUS reply (O60): its words, and how a heartbeat taken from the link sets the partner's state
(R430, R439). -/

namespace Sys2Proof.Machine

open Sys2Proof

/-! ### The age of the newest heartbeat (R439) -/

section Age

variable {s : State} {x y : Nat}

theorem heartbeatAge_unheard (hlink : s.tandem.linkHeard = none) (hring : s.tandem.ringHeard = none) :
    s.heartbeatAge = 0xFFFFFFFF := by
  unfold State.heartbeatAge
  rw [hlink, hring]

theorem heartbeatAge_both (hlink : s.tandem.linkHeard = some x) (hring : s.tandem.ringHeard = some y) :
    s.heartbeatAge = min 0xFFFFFFFF ((s.now - max x y) / us) := by
  unfold State.heartbeatAge
  rw [hlink, hring]
  rfl

theorem heartbeatAge_link (hlink : s.tandem.linkHeard = some x) (hring : s.tandem.ringHeard = none) :
    s.heartbeatAge = min 0xFFFFFFFF ((s.now - x) / us) := by
  unfold State.heartbeatAge
  rw [hlink, hring]
  rfl

theorem heartbeatAge_ring (hlink : s.tandem.linkHeard = none) (hring : s.tandem.ringHeard = some y) :
    s.heartbeatAge = min 0xFFFFFFFF ((s.now - y) / us) := by
  unfold State.heartbeatAge
  rw [hlink, hring]
  rfl

end Age

/-- Wherever the age is known to be `age`, it is the third word of the reply. -/
theorem tandemStatus_answers {t : Nat} {tr : Transport} {s : State} {heard : State → Prop} {age : State → Nat}
    (hage : ∀ a, heard a → a.heartbeatAge = age a) :
    Answers (.tandemStatus t tr) t s tr (.opcode 0xA0) (fun _ => .immediate)
      (fun q a => q.payload.length = 0 ∧ heard a)
      (gives (fun _ a => ok [a.w Pid.tdmRole 0, word a.tandem.partnerState, word (age a),
        a.w Pid.tdmCopyOctets 0])) := by
  refine answers_of_body (Eq.refl (execTandemStatus t tr s)) ?_
  rintro q a ⟨hlen, hheard⟩
  rw [tandemStatusBody, withLength_of_length hlen, hage a hheard]
  rfl

theorem heartbeatReceive_completes {t role state status cycles : Nat} {h : LinkHead} {s : State}
    (htaken : ((s.at_ t).linkTakes 1 h).1 = true) :
    Completes (.heartbeatReceive t h role state status cycles) s (fun u => u.tandem.partnerState = state % 256) := by
  refine completes_of_run (Eq.refl (execHeartbeatReceive t h role state status cycles s)) ?_
  simp [htaken]

/-- Settles O60: the age is that of the path heard last. -/
theorem tandemStatusReply : Obligations.TandemStatusReply := by
  refine ⟨?unheard, ?heard, rfl, ?heartbeat⟩
  case unheard =>
    exact fun t tr s => tandemStatus_answers (heard := fun a => a.tandem.linkHeard = none ∧ a.tandem.ringHeard = none)
      (age := fun _ => 0xFFFFFFFF) (fun a ⟨hlink, hring⟩ => heartbeatAge_unheard hlink hring)
  case heard =>
    intro t tr s x y
    refine tandemStatus_answers (heard := fun a =>
      a.tandem.linkHeard = some x ∧ (a.tandem.ringHeard = some y ∨ a.tandem.ringHeard = none ∧ y = x) ∨
        a.tandem.ringHeard = some y ∧ a.tandem.linkHeard = none ∧ x = y)
      (age := fun a => min 0xFFFFFFFF ((a.now - max x y) / us)) ?_
    rintro a (⟨hlink, hring | ⟨hring, rfl⟩⟩ | ⟨hring, hlink, rfl⟩)
    · exact heartbeatAge_both hlink hring
    · rw [heartbeatAge_link hlink hring, max_self]
    · rw [heartbeatAge_ring hlink hring, max_self]
  case heartbeat => exact fun t role state status cycles h s => heartbeatReceive_completes

end Sys2Proof.Machine

/-! PROOF.  The TAP while D1 is off (O39 fails): the TAP's commands act while D1 is powered, where the statement speaks
of every state. -/

namespace Sys2Proof.Machine

open Sys2Proof

/-- What holds of the state that a command completes with holds of the state that its effect brings about. -/
theorem of_completes {c : Instr} {t : Nat} {s v : State} {P : State → Prop} (hcompletes : Completes c s P)
    (heffect : EffectIs c t s v) : P (s.after_ t (fun _ => v)) := by
  obtain ⟨u, hexec, hu⟩ := hcompletes
  obtain rfl := Host.Outcome.next.inj (hexec.symm.trans heffect)
  exact hu

section Off

variable {s : State} (hoff : s.domainOn 1 = false)
include hoff

/-- Without D1 the TAP does not change. -/
theorem withTap_off (f : TapState → TapState) : s.withTap f = s := by
  unfold State.withTap
  simp [hoff]

theorem tapReset_off_effect (t : Nat) : EffectIs (.tapReset t) t s (s.at_ t) :=
  effectIs_of_run (Eq.refl (execTapReset t s)) (withTap_off (s := s.at_ t) hoff _)

theorem bypass_off_effect (t : Nat) (tdi : List Bool) : EffectIs (.bypass t tdi) t s (s.at_ t) :=
  effectIs_of_run (Eq.refl (execBypass t tdi s)) (withTap_off (s := s.at_ t) hoff _)

end Off

/-- A module that loses its supply keeps D0 alone (R448, R449). -/
theorem brownoutReset_d1Off {s : State} (hpowered : s.power.phase ≠ .unpowered) (t : Nat) :
    Completes (.brownoutReset t) s (fun u => u.domainOn 1 = false) := by
  refine completes_of_run (Eq.refl (execBrownoutReset t s)) ?_
  rw [State.domainOn, after_power, at_power, if_neg hpowered]
  exact (by decide : Nat.testBit 1 1 = false)

/-- Refutes O39: in the state that BROWNOUT_RESET leaves after reset D1 is off, so TAP_RESET and BYPASS leave the TAP as
it is; they cannot both select the instruction that they are said to select. -/
theorem not_tapCommands : ¬ Obligations.TapCommands := by
  rintro ⟨-, hreset, hbypass, -⟩
  have hpowered : State.reset.power.phase ≠ .unpowered := by decide
  obtain ⟨s, -, hoff⟩ := brownoutReset_d1Off hpowered 0
  obtain ⟨hidcode, -⟩ := of_completes (hreset 0 s) (tapReset_off_effect hoff 0)
  obtain ⟨hscan, -⟩ := of_completes (hbypass 0 [] s) (bypass_off_effect hoff 0 [])
  have hkept : s.test.tap.instruction = 1 := hidcode
  have hselected : s.test.tap.instruction = 0 := congrArg TapState.instruction hscan
  omega

end Sys2Proof.Machine
